-- ==== Sys2Proof/Word.lean ====
section
/-!
DEFINITION. The words of the block and their plainest arithmetic: bytes, 32-bit registers (R3), 64-bit quantities, and
the reading and writing of a bit range of a natural number.
-/
namespace Sys2Proof

abbrev Byte := BitVec 8
abbrev Word := BitVec 32
abbrev DWord := BitVec 64
abbrev Bytes := List Byte

/-- Bits `[hi:lo]` of `w` as a number; bit 0 is the least significant. -/
def fld (w hi lo : Nat) : Nat := w / 2 ^ lo % 2 ^ (hi + 1 - lo)

/-- `w` with bits `[hi:lo]` replaced by the low bits of `v`. -/
def setFld (w hi lo v : Nat) : Nat :=
  w - fld w hi lo * 2 ^ lo + v % 2 ^ (hi + 1 - lo) * 2 ^ lo

/-- Bit `i` of `w`. -/
def bitOf (w i : Nat) : Bool := w / 2 ^ i % 2 == 1

/-- 1 for true, 0 for false. -/
def b2n (b : Bool) : Nat := if b then 1 else 0

/-- The low `n` bits of `w` read as a two's-complement integer. -/
def sext (n w : Nat) : Int :=
  if w % 2 ^ n < 2 ^ (n - 1) then Int.ofNat (w % 2 ^ n) else Int.ofNat (w % 2 ^ n) - 2 ^ n

/-- An integer as an `n`-bit two's-complement number. -/
def untwos (n : Nat) (i : Int) : Nat := (i % 2 ^ n).toNat

/-- A little-endian list of bytes as a number (R2). -/
def leNat : Bytes → Nat
  | [] => 0
  | b :: bs => b.toNat + 256 * leNat bs

/-- The low `n` bytes of a number, least significant first (R2). -/
def leBytes : Nat → Nat → Bytes
  | 0, _ => []
  | n + 1, v => BitVec.ofNat 8 v :: leBytes n (v / 256)

/-- An integer held between two bounds. -/
def clampI (lo hi x : Int) : Int := if x < lo then lo else if hi < x then hi else x

/-- The nearest integer to `n / d` (`d > 0`), ties to even. -/
def roundHalfEven (n d : Int) : Int :=
  let q := n / d
  let r := n % d
  if 2 * r < d then q else if d < 2 * r then q + 1 else if q % 2 = 0 then q else q + 1

/-- The larger of `lo` and the smaller of `hi` and `x`. -/
def clampN (lo hi x : Nat) : Nat := max lo (min hi x)

end Sys2Proof
end

