-- ==== Sys2Proof/Syntax.lean ====
section
/-!
DEFINITION. The commands of the GQ9360 block: one constructor per row of spec/opcode_table.json. The table gives the
rows no operands; the operands here are what each row's rule names (DESIGN CHOICE, log 4): the access path of a host or
management access, the block's instance, the value written, and, for a physical measurement or a message from
outside, what was measured or received.
-/
namespace Sys2Proof

/-- Where a register access comes from: an access path of R6 (the PCIe physical function, one of the fifteen virtual
functions, management, debug), or the firmware on the housekeeping core (R433; log 4). -/
inductive Path where
  | pf
  | vf (n : Fin 15)
  | mgmt
  | debug
  | core
  deriving DecidableEq, Repr

/-- The three debug paths (R440). -/
inductive DPath where
  | pf
  | mgmt
  | jtag
  deriving DecidableEq, Repr

/-- A write from the other side that arrives within 20 ns of the commanded one (R376). -/
structure Rival where
  path : Path
  off  : BitVec 26
  /-- an aligned 8-byte write of both halves (R4) -/
  wide : Bool
  /-- what is written; a 4-byte write writes its low half -/
  val  : BitVec 64
  deriving DecidableEq, Repr

/-- What a PCIe configuration request asks of the function (R478, Table 13.1). -/
inductive CfgReq where
  /-- a read of the 4-byte register with this number -/
  | read (reg : BitVec 10)
  /-- the power state: D3hot or D0 (Table 13.1) -/
  | power (d3 : Bool)
  | msixControl (enable : Bool) (maskAll : Bool)
  | msixMask (vec : Fin 128)
  | memDecode (on : Bool)
  deriving DecidableEq, Repr

/-- SDA before a START (R456): free, released after `n + 1` clocks of SCL, or still low after the ninth. -/
inductive BusLine where
  | free
  | releasedAfter (n : Fin 9)
  | stuck
  deriving DecidableEq, Repr

/-- An ECC error a tile SRAM read finds (R72): the byte offset of the 64-bit word, and whether it is uncorrectable. -/
structure SramErr where
  off : Fin 262144
  uncorrectable : Bool
  deriving DecidableEq, Repr

/-- A write of `n` bits, and one of the other side that arrives within 20 ns of it (R376). -/
structure Put (n : Nat) where
  val   : BitVec n
  rival : Option Rival
  deriving DecidableEq, Repr

/-- What the converter gives for calibration samples taken in a row (R154): their raw codes, and the slots in which a row
that carries a run's planes sent light in them. -/
structure Samples where
  raw : List (BitVec 10)
  lit : Nat
  deriving DecidableEq, Repr

/-- A lock-in window (R153, R156): the raw codes of the 40 samples of each of its 8,192 updates, and for each of the group's
six rows the slots in which it sent light while runs carried planes. -/
structure LockWin where
  raw : List (List (BitVec 10))
  lit : List Nat
  deriving DecidableEq, Repr

/-- The sweep of one ring's drive table (R161): for each sweep code the takes of 512 samples that it needed. -/
abbrev Sweep := List (List Samples)

/-- The sweep, and an ECC error that a read of the calibration area found meanwhile (R72, R161). -/
structure TabSweep where
  sweep : Sweep
  err   : Option SramErr
  deriving DecidableEq, Repr

/-- What the first steps of an acquisition pass measure on one column (R174): the sums of the offset and gain codes, and the
delay sweep. -/
structure ColMeas where
  off  : Int
  gain : Int
  trim : List Samples
  deriving DecidableEq, Repr

/-- A tap monitor's reading of a physical row in a slow round (R178). -/
structure TapRead where
  tile : Fin 256
  row  : Fin 132
  val  : Nat
  deriving DecidableEq, Repr

/-- What a memory decode finds (Table 12.4), the poison mark apart, which the state holds. -/
inductive Dec where
  | clean
  | corrected
  | uncorrectable
  deriving DecidableEq, Repr

/-- Where a sync-cell operation word comes from (R274, R275). -/
inductive SyncSrc where
  | plan
  | reg (p : Path) (word : BitVec 64)
  deriving DecidableEq, Repr

/-- The fields of an IDENT message (Table 11.5). -/
structure Ident where
  dev      : BitVec 10
  assigned : Bool
  link     : BitVec 6
  postEnt  : BitVec 16
  deriving DecidableEq, Repr

/-- What the FEC found in the codewords since the last lead slot (R314, Table 11.11): codewords corrected, symbols corrected,
codewords uncorrectable. -/
structure Fec where
  cw  : BitVec 16
  sy  : BitVec 16
  bad : BitVec 16
  deriving DecidableEq, Repr

/-- The four ticks of one TSYNC exchange (R330). -/
structure TsEx where
  t1 : BitVec 32
  t2 : BitVec 32
  t3 : BitVec 32
  t4 : BitVec 32
  deriving DecidableEq, Repr

/-- A switchable power domain (Table 14.1). -/
inductive Dom where
  | tg (g : Fin 32)
  | lg (k : Fin 6)
  | t1
  | t2
  | hub
  deriving DecidableEq, Repr

/-- An SPDM transport (R437): the PF's DOE mailbox, or MCTP on SMBus. -/
inductive Tr where
  | doe
  | smbus
  deriving DecidableEq, Repr

/-- The first three bytes of a courier packet (Table 17.1), its TYPE apart. -/
structure PktHead where
  dst : BitVec 8
  src : BitVec 8
  tag : BitVec 4
  deriving DecidableEq, Repr

/-- A vendor-defined MCTP message (R454): its bytes, and the host's writes that arrive within 20 ns of the word of a number
that it writes (R376). -/
structure VendorMsg where
  bytes  : List (BitVec 8)
  rivals : List (Nat × Rival)
  deriving DecidableEq, Repr

/-- How a bank write ends (Table 17.9). -/
inductive BankOutcome where
  | good
  | flashError
  | badReadBack
  deriving DecidableEq, Repr

/-- A data rate in L0 (Table 13.1). -/
inductive PcieRate where
  | gt16
  | gt32
  | gt64
  deriving DecidableEq, Repr

/-- An IDE_KM message (R437, Table 13.1): keys programmed or a stream started or stopped. -/
inductive IdeKm where
  | keyProg (stream : Fin 3)
  | goLink (on : Bool)
  | goSelective (k : Fin 2) (on : Bool)
  deriving DecidableEq, Repr

/-- The commands, in the order of the table, but for the last eleven, which have no operand: the Lean runtime gives no
constructor past the 244th fields. -/
inductive Instr where
  /-- R4: A BAR0 access of a shape R4 does not permit completes without effect: a read returns 0, a write is discarded, and the access is counted in HOSTIF. -/
  | malformedAccess (p : Path) (off : BitVec 26) (write : Bool)
  /-- R5: A 4-byte read of the low half of a 64-bit quantity returns it and copies the high half into the path's holding register in the same step. -/
  | readLowHalf (p : Path) (off : BitVec 26) (wide : Bool)
  /-- R7: A 4-byte read of the high half returns the held value and empties the holding register, or returns the live high half when the holding register is empty. -/
  | readHighHalf (p : Path) (off : BitVec 26)
  /-- R9: A 4-byte write of the low half of a 64-bit RW quantity is staged for the path, replacing any earlier staged low half. -/
  | writeLowHalf (p : Path) (off : BitVec 26) (val : BitVec 32)
  /-- R9: A 4-byte write of the high half brings both halves into force in one step, with the staged low half or the low half in force, and empties the staged low half. -/
  | writeHighHalf (p : Path) (off : BitVec 26) (val : Put 32)
  /-- R9: An aligned 8-byte write brings both halves of a 64-bit quantity into force in one step. -/
  | write64 (p : Path) (off : BitVec 26) (val : Put 64)
  /-- R376: A register write that has no row of its own passes the mutex arbiter and takes effect 20 ns after it arrives, subject to its access code and the protection map. -/
  | registerWrite (p : Path) (off : BitVec 26) (val : BitVec 32) (rival : Option Rival)
  /-- R14: A W1C write to EVT_RAW clears the bits written 1, except that a bit whose event occurs in the same step stays set. -/
  | evtRawClear (p : Path) (page : Fin 382) (val : BitVec 32) (hw : BitVec 32)
  /-- R16: Writing 1 to an EVT_FORCE bit sets the corresponding EVT_RAW bit as if the event had occurred. -/
  | evtForce (p : Path) (page : Fin 382) (val : BitVec 32)
  /-- R375: When a vector's mask or Mask All clears, the module sends the pending message if the request is still 1. -/
  | msixUnmask (fn : Fin 16) (vec : Option (Fin 128))
  /-- R451: While the management request stays 1, the ALERT is repeated every REPEAT × 10 ms. -/
  | alertRepeat
  /-- R19: Writing 1 to CTRL.SOFT_RESET requests a reset of the block, which reads 1 until the reset is complete. -/
  | softReset (p : Path) (page : Fin 382)
  /-- R18: A requested soft reset takes effect, within 2 µs, at the next frame boundary or when a stream unbinds, and applies R18, Table 0.3 and the block's own additions. -/
  | softResetComplete (page : Fin 382)
  /-- R23: Writing SNAP copies all of the block's counters into their snapshot registers in one step and records the frame number. -/
  | counterSnap (p : Path) (page : Fin 382) (clear : Bool)
  /-- R24: Writing CLEAR clears all of the block's counters, live and snapshot, in one step, after any snapshot written in the same write. -/
  | counterClear (p : Path) (page : Fin 382) (incs : List (Fin 17))
  /-- R475: Aux 3.3 V and 48 V both reach their operating range at t0, votes take their reset values and start-up begins. -/
  | powerOn
  /-- R478: PERST# deassertion lets PCIe training begin once the PHY is enabled. -/
  | perstDeassert
  /-- R478: A PCIe configuration request is answered with Request Retry Status until the start-up configuration is written, and normally after. -/
  | configRequest (fn : Fin 16) (req : CfgReq)
  /-- R432: On HUB power-good the boot ROM judges both firmware slots and starts the valid one with the higher SVN, or starts none. -/
  | bootVerify
  /-- R481: Firmware selects a U bank, brings F and U into force, loads the loop coefficients and enables every zone. -/
  | startupCalLoad
  /-- R280: The time-base PLL locks to its reference and the tick counter starts at 0 on the first lock. -/
  | pllLock
  /-- R282: No REFCLK edge for 64 ns puts the PLL in holdover, raises REF_LOST and is a frame fault of the current frame outside HALTED. -/
  | refclkLost
  /-- R282: The reference returns, the PLL relocks without a phase jump and REF_BACK is raised. -/
  | refclkReturn
  /-- R282: 1 s of holdover without the reference sends the frame unit to HALTED at the next frame boundary. -/
  | holdoverExpire
  /-- R284: At each frame boundary the frame number advances and every boundary-timed change is applied: state changes, commits, admission, record opening and decided role changes. -/
  | frameBoundary
  /-- R307: A staged granule of a committed frame is applied to memory in issue order, releasing any BAR4 read waiting on it. -/
  | commitGranuleApply
  /-- R265: At the end of each window of 2^WIN frames the diversion count moves to DL_STAT and DL_RATE is raised above THRESH. -/
  | dlWindowEnd
  /-- R288: At tick FRAME_LEN − 2 a non-zero PENDING lengthens or shortens the frame by one tick, and PENDING moves one tick towards 0. -/
  | slewJudge
  /-- R288: A received frame marker is measured for phase error and judged under Table 10.1 on the reference link, or counted as a mismatch above GUARD on other links. -/
  | markerRx (l : Fin 36) (frame : BitVec 64) (late : BitVec 16)
  /-- R287: A FRAME_SYNC pulse is a reference event whose phase error is judged under Table 10.1. -/
  | frameSyncPulse
  /-- R287: A reference event absent FRAME_LEN / 4 ticks after its expected tick is missing and counts as a slip. -/
  | referenceEventMissing
  /-- R291: Setting FRAME.CTRL.EN in HALTED with the PLL locked enters FREE when SRC = 0, or ACQUIRE otherwise. -/
  | frameEnable (p : Path)
  /-- R283: A FRAME_CFG write comes into force at once in HALTED, or at the next re-entry point, and is discarded when out of range. -/
  | frameCfgWrite (p : Path) (val : BitVec 32)
  /-- R294: A write of SWITCH_FRAME_HI arms a plan switch, or is refused when it is fewer than 2 frames ahead. -/
  | planSwitchArm (p : Path) (val : BitVec 32)
  /-- R298: A NOP record launches at its START tick and completes at once. -/
  | actionNop
  /-- R75: A TILE_RUN record launches at its START tick and the tiles begin their run, or wait for the previous run to complete. -/
  | actionTileRun
  /-- R214: A STREAM record launches at its START tick and starts the named stream context from its descriptor. -/
  | actionStream
  /-- R321: A LINK_WIN record opens a Scheduled window of FLITS flits on its link, or is not started when the link is not ACTIVE. -/
  | actionLinkWin
  /-- R121: A VSU record launches at its START tick and each lane of its mask begins its operation list. -/
  | actionVsu
  /-- R298: The frame unit receives an action's completion handshake, takes its completion tick and forms its slack. -/
  | actionComplete (frame : BitVec 64) (idx : BitVec 16)
  /-- R299: An action not complete at its BOUND tick is an overrun and a frame fault, recorded in OVR_INFO when first. -/
  | actionOverrun (frame : BitVec 64) (idx : BitVec 16)
  /-- R301: At the end of each governor window the least slack decides a VCORE step, and the thermal limits are judged. -/
  | governorDecision
  /-- R302: The regulator acknowledges the governor's PMBus VOUT_COMMAND, or the write is retried once and then counted as a failure. -/
  | vcoreWriteAck (bus : BusLine) (ack : Bool)
  /-- R302: VCORE settles at the new code, ADJUSTING clears and the next decision is permitted. -/
  | vcoreSettle
  /-- R303: With AUTO = 0 a write of VSET.CODE starts a VCORE adjustment under Table 10.8. -/
  | vsetWrite (p : Path) (val : BitVec 32)
  /-- R63: The shadow loader starts loading the next set once the shadow latches are free and its weight slot is complete. -/
  | shadowLoadStart (t : Fin 256) (err : Option SramErr)
  /-- R62: A shadow load completes after 66 ticks and the shadow latches hold a complete set. -/
  | shadowLoadDone (t : Fin 256)
  /-- R64: At a vector-cycle boundary all shadow latches transfer to the active latches in one guard slot, or the tile waits for the load. -/
  | weightSwitch (t : Fin 256)
  /-- R50: A vector cycle starts once its planes and set are ready, integrates P × m slots with halving, and its result is converted. -/
  | vectorCycle (t : Fin 256) (err : Option SramErr)
  /-- R93: The column digital corrects a converter result and adds it into the accumulator, closing it out when the set is LAST. -/
  | resultAccumulate (t : Fin 256)
  /-- R70: A closed-out output record is written to the output ring once a slot has room, closing the slot when the next record would not fit. -/
  | outputRecordWrite (t : Fin 256)
  /-- R75: A tile run completes at the first tick boundary after its last slot and the tile sends its completion handshake. -/
  | tileRunComplete (t : Fin 256)
  /-- R58: A decided map change reaches the running tile at the first vector-cycle boundary after the frame boundary, inserting a guard slot and waiting for the column digital's acknowledgement. -/
  | routingChange (t : Fin 256)
  /-- R178: A row fails on a low tap monitor over three slow rounds or a bias driver fault, is marked failed and is substituted or degrades the tile. -/
  | rowFailure (t : Fin 256) (row : Fin 132) (driver : Bool)
  /-- R170: A ring driver, converter or heater bias fault fails a column, an exact-class fault when it is in service, handled at the next boundary. -/
  | columnFailure (t : Fin 256) (col : Fin 130)
  /-- R81: Writing GO to ROW_SUBST_REQ requests substitution of a logical row at the next boundary, or is refused with CFG_REJECT. -/
  | rowSubstReq (p : Path) (t : Fin 256) (val : BitVec 32)
  /-- R80: A write to ARING_CFG is held pending or discarded with CFG_REJECT when out of range. -/
  | aringCfgWrite (p : Path) (t : Fin 256) (val : BitVec 32)
  /-- R80: A write to ORING_CFG is held pending or discarded with CFG_REJECT when out of range. -/
  | oringCfgWrite (p : Path) (t : Fin 256) (val : BitVec 32)
  /-- R72: Every 2^24 ticks a scrub pass reads every word of tile SRAM in ascending order at lowest priority. -/
  | tileScrubPass (t : Fin 256) (errs : List SramErr)
  /-- R159: The offset of the column under calibration is measured over 4,096 samples with its rings parked. -/
  | calOffsetMeasure (t : Fin 256) (sum : Int)
  /-- R159: The gain is measured over 4,096 samples with the calibration charge source on and G and O are formed, or the step fails. -/
  | calGainMeasure (t : Fin 256) (sum : Int)
  /-- R160: The delay-trim sweep completes and sets the code of greatest response, or fails at 0 or 63. -/
  | calDelayTrim (t : Fin 256) (resp : List Samples)
  /-- R157: At the end of a lock-in window each dithered ring is judged void, captured, locked, corrected or failed under Table 6.2. -/
  | lockinWindowEnd (t : Fin 256) (raw : List (List (BitVec 10))) (lit : List Nat)
  /-- R161: A ring's drive-table sweep completes and its entries are interpolated, or the table fails; after the last ring the column's staged values are complete. -/
  | calDriveTable (t : Fin 256) (sweep : TabSweep)
  /-- R174: A tile with no valid values whose zones are locked in A0 starts an acquisition pass over all 130 columns. -/
  | acquisitionPassStart (t : Fin 256)
  /-- R174: The acquisition pass completes, roles are assigned, all values come into force at one boundary and READY is set. -/
  | acquisitionPassDone (t : Fin 256) (cols : List ColMeas) (wins : List (List LockWin)) (tabs : List (List Sweep))
  /-- R186: Every 16,000 ticks a new inner period starts: outputs in the DAC FIFO take effect and pilot synthesiser phases reset. -/
  | loopPeriodStart
  /-- R194: Once the pilot sums are available the engine runs each zone's observer, control law, clamp and supervision, writing its output. -/
  | zoneUpdate (z : Fin 1024) (q0 q1 : List (BitVec 12))
  /-- R207: The LOAD command copies a zone's coefficient block, checks it and makes it the working set, or rejects it with COEF_REJECT. -/
  | zoneLoad (p : Path) (z : Fin 1024) (all : Bool)
  /-- R213: The ENABLE command enables a zone, which moves from OFF to WARM when its conditions hold. -/
  | zoneEnable (p : Path) (z : Fin 1024) (all : Bool)
  /-- R213: The DISABLE command sends a zone in WARM or LOCKED to OFF. -/
  | zoneDisable (p : Path) (z : Fin 1024) (all : Bool)
  /-- R213: The CLEAR command moves a zone from FAULT to OFF, and is rejected in any other state. -/
  | zoneClear (p : Path) (z : Fin 1024) (all : Bool)
  /-- R213: The REINIT command resets a LOCKED zone's state and profile and returns it to WARM. -/
  | zoneReinit (p : Path) (z : Fin 1024) (all : Bool)
  /-- R205: A heater bias stage flags a short circuit, is switched off at the next period and fails its column or faults the zone. -/
  | stageShort (z : Fin 1024) (col : Option (Fin 130))
  /-- R208: A TEST_CFG write starts, changes or stops test-signal injection into one zone from the next period. -/
  | testCfgWrite (p : Path) (val : BitVec 32)
  /-- R210: ARM starts a capture at the next period, or is refused when the buffer address is invalid. -/
  | capArm (p : Path)
  /-- R210: STOP ends the capture, sets DONE and raises CAPTURE_DONE. -/
  | capStop (p : Path)
  /-- R122: A lane with ENV_EN takes the next envelope from its pigeonhole and starts its operation list when no frame-plan list is active. -/
  | vsuEnvListStart (lane : Fin 16)
  /-- R121: A lane finishes its list on LAST or a fault, and a waiting or suspended list then starts or resumes. -/
  | vsuListComplete (lane : Fin 16)
  /-- R132: ADD sums up to four source arrays elementwise into DST. -/
  | vsuAdd (lane : Fin 16) (bad : List Nat)
  /-- R132: MUL multiplies two arrays elementwise. -/
  | vsuMul (lane : Fin 16) (bad : List Nat)
  /-- R132: FMA computes A × B + X elementwise with one rounding. -/
  | vsuFma (lane : Fin 16) (bad : List Nat)
  /-- R132: SCALE multiplies each element by a binary32 factor and a power of two. -/
  | vsuScale (lane : Fin 16) (bad : List Nat)
  /-- R133: TOPK writes the k largest values of each segment and their indices. -/
  | vsuTopk (lane : Fin 16) (bad : List Nat)
  /-- R134: SOFTMAX normalises each segment with temperature τ. -/
  | vsuSoftmax (lane : Fin 16) (bad : List Nat)
  /-- R134: NORM applies RMS or layer normalisation to each segment with a gain vector. -/
  | vsuNorm (lane : Fin 16) (bad : List Nat)
  /-- R135: ROPE rotates element pairs of each segment by position-dependent angles. -/
  | vsuRope (lane : Fin 16) (bad : List Nat)
  /-- R136: SAMPLE draws one index per segment from a counter-based generator keyed by the frame number. -/
  | vsuSample (lane : Fin 16) (bad : List Nat)
  /-- R137: ISECT writes the intersection of two strictly increasing key sets. -/
  | vsuIsect (lane : Fin 16) (bad : List Nat)
  /-- R137: UNION writes the union of two strictly increasing key sets. -/
  | vsuUnion (lane : Fin 16) (bad : List Nat)
  /-- R137: DIFF writes the difference of two strictly increasing key sets. -/
  | vsuDiff (lane : Fin 16) (bad : List Nat)
  /-- R138: HPROBE looks up keys in a hash table and returns their values or a miss marker. -/
  | vsuHprobe (lane : Fin 16) (bad : List Nat)
  /-- R138: HINSERT inserts key-value pairs into a hash table under its mode, counting failed inserts. -/
  | vsuHinsert (lane : Fin 16) (bad : List Nat)
  /-- R139: CSR writes the neighbours of each frontier node from a compressed sparse row graph. -/
  | vsuCsr (lane : Fin 16) (bad : List Nat)
  /-- R132: GATHER reads A at the indices of X into DST. -/
  | vsuGather (lane : Fin 16) (bad : List Nat)
  /-- R132: SCATTER_ADD adds each A element into DST at its index, in ascending order. -/
  | vsuScatterAdd (lane : Fin 16) (bad : List Nat)
  /-- R132: SEGRED reduces each segment to one sum, maximum or minimum. -/
  | vsuSegred (lane : Fin 16) (bad : List Nat)
  /-- R140: CONVERT converts each element from ITYPE to OTYPE with rounding and clamping. -/
  | vsuConvert (lane : Fin 16) (bad : List Nat)
  /-- R109: STATS computes the largest magnitude M of a conversion group. -/
  | vsuStats (lane : Fin 16) (bad : List Nat)
  /-- R140: QUANT writes an activation slot of P-bit codes with a zero point and a scale exponent. -/
  | vsuQuant (lane : Fin 16) (bad : List Nat)
  /-- R141: POST builds and posts N envelopes from a template to pigeonholes. -/
  | vsuPost (lane : Fin 16) (bad : List Nat)
  /-- R218: With ENV_EN set, the stream engines start a detached stream from an envelope of the start pigeonhole. -/
  | streamEnvStart
  /-- R215: The engine reads and checks a stream descriptor and the context enters ACTIVE or FAULT. -/
  | streamDescCheck (c : Fin 4096)
  /-- R226: A stream issues a read once its destination position is free, its bucket allows it and arbitration grants it. -/
  | streamReadIssue (c : Fin 4096)
  /-- R225: A stream read's data lands in the hub and is delivered to its destination with its poison marks. -/
  | streamReadData (c : Fin 4096) (dec : List Dec)
  /-- R220: The STOP command is accepted for an ACTIVE detached stream, or refused with CMD_REJECT. -/
  | streamStop (p : Path)
  /-- R219: The CLEAR command returns a context from FAULT to IDLE, and is refused in other states. -/
  | streamClear (p : Path)
  /-- R223: Writing FLUSH invalidates every weight share cache line in one step. -/
  | shareFlush (p : Path)
  /-- R239: COMPARE on a queue-bound check unit compares RUNNING with EXPECT and sets RESULT. -/
  | checkCompare (p : Path) (u : Fin 32)
  /-- R242: INIT sets RUNNING to the initial value, or is discarded with CFG_REJECT while stream-bound. -/
  | checkInit (p : Path) (u : Fin 32)
  /-- R246: A write to a queue descriptor is held until the next frame boundary. -/
  | queueDescWrite (p : Path) (q : Fin 262144) (half : Bool) (val : BitVec 64)
  /-- R263: A profile write is held until the next boundary, or discarded at once when DEPTH exceeds 2^20. -/
  | profileWrite (p : Path) (pr : Fin 256) (val : BitVec 64)
  /-- R252: A doorbell write is judged against the queue state and accepted, moving TAIL or the HEAD due, or refused full or invalid. -/
  | doorbell (fn : Fin 16) (q : Fin 262144) (val : BitVec 64)
  /-- R251: A BAR2 access other than an aligned 8-byte access completes without effect and is counted in HOSTIF. -/
  | bar2BadAccess (fn : Fin 16) (write : Bool)
  /-- R274: ADD adds a sign-extended immediate to a sync cell modulo 2^64. -/
  | syncAdd (src : SyncSrc)
  /-- R274: SET writes a zero-extended immediate to a sync cell. -/
  | syncSet (src : SyncSrc)
  /-- R274: CAS swaps a sync cell's value when it equals the compare operand and reports the swap. -/
  | syncCas (src : SyncSrc)
  /-- R274: WAIT_GE completes when the cell reaches IMM, or reports at once on the register path. -/
  | syncWaitGe (src : SyncSrc)
  /-- R277: ARM arms a one-shot watch on a cell, or is refused with ARM_REFUSED when none is free. -/
  | syncArm (src : SyncSrc)
  /-- R274: ADMIT runs an admission point over a range of queues and then adds 1 to its cell. -/
  | syncAdmit (src : SyncSrc)
  /-- R274: RELEASE sets HEAD := ADMIT for each KIND 1 queue in a range. -/
  | syncRelease (src : SyncSrc)
  /-- R273: A register write of a sync cell sets its whole value and removes its undo entries from held records. -/
  | syncCellWrite (p : Path) (cell : Fin 8192) (val : BitVec 64)
  /-- R277: A read of WATCH_POP removes and returns the head entry of the watch FIFO, clearing OVERFLOW when it finds the FIFO empty. -/
  | watchPop (p : Path)
  /-- R330: The UP command takes a link from OFF to DARK and begins dark baseline capture. -/
  | linkUp (p : Path) (l : Fin 36)
  /-- R330: The DOWN command darkens a link's lanes and sends it to OFF. -/
  | linkDown (p : Path) (l : Fin 36)
  /-- R331: The DOZE command starts the DOZE_REQ exchange, or is refused on the reference link or with a window open. -/
  | linkDoze (p : Path) (l : Fin 36)
  /-- R334: The WAKE command relights a dozing link's lanes and starts the wake steps. -/
  | linkWake (p : Path) (l : Fin 36)
  /-- R329: The SUBST command moves a data lane to the spare lane. -/
  | linkSubst (p : Path) (l : Fin 36) (ln : Fin 8)
  /-- R336: The dark baseline capture completes or is deferred, and the lasers are lit for training. -/
  | darkCaptureDone (l : Fin 36) (light : Bool) (base : List Int)
  /-- R330: Training completes, D and credits are set and the link enters RESYNC. -/
  | linkTrainingDone (l : Fin 36) (ident : Ident) (ts : List TsEx)
  /-- R330: 20 ms of training or 2 ms of wake without completion sends the link to FAULT with cause 1. -/
  | linkTrainTimeout (l : Fin 36)
  /-- R320: At each line slot the sender sends a lead slot, a Scheduled flit, a Posted flit or idle fill. -/
  | linkSlot (l : Fin 36)
  /-- R326: A received lead slot's train header and control area are taken, or the slot is lost and its train discarded. -/
  | linkLeadSlotRx (l : Fin 36) (fec : Fec) (slot : Option (List (BitVec 8)))
  /-- R326: A received data flit is checked and placed in its class's receive buffer, or poisoned, forwarded or discarded. -/
  | linkFlitRx (l : Fin 36) (payload : List (BitVec 8)) (trailer : BitVec 32)
  /-- R338: A received VETO is recorded and acted on and flooded, or counted as a duplicate, late veto or echo. -/
  | vetoRx (l : Fin 36) (frame : BitVec 64) (origin : BitVec 10) (hops : BitVec 8)
  /-- R338: A held vetoed frame number is released after 64 frames. -/
  | vetoHoldExpire (frame : BitVec 64)
  /-- R323: A CREDIT message updates the sender's Posted credits from the cumulative FREED count. -/
  | creditRx (l : Fin 36) (freed : BitVec 16)
  /-- R331: A DOZE_REQ is answered with DOZE_ACK unless the partner's refusal conditions hold. -/
  | dozeReqRx (l : Fin 36) (blk : BitVec 32)
  /-- R330: A DOZE_ACK completes the exchange and fixes the block at which Doze begins. -/
  | dozeAckRx (l : Fin 36) (blk : BitVec 32)
  /-- R333: At the named block the link enters DOZE and darkens every lane but the lane 0 beacon. -/
  | dozeEnter (l : Fin 36)
  /-- R333: Every 1,024 ticks a dozing link sends a 64-bit beacon on lane 0. -/
  | dozeBeacon (l : Fin 36)
  /-- R390: A received WAKE beacon wakes the link and votes HUB and its link group to A0. -/
  | wakeBeaconRx (l : Fin 36) (b : BitVec 64)
  /-- R334: The wake steps complete and the link enters ACTIVE with D slewing, or RESYNC. -/
  | linkWakeDone (l : Fin 36) (pframe : BitVec 32) (ts : List TsEx)
  /-- R330: A TSYNC request is answered and a reply contributes to the delay estimate D. -/
  | tsyncRx (l : Fin 36) (reply : Bool) (ta tb tc : BitVec 32)
  /-- R329: A LANE message schedules the named lane's move to the spare lane at block B. -/
  | laneMsgRx (l : Fin 36) (tx : Bool) (ln : BitVec 4) (blk : BitVec 32)
  /-- R329: A lane with too many corrected symbols, lost signal or a failed tap moves to the spare lane, or faults the link. -/
  | laneFail (l : Fin 36) (ln : Fin 8) (tx : Bool)
  /-- R329: From block B the lane's symbols travel on the spare lane in that direction. -/
  | laneMove (l : Fin 36) (tx : Bool)
  /-- R327: A received MGMT message delivers tunnel payload and acknowledges sent messages. -/
  | mgmtRx (l : Fin 36) (seq ack : BitVec 8) (data : List (BitVec 8))
  /-- R327: An unacknowledged MGMT message is resent after 1 µs, and after 8 resends the link faults with cause 7. -/
  | tunnelResendTimeout (l : Fin 36)
  /-- R489: A received IDENT updates PARTNER, or faults the link with cause 5 against a frozen partner. -/
  | identRx (l : Fin 36) (ident : Ident)
  /-- R336: A link with a deferred capture updates its dark baseline estimate every 2^16 blocks. -/
  | baselineUpdate (l : Fin 36) (base : List Int)
  /-- R328: Writing FREEZE in L00's page freezes the port map and route table, or is refused when two links share an FPORT. -/
  | mapFreeze (p : Path)
  /-- R487: A DEVNUM write assigns the device number and makes every trained link send a new IDENT, or is discarded after the freeze. -/
  | devnumWrite (p : Path) (val : BitVec 32)
  /-- R352: A memory read is decoded and delivers data clean, corrected, poisoned or as poisoned zeros, with write-back. -/
  | memoryRead (src : Fin 8) (addr : BitVec 48) (dec : Dec)
  /-- R354: A write to tier memory lays down or merges a granule with its check code and poison mark, invalidating cache lines. -/
  | memoryWrite (src : Fin 8) (addr : BitVec 48) (data : List (BitVec 8)) (en : BitVec 64) (poison : Bool) (dec : Dec)
  /-- R353: A controller's scrubber reads and decodes each granule once per SCRUB_HOURS. -/
  | memoryScrub (k : Fin 24) (dec : Dec)
  /-- R355: At the end of each 2^31-tick window CE_RATE is raised when corrected errors exceeded CE_THRESH. -/
  | ceRateWindow (k : Fin 24)
  /-- R356: A controller finishes training and enters ACTIVE after initialising its device, or enters FAULT. -/
  | memTrainingDone (k : Fin 24) (ok : Bool)
  /-- R356: A controller whose PHY loses lock enters FAULT and raises TRAIN_FAIL. -/
  | memPhyLockLost (k : Fin 24)
  /-- R369: A BAR4 read returns memory through its segment, waiting for a staged granule, with EP on poison or zeros when not ACTIVE. -/
  | bar4Read (fn : Fin 16) (off : BitVec 41) (len : BitVec 13) (dec : List Dec)
  /-- R360: A BAR4 write is made to memory at once through its segment, or dropped when not permitted or not ACTIVE. -/
  | bar4Write (fn : Fin 16) (off : BitVec 41) (data : List (Option (BitVec 8))) (dec : List Dec)
  /-- R366: A function-level reset resets a function's configuration, MSI-X table, holding registers and staged halves. -/
  | pcieFlr (fn : Fin 16)
  /-- R366: A conventional reset or link loss affects only the PCIe port and raises PCIE_DOWN. -/
  | pcieLinkDown (d3 : Bool)
  /-- R368: A BAR4 resize with memory decode disabled changes the size and resets the function's segment bases. -/
  | bar4Resize (fn : Fin 16) (k : BitVec 6)
  /-- R380: RESET_CMD with the key returns every block outside AON to power-on state and restarts start-up, or is refused. -/
  | warmReset (p : Path) (val : BitVec 32)
  /-- R386: A vote write changes a domain's target state, or is discarded with CFG_REJECT. -/
  | voteWrite (p : Path) (client : Fin 4) (word : Fin 3) (val : BitVec 32)
  /-- R388: A domain whose target becomes A2 starts its entry steps, a tile group at the next frame boundary. -/
  | domainEntry (d : Dom)
  /-- R388: The rail goes off, the domain is in A2 and any latched privileged wake is replayed. -/
  | domainEntryComplete (d : Dom)
  /-- R392: A domain whose target rises above A2 starts its wake steps. -/
  | domainWake (d : Dom)
  /-- R392: A domain finishes returning from A2, restoring memory and, for a tile group, its calibration image. -/
  | domainWakeComplete (d : Dom)
  /-- R390: An enabled PCIe reset deassertion or idle exit votes HUB, T1 and T2 to A0. -/
  | pcieWakeEvent
  /-- R393: A management A3_CMD with the key removes every rail but AON, or is refused while votes are held. -/
  | a3Cmd (p : Path) (val : BitVec 32)
  /-- R394: While HUB is in A2 the AON logic compares the inlet thermistor with its threshold every 10 ms. -/
  | aonInletCheck (above : Bool)
  /-- R509: VIN below 38 V for 100 µs or above 62 V removes every rail but AON and sets SHUT_CAUSE.REGULATOR. -/
  | vinFault
  /-- R509: Aux below 2.9 V holds AON in reset and the calendar clock runs on VBAT. -/
  | auxLoss (vbat : Bool)
  /-- R414: At the restore boundary the module abandons running work, applies undo entries and resets tiles for the restore frame. -/
  | restore
  /-- R414: The directory and frame configuration are set from the record, RESTORING clears and RESTORED is raised. -/
  | restoreComplete
  /-- R415: A restore not complete by tick FRAME_LEN − 16 halts the module. -/
  | restoreLate
  /-- R433: Writing PROTECT.LOCK from the housekeeping core sets the boot lock and computes MAP_DIGEST. -/
  | bootLock (core : Bool)
  /-- R437: SPDM GET_VERSION returns the supported versions. -/
  | getVersion (tr : Tr)
  /-- R437: SPDM GET_CAPABILITIES returns the responder's capabilities. -/
  | getCapabilities (tr : Tr)
  /-- R437: SPDM NEGOTIATE_ALGORITHMS selects the algorithms. -/
  | negotiateAlgorithms (tr : Tr) (offers : Bool)
  /-- R437: SPDM GET_DIGESTS returns the certificate chain digests. -/
  | getDigests (tr : Tr)
  /-- R437: SPDM GET_CERTIFICATE returns the slot 0 chain. -/
  | getCertificate (tr : Tr) (slot : BitVec 4)
  /-- R437: SPDM CHALLENGE proves possession of the alias key. -/
  | challenge (tr : Tr) (slot : BitVec 4) (nonce : List (BitVec 8))
  /-- R438: SPDM GET_MEASUREMENTS reports the measurement indices as SHA-384 digests. -/
  | getMeasurements (tr : Tr) (index : BitVec 8)
  /-- R437: SPDM KEY_EXCHANGE starts a secured session. -/
  | keyExchange (tr : Tr) (pub : List (BitVec 8))
  /-- R437: SPDM FINISH completes session establishment. -/
  | finish (tr : Tr) (sid : BitVec 3) (ok : Bool)
  /-- R437: SPDM KEY_UPDATE updates session keys. -/
  | keyUpdate (tr : Tr) (sid : BitVec 3)
  /-- R437: SPDM END_SESSION ends a secured session. -/
  | endSession (tr : Tr) (sid : BitVec 3)
  /-- R441: GEN_CHALLENGE draws a 32-byte nonce bound to the issuing path for 60 s. -/
  | genChallenge (dp : DPath)
  /-- R441: UNLOCK verifies the signed response and grants the path a debug level, or refuses and counts towards lockout. -/
  | unlock (dp : DPath) (level : BitVec 2)
  /-- R441: RELOCK returns the path to level 0 once its halt is resumed. -/
  | relock (dp : DPath)
  /-- R441: An unlock nonce expires 60 s after it was drawn. -/
  | nonceExpire
  /-- R443: HALT requests a halt of the housekeeping core, deferred while a locked sequence runs. -/
  | debugHalt (dp : DPath)
  /-- R443: The core halts at the end of its locked sequence and HALT_DONE is raised. -/
  | haltDone
  /-- R443: 2 µs after a halt request the halt is forced and the sequence aborted under Table 16.8. -/
  | forcedHalt
  /-- R443: RESUME restarts the halted housekeeping core. -/
  | resume (dp : DPath)
  /-- R442: A write of the aperture's ADDR_HI issues a side-effect-free 8-byte debug read at level 1 or above. -/
  | debugApertureRead (dp : DPath) (val : BitVec 32)
  /-- R439: The JTAG BYPASS instruction selects the bypass register. -/
  | bypass
  /-- R439: The JTAG IDCODE instruction returns the identification code. -/
  | idcode
  /-- R439: The JTAG SAMPLE/PRELOAD instruction at level 3 samples or preloads boundary cells. -/
  | samplePreload (cells : List Bool)
  /-- R439: The JTAG EXTEST instruction at level 3 drives boundary cells. -/
  | extest
  /-- R439: The JTAG debug access instruction reaches the debug path. -/
  | debugAccess (off : BitVec 26) (write : Option (BitVec 32))
  /-- R448: A TOKEN packet sets the module's chain address from NEXT and is forwarded. -/
  | token (next : BitVec 8)
  /-- R449: A READ packet addressed to the module reads up to 14 words and is answered with one RESPONSE. -/
  | courierRead (h : PktHead) (off : BitVec 32) (count : BitVec 8)
  /-- R449: A WRITE packet writes up to 14 words and is answered, or acted on without response when broadcast. -/
  | courierWrite (h : PktHead) (off : BitVec 32) (words : List (Put 32))
  /-- R450: A WAKE packet sets the management wake votes and is latched and replayed during an entry. -/
  | courierWake (h : PktHead)
  /-- R452: A TUNNEL packet carries an inner packet to the link partner and returns its response. -/
  | tunnel (h : PktHead) (link : BitVec 8) (inner : List (BitVec 8))
  /-- R447: A packet not consumed by the module is forwarded on COUR_OUT within 2 µs, or dropped when bad. -/
  | courierForward (pkt : List (BitVec 8))
  /-- R453: An SMBus Block Write with correct PEC delivers an MCTP packet. -/
  | blockWrite (pkt : List (BitVec 8)) (pecOk : Bool)
  /-- R454: MCTP Set Endpoint ID assigns the module's endpoint ID. -/
  | setEndpointId (eid : BitVec 8)
  /-- R454: A vendor-defined MCTP message carries a courier READ, WRITE or WAKE packet and is answered with a RESPONSE. -/
  | mctpVendorDefined (pkt : VendorMsg)
  /-- R454: An MCTP message of another type is answered with an unsupported-type error. -/
  | mctpUnsupportedType (ty : BitVec 8)
  /-- R457: The calendar clock counts subseconds and seconds from the 32.768 kHz crystal. -/
  | calendarSecond (counts : BitVec 16)
  /-- R458: A write of TIME takes effect at the next subsecond count, sets VALID and raises TIME_SET. -/
  | timeWrite (p : Path) (val : BitVec 64)
  /-- R459: A write of ALARM re-arms the calendar alarm. -/
  | alarmWrite (p : Path) (val : BitVec 64)
  /-- R458: Every 60 s the AON logic checks VBAT and sets VBAT_LOW below 2.2 V. -/
  | vbatCheck (low : Bool)
  /-- R461: At the end of a slow round all 64 results are published and tile power, input power and the inlet are derived and judged. -/
  | slowRoundEnd (codes : List (BitVec 24)) (taps : List TapRead)
  /-- R464: A triggered conversion completes, its result and tick are stored and TRIG_DONE is raised. -/
  | trigConversionDone (code : BitVec 24)
  /-- R465: CAL_CMD ZERO starts measuring the zero of REFIN over 256 outputs. -/
  | calZero (p : Path)
  /-- R465: The zero measurement completes with Z_new. -/
  | calZeroDone (sum : Int)
  /-- R465: CAL_CMD FULL starts measuring full scale, or is refused without a preceding ZERO. -/
  | calFull (p : Path)
  /-- R465: The full-scale measurement completes and new coefficients come into force or are rejected. -/
  | calFullDone (sum : Int)
  /-- R470: COMMIT folds T into U at the next boundary and writes the inactive bank. -/
  | csCommit (p : Path)
  /-- R470: LOAD checks the staged records and writes them to the inactive bank, or is refused. -/
  | csLoad (p : Path)
  /-- R471: IMPORT converts a GQ4120 lane calibration file into type 6 records written as by LOAD, or is refused. -/
  | csImport (p : Path)
  /-- R470: A bank write completes its read-back and the bank becomes active, or the write fails and the previous bank stays active. -/
  | bankWriteDone (outcome : BankOutcome)
  /-- R472: Every 1,024 slow rounds a link with type 6 records moves each lane value one code towards its interpolated target. -/
  | laneInterpolate (l : Fin 36)
  /-- R473: FW_CTRL ERASE erases a firmware slot and starts a write, refused for the running slot. -/
  | fwErase (p : Path) (slot : Bool)
  /-- R473: A FW_DATA write appends 4 bytes to the slot being written. -/
  | fwData (p : Path) (val : BitVec 32)
  /-- R473: FW_CTRL FINISH programs the final partial page of the slot. -/
  | fwFinish (p : Path) (slot : Bool)
  /-- R497: The loader finishes copying granules with their poison marks and sets LCMD to 2. -/
  | loaderCopyDone (dec : List Dec)
  /-- R513: A lit link whose receivers lose all signal, through an unplugged cable or a dark partner, is link fault cause 6 and goes dark within 10 µs. -/
  | allLanesLoseSignal (l : Fin 36)
  /-- R336: A link with DARK_DEFERRED set, in OFF or DARK with no light on its lanes, takes the dark baseline capture and clears the flag. -/
  | deferredCaptureTaken (l : Fin 36) (base : List Int)
  /-- R345: A memory device's temperature report calls for doubled refresh, or ends that call, and MEM_STAT.REFRESH_2X changes. -/
  | doubledRefresh (k : Fin 24) (on : Bool)
  /-- R381: PCIe training completes and the link enters L0, so that HOSTIF.STAT.READY, PCIE_STAT.WIDTH and PCIE_STAT.RATE are set. -/
  | pcieLinkUp (x8 : Bool) (rate : PcieRate)
  /-- R364: The PCIe link changes its width, for example to x8 after a lane failure, or its rate, and RATE_CHANGE is raised. -/
  | pcieRateChange (x8 : Bool) (rate : PcieRate)
  /-- R364: A DOE discovery request on the PF mailbox is answered with the supported data-object protocols. -/
  | doeDiscovery (index : BitVec 8)
  /-- R437: An IDE_KM message carried in a secured SPDM session over DOE programs or activates IDE stream keys. -/
  | ideKmMessage (m : IdeKm)
  /-- R383: Within 1 ms of a tile group's vote moving it from A1 to A0, full laser power is restored and rotation resumes. -/
  | fullLaserPowerRestored (g : Fin 32)
  /-- R439: TRST_N resets the TAP controller. -/
  | jtagReset
  /-- R453: An SMBus Block Read returns an MCTP packet to the bus owner. -/
  | blockRead
  /-- R453: A read at the Alert Response Address is answered with the module's address. -/
  | alertResponse
  /-- R453: SCL held low for 25 ms resets the SMBus interface and counts a timeout. -/
  | smbusTimeout
  /-- R454: MCTP Get Endpoint ID returns the endpoint ID. -/
  | getEndpointId
  /-- R454: MCTP Get MCTP Version Support returns the supported versions. -/
  | getMctpVersionSupport
  /-- R454: MCTP Get Message Type Support returns the accepted message types. -/
  | getMessageTypeSupport
  /-- R454: MCTP Get Vendor Defined Message Support returns the vendor identification. -/
  | getVendorDefinedMessageSupport
  /-- R464: A timer or heater-update trigger starts a conversion on M8 after DELAY, or is counted as an overrun. -/
  | trigger
  /-- R496: The image loader finds LCMD = 1, checks SRC, DST and LEN and starts a copy, or sets LCMD to 3. -/
  | loaderCopy
  /-- R309: The time-base PLL loses lock after having locked, setting TIMEBASE.STAT.FAULT and raising PLL_UNLOCK. -/
  | pllUnlock
  deriving DecidableEq, Repr

end Sys2Proof
end

