-- ==== Sys2Proof/Decode.lean ====
section
/-!
DEFINITION. The command that a word spells. spec/opcode_table.json gives its rows no bits, so no word spells a command.
-/
namespace Sys2Proof

/-- The command of a word of `nbits` bits: none, since no row of the table has bits. -/
def decodeTableWord (_nbits _w : Nat) : Option Instr := none

end Sys2Proof
end

