-- ==== Sys2Proof/Machine/Float.lean ====
section
/-!
DEFINITION. IEEE 754 binary formats over bit patterns (R125 to R130): exact values, rounding to nearest with ties to even,
NaN payloads (R127), and the correctly rounded functions exp, sin, cos, division and reciprocal square root (R130).
-/
namespace Sys2Proof.Machine

/-- A floating-point format: exponent and fraction bits. -/
structure Fmt where
  eb : Nat
  fb : Nat
  deriving DecidableEq, Repr

def fBf16 : Fmt := ⟨8, 7⟩
def fF16 : Fmt := ⟨5, 10⟩
def fF32 : Fmt := ⟨8, 23⟩
def fF64 : Fmt := ⟨11, 52⟩

/-- A value: a NaN with its sign and payload, an infinity, or a sign with a magnitude `m * 2 ^ e`. -/
inductive FV where
  | nan (neg : Bool) (payload : Nat)
  | inf (neg : Bool)
  | fin (neg : Bool) (m : Nat) (e : Int)
  deriving DecidableEq, Repr

/-- The default NaN (R127). -/
def FV.qnan : FV := .nan false 0

def FV.isNan : FV → Bool
  | .nan _ _ => true
  | _ => false

def FV.isZero : FV → Bool
  | .fin _ 0 _ => true
  | _ => false

def FV.neg : FV → FV
  | .nan n p => .nan n p
  | .inf n => .inf (!n)
  | .fin n m e => .fin (!n) m e

def FV.isNeg : FV → Bool
  | .nan n _ => n
  | .inf n => n
  | .fin n _ _ => n

def FV.isFin : FV → Bool
  | .fin _ _ _ => true
  | _ => false

/-- The smallest exponent of a normal number. -/
def Fmt.emin (f : Fmt) : Int := 2 - (2 : Int) ^ (f.eb - 1)

/-- The value a bit pattern stands for. -/
def unpackF (f : Fmt) (w : Nat) : FV :=
  let s := bitOf w (f.eb + f.fb)
  let x := fld w (f.eb + f.fb - 1) f.fb
  let m := w % 2 ^ f.fb
  if x = 2 ^ f.eb - 1 then if m = 0 then .inf s else .nan s (m % 2 ^ (f.fb - 1))
  else if x = 0 then .fin s m (f.emin - f.fb)
  else .fin s (2 ^ f.fb + m) (f.emin - f.fb + (x - 1))

/-- `n / 2 ^ k` rounded to nearest, ties to even. -/
def shiftHalfEven (n k : Nat) : Nat :=
  let q := n / 2 ^ k
  let r := n % 2 ^ k
  if k = 0 then n
  else if 2 * r < 2 ^ k then q else if 2 ^ k < 2 * r then q + 1 else q + q % 2

/-- Round a value into a format (R126); a NaN keeps its sign and the payload bits that fit (R127). -/
def packF (f : Fmt) (v : FV) : Nat :=
  let sb (n : Bool) : Nat := b2n n * 2 ^ (f.eb + f.fb)
  let top := (2 ^ f.eb - 1) * 2 ^ f.fb
  match v with
  | .nan n p => sb n + top + 2 ^ (f.fb - 1) + p % 2 ^ (f.fb - 1)
  | .inf n => sb n + top
  | .fin n 0 _ => sb n
  | .fin n m e =>
    let x : Int := (Nat.log2 m : Int) + e
    let q : Int := max x f.emin - f.fb
    let r := if q ≤ e then m * 2 ^ (e - q).toNat else shiftHalfEven m (q - e).toNat
    let bits := (q - (f.emin - f.fb)).toNat * 2 ^ f.fb + r
    sb n + min bits top

/-- A rational `num / den * 2 ^ e` as a value with a sticky bit below any format's rounding position. -/
def ratF (neg : Bool) (num den : Nat) (e : Int) : FV :=
  let k := 80 + Nat.log2 den - Nat.log2 num
  let q := num * 2 ^ k / den
  let sticky := b2n (decide (num * 2 ^ k % den ≠ 0))
  .fin neg (2 * q + sticky) (e - k - 1)

/-- An integer as a value. -/
def intF (i : Int) : FV := .fin (decide (i < 0)) i.natAbs 0

/-- A value as a signed numerator over `2 ^ -e` (0 for the special ones). -/
def FV.num : FV → Int × Int
  | .fin n m e => (if n then -(m : Int) else m, e)
  | _ => (0, 0)

/-- Exact sum of two finite values. -/
def sumFin (n1 : Bool) (m1 : Nat) (e1 : Int) (n2 : Bool) (m2 : Nat) (e2 : Int) : FV :=
  let e := min e1 e2
  let a : Int := (if n1 then -1 else 1) * (m1 * 2 ^ (e1 - e).toNat : Nat)
  let b : Int := (if n2 then -1 else 1) * (m2 * 2 ^ (e2 - e).toNat : Nat)
  let s := a + b
  .fin (if s = 0 then n1 && n2 else decide (s < 0)) s.natAbs e

/-- Exact addition, with the NaN rules of R127. -/
def addF : FV → FV → FV
  | .nan n p, _ => .nan n p
  | _, .nan n p => .nan n p
  | .inf a, .inf b => if a = b then .inf a else .qnan
  | .inf a, _ => .inf a
  | _, .inf b => .inf b
  | .fin n1 m1 e1, .fin n2 m2 e2 => sumFin n1 m1 e1 n2 m2 e2

/-- Exact multiplication. -/
def mulF : FV → FV → FV
  | .nan n p, _ => .nan n p
  | _, .nan n p => .nan n p
  | .inf a, .inf b => .inf (a != b)
  | .inf a, .fin b m _ => if m = 0 then .qnan else .inf (a != b)
  | .fin a m _, .inf b => if m = 0 then .qnan else .inf (a != b)
  | .fin a m e, .fin b k d => .fin (a != b) (m * k) (e + d)

/-- Division, exact up to a sticky bit. -/
def divF : FV → FV → FV
  | .nan n p, _ => .nan n p
  | _, .nan n p => .nan n p
  | .inf _, .inf _ => .qnan
  | .inf a, .fin b _ _ => .inf (a != b)
  | .fin a _ _, .inf b => .fin (a != b) 0 0
  | .fin a m e, .fin b k d =>
    if k = 0 then if m = 0 then .qnan else .inf (a != b)
    else if m = 0 then .fin (a != b) 0 0
    else ratF (a != b) m k (e - d)

/-- Reciprocal square root, exact up to a sticky bit. -/
def rsqrtF : FV → FV
  | .nan n p => .nan n p
  | .inf true => .qnan
  | .inf false => .fin false 0 0
  | .fin n 0 _ => .inf n
  | .fin true _ _ => .qnan
  | .fin false m e =>
    let m2 := if e % 2 = 0 then m else 2 * m
    let e2 := if e % 2 = 0 then e else e - 1
    let k := 80 + Nat.log2 m2
    let r := Nat.sqrt (2 ^ (2 * k) / m2)
    let sticky := b2n (decide (r * r * m2 ≠ 2 ^ (2 * k)))
    .fin false (2 * r + sticky) (-(e2 / 2) - k - 1)

/-- Square root, exact up to a sticky bit. -/
def sqrtF : FV → FV
  | .nan n p => .nan n p
  | .inf true => .qnan
  | .inf false => .inf false
  | .fin n 0 e => .fin n 0 e
  | .fin true _ _ => .qnan
  | .fin false m e =>
    let m2 := if e % 2 = 0 then m else 2 * m
    let e2 := if e % 2 = 0 then e else e - 1
    let r := Nat.sqrt (m2 * 2 ^ 160)
    .fin false (2 * r + b2n (decide (r * r ≠ m2 * 2 ^ 160))) (e2 / 2 - 81)

/-- `a` is less than `b` (false with a NaN); +0 and -0 are equal. -/
def ltF : FV → FV → Bool
  | .nan _ _, _ => false
  | _, .nan _ _ => false
  | .inf a, .inf b => a && !b
  | .inf a, .fin _ _ _ => a
  | .fin _ _ _, .inf b => !b
  | .fin n1 m1 e1, .fin n2 m2 e2 =>
    let d := sumFin n1 m1 e1 (!n2) m2 e2
    match d with
    | .fin true m _ => decide (m ≠ 0)
    | _ => false

/-- `a` equals `b`. -/
def eqF (a b : FV) : Bool := !a.isNan && !b.isNan && !ltF a b && !ltF b a

/-- A value rounded to an integer, nearest, ties to even; none for NaN and the infinities. -/
def toIntF : FV → Option Int
  | .fin n m e =>
    let i : Nat := if 0 ≤ e then m * 2 ^ e.toNat else shiftHalfEven m (-e).toNat
    some (if n then -(i : Int) else i)
  | _ => none

/-! ### Fixed point for exp, sin, cos, ln -/

/-- `sum x^k / k!` over `n` more terms from `term`, in fixed point of `p` bits, taking every `step`th term with
alternating sign when `alt`. -/
def taylor (p : Nat) (x2 : Int) (alt : Bool) (step : Nat) : Nat → Nat → Int → Int
  | 0, _, _ => 0
  | n + 1, k, t =>
    let d : Nat := if step = 1 then k + 1 else (k + 1) * (k + 2)
    let t' := t * x2 / 2 ^ p / d
    t + taylor p x2 alt step n (k + step) (if alt then -t' else t')

/-- A finite value in fixed point of `p` bits, rounded down. -/
def fixOf (p : Nat) (neg : Bool) (m : Nat) (e : Int) : Int :=
  let i : Nat := if 0 ≤ e + p then m * 2 ^ (e + p).toNat else m / 2 ^ (-(e + p)).toNat
  if neg then -(i : Int) else i

/-- Repeated squaring in fixed point. -/
def squares (p : Nat) : Nat → Int → Int
  | 0, x => x
  | n + 1, x => squares p n (x * x / 2 ^ p)

/-- exp, to far more than the precision of any format (R130). -/
def expF : FV → FV
  | .nan n p => .nan n p
  | .inf true => .fin false 0 0
  | .inf false => .inf false
  | .fin _ 0 _ => .fin false 1 0
  | .fin n m e =>
    if 8 ≤ (Nat.log2 m : Int) + e then (if n then .fin false 1 (-400) else .inf false)
    else
      let x := fixOf 400 n m e / 256
      let y := squares 400 8 (taylor 400 x false 1 90 0 (2 ^ 400))
      .fin false (2 * y.toNat + 1) (-401)

/-- pi times 2^700. -/
def pi700 : Int := 16525204305188294122575967610974940178026148430521517253674428844222689879174614411560235390899801560652737794125520858649187813498260676587492720299944119139547246105762461028318293173887444219654040121887534587

/-- sin (`c` false) or cos (`c` true) of a finite value, to far more than the precision of any format (R130). -/
def trigF (c : Bool) (v : FV) : FV :=
  match v with
  | .nan n p => .nan n p
  | .inf _ => .qnan
  | .fin n 0 e => if c then .fin false 1 0 else .fin n 0 e
  | .fin n m e =>
    let x := fixOf 700 false m e
    let k := 2 * x / pi700
    let r := x - k * pi700 / 2
    let q := (k + (if c then 1 else 0)) % 4
    let r2 := r * r / 2 ^ 700
    let s := if q % 2 = 0 then taylor 700 r2 true 2 110 1 r else taylor 700 r2 true 2 110 0 (2 ^ 700)
    let neg := (if q < 2 then false else true) != (n && !c)
    .fin neg (2 * s.toNat + 1) (-701)

/-- `sum z^(2k+1) / (2k+1)` in fixed point of 200 bits. -/
def atanhFix (z2 : Int) : Nat → Nat → Int → Int
  | 0, _, _ => 0
  | n + 1, k, t => t / k + atanhFix z2 n (k + 2) (t * z2 / 2 ^ 200)

/-- The natural logarithm of a positive rational in fixed point of 200 bits. -/
def lnFix (num den : Nat) : Int :=
  let k : Int := (Nat.log2 num : Int) - Nat.log2 den
  let f : Int := if 0 ≤ k then (num : Int) * 2 ^ 200 / (den * 2 ^ k.toNat) else (num : Int) * 2 ^ (-k).toNat * 2 ^ 200 / den
  let z := (f - 2 ^ 200) * 2 ^ 200 / (f + 2 ^ 200)
  let ln2 := 2 * atanhFix ((2 ^ 200 / 9)) 130 1 (2 ^ 200 / 3)
  k * ln2 + 2 * atanhFix (z * z / 2 ^ 200) 130 1 z

/-! ### binary32 steps -/

/-- The value of a binary32 word. -/
def v32 (w : Nat) : FV := unpackF fF32 w

/-- Round to binary32. -/
def r32 (v : FV) : Nat := packF fF32 v

def add32 (a b : Nat) : Nat := r32 (addF (v32 a) (v32 b))
def sub32 (a b : Nat) : Nat := r32 (addF (v32 a) (v32 b).neg)
def mul32 (a b : Nat) : Nat := r32 (mulF (v32 a) (v32 b))
def div32 (a b : Nat) : Nat := r32 (divF (v32 a) (v32 b))
def lt32 (a b : Nat) : Bool := ltF (v32 a) (v32 b)
def neg32 (a : Nat) : Nat := r32 (v32 a).neg
def abs32 (a : Nat) : Nat := a % 2 ^ 31
def int32 (i : Int) : Nat := r32 (intF i)

/-- A binary32 clamp. -/
def clamp32 (lo hi x : Nat) : Nat := if lt32 x lo then lo else if lt32 hi x then hi else x

/-- The word is finite. -/
def fin32 (w : Nat) : Bool := (v32 w).isFin

/-- A rational as binary32. -/
def rat32 (neg : Bool) (num den : Nat) : Nat := if num = 0 then 0 else r32 (ratF neg num den 0)

/-- Entry `i` of the sine table: 32,767 sin(2 pi i / 1,024), rounded (Table 6.1). -/
def sineTab (i : Nat) : Int :=
  let x := 2 * pi700 * (i % 256 : Nat) / 1024
  let y := 2 * pi700 * (256 - i % 256 : Nat) / 1024
  let a := if i / 256 % 2 = 0 then x else y
  let a := if i % 256 = 0 then (if i / 256 % 2 = 0 then 0 else pi700 / 2) else a
  let s := taylor 700 (a * a / 2 ^ 700) true 2 60 1 a
  let r := (s * 32767 + 2 ^ 699) / 2 ^ 700
  if i % 1024 < 512 then r else -r

end Sys2Proof.Machine
end

