-- ==== Sys2Proof/Machine/Flags.lean ====
section
/-!
DEFINITION. Check values over bytes: the CRC-32C and CRC-64 of Table 8.8, which every CRC of the manual uses.
-/
namespace Sys2Proof.Machine

/-- `f x`, with `x` evaluated first: the register of a check value stays one numeral from byte to byte. -/
def onValue {α : Type} (x : Nat) (f : Nat → α) : α :=
  match x with
  | 0 => f 0
  | k + 1 => f (k + 1)

/-- Evaluating first changes no value. -/
@[simp] theorem onValue_eq {α : Type} (x : Nat) (f : Nat → α) : onValue x f = f x := by cases x <;> rfl

/-- Eight steps of the reflected CRC-32C register (polynomial 0x1EDC_6F41 reflected). -/
def crc32cBits : Nat → BitVec 32 → BitVec 32
  | 0, r => r
  | n + 1, r => crc32cBits n (if r.getLsbD 0 then (r >>> 1) ^^^ 0x82F63B78#32 else r >>> 1)

/-- The CRC-32C register after a list of bytes, before the final XOR (Table 8.8). -/
def crc32cRun (r : BitVec 32) : Bytes → BitVec 32
  | [] => r
  | b :: bs => onValue (crc32cBits 8 (r ^^^ b.setWidth 32)).toNat fun v => crc32cRun (BitVec.ofNat 32 v) bs

/-- The CRC-32C of a list of bytes (Table 8.8). -/
def crc32c (bs : Bytes) : BitVec 32 := crc32cRun 0xFFFFFFFF#32 bs ^^^ 0xFFFFFFFF#32

/-- Eight steps of the CRC-64 register, most significant bit first. -/
def crc64Bits : Nat → BitVec 64 → BitVec 64
  | 0, r => r
  | n + 1, r => crc64Bits n (if r.getLsbD 63 then (r <<< 1) ^^^ 0x42F0E1EBA9EA3693#64 else r <<< 1)

/-- The CRC-64 register after a list of bytes (Table 8.8). -/
def crc64Run (r : BitVec 64) : Bytes → BitVec 64
  | [] => r
  | b :: bs => onValue (crc64Bits 8 (r ^^^ (b.setWidth 64 <<< 56))).toNat fun v => crc64Run (BitVec.ofNat 64 v) bs

/-- The number of set bits among the low `n`. -/
def popCount : Nat → Nat → Nat
  | 0, _ => 0
  | n + 1, w => w % 2 + popCount n (w / 2)

end Sys2Proof.Machine
end

