-- ==== Sys2Proof/Config.lean ====
section
/-!
DEFINITION. What one part or one run of the block fixes and the spec leaves open: free values. Each is an opaque
constant, so nothing can be proved about its value (log 2, log 9).
-/
namespace Sys2Proof.Config

/-- The value the module makes up on its `n`-th free choice: a nonce byte string, a random draw of an unstated result
(log 2). -/
opaque free : Nat → Nat

/-- A result of the vector and set unit that no rule states: a function of the words of its operation block, of which result it
is, and of its operand data (R131, log 33). -/
opaque vsuOpen : List Nat → Nat → List Nat → Nat

/-- The error of the `n`-th column conversion, in units of 2^-16 LSB (R88 to R90, R53). -/
opaque convError : Nat → Int

/-- One less than the number of vector cycles a tile's result FIFO holds (R35 states no depth). -/
opaque resultFifo : Nat

/-- One less than the number of flits that a LINK_TX stream reads ahead of its link (R226 states no destination space). -/
opaque txAhead : Nat

/-- Which of the contents since the boundary before its frame the launch unit has read of the plan word at an address: by
frame and address (R293 leaves it open). -/
opaque planSeen : Nat → Nat → Nat

/-- One less than the granules of a tile's record in the calibration image (R358 gives its place, not its layout). -/
opaque imageGrans : Nat

/-- The factory layer F of calibrated quantity `q` of tile or link `i` (R179). -/
opaque fLayer : Nat → Nat → Nat

/-- The F record of a tile, or of a link (256 + its number), fails its RCRC (R485). -/
opaque fRecordBad : Nat → Bool

/-- The factory constants K_c and O_c of a channel, binary32 (R463). -/
opaque hkK : Nat → Nat
opaque hkO : Nat → Nat

/-- The factory coefficients of the housekeeping ADC (R465). -/
opaque hkZero : Int
opaque hkGain : Nat

/-- The PCI vendor identifier and the revision of the identity (Table 13.1). -/
opaque vendorId : BitVec 16
opaque revision : BitVec 8

/-- Die stepping and serial number (R379). -/
opaque stepping : Nat
opaque serial : Nat

/-- The fused items (Table 16.1): hashes as 384-bit numbers of their bytes, REVOKE as 16 bits. -/
opaque rootHash : Nat
opaque debugHash : Nat
opaque revoke : Nat

/-- The root and debug authority public keys the module is given, 97-byte points (R432, R441). -/
opaque rootKey : Bytes
opaque debugKey : Bytes

/-- MAP_DIGEST over the protection map's items in page order: the spec gives no serialisation (R444, log 9). -/
opaque mapDigest : List Nat → Nat

/-- The digest of a measurement index over what it measures, 48 bytes: the spec gives no serialisation (R438, log 9). -/
opaque measure : Nat → List Nat → Bytes

/-- The body of an SPDM, MCTP or JTAG answer that a standard outside the spec lays out, by request code (log 2). -/
opaque stdBody : Nat → Nat → Bytes

/-- The factory data region of the flash (R466). -/
opaque flashF : Nat → Byte

/-- A sampled boundary cell (R439). -/
opaque pinSample : Nat → Bool

end Sys2Proof.Config
end

