-- ==== Sys2Proof/Machine/State.lean ====
section
/-!
DEFINITION. The state of the GQ9360 block: plain data, one structure for each of the spec's chapters, and the state
right after reset (every field's default value below). INVENTORY.md lists each item with the rule that names it.
-/
namespace Sys2Proof.Machine

/-- Sparse data by number: keys strictly rising, and no entry equal to what an unlisted key reads as (Ops.lean). -/
abbrev Tbl (α : Type) := List (Nat × α)

/-- The last answer the block gave to outside (log 3). -/
inductive Resp where
  /-- nothing to answer -/
  | none
  /-- a 4-byte register read -/
  | word (v : Nat)
  /-- an 8-byte register or doorbell read -/
  | dword (v : Nat)
  /-- PCIe Request Retry Status (R478) -/
  | retry
  /-- a completion without data -/
  | ok
  /-- the block does not answer (a wrong PEC, a bus owner that finds nothing) -/
  | nack
  /-- a granule of memory and its poison (R352) -/
  | mem (data : Bytes) (ep : Bool)
  /-- the completions of a BAR4 read: data and EP bit of each (R369) -/
  | cpl (cs : List (Bytes × Bool))
  /-- a BAR4 read that waits for a staged granule (R307) -/
  | waits
  /-- bytes of a message: courier, MCTP, SPDM, DOE or JTAG -/
  | msg (data : Bytes)
  deriving DecidableEq, Repr

/-- A BAR4 read that waits for a staged granule (R307): its function, and the pieces with the addresses that the segments
gave it when it arrived (R381), the completion each belongs to, and what decoding each finds. -/
structure BarRead where
  fn : Nat
  ps : List (Nat × Nat × Nat)
  dec : List Dec
  deriving DecidableEq, Repr

/-- PCIe functions, register access paths, MSI-X (chapters Scope and Host interface). -/
structure Hif where
  /-- the holding registers that are full, by path and offset of the low half (R5, R6) -/
  hold : Tbl (Option Nat) := []
  /-- the staged low halves, by path and offset of the low half (R9) -/
  staged : Tbl (Option Nat) := []
  /-- the selection registers, by path and offset (R82) -/
  sel : Tbl Nat := []
  /-- SYNC_RES.MET, SYNC_RES.REFUSED and SYNC_OLD, by path (R279) -/
  met : Tbl Bool := []
  refused : Tbl Bool := []
  old : Tbl Nat := []
  /-- MSI-X enable and Mask All, by function; mask and pending bit by 128 * function + vector (log 10) -/
  msixEn : Tbl Bool := []
  maskAll : Tbl Bool := []
  mask : Tbl Bool := []
  /-- log2 of each function's BAR4 size (R367) -/
  bar4Log : Tbl Nat := []
  /-- SEG_BASE as written, by 16 * function + segment; unlisted: the reset value of its BAR4 size (R381) -/
  seg : Tbl (Option Nat) := []
  /-- memory decode, by function (R368, log 10) -/
  memDecode : Tbl Bool := []
  /-- the functions in D3hot (Table 13.1) -/
  d3 : Tbl Bool := []
  /-- the BAR4 reads that wait for a staged granule (R307) -/
  barWait : List BarRead := []
  /-- lanes in L0 and rate code, 0 when down (PCIE_STAT) -/
  width : Nat := 0
  rate : Nat := 0
  /-- the link left L0 through D3hot and is in L1 (Table 13.1) -/
  inL1 : Bool := false
  /-- PERST# deasserted, PHY enabled, start-up configuration written (R478) -/
  perstHigh : Bool := false
  phyOn : Bool := false
  cfgReady : Bool := false
  /-- IDE: keys programmed by stream (0 link, 1 and 2 selective), streams active (Table 13.1) -/
  ideKeys : Tbl Bool := []
  ideOn : Tbl Bool := []
  deriving DecidableEq, Repr

/-- What leaves the block on its interrupt outputs (R373 to R375, R451). -/
structure Irq where
  /-- pending bits of the MSI-X vectors, by 128 * function + vector -/
  pend : Tbl Bool := []
  /-- the MSI-X messages sent, oldest first: 128 * function + vector (log 3) -/
  msix : List Nat := []
  /-- the courier packets sent on COUR_OUT, oldest first (log 3) -/
  cour : List Bytes := []
  /-- SMBALERT_N asserted (R451) -/
  smbAlert : Bool := false
  /-- the completions of BAR4 reads that had to wait, as sent, oldest first: function, data and EP of each (log 3) -/
  cpl : List (Nat × List (Bytes × Bool)) := []
  deriving DecidableEq, Repr

/-- The time base (R280 to R282). -/
structure TimeBase where
  tick : Nat := 0
  locked : Bool := false
  ever : Bool := false
  refOk : Bool := false
  holdover : Bool := false
  /-- the PLL runs on the local oscillator (R281); the module was started on it, and keeps to FREE until a warm reset (R483) -/
  localOsc : Bool := false
  confined : Bool := false
  /-- ticks since the loss of the reference -/
  lostFor : Nat := 0
  /-- STAT.FAULT: unlocked after a lock (R309) -/
  fault : Bool := false
  deriving DecidableEq, Repr

/-- Frame states (Table 10.2). -/
inductive FrameSt where
  | halted
  | free
  | acquire
  | locked
  | resync
  deriving DecidableEq, Repr

/-- An action in progress (R298): its record's fields and the parts of it not yet complete. -/
structure Act where
  frame : Nat
  idx : Nat
  ty : Nat
  noslack : Bool
  start : Nat
  bound : Nat
  tag : Nat
  /-- tiles, lanes, the stream context or the link still at work -/
  parts : List Nat
  /-- never completes: not started, refused, or naming a disabled block (R298) -/
  never : Bool
  /-- passed its BOUND (R299) -/
  late : Bool
  deriving DecidableEq, Repr

/-- A granule staged in the commit buffer (R307): `none` where the byte enable is 0. -/
structure Staged where
  frame : Nat
  addr : Nat
  data : List (Option Byte)
  poison : Bool
  src : Nat
  /-- wrong bits of a word of it in the commit buffer (R515, log 63) -/
  err : Nat := 0
  deriving DecidableEq, Repr

/-- A commit window in force (R307). -/
structure Win where
  base : Nat := 0
  size : Nat := 0
  on : Bool := false
  deriving DecidableEq, Repr

/-- The frame unit (chapter Frames and the static schedule). -/
structure FrameU where
  st : FrameSt := .halted
  num : Nat := 0
  /-- the first boundary after HALTED has come; ticks of the frame before this one (R287) -/
  started : Bool := false
  lastLen : Nat := 16384
  /-- ticks since the frame began -/
  tif : Nat := 0
  /-- slew of the frame in progress in ticks, -1, 0 or 1 (R288) -/
  slew : Int := 0
  /-- the slew judgement of this frame has been made (R288) -/
  judged : Bool := false
  pending : Int := 0
  slipRun : Nat := 0
  err : Int := 0
  /-- the first reference event has set the phase (Table 10.3) -/
  aligned : Bool := false
  /-- consecutive reference events within GUARD (Table 10.3) -/
  goodRun : Nat := 0
  /-- the frame whose reference event is expected next (R287) -/
  refNext : Nat := 0
  /-- the transition to HALTED waits for the next frame boundary (Table 10.3) -/
  haltDue : Bool := false
  len : Nat := 64
  lag : Nat := 2
  reLog : Nat := 10
  src : Nat := 0
  refLink : Nat := 0
  dir : Nat := 0
  cycle : Nat := 1
  /-- the frame of an armed plan switch (R294) -/
  switchAt : Option Nat := none
  committed : Nat := 0
  /-- the next frame to commit: no frame before it does (Table 10.9) -/
  comNext : Nat := 0
  /-- pending frames marked DISCARDED (Table 10.9) -/
  disc : List Nat := []
  /-- frames not yet committed or discarded that a frame fault is charged to (STAT.FAULT) -/
  faulted : List Nat := []
  /-- recent frames that CNT2 has counted (Table 10.11) -/
  charged : List Nat := []
  acts : List Act := []
  /-- index of the next record of the current frame's plan, and the START ticks of the records read so far -/
  nextRec : Nat := 0
  starts : List Nat := []
  /-- the bytes of memory at the boundary that began this frame, and at the one before it (R293) -/
  memNow : List Host.Cell := []
  memPrev : List Host.Cell := []
  /-- least relative slack of the frame so far and the record that set it (R300) -/
  slack : Option Int := none
  slackRec : Nat := 0
  overrun : Bool := false
  /-- the commit buffer: staged writes in issue order, and the released ones not yet applied (R307) -/
  buf : List Staged := []
  applying : List Staged := []
  wins : Tbl Win := []
  /-- a DL window ended at the boundary just passed; its judgement is still to be made (R265) -/
  dlDue : Bool := false
  /-- a governor window ended at the boundary just passed; its decision is still to be made (R301) -/
  govDue : Bool := false
  deriving DecidableEq, Repr

/-- The slack governor (R301 to R303). -/
structure Gov where
  /-- code settled at the regulator -/
  code : Nat := 40
  /-- code being written -/
  want : Nat := 40
  adjusting : Bool := false
  /-- the write has been acknowledged; VCORE is settling -/
  acked : Bool := false
  /-- a VSET code written during an adjustment (R303) -/
  vsetDue : Option Nat := none
  tries : Nat := 0
  above : Nat := 0
  /-- least slack of the frames since the last decision, and whether one overran -/
  least : Option Int := none
  overran : Bool := false
  winSlack : Int := 0
  lastStep : Int := 0
  deriving DecidableEq, Repr

/-- An undo entry (Tables 15.5, 15.6): `live` until a register write removes it (R410). -/
structure Undo where
  kind : Nat
  word : Nat
  id : Nat
  val : Nat
  env : Bytes
  pois : Bool
  live : Bool
  deriving DecidableEq, Repr

/-- A registry record (Table 15.4), its place in the registry area and its undo entries, oldest first. -/
structure Rec where
  frame : Nat
  startTick : Nat
  dir : Nat
  cycle : Nat
  len : Nat
  lag : Nat
  reLog : Nat
  replays : Nat
  replay : Bool
  /-- offset in the area, and length with the header -/
  off : Nat
  bytes : Nat
  undo : List Undo
  /-- queues with an envelope whose list or stream start was in progress at the opening, with its position, and streams
  that filled a ring, with the first byte of the first slot not freed (Table 15.3) -/
  heads : List (Nat × Nat)
  backs : List (Nat × Nat)
  /-- the check units bound at the opening -/
  units : List Nat
  deriving DecidableEq, Repr

/-- A veto that awaits its restore boundary (R405). -/
structure Veto where
  g : Nat
  own : Bool
  origin : Nat
  deriving DecidableEq, Repr

/-- The registry, the veto and the event log (chapter Faults, veto and replay). -/
structure Registry where
  recs : List Rec := []
  peak : Nat := 0
  pend : Option Veto := none
  /-- vetoed frame numbers held, each with the frame at which it was taken (R338) -/
  held : List (Nat × Nat) := []
  restoring : Bool := false
  /-- in the restore frame, the frames whose vetoes are echoes: first and last (R406) -/
  echo : Option (Nat × Nat) := none
  /-- the restore boundary has come: RESTORE is due -/
  restoreDue : Bool := false
  /-- frame g of the last restore (VETO_FRAME when none is pending), its origin -/
  last : Nat := 0
  lastOwn : Bool := false
  lastOrigin : Nat := 0
  /-- restores made to each frame number that has not committed (R418) -/
  replays : Tbl Nat := []
  /-- the replay lasts until this frame commits (STAT.REPLAYING) -/
  replayTo : Option Nat := none
  fault : Bool := false
  /-- undo entries applied by the restore in progress -/
  applied : Nat := 0
  logHead : Nat := 0
  logBase : Nat := 0
  logLog2 : Nat := 12
  logOn : Bool := false
  deriving DecidableEq, Repr

/-- A queue descriptor (Table 9.1). -/
structure QDesc where
  kind : Nat := 0
  cls : Nat := 0
  tenant : Nat := 0
  log2sz : Nat := 0
  sync : Nat := 0
  alive : Nat := 0
  profile : Nat := 0
  head : Nat := 0
  admPos : Nat := 0
  tail : Nat := 0
  base : Nat := 0
  deriving DecidableEq, Repr

/-- A held completion envelope (R266): its queue, the frame it entered in, its bytes and its poison mark. -/
structure Held where
  qid : Nat
  entered : Nat
  env : Bytes
  pois : Bool
  deriving DecidableEq, Repr

/-- The queue engine (chapter Pigeonholes, envelopes and sync cells). -/
structure Queues where
  desc : Tbl QDesc := []
  /-- held descriptor halves, by 2 * QID + half: the value, the tenant of the writer, and whether the write could change
  TENANT when it was made (R246, R433) -/
  descHeld : Tbl (Option (Nat × Nat × Bool)) := []
  hold : List Held := []
  /-- envelopes doorbelled and not yet pending (R253), by QID -/
  fresh : Tbl Nat := []
  headDue : Tbl (Option Nat) := []
  lastDb : Tbl Nat := []
  adm : Tbl Nat := []
  /-- by QID, the points that admitted: ADMIT after the point, and its frame (R136) -/
  admAt : Tbl (List (Nat × Nat)) := []
  /-- profiles as written and in force (R263) -/
  profNext : Tbl Nat := []
  prof : Tbl Nat := []
  dlCount : Nat := 0
  /-- the diversions of the window that has ended, until DL_STAT shows them (R265) -/
  dlEnded : Nat := 0
  /-- queues whose admission point of this boundary is still to be made, and the envelopes diverted at it so far by queue
  (R307, R357) -/
  admDue : List Nat := []
  admLate : Tbl Nat := []
  /-- what waits for queue memory in standby (R357): envelopes to be stamped as pending (queue, position, count, frame), and
  ADMIT and RELEASE operations (frame, record, word) -/
  stampDue : List (Nat × Nat × Nat × Nat) := []
  opDue : List (Nat × Nat × Nat) := []
  fault : Bool := false
  deriving DecidableEq, Repr

/-- A frame-plan WAIT_GE that has not completed (Table 9.6). -/
structure Wait where
  frame : Nat
  idx : Nat
  cell : Nat
  imm : Nat
  deriving DecidableEq, Repr

/-- The sync unit (R273 to R277). -/
structure Sync where
  cells : Tbl Nat := []
  /-- armed watches: cell and operand, oldest first -/
  watches : List (Nat × Nat) := []
  fifo : List Nat := []
  ovf : Bool := false
  waits : List Wait := []
  deriving DecidableEq, Repr

/-- Memory controller states (Table 12.5). -/
inductive CtlSt where
  | untrained
  | training
  | active
  | selfRefresh
  | sleep
  | fault
  deriving DecidableEq, Repr

/-- A memory controller (R353 to R356). -/
structure Ctl where
  st : CtlSt := .untrained
  /-- next granule of the scrub pass -/
  scrub : Nat := 0
  /-- corrected errors in the window of R355 -/
  ceWin : Nat := 0
  refresh2x : Bool := false
  /-- cached check lines of a tier-2 channel, most recently used first, with the dirty mark (R351) -/
  lines : List (Nat × Bool) := []
  deriving DecidableEq, Repr

/-- The memory tiers and hub SRAM (chapter Memory tiers): bytes by module physical address (unlisted: 0) and poison
marks by granule (unlisted: as R480 leaves them). -/
structure Memory where
  bytes : List Host.Cell := []
  poison : Tbl Bool := []
  /-- errors that a granule holds and no read has found yet: wrong symbols of a tier-1 granule, wrong bits of any other
  (R350, R351, R515, log 63) -/
  err : Tbl Nat := []
  ctl : Tbl Ctl := []
  /-- engines' writes that wait for a controller in standby, in the order of their making (R357) -/
  waits : List Staged := []
  deriving DecidableEq, Repr

/-- An address window of the protection map (R433). -/
structure PWin where
  base : Nat := 0
  size : Nat := 0
  rd : Nat := 0
  wr : Nat := 0
  deriving DecidableEq, Repr

/-- The locked sequences of the housekeeping core (Table 16.8). -/
inductive Seq where
  | cellRmw
  | calCommit
  | flash
  deriving DecidableEq, Repr

/-- An SPDM connection (R437): how far it has come, and the sessions established or in handshake. -/
structure Spdm where
  version : Bool := false
  caps : Bool := false
  algs : Bool := false
  sessions : Tbl Nat := []
  deriving DecidableEq, Repr

/-- Protection, boot and debug (chapter Secure boot, protection and debug). -/
structure Sec where
  svnFuse : Nat := 0
  lock : Bool := false
  wins : Tbl PWin := []
  cellTag : Tbl Nat := []
  /-- page ownership: 256 * OWNED + TENANT, by page -/
  owner : Tbl Nat := []
  /-- violation counters live and snapshot, by 8 * tenant + source (R436) -/
  viol : Tbl Nat := []
  violSnap : Tbl Nat := []
  digest : Nat := 0
  /-- debug level of each path: 0 PF, 1 management, 2 JTAG (R440) -/
  level : Tbl Nat := []
  highest : Nat := 0
  nonce : Option Nat := none
  noncePath : Nat := 0
  refusals : Nat := 0
  result : Tbl Nat := []
  reason : Tbl Nat := []
  /-- RESPONSE bytes written, by 128 * path + byte index of the register -/
  response : Tbl Nat := []
  halted : Bool := false
  haltPending : Bool := false
  haltPath : Nat := 0
  /-- a RELOCK that waits for the halt its path holds to be resumed (R441), by path -/
  relock : Tbl Bool := []
  seq : Option Seq := none
  /-- the started firmware slot: 0 A, 1 B; the SHA-384 of its header and image as they were started (Table 16.7) -/
  started : Option Nat := none
  image : Bytes := []
  /-- the boot ROM has judged the slots -/
  judged : Bool := false
  spdmDoe : Spdm := {}
  spdmSmb : Spdm := {}
  /-- JTAG instruction register: 0 IDCODE, 1 BYPASS, 2 SAMPLE/PRELOAD, 3 EXTEST, 4 debug access; boundary cells -/
  jtag : Nat := 0
  cells : List Bool := []
  driving : Bool := false
  deriving DecidableEq, Repr

/-- Link states (Table 11.6). -/
inductive LinkSt where
  | off
  | dark
  | train
  | resync
  | active
  | doze
  | wake
  | fault
  deriving DecidableEq, Repr

/-- A flit held in a receive or forward buffer (Table 11.4), with the inbound link whose entry it holds. -/
structure Flit where
  cls : Nat
  ngran : Nat
  pois : Nat
  hops : Nat
  src : Nat
  dst : Nat
  postmark : Nat
  data : Bytes
  inLink : Nat
  deriving DecidableEq, Repr

/-- A train being received (R316): its header fields, the SEQ of its next flit, and the data slots still to come. -/
structure Train where
  hdr : Bytes
  cls : Nat
  left : Nat
  seq : Nat
  deriving DecidableEq, Repr

/-- An open Scheduled window (R321): the action that opened it and the flits still to send. -/
structure LWin where
  frame : Nat
  idx : Nat
  left : Nat
  deriving DecidableEq, Repr

/-- An unacknowledged MGMT message of the tunnel (R327). -/
structure TunMsg where
  seq : Nat
  data : Bytes
  resends : Nat
  deriving DecidableEq, Repr

/-- A link (chapter Nguona links). -/
structure LinkS where
  st : LinkSt := .off
  cause : Nat := 0
  /-- PARTNER: VALID, ASSIGNED, LINK, DEVNUM, and the partner's POST_ENT -/
  pValid : Bool := false
  pAssigned : Bool := false
  pLink : Nat := 0
  pDev : Nat := 0
  pPost : Nat := 0
  /-- device and link recorded at the freeze (R489) -/
  recorded : Option (Nat × Nat) := none
  d : Nat := 0
  dTgt : Nat := 0
  /-- D := D′ at the next re-entry point (Table 11.7) -/
  dJump : Bool := false
  /-- next SEQ to send and expected SEQ: Scheduled, Posted (R319) -/
  tx0 : Nat := 0
  tx1 : Nat := 0
  ex0 : Nat := 0
  ex1 : Nat := 0
  /-- Posted entries freed here, and the partner's FREED (R323) -/
  freed : Nat := 0
  pFreed : Nat := 0
  /-- receive buffers in arrival order; write and read indices modulo 4,096 (Table 15.6) -/
  rx0 : List Flit := []
  rx1 : List Flit := []
  wr0 : Nat := 0
  rd0 : Nat := 0
  wr1 : Nat := 0
  rd1 : Nat := 0
  /-- entries consumed and not yet freed, oldest first: the flit and the frame of its consumption (R416) -/
  eaten : List (Flit × Nat) := []
  /-- the Scheduled forward buffer of this link as the outbound one (R325) -/
  fwd : List Flit := []
  /-- flits of LINK_TX streams ready to be sent: class and flit, oldest first (R321) -/
  txq : List Flit := []
  wins : List LWin := []
  /-- Control messages waiting for a lead slot, oldest first; MGMT and CREDIT wait apart (R320) -/
  ctl : List Bytes := []
  slow : List Bytes := []
  /-- slots since a lead slot last carried a CREDIT or MGMT message (R320) -/
  sinceSlow : Nat := 0
  /-- line slot in the block being sent, and block numbers sent and received (R315) -/
  slot : Nat := 0
  blk : Nat := 0
  rxBlk : Nat := 0
  /-- line slot of the block being received -/
  rxSlot : Nat := 0
  /-- data slots sent in the current train (R316) -/
  run : Nat := 0
  runHdr : Option (Nat × Nat × Nat × Nat) := none
  frameSlot : Bool := false
  rx : Option Train := none
  /-- consecutive blocks whose lead slot was lost, and whether this block's was (R342) -/
  lostRun : Nat := 0
  /-- trains are discarded until the first MARKER that names this frame (R416) -/
  stale : Option Nat := none
  /-- frame named by the partner's last MARKER, and the local frame it was judged against -/
  marker : Option Nat := none
  markerOk : Bool := false
  /-- tick of the boundary that the last MARKER named, as it was received (Table 10.3) -/
  markAt : Int := 0
  spareTx : Option Nat := none
  spareRx : Option Nat := none
  /-- a lane move to come: lane and block (R329) -/
  moveTx : Option (Nat × Nat) := none
  moveRx : Option (Nat × Nat) := none
  deferred : Bool := false
  /-- the dark baselines in use, lane 0 first; empty: the factory values (R336) -/
  base : List Int := []
  /-- the block at which Doze begins, once exchanged (R331) -/
  dozeReq : Option Nat := none
  dozeAt : Option Nat := none
  /-- tunnel: next SEQ to send, last SEQ received in order, unacknowledged messages, assembled payload -/
  tunTx : Nat := 0
  tunRx : Nat := 255
  unacked : List TunMsg := []
  tunIn : Bytes := []
  /-- TUNNEL requests that await the partner's response, oldest first: outer SRC and TAG, and the inner TAG (R452) -/
  tunFor : List (Nat × Nat × Nat) := []
  /-- TSYNC exchanges of the training or wake in progress -/
  ts : List TsEx := []
  /-- the last slot or beacon sent on the line (log 3) -/
  lastSlot : Bytes := []
  /-- lane calibration count and time (R472) -/
  calCount : Nat := 0
  calTime : Nat := 0
  /-- user layer of the type 6 records: value by quantity, and its interpolation sets (R472) -/
  calU : Tbl Int := []
  sets : List (Int × List Int) := []
  /-- its F record is damaged: UP is refused (R485) -/
  noF : Bool := false
  /-- interpolation steps to be made at the next frame boundary, by quantity, and the slow round they were made out at (R472) -/
  step : Tbl Int := []
  stepAt : Nat := 0
  deriving DecidableEq, Repr

/-- A line of the weight share cache (R222): the address divided by 256, its valid halves, the frame it was last read in. -/
structure ShareLine where
  line : Nat
  lo : Bool
  hi : Bool
  frame : Nat
  deriving DecidableEq, Repr

/-- The weight share cache: lines by set, most recently used first, and the reads whose fill is still good (R223). -/
structure Share where
  sets : Tbl (List ShareLine) := []
  fills : List Nat := []
  deriving DecidableEq, Repr

/-- A calibration-store record: TYPE, INSTANCE, TIME, COUNT, body (Table 17.7). -/
structure CsRec where
  ty : Nat
  inst : Nat
  time : Nat
  count : Nat
  body : Bytes
  deriving DecidableEq, Repr

/-- Management: calendar clock, housekeeping ADC, calibration store, flash, SMBus (chapter Management). -/
structure Mgmt where
  /-- calendar TIME in the format of R457, a write that awaits the next subsecond count, and CAL_STAT -/
  time : Nat := 0
  timeNew : Option Nat := none
  timeValid : Bool := false
  vbatLow : Bool := false
  onVbat : Bool := false
  alarmDone : Bool := false
  /-- MCTP packets that wait for a Block Read -/
  mctpOut : List Bytes := []
  /-- results of the last round by channel, rounds since the reset, ROUND_CFG in force, ROUND_CFG of the round that ended
  last and the tick of its end, and the tick at which a round was last published (R461) -/
  codes : Tbl Nat := []
  rounds : Nat := 0
  roundCfg : Nat := 0x04000190
  roundWas : Nat := 0x04000190
  roundEnd : Nat := 0
  roundAt : Nat := 0
  /-- tile powers and coolant inlet as published (binary32), the tick of the round each came from -/
  power : Tbl Nat := []
  powerAt : Tbl Nat := []
  inlet : Nat := 0
  inletAt : Nat := 0
  /-- the values before these, for an inner period that had frozen them (Table 7.1, step 3) -/
  powerWas : Tbl Nat := []
  powerWasAt : Tbl Nat := []
  inletWas : Nat := 0
  inletWasAt : Nat := 0
  /-- a copy of the image loader in progress: SRC, DST and LEN as read, and the granules written so far (R496) -/
  copy : Option (Nat × Nat × Nat) := none
  copied : Nat := 0
  /-- a triggered conversion in progress: the channel it converts (R464) -/
  trig : Option Nat := none
  trigArmed : Nat := 0
  /-- a system calibration in progress (1 zero, 2 full), Z_new since the last FULL, coefficients in force -/
  calBusy : Nat := 0
  zNew : Option Int := none
  coef : Option (Int × Nat) := none
  /-- the flash where it differs from its default content (log 12) -/
  flash : Tbl (Option Byte) := []
  /-- CS_STAT: STATE, the state before a write, and its other fields; SEQ of the active bank -/
  cs : Nat := 0
  csPrev : Nat := 0
  noU : Bool := false
  aValid : Bool := false
  bValid : Bool := false
  result : Nat := 0
  reason : Nat := 0
  seq : Nat := 0
  /-- records of the write in progress: none for a COMMIT that awaits its boundary -/
  csRecs : Option (List CsRec) := none
  csLoad : Bool := false
  /-- a LOAD (false) or an IMPORT (true) whose staged image lies in a tier in standby (R357) -/
  csWait : Option Bool := none
  /-- firmware slot write: slot, words programmed, error -/
  fwSlot : Option Bool := none
  fwWords : Nat := 0
  fwErr : Bool := false
  fwLast : Bool := false
  /-- bytes of the page that FW_DATA has not yet filled (R473) -/
  fwBuf : Bytes := []
  /-- an MCTP message in assembly: its source and tag, the next sequence number, its bytes (R454) -/
  mctpIn : Option (Nat × Nat × Bytes) := none
  deriving DecidableEq, Repr

/-- Power domains and thermal limits (chapter Power states and thermal limits). -/
structure Power where
  /-- state of each domain by index (tile groups 0-31, link groups 32-37, T1 38, T2 39, HUB 40): 0 A0, 1 A1, 2 A2,
  3 entering A2, 4 waking -/
  dom : Tbl Nat := []
  /-- tile groups in a wake whose lasers are relit and settled (Table 14.4, step 6) -/
  lit : Tbl Bool := []
  /-- VMAX in force (R396) -/
  vmax : Nat := 50
  throttling : Bool := false
  alarm : Bool := false
  level : Nat := 0
  inletHigh : Bool := false
  /-- the lasers of every tile group are held dark until firmware has loaded the calibration (R477) -/
  held : Bool := true
  /-- both supplies are up and start-up has begun (R475) -/
  powered : Bool := false
  a3 : Bool := false
  /-- input power of the last slow rounds, newest first (R399) -/
  watts : List Nat := []
  fault : Bool := false
  /-- privileged wakes latched during step 5 and not yet replayed, in the bits of WAKE_PEND, and the link of a partner's -/
  latched : Nat := 0
  latchLink : Nat := 0
  deriving DecidableEq, Repr

/-- A list that runs, waits or is suspended on a VSU lane (R120 to R124). -/
structure VList where
  addr : Nat
  /-- index of the next block to execute -/
  blk : Nat
  tenant : Nat
  /-- the frame number of SAMPLE (R136) -/
  frame : Nat
  /-- a frame-plan list's action: frame and record index -/
  act : Option (Nat × Nat)
  /-- an envelope list's queue and position (Table 15.3) -/
  env : Option (Nat × Nat)
  /-- LAST has been executed, or a fault has stopped the list -/
  ended : Bool
  deriving DecidableEq, Repr

/-- A VSU lane (chapter Vector and set unit). -/
structure Lane where
  cur : Option VList := none
  susp : Option VList := none
  waiting : List VList := []
  fault : Bool := false
  deriving DecidableEq, Repr

/-- A read of a stream that has been issued and not delivered (R225): source address (or slot or flit number), bytes,
whether the weight share cache held it, and whether its data has landed in the hub and waits there (R232). -/
structure SReq where
  addr : Nat
  len : Nat
  hit : Bool
  landed : Bool := false
  deriving DecidableEq, Repr

/-- A stream context (chapter Streams, prefetch and buffering). -/
structure Ctx where
  /-- Table 8.4 -/
  st : Nat := 0
  cause : Nat := 0
  lastCause : Nat := 0
  kind : Nat := 0
  pois : Bool := false
  det : Bool := false
  tenant : Nat := 0
  /-- bytes delivered; for WEIGHT, sets built -/
  pos : Nat := 0
  /-- descriptor address, and its eight words as read at the start, followed for WEIGHT by the first two words of the block
  header (Table 4.2) -/
  desc : Nat := 0
  w : List Nat := []
  stall : Nat := 0
  /-- token bucket in units of 1/16 B (R227) -/
  bucket : Nat := 0
  /-- bytes requested since the start -/
  issued : Nat := 0
  reqs : List SReq := []
  /-- bytes landed and not yet delivered, with the marks of their granules -/
  buf : Bytes := []
  bufP : List Bool := []
  /-- slots filled at the destination and freed at the source, since the start of the chain (R229) -/
  dstN : Nat := 0
  srcN : Nat := 0
  /-- bytes already taken of the source's current output slot or flit -/
  part : Nat := 0
  /-- the action that started it: frame and record index -/
  act : Option (Nat × Nat) := none
  /-- the envelope that started it: queue and position -/
  env : Option (Nat × Nat) := none
  stop : Bool := false
  deriving DecidableEq, Repr

/-- The stream engines: contexts, and the most tags and requests in use since the last snapshot (R241). -/
structure Streams where
  ctx : Tbl Ctx := []
  peak : Tbl Nat := []
  /-- one more than the context last granted at each point of contention (R228) -/
  last : Tbl Nat := []
  /-- granule writes by streams and VSU lanes in this frame (R230): the agent (a context, or 4,096 + a lane), the granule, its
  byte enables, and how many sync-cell operations had been executed -/
  wrote : List (Nat × Nat × List Bool × Nat) := []
  deriving DecidableEq, Repr

/-- A set held by the latches: its weight slot, the logical column the standby carries in it, and whether a word of it is
lost (R62, R72). -/
structure Latch where
  slot : Bytes
  lcol : Nat
  bad : Bool
  deriving DecidableEq, Repr

/-- A tile run (R73, R75): its action, its codes, the sets still to be brought into force and the vectors still to be
taken of the set in force. -/
structure TRun where
  frame : Nat
  idx : Nat
  pc : Nat
  mc : Nat
  rc : Nat
  xo : Nat
  left : Nat
  vec : Nat
  deriving DecidableEq, Repr

/-- The routing of a tile (R57, R58): physical column of each logical column (unlisted: itself), standby, column under
calibration, the standby's logical column, and ROWMAP. -/
structure Roles where
  cmap : Tbl Nat := []
  standby : Nat := 128
  calcol : Nat := 129
  lcol : Nat := 0
  rowmap : Nat := 0
  deriving DecidableEq, Repr

/-- A vector cycle's results in the result FIFO: the converter codes of the logical columns with their physical columns,
the standby's code, and what the set and the slot give the column digital (R54, R93). -/
structure TRes where
  codes : List (Int × Nat)
  shadow : Option (Int × Nat × Nat)
  acc : Nat
  zp : Nat
  /-- the exponent P - 2 + r -/
  sh : Nat
  pc : Nat
  mc : Nat
  rc : Nat
  xo : Nat
  first : Bool
  last : Bool
  fmt : Nat
  /-- bytes 0x2000 to 0x21FF of the weight slot -/
  par : Bytes
  pois : Bool
  /-- the run's last vector -/
  final : Bool
  deriving DecidableEq, Repr

/-- The calibration engine's work on one column (R158 to R161). `phase` is the step of Table 6.3 under way: 0 none,
2 offset, 3 gain, 4 delay, 5 lock, 6 drive tables, 7 complete. -/
structure CalWork where
  phase : Nat := 0
  /-- sum of the 4,096 offset codes -/
  offSum : Int := 0
  /-- working and staged values by quantity -/
  val : Tbl Int := []
  group : Nat := 0
  /-- counted windows, locked rings and skipped ones by ring of the column, 2 * row + neg -/
  windows : Tbl Nat := []
  locked : Tbl Bool := []
  /-- next ring of the drive tables -/
  ring : Nat := 0
  deriving DecidableEq, Repr

/-- A shadow comparison (R168): vectors taken, whether one failed, and the sums of delta (1/16 LSB) and B (1/16,000
LSB). -/
structure Compare where
  n : Nat := 0
  bad : Bool := false
  sumD : Int := 0
  sumB : Nat := 0
  /-- sigma of the last vector in units of 0.01 LSB (Table 3.2) -/
  sigma : Nat := 0
  deriving DecidableEq, Repr

/-- The state of a tile that its calibration image holds (R184): the T layer, the roles with COLMAP and ROWMAP, the retired
and failed masks, and the pointer of R163. -/
structure TileSave where
  calT : Tbl Int
  roles : Roles
  retired : Nat
  rowFail : Nat
  ptr : Nat
  deriving DecidableEq, Repr

/-- An optical tensor tile (chapters Optical tensor tiles, Optical arithmetic, Quantisation, Ring locking). -/
structure Tile where
  sram : Tbl Byte := []
  pois : Tbl Bool := []
  /-- weight ring: head, complete slots with the context that filled each, and whether the head slot's set is in force -/
  wHead : Nat := 0
  wSrc : List Nat := []
  wIn : Bool := false
  /-- activation ring in force, its head, the complete slots' contexts (2 * context + tolerant) and the next record -/
  aSlots : Nat := 4
  aUnits : Nat := 96
  aHead : Nat := 0
  aSrc : List Nat := []
  aRec : Nat := 0
  /-- a written ring configuration awaits R71: activation ring, output ring -/
  aPend : Bool := false
  oPend : Bool := false
  /-- output ring in force, its head, the bytes of each closed slot, the bytes written to the open slot and the bytes
  drained from the head slot -/
  oSlots : Nat := 4
  oUnits : Nat := 64
  oHead : Nat := 0
  oLens : List Nat := []
  oFill : Nat := 0
  loading : Bool := false
  /-- SHADOW_LCOL as the load in progress took it (R163) -/
  loadCol : Nat := 0
  shadow : Option Latch := none
  active : Option Latch := none
  run : Option TRun := none
  waiting : List TRun := []
  /-- P, m and range codes of the current or last run, and SET_ID in force -/
  codes : Nat := 0
  setId : Nat := 0
  fifo : List TRes := []
  /-- a closed-out record that waits for the output ring, with its poison and whether it is the run's last -/
  outRec : Option (Bytes × Bool × Bool) := none
  /-- runs that have completed or stopped and whose last results are still to come -/
  closing : Nat := 0
  /-- accumulators and their sticky flags by 256 * logical column + index; poison flags by index -/
  acc : Tbl Int := []
  sat : Tbl Bool := []
  pflag : Tbl Bool := []
  fault : Bool := false
  ready : Bool := false
  /-- roles as decided, and as the running tile uses them (R58) -/
  roles : Roles := {}
  used : Roles := {}
  spareUsed : Nat := 0
  /-- retired columns, failed columns still in service, failed rows, as bit masks -/
  retired : Nat := 0
  rowFail : Nat := 0
  /-- rotation state (Table 6.4), the pointer of R163, a staged column, and what falls due at the next boundary -/
  rot : Nat := 0
  ptr : Nat := 129
  staged : Option CalWork := none
  cal : CalWork := {}
  cmp : Compare := {}
  /-- failures of the present pair, and standbys that have failed against this victim (R169) -/
  fails : Nat := 0
  badS : Nat := 0
  /-- what R169 makes at the next boundary: 0 none, 1 a new comparison, 2 the exchange, 3 the forced swap -/
  due : Nat := 0
  colDue : List Nat := []
  /-- logical rows to be substituted at the next boundary, and whether software requested it (R81, R178) -/
  rowDue : List (Nat × Bool) := []
  /-- tick at which an abandoned C may take a failed column's place (R170) -/
  coverAt : Option Nat := none
  /-- values valid, and the tile wants or makes an acquisition pass -/
  valid : Bool := false
  /-- what the calibration image record holds of this tile, until something else writes there (R184, R358) -/
  img : Option TileSave := none
  /-- the entry to A2 has still to write the image; the wake has still to restore it (R184, R387) -/
  imgDue : Bool := false
  backDue : Bool := false
  /-- a run has carried planes since the calibration step under way began (R155) -/
  ranCal : Bool := false
  /-- a U layer that comes into force at the next boundary (R182) -/
  uDue : Option (Tbl Int) := none
  /-- the results of an acquisition pass that come into force at the next boundary: values and failed columns (R174) -/
  acqEnd : Option (List (Nat × Int) × List Nat) := none
  calCount : Nat := 0
  calTime : Nat := 0
  calU : Tbl Int := []
  calT : Tbl Int := []
  /-- of the current frame: vector cycles, converter saturations, accumulator saturations or overflows (R116), a run -/
  fVec : Nat := 0
  fSat : Nat := 0
  fBad : Bool := false
  fRun : Bool := false
  /-- consecutive slow rounds in which a row's monitor read low (R178) -/
  lowRuns : Tbl Nat := []
  /-- its F record is damaged: the tile never lights (R485) -/
  noF : Bool := false
  deriving DecidableEq, Repr

/-- Zone states (Table 7.2). -/
inductive ZoneSt where
  | off
  | warm
  | locked
  | fault
  deriving DecidableEq, Repr

/-- A zone's loop (chapter Thermal loop engine). Numbers are binary32 bit patterns unless said otherwise. -/
structure Zone where
  st : ZoneSt := .off
  en : Bool := false
  cause : Nat := 0
  /-- the working coefficients, 63 words, and an accepted LOAD that the next update takes -/
  work : List Nat := []
  load : Option (List Nat) := none
  x : List Nat := [0, 0, 0, 0]
  s : Nat := 0
  target : Nat := 0
  vel : Nat := 0
  acc : Nat := 0
  /-- DAC code applied in this period, and the output in the DAC FIFO for the next -/
  code : Nat := 0
  next : Option Nat := none
  y : Nat := 0
  r : Nat := 0
  yValid : Bool := false
  sat : Bool := false
  /-- consecutive periods of Table 7.3 and R200: towards lock, invalid, above R_THR, and the code at the first of these -/
  lockRun : Nat := 0
  lostRun : Nat := 0
  highRun : Nat := 0
  highCode : Nat := 0
  /-- tick at which WARM was entered -/
  warmAt : Nat := 0
  /-- the pilot stage's flag, latched, and the stage switched off (R205) -/
  pilotShort : Bool := false
  pilotOff : Bool := false
  /-- pilot trims loaded at the entry to WARM (R189) -/
  trim0 : Nat := 0
  trim1 : Nat := 0
  theta : Nat := 0
  /-- what takes effect at the next period: 1 OFF, 2 WARM, 3 LOCKED, 4 + cause FAULT (R198) -/
  due : Nat := 0
  /-- the update of this period has been made -/
  fresh : Bool := false
  deriving DecidableEq, Repr

/-- The loop engine. -/
structure Loop where
  zone : Tbl Zone := []
  /-- coefficient memory, words by 64 * zone + index (R206, log 11) -/
  mem : Tbl Nat := []
  /-- a ZONE_CMD that awaits the next zone update: command, zone, ALL -/
  cmd : Option (Nat × Nat × Bool) := none
  /-- a stale input has been counted in this period (R192) -/
  stale : Bool := false
  /-- number of the inner period, and one more than the number of the last one begun (R186) -/
  period : Nat := 0
  began : Nat := 0
  /-- test signal: running, phase, PRBS register, periods left of the current bit -/
  inj : Bool := false
  injDue : Bool := false
  phase : Nat := 0
  prbs : Nat := 0x7FFF
  bit : Nat := 0
  /-- capture: armed, running, periods to the next sample -/
  capArmed : Bool := false
  capOn : Bool := false
  capWait : Nat := 0
  /-- column stages switched off, and flagged ones to be switched off, by 130 * zone + column (R205) -/
  stageOff : Tbl Bool := []
  stageDue : Tbl Bool := []
  deriving DecidableEq, Repr

/-- The state of the block. `pending`, `freeCtr` and `resp` are the model's own (log 1, 2, 3); the rest is the spec's. -/
structure State where
  /-- the commands that wait, first in, first out -/
  pending : List Instr := []
  /-- how many free values have been drawn (log 2) -/
  freeCtr : Nat := 0
  resp : Resp := .none
  /-- stored registers by 4096 * page + offset (RegMap.lean) -/
  regs : Tbl Word := []
  evRaw : Tbl Nat := []
  evEn : Tbl Nat := []
  /-- counters live and snapshot by 32 * page + number -/
  cnt : Tbl Nat := []
  snap : Tbl Nat := []
  /-- pages whose soft reset is requested and not complete (R19) -/
  soft : Tbl Bool := []
  hif : Hif := {}
  irq : Irq := {}
  tb : TimeBase := {}
  fr : FrameU := {}
  gov : Gov := {}
  rg : Registry := {}
  q : Queues := {}
  sy : Sync := {}
  mem : Memory := {}
  share : Share := {}
  sec : Sec := {}
  link : Tbl LinkS := []
  /-- the stream context each check-value unit is bound to (R238) -/
  chk : Tbl (Option Nat) := []
  route : Tbl Nat := []
  frozen : Bool := false
  mg : Mgmt := {}
  vsu : Tbl Lane := []
  stm : Streams := {}
  tile : Tbl Tile := []
  lp : Loop := {}
  pw : Power := {}
  deriving DecidableEq, Repr

/-- Why the block stops: no command's meaning ends in a fault (log 5). -/
inductive Fault where
  /-- Raised by no command: every command completes. Kept so that the type is not empty; safe, since a stop hides no
  effect. -/
  | none
  deriving DecidableEq, Repr

/-- Why a command is rejected. -/
inductive Refusal where
  /-- Raised by Dispatch.lean for a command without a meaning, by its mnemonic; safe. -/
  | notModelled (mnemonic : String)
  deriving DecidableEq, Repr

/-- The block right after reset: every register at the reset value its table states, every queue and buffer empty, the
frame unit HALTED, the controllers UNTRAINED, the links OFF, power not yet applied (R475). -/
def State.reset : State := {}

end Sys2Proof.Machine
end

