-- ==== Sys2Proof/Machine/RegMap.lean ====
section
/-!
DEFINITION. The page directory (Table 13.3) and the register map of every page: which offsets hold stored fields, their
access codes (Table 0.2), reset values, 64-bit quantities (R3), selection registers (R82), counters and events.
-/
namespace Sys2Proof.Machine

/-! ### Page indices (Table 13.3) -/

def pgDev : Nat := 1
def pgTb : Nat := 2
def pgFrame : Nat := 3
def pgGov : Nat := 4
def pgReg : Nat := 5
def pgPower : Nat := 6
def pgHk : Nat := 7
def pgCs : Nat := 8
def pgClock : Nat := 9
def pgCour : Nat := 10
def pgSmb : Nat := 11
def pgProt : Nat := 12
def pgDbg : Nat := 13
def pgHost : Nat := 14
def pgLoop : Nat := 15
def pgCheck (u : Nat) : Nat := 16 + u
def pgVsu (l : Nat) : Nat := 48 + l
def pgStream : Nat := 64
def pgQueue : Nat := 65
def pgTile (t : Nat) : Nat := 66 + t
def pgLink (l : Nat) : Nat := 322 + l
/-- Controller `k`: HBM k for k < 8, LPDDR k - 8 above. -/
def pgMem (k : Nat) : Nat := 358 + k

/-- The blocks of Table 13.3 that have pages. -/
inductive Blk where
  | directory
  | device
  | timebase
  | frame
  | governor
  | registry
  | power
  | hkadc
  | calstore
  | calendar
  | courier
  | smbus
  | protect
  | debug
  | hostif
  | loop
  | check
  | vsu
  | stream
  | queue
  | tile
  | link
  | hbm
  | lpddr
  deriving DecidableEq, Repr

/-- The block of a page index. -/
def blkOf (p : Nat) : Blk :=
  if p < 16 then
    match p with
    | 0 => .directory
    | 1 => .device
    | 2 => .timebase
    | 3 => .frame
    | 4 => .governor
    | 5 => .registry
    | 6 => .power
    | 7 => .hkadc
    | 8 => .calstore
    | 9 => .calendar
    | 10 => .courier
    | 11 => .smbus
    | 12 => .protect
    | 13 => .debug
    | 14 => .hostif
    | _ => .loop
  else if p < 48 then .check
  else if p < 64 then .vsu
  else if p < 65 then .stream
  else if p < 66 then .queue
  else if p < 322 then .tile
  else if p < 358 then .link
  else if p < 366 then .hbm
  else .lpddr

/-- The instance number of a page (PAGE_ID.INSTANCE). -/
def instOf (p : Nat) : Nat :=
  match blkOf p with
  | .check => p - 16
  | .vsu => p - 48
  | .tile => p - 66
  | .link => p - 322
  | .hbm => p - 358
  | .lpddr => p - 366
  | _ => 0

/-- A row of the page directory: type code, whether instances are pages, instances, BAR0 offset, stride, first page. -/
structure DirRow where
  ty : Nat
  hdr : Bool
  count : Nat
  off : Nat
  stride : Nat
  first : Nat
  deriving DecidableEq, Repr

/-- Table 13.3, first half. -/
def dirRowsA : List DirRow := [
  ⟨0x0001, true, 1, 0x0000000, 0x1000, 0⟩, ⟨0x0010, true, 1, 0x0001000, 0x1000, 1⟩,
  ⟨0x0011, true, 1, 0x0002000, 0x1000, 2⟩, ⟨0x0012, true, 1, 0x0003000, 0x1000, 3⟩,
  ⟨0x0013, true, 1, 0x0004000, 0x1000, 4⟩, ⟨0x0014, true, 1, 0x0005000, 0x1000, 5⟩,
  ⟨0x0015, true, 1, 0x0006000, 0x1000, 6⟩, ⟨0x0016, true, 1, 0x0007000, 0x1000, 7⟩,
  ⟨0x0017, true, 1, 0x0008000, 0x1000, 8⟩, ⟨0x0018, true, 1, 0x0009000, 0x1000, 9⟩,
  ⟨0x0019, true, 1, 0x000A000, 0x1000, 10⟩, ⟨0x001A, true, 1, 0x000B000, 0x1000, 11⟩,
  ⟨0x001B, true, 1, 0x000C000, 0x1000, 12⟩, ⟨0x001C, true, 1, 0x000D000, 0x1000, 13⟩]

/-- Table 13.3, second half. -/
def dirRowsB : List DirRow := [
  ⟨0x001D, true, 1, 0x000E000, 0x1000, 14⟩, ⟨0x001E, true, 1, 0x000F000, 0x1000, 15⟩,
  ⟨0x0020, true, 32, 0x0010000, 0x1000, 16⟩, ⟨0x0021, true, 16, 0x0030000, 0x1000, 48⟩,
  ⟨0x0022, true, 1, 0x0040000, 0x1000, 64⟩, ⟨0x0023, true, 1, 0x0050000, 0x1000, 65⟩,
  ⟨0x0030, true, 256, 0x0100000, 0x1000, 66⟩, ⟨0x0031, true, 36, 0x0300000, 0x1000, 322⟩,
  ⟨0x0032, true, 8, 0x0340000, 0x1000, 358⟩, ⟨0x0033, true, 16, 0x0348000, 0x1000, 366⟩,
  ⟨0x0040, false, 1024, 0x0400000, 0x0100, 0xFFFF⟩, ⟨0x0041, false, 262144, 0x0800000, 0x0010, 0xFFFF⟩,
  ⟨0x0042, false, 8192, 0x0C00000, 0x0008, 0xFFFF⟩]

/-- Table 13.3. -/
def dirRows : List DirRow := dirRowsA ++ dirRowsB

/-- Where a BAR0 offset falls: a register of a page, one of the three windows, or nowhere (R372). -/
inductive Loc where
  | page (p off : Nat)
  | coef (zone byte : Nat)
  | qdt (qid byte : Nat)
  | cell (c byte : Nat)
  | none
  deriving DecidableEq, Repr

/-- Table 13.3 read as a map. -/
def locate (o : Nat) : Loc :=
  if o < 0x10000 then .page (o / 4096) (o % 4096)
  else if o < 0x30000 then .page (16 + (o - 0x10000) / 4096) (o % 4096)
  else if o < 0x40000 then .page (48 + (o - 0x30000) / 4096) (o % 4096)
  else if o < 0x41000 then .page 64 (o % 4096)
  else if o < 0x50000 then .none
  else if o < 0x51000 then .page 65 (o % 4096)
  else if o < 0x100000 then .none
  else if o < 0x200000 then .page (66 + (o - 0x100000) / 4096) (o % 4096)
  else if o < 0x300000 then .none
  else if o < 0x324000 then .page (322 + (o - 0x300000) / 4096) (o % 4096)
  else if o < 0x340000 then .none
  else if o < 0x358000 then .page (358 + (o - 0x340000) / 4096) (o % 4096)
  else if o < 0x400000 then .none
  else if o < 0x440000 then .coef ((o - 0x400000) / 256) (o % 256)
  else if o < 0x800000 then .none
  else if o < 0xC00000 then .qdt ((o - 0x800000) / 16) (o % 16)
  else if o < 0xC10000 then .cell ((o - 0xC00000) / 8) (o % 8)
  else .none

/-- The BAR0 offset of a page. -/
def pageBase (p : Nat) : Nat :=
  if p < 16 then p * 4096
  else if p < 48 then 0x10000 + (p - 16) * 4096
  else if p < 64 then 0x30000 + (p - 48) * 4096
  else if p < 65 then 0x40000
  else if p < 66 then 0x50000
  else if p < 322 then 0x100000 + (p - 66) * 4096
  else if p < 358 then 0x300000 + (p - 322) * 4096
  else 0x340000 + (p - 358) * 4096

/-- The key of a page register in the register table. -/
def rkey (p off : Nat) : Nat := 4096 * p + off

/-- The block type code of a page (Table 13.3). -/
def typeOf (p : Nat) : Nat :=
  match blkOf p with
  | .directory => 0x0001
  | .device => 0x0010
  | .timebase => 0x0011
  | .frame => 0x0012
  | .governor => 0x0013
  | .registry => 0x0014
  | .power => 0x0015
  | .hkadc => 0x0016
  | .calstore => 0x0017
  | .calendar => 0x0018
  | .courier => 0x0019
  | .smbus => 0x001A
  | .protect => 0x001B
  | .debug => 0x001C
  | .hostif => 0x001D
  | .loop => 0x001E
  | .check => 0x0020
  | .vsu => 0x0021
  | .stream => 0x0022
  | .queue => 0x0023
  | .tile => 0x0030
  | .link => 0x0031
  | .hbm => 0x0032
  | .lpddr => 0x0033

/-! ### Stored registers -/

/-- A group of `n` stored registers from offset `off` at `stride`: writable bits, bits writable until the boot lock, and
the reset value. -/
structure RegRow where
  off : Nat
  n : Nat
  stride : Nat
  rw : Nat
  rwl : Nat
  rst : Nat
  deriving DecidableEq, Repr

/-- The stored registers of a block past its header, by the tables of its chapter. Registers of other access codes and
those that the state holds elsewhere are not listed. -/
def regRows : Blk → List RegRow
  | .device => [⟨0x050, 1, 4, 0x800003FF, 0, 0⟩]
  | .timebase => [⟨0x040, 1, 4, 1, 0, 0⟩]
  | .frame => [⟨0x040, 1, 4, 0x0F0F1FFF, 0, 0x0A020040⟩, ⟨0x044, 1, 4, 0x00FF3F03, 0, 0x00080000⟩,
      ⟨0x048, 1, 4, 0xFFFFF, 0, 0⟩, ⟨0x068, 1, 4, 0xFFFFFFFF, 0, 0⟩, ⟨0x06C, 1, 4, 0xFFFF, 0, 0⟩,
      ⟨0x070, 1, 4, 0x1FFF, 0, 1⟩, ⟨0x078, 2, 4, 0xFFFFFFFF, 0, 0⟩, ⟨0x080, 1, 4, 0, 0, 0x3E8⟩,
      ⟨0x200, 16, 16, 0xFFFFFFFF, 0, 0⟩, ⟨0x204, 16, 16, 0xFFFF, 0, 0⟩, ⟨0x208, 16, 16, 0xFFFFFF, 0, 0⟩,
      ⟨0x20C, 16, 16, 1, 0, 0⟩]
  | .governor => [⟨0x040, 1, 4, 0x00FF00F1, 0, 0x00080041⟩, ⟨0x044, 1, 4, 0xFFFF0FFF, 0, 0x28140078⟩,
      ⟨0x048, 1, 4, 0, 0x3F3F, 0x3200⟩, ⟨0x04C, 1, 4, 0x3F, 0, 0x28⟩]
  | .registry => [⟨0x040, 1, 4, 0xFFFFFFFF, 0, 0x0C800000⟩, ⟨0x044, 1, 4, 0xFFFF, 0, 0x400⟩,
      ⟨0x048, 1, 4, 0x7FF, 0, 0x80⟩, ⟨0x04C, 1, 4, 7, 0, 3⟩, ⟨0x070, 1, 4, 0xFFFFFFFF, 0, 0⟩,
      ⟨0x074, 1, 4, 0xFFFF, 0, 0⟩, ⟨0x078, 1, 4, 0x8000001F, 0, 0xC⟩]
  | .power => [⟨0x040, 3, 16, 0xFFFFFFFF, 0, 0⟩, ⟨0x044, 3, 16, 0xFFFFFFFF, 0, 0⟩, ⟨0x048, 3, 16, 0x3FFFF, 0, 0⟩,
      ⟨0x090, 1, 4, 0x03FFFFFF, 0, 0x03FFFFFF⟩, ⟨0x094, 1, 4, 3, 0, 1⟩, ⟨0x09C, 1, 4, 0xFFFFFFFF, 0, 0x035F5A55⟩,
      ⟨0x0A0, 1, 4, 0, 0xFFFF, 0x2D69⟩]
  | .hkadc => [⟨0x040, 1, 4, 0x0F1FFFFF, 0, 0x04000190⟩, ⟨0x044, 1, 4, 0xFFFF00FF, 0, 0⟩, ⟨0x048, 1, 4, 0x1FFFFF, 0, 400⟩,
      ⟨0x04C, 1, 4, 0xFFFFFFFF, 0, 0⟩, ⟨0x06C, 1, 4, 0x3FFFFF, 0, 0⟩]
  | .calstore => [⟨0x048, 1, 4, 0xFFFFFFFF, 0, 0⟩, ⟨0x04C, 1, 4, 0xFFFFFFFF, 0, 0⟩, ⟨0x050, 1, 4, 0x7FFFFFF, 0, 0⟩]
  | .calendar => [⟨0x050, 1, 4, 1, 0, 0⟩]
  | .courier => [⟨0x044, 1, 4, 0xFF01, 0, 1⟩]
  | .smbus => [⟨0x040, 1, 4, 0, 0x7F, 0x52⟩]
  | .protect => [⟨0x044, 1, 4, 0, 0x73, 0⟩]
  | .hostif => [⟨0x100, 382, 4, 0xC0000F7F, 0, 0⟩]
  | .loop => [⟨0x040, 1, 4, 0x01FFFFFF, 0, 0x010A007D⟩, ⟨0x044, 1, 4, 0x00FF03FF, 0, 0x00100200⟩,
      ⟨0x084, 1, 4, 0xE0FF03FF, 0, 0⟩, ⟨0x088, 1, 4, 0xFFFFFFFF, 0, 0⟩, ⟨0x08C, 1, 4, 0xFFF, 0, 0⟩,
      ⟨0x090, 1, 4, 0x01FF03FF, 0, 0⟩, ⟨0x0A0, 1, 4, 0xFFFFFFFF, 0, 0⟩, ⟨0x0A4, 1, 4, 0xFFFFFFFF, 0, 0⟩]
  | .check => [⟨0x040, 1, 4, 0xFFFFC00F, 0, 0⟩, ⟨0x048, 4, 4, 0xFFFFFFFF, 0, 0⟩]
  | .vsu => [⟨0x040, 1, 4, 0x8003FFFF, 0, 0⟩]
  | .stream => [⟨0x040, 1, 4, 0x8003FFFF, 0, 0⟩, ⟨0x044, 1, 4, 1, 0, 1⟩]
  | .queue => [⟨0x040, 1, 4, 0, 0x3FFF, 0⟩, ⟨0x048, 1, 4, 0xFFFFFF0F, 0, 0x00010006⟩]
  | .tile => [⟨0x040, 1, 4, 7, 0, 7⟩, ⟨0x050, 1, 4, 0xF01FF, 0, 0x40060⟩, ⟨0x058, 1, 4, 0xF01FF, 0, 0x40040⟩]
  | .link => [⟨0x040, 1, 4, 0x1FFF1FFF, 0, 0x03C00C00⟩, ⟨0x054, 1, 4, 0xFF, 0, 8⟩]
  | .hbm => [⟨0x040, 1, 4, 0xFF00FF01, 0, 0x10001801⟩]
  | .lpddr => [⟨0x040, 1, 4, 0xFF01FF01, 0, 0x10011801⟩]
  | .debug => [⟨0x100, 1, 4, 0xFFFFFFF8, 0, 0⟩, ⟨0x104, 1, 4, 0x8000FFFF, 0, 0⟩]
  | .directory => []

/-- Every page's CTRL (R17). -/
def ctrlRow : RegRow := ⟨0x010, 1, 4, 1, 0, 0⟩

/-- The row that holds offset `off`. -/
def findRow (off : Nat) : List RegRow → Option RegRow
  | [] => none
  | r :: rs => if r.off ≤ off && decide ((off - r.off) % r.stride = 0) && decide ((off - r.off) / r.stride < r.n) then some r
      else findRow off rs

/-- The row of a register of page `p`, its header's CTRL included. -/
def rowOf (p off : Nat) : Option RegRow := findRow off (ctrlRow :: regRows (blkOf p))

/-- The reset value of a stored register; registers of no row reset to 0. A link's PORT resets to its own number (R342),
the management votes to 2 everywhere (R400). -/
def regReset (p off : Nat) : Word :=
  match rowOf p off with
  | some r =>
    if p = pgPower && off = 0x060 then 0xAAAAAAAA
    else if p = pgPower && off = 0x064 then 0xAAAAAAAA
    else if p = pgPower && off = 0x068 then 0x0002AAAA
    else BitVec.ofNat 32 r.rst
  | none => if blkOf p = .link && off = 0x058 then BitVec.ofNat 32 (instOf p) else 0

/-! ### Capabilities, events, counters -/

/-- PAGE_CAP (R17). -/
def capOf (p : Nat) : Nat :=
  match blkOf p with
  | .tile => 0x07FF8284
  | .vsu => 0x004001FF
  | .loop => 0x10000400
  | .stream => 0x1000203F
  | .check => 0x00000003
  | .queue => 0x20001214
  | .link => 0x10000907
  | .hbm => 0x00400040
  | .lpddr => 0x0004003E
  | .hostif => 0x00800F10
  | .power => 0x00290004
  | .registry => 0x0009007E
  | .protect => 0x01001007
  | _ => 0

/-- The number of events of a page (R22): bits 0 up to this number are defined. -/
def evtCount (p : Nat) : Nat :=
  match blkOf p with
  | .directory => 0
  | .device => 5
  | .timebase => 3
  | .frame => 10
  | .governor => 4
  | .registry => 7
  | .power => 9
  | .hkadc => 5
  | .calstore => 5
  | .calendar => 3
  | .courier => 5
  | .smbus => 4
  | .protect => 2
  | .debug => 4
  | .hostif => 7
  | .loop => 7
  | .check => 4
  | .vsu => 7
  | .stream => 3
  | .queue => 10
  | .tile => 12
  | .link => 12
  | .hbm => if p = pgMem 0 then 6 else 5
  | .lpddr => 5

/-- The defined bits of EVT_RAW, EVT_EN and EVT_FORCE. -/
def evtMask (p : Nat) : Nat := 2 ^ evtCount p - 1

/-- The offset of a page's counter 2, and the number of its counters. -/
def cntPlace (p : Nat) : Nat × Nat :=
  match blkOf p with
  | .directory => (0x080, 2)
  | .device => (0x080, 4)
  | .timebase => (0x080, 2)
  | .frame => (0x180, 10)
  | .governor => (0x180, 5)
  | .registry => (0x180, 10)
  | .power => (0x180, 6)
  | .hkadc => (0x080, 4)
  | .calstore => (0x080, 5)
  | .calendar => (0x080, 2)
  | .courier => (0x080, 5)
  | .smbus => (0x080, 6)
  | .protect => (0x080, 2)
  | .debug => (0x178, 4)
  | .hostif => (0x080, 8)
  | .loop => (0x200, 8)
  | .check => (0x080, 5)
  | .vsu => (0x080, 10)
  | .stream => (0x180, 15)
  | .queue => (0x080, 11)
  | .tile => (0x180, 12)
  | .link => (0x180, 17)
  | .hbm => (0x080, 8)
  | .lpddr => (0x080, 8)

/-- The counter whose low or high half stands at `off`, and whether it is the high half (R23). DEBUG has no counter 2. -/
def cntAt (p off : Nat) : Option (Nat × Bool) :=
  let (b, n) := cntPlace p
  if off % 4 ≠ 0 then none
  else if 0x030 ≤ off && decide (off < 0x040) then
    some ((off - 0x030) / 8, off % 8 == 4)
  else if b ≤ off && decide (off < b + 8 * (n - 2)) then
    if blkOf p = .debug && decide (off < 0x180) then none else some (2 + (off - b) / 8, (off - b) % 8 == 4)
  else none

/-! ### 64-bit quantities and selection registers -/

/-- The offsets of the low halves of a block's 64-bit quantities past its header (R3), counters apart:
first offset, count, stride. -/
def pairRows : Blk → List (Nat × Nat × Nat)
  | .device => [(0x048, 1, 8), (0x060, 1, 8)]
  | .timebase => [(0x048, 1, 8)]
  | .frame => [(0x050, 1, 8), (0x060, 1, 8), (0x068, 1, 8), (0x078, 1, 8), (0x090, 1, 8), (0x200, 16, 16)]
  | .registry => [(0x040, 1, 8), (0x058, 1, 8), (0x060, 1, 8), (0x070, 1, 8)]
  | .power => [(0x080, 1, 8)]
  | .hkadc => [(0x054, 1, 8)]
  | .calstore => [(0x048, 1, 8), (0x058, 1, 8), (0x068, 1, 8)]
  | .calendar => [(0x040, 2, 8)]
  | .protect => [(0x050, 1, 8)]
  | .debug => [(0x100, 2, 8)]
  | .hostif => [(0x800, 256, 8)]
  | .loop => [(0x0A0, 1, 8)]
  | .check => [(0x048, 2, 8)]
  | .vsu => [(0x050, 2, 8)]
  | .stream => [(0x050, 3, 8)]
  | .queue => [(0x050, 1, 8), (0x060, 1, 8), (0x800, 256, 8)]
  | .tile => [(0x148, 1, 8), (0x218, 1, 8)]
  | .hbm => [(0x048, 1, 8)]
  | .lpddr => [(0x048, 1, 8)]
  | _ => []

/-- `off` is the low half of one of these quantities. -/
def inPairs (off : Nat) : List (Nat × Nat × Nat) → Bool
  | [] => false
  | (b, n, st) :: r => (decide (b ≤ off) && decide ((off - b) % st = 0) && decide ((off - b) / st < n)) || inPairs off r

/-- The location is the low half of a 64-bit quantity (R3). The windows of Table 13.3 hold them throughout, but for the
loop coefficient memory, whose words are single. -/
def isLow (l : Loc) : Bool :=
  match l with
  | .page p off => inPairs off (pairRows (blkOf p)) ||
      (match cntAt p off with | some (_, hi) => !hi | none => false)
  | .qdt _ b => b % 8 == 0
  | .cell _ b => b == 0
  | .coef _ _ => false
  | .none => false

/-- The location is the high half of a 64-bit quantity. -/
def isHigh (l : Loc) : Bool :=
  match l with
  | .page p off => decide (4 ≤ off) && (inPairs (off - 4) (pairRows (blkOf p)) ||
      (match cntAt p off with | some (_, hi) => hi | none => false))
  | .qdt _ b => b % 8 == 4
  | .cell _ b => b == 4
  | .coef _ _ => false
  | .none => false

/-- The selection registers, whose value is kept per access path (R82), and their writable bits. -/
def selMask (p off : Nat) : Option Nat :=
  match blkOf p with
  | .tile => if off = 0x200 then some 0xFF else if off = 0x210 then some 0x1FFFF else none
  | .loop => if off = 0x050 then some 0x3FF else none
  | .stream => if off = 0x048 then some 0xFFF else none
  | .link => if p = pgLink 0 && off = 0x060 then some 0x3FF else none
  | .protect => if off = 0x048 then some 0xFF else if off = 0x060 then some 0x3FF
      else if off = 0x068 then some 0x1FF else if off = 0x0C0 then some 0x7F else none
  | .hkadc => if off = 0x05C then some 0x3F else none
  | .calstore => if off = 0x060 then some 0x3F else none
  | _ => none

end Sys2Proof.Machine
end

