-- ==== Sys2Proof/Machine/Ops.lean ====
section
/-!
DEFINITION. The named operations over the state: sparse tables, registers and their fields, events, counters, page
requests, protection violations, free values.
-/
namespace Sys2Proof.Machine

/-! ### Sparse tables -/

/-- The entry of key `k`, or the default. -/
def tget {α : Type} (d : α) (k : Nat) : Tbl α → α
  | [] => d
  | (j, v) :: t => if j = k then v else tget d k t

/-- Insert at its place in rising key order. -/
def tins {α : Type} (k : Nat) (v : α) : Tbl α → Tbl α
  | [] => [(k, v)]
  | (j, w) :: t => if j = k then (k, v) :: t else if k < j then (k, v) :: (j, w) :: t else (j, w) :: tins k v t

/-- Remove a key. -/
def tdel {α : Type} (k : Nat) (t : Tbl α) : Tbl α := t.filter (fun e => e.1 != k)

/-- Set key `k`; setting the default removes the entry, so that equal tables are equal data. -/
def tset {α : Type} [DecidableEq α] (d : α) (k : Nat) (v : α) (t : Tbl α) : Tbl α :=
  if v = d then tdel k t else tins k v t

/-- Every key is above `n`, the keys rise strictly, and no entry holds its default. -/
def twfFrom {α : Type} [DecidableEq α] (d : Nat → α) : Nat → Tbl α → Bool
  | _, [] => true
  | n, (k, v) :: t => decide (n ≤ k) && decide (v ≠ d k) && twfFrom d (k + 1) t

/-- The canonical form of a table with defaults `d`. -/
def twf {α : Type} [DecidableEq α] (d : Nat → α) (t : Tbl α) : Bool := twfFrom d 0 t

/-- Remove every key of which `p` holds. -/
def tdrop {α : Type} (p : Nat → Bool) (t : Tbl α) : Tbl α := t.filter (fun e => !p e.1)

/-- `f` applied `n` times over the indices 0 to n - 1, in rising order. -/
def forN {σ : Type} : Nat → (Nat → σ → σ) → σ → σ
  | 0, _, s => s
  | n + 1, f, s => f n (forN n f s)

/-- `f` applied over a list from its head. -/
def forL {α σ : Type} : List α → (α → σ → σ) → σ → σ
  | [], _, s => s
  | a :: l, f, s => forL l f (f a s)

/-! ### Access paths -/

/-- The number of an access path (R6): PF 0, VF n its n, management 16, debug 17, the housekeeping core 18. -/
def pathIx : Path → Nat
  | .pf => 0
  | .vf n => n.val + 1
  | .mgmt => 16
  | .debug => 17
  | .core => 18

/-- The tenant an access by path carries (R365, R434). -/
def pathTenant : Path → Nat
  | .pf => 0
  | .vf n => n.val + 1
  | .mgmt => 0
  | .debug => 0
  | .core => 0

/-- The path of PCIe function `fn`. -/
def fnPath (fn : Fin 16) : Path := if h : fn.val = 0 then .pf else .vf ⟨fn.val - 1, by omega⟩

/-- The number of a debug path (R441). -/
def dpIx : DPath → Nat
  | .pf => 0
  | .mgmt => 1
  | .jtag => 2

/-! ### Registers -/

/-- Register `off` of page `p`, as stored. -/
def State.reg (s : State) (p off : Nat) : Nat := (tget (regReset p off) (rkey p off) s.regs).toNat

/-- Store a register. -/
def State.setReg (s : State) (p off v : Nat) : State :=
  { s with regs := tset (regReset p off) (rkey p off) (BitVec.ofNat 32 v) s.regs }

/-- A stored 64-bit quantity: the low half at `off`, the high half at `off + 4` (R3). -/
def State.reg64 (s : State) (p off : Nat) : Nat := s.reg p off + 2 ^ 32 * s.reg p (off + 4)

/-- Store a 64-bit quantity. -/
def State.setReg64 (s : State) (p off v : Nat) : State :=
  (s.setReg p off (v % 2 ^ 32)).setReg p (off + 4) (v / 2 ^ 32 % 2 ^ 32)

/-- CTRL.EN of page `p` (R20). -/
def State.en (s : State) (p : Nat) : Bool := bitOf (s.reg p 0x10) 0

/-- The key of a selection register of a path (R82). -/
def selKey (p : Path) (pg off : Nat) : Nat := pathIx p * 2 ^ 22 + rkey pg off

/-- A selection register as a path sees it. -/
def State.sel (s : State) (p : Path) (pg off : Nat) : Nat := tget 0 (selKey p pg off) s.hif.sel

/-! ### Events and counters -/

/-- EVT_RAW of page `p`. -/
def State.raw (s : State) (p : Nat) : Nat := tget 0 p s.evRaw

/-- EVT_PEND of page `p` (R20). -/
def State.evPend (s : State) (p : Nat) : Nat := Nat.land (s.raw p) (tget 0 p s.evEn)

/-- Store EVT_RAW. -/
def State.setRaw (s : State) (p v : Nat) : State := { s with evRaw := tset 0 p v s.evRaw }

/-- An event occurs: its EVT_RAW bit is set whatever EVT_EN holds (R20). -/
def State.raise (s : State) (p bit : Nat) : State := s.setRaw p (Nat.lor (s.raw p) (2 ^ bit))

/-- Counter `k` of page `p`, live. -/
def State.cntLive (s : State) (p k : Nat) : Nat := tget 0 (32 * p + k) s.cnt

/-- Count `n`, saturating at the largest value of 64 bits (R10). -/
def State.countN (s : State) (p k n : Nat) : State :=
  { s with cnt := tset 0 (32 * p + k) (min (s.cntLive p k + n) (2 ^ 64 - 1)) s.cnt }

/-- Count one. -/
def State.count (s : State) (p k : Nat) : State := s.countN p k 1

/-- Count and raise. -/
def State.countRaise (s : State) (p k bit : Nat) : State := (s.count p k).raise p bit

/-- CFG_REJECT and the like: a write is discarded and the page's event says so. -/
def State.reject (s : State) (p bit : Nat) : State := s.raise p bit

/-! ### Free values -/

/-- The next free value and the state after the choice (log 2). -/
def State.draw (s : State) : Nat × State := (Config.free s.freeCtr, { s with freeCtr := s.freeCtr + 1 })

/-! ### Protection -/

/-- A protection violation of tenant `t` and source `src` counts once and does nothing else (R436): 32-bit counters,
CNT0 for all and CNT1 for source 6 (R444). -/
def State.violate (s : State) (t src : Nat) : State :=
  let n := tget 0 (8 * t + src) s.sec.viol
  let s := { s with sec := { s.sec with viol := tset 0 (8 * t + src) (min (n + 1) (2 ^ 32 - 1)) s.sec.viol } }
  let s := s.count pgProt 0
  if src = 6 then s.count pgProt 1 else s

/-- The enabled window of lowest index that contains address `a` (R435). -/
def winFind (a : Nat) : Tbl PWin → Option PWin
  | [] => none
  | (_, w) :: t => if 0 < w.size && decide (w.base ≤ a) && decide (a < w.base + 4096 * w.size) then some w
      else winFind a t

/-- Tenant `t` may read or write module physical address `a` (R435). -/
def State.mayPhys (s : State) (t a : Nat) (write : Bool) : Bool :=
  match winFind a s.sec.wins with
  | none => t == 0
  | some w => bitOf (if write then w.wr else w.rd) t

/-- Tenant `t` may access page `p` (Table 16.4). -/
def State.mayPage (s : State) (t p : Nat) : Bool :=
  t == 0 || tget 0 p s.sec.owner == 256 + t

/-- Tenant `t` may operate on sync cell `c` (Table 16.4). -/
def State.mayCell (s : State) (t c : Nat) : Bool := t == 0 || tget 0 c s.sec.cellTag == t

/-- Tenant `t` may access queue `q` (Table 16.4). -/
def State.mayQueue (s : State) (t q : Nat) : Bool := t == 0 || (tget {} q s.q.desc).tenant == t

/-- The power domain a page's block lies in; none for the always-on domain (Table 14.1). -/
def domOfPage (p : Nat) : Option Nat :=
  match blkOf p with
  | .tile => some ((p - 66) / 8)
  | .link => some (32 + (p - 322) / 6)
  | .hbm => some 38
  | .lpddr => some 39
  | .power => none
  | .calendar => none
  | .courier => none
  | .smbus => none
  | _ => some 40

/-- The page's domain is not in A2 or A3 (Table 17.3; log 42). -/
def State.powered (s : State) (p : Nat) : Bool :=
  match domOfPage p with
  | none => true
  | some d => tget 0 d s.pw.dom != 2 && tget 0 40 s.pw.dom != 2

/-- The debug access port reads from level 1 of its path and writes at level 3; the DEBUG page is reachable at every level
(R439, R445; log 42). -/
def State.portOpen (s : State) (p : Path) (pg lvl : Nat) : Bool :=
  match p with
  | .debug => pg == pgDbg || decide (lvl ≤ tget 0 2 s.sec.level)
  | _ => true

/-- A write by path `p` reaches page `pg`. -/
def State.mayPath (s : State) (p : Path) (pg : Nat) : Bool :=
  s.portOpen p pg 3 && s.powered pg && s.mayPage (pathTenant p) pg

/-- A read by path `p` reaches page `pg`. -/
def State.mayPathR (s : State) (p : Path) (pg : Nat) : Bool :=
  s.portOpen p pg 1 && s.powered pg && s.mayPage (pathTenant p) pg

/-- A write by path `p` reaches the descriptor of queue `q`. -/
def State.mayPathQ (s : State) (p : Path) (q : Nat) : Bool :=
  s.portOpen p pgQueue 3 && s.powered pgQueue && s.mayQueue (pathTenant p) q

/-- A write by path `p` reaches sync cell `c`. -/
def State.mayPathCell (s : State) (p : Path) (c : Nat) : Bool :=
  s.portOpen p pgQueue 3 && s.powered pgQueue && s.mayCell (pathTenant p) c

/-- A write by path `p` that does not reach its object on page `pg`: dropped, and counted where the protection map is what
stops it (R436). -/
def State.deny (s : State) (p : Path) (pg : Nat) : State :=
  if s.portOpen p pg 3 && s.powered pg then s.violate (pathTenant p) 0 else s

/-- As `deny`, for a read. -/
def State.denyR (s : State) (p : Path) (pg : Nat) : State :=
  if s.portOpen p pg 1 && s.powered pg then s.violate (pathTenant p) 0 else s

/-! ### Interrupt outputs -/

/-- The vector a page's request is routed to, 128 * function + vector (R373). -/
def State.vecOf (s : State) (p : Nat) : Option Nat :=
  let r := s.reg pgHost (0x100 + 4 * p)
  if bitOf r 31 then some (128 * fld r 11 8 + fld r 6 0) else none

/-- The pages that request an interrupt (R21). -/
def State.reqPages (s : State) : List Nat := (s.evRaw.map (·.1)).filter (fun p => s.evPend p != 0)

/-- A vector's request: the OR of the requests of the pages routed to it (R375). -/
def State.vecReq (s : State) (v : Nat) : Bool := s.reqPages.any (fun p => s.vecOf p == some v)

/-- The OR of the page requests routed with MGMT = 1 (R451). -/
def State.mgmtReq (s : State) : Bool := s.reqPages.any (fun p => bitOf (s.reg pgHost (0x100 + 4 * p)) 30)

/-- Send the MSI-X message of vector `v`; while it or its function is masked it is kept pending instead, and while MSI-X is
disabled nothing is sent (R375). -/
def State.sendVec (v : Nat) (s : State) : State :=
  if tget false (v / 128) s.hif.maskAll || tget true v s.hif.mask then
    { s with irq := { s.irq with pend := tset false v true s.irq.pend } }
  else if tget false (v / 128) s.hif.msixEn then
    ({ s with irq := { s.irq with msix := s.irq.msix ++ [v], pend := tset false v false s.irq.pend } }).count pgHost 6
  else s

/-- A write to EVT_RAW or EVT_EN of page `p` that leaves the vector's request at 1 sends its message (R375). -/
def State.rewrite (s0 s : State) (p : Nat) : State :=
  match s.vecOf p with
  | none => s
  | some v => if s0.vecReq v && s.vecReq v then s.sendVec v else s

/-- A courier packet leaves on COUR_OUT. -/
def State.sendCour (s : State) (pkt : Bytes) : State := { s with irq := { s.irq with cour := s.irq.cour ++ [pkt] } }

/-- A courier packet (Table 17.1): its CHECK is the CRC-32C of what stands before it. -/
def mkPacket (dst src ty tag : Nat) (payload : Bytes) : Bytes :=
  let body := leBytes 1 dst ++ leBytes 1 src ++ leBytes 1 (ty % 16 + 16 * (tag % 16)) ++ leBytes 1 payload.length ++ payload
  body ++ leBytes 4 (crc32c body).toNat

/-- The lowest-numbered page that requests with MGMT = 1 (Table 17.2). -/
def State.alertPage (s : State) : Nat :=
  (s.reqPages.filter (fun p => bitOf (s.reg pgHost (0x100 + 4 * p)) 30)).headD 0

/-- An ALERT to DST 0, with SMBALERT_N asserted and both pages' ALERT_SENT raised (R451, Table 17.12). -/
def State.sendAlert (s : State) : State :=
  let pkt := mkPacket 0 (s.reg pgCour 0x40) 5 0 (leBytes 2 s.alertPage)
  let s := { s with irq := { s.irq with smbAlert := true, cour := s.irq.cour ++ [pkt] } }
  (s.raise pgCour 4).raise pgSmb 3

/-- The interrupt outputs follow the requests at the end of a command: an ALERT when the management request rises and
ALERT_CFG.EN is 1 (R451), a message for each vector whose request rises from 0 to 1, and a pending bit cleared where the
request has fallen (R375). -/
def settle (s0 s : State) : State :=
  let s := if s.mgmtReq && !s0.mgmtReq && bitOf (s.reg pgCour 0x44) 0 then s.sendAlert else s
  let rise := ((s.reqPages.filterMap s.vecOf).dedup).filter (fun v => !s0.vecReq v)
  let s := forL rise State.sendVec s
  { s with irq := { s.irq with pend := s.irq.pend.filter (fun e => s.vecReq e.1) } }

/-- The outcome of a command that leaves the state `s` after starting from `s0`. -/
def done (s0 s : State) : Host.Outcome State Fault Refusal := .next (settle s0 s)

/-- The answer of a read. -/
def State.answer (s : State) (r : Resp) : State := { s with resp := r }

end Sys2Proof.Machine
end

