-- ==== Sys2Proof/Machine/Memory.lean ====
section
/-!
DEFINITION. Module physical memory: the address map (Table 12.3), interleaving (R348), granule reads and writes with
their poison marks, check codes and error records (R347 to R354, R515), and the commands of the Memory tiers chapter.
-/
namespace Sys2Proof.Machine

/-! ### The address map -/

/-- What backs an address (Table 12.3): a controller (0 to 7 HBM, 8 to 23 LPDDR), a general store bank, the queue
descriptor table, or nothing addressable. -/
inductive Region where
  | ctl (k : Nat)
  | hub (bank : Nat)
  | qdt
  | none
  deriving DecidableEq, Repr

/-- The HBM stack of a tier-1 address (R348). -/
def stackOf (a : Nat) : Nat := Nat.xor (Nat.xor (fld a 10 8) (fld a 23 21)) (fld a 32 30)

/-- The pseudo channel of a tier-1 address (R348). -/
def pseudoOf (a : Nat) : Nat := Nat.xor (fld a 16 11) (fld a 29 24)

/-- The LPDDR channel of an offset within tier-2 (R348). -/
def chanOf (o : Nat) : Nat := Nat.xor (fld o 10 7) (fld o 18 15)

/-- Table 12.3. -/
def regionOf (a : Nat) : Region :=
  if a < 0x8000000000 then .ctl (stackOf a)
  else if 0x10000000000 ≤ a && decide (a < 0x1F800000000) then .ctl (8 + chanOf (a - 0x10000000000))
  else if 0x40000000000 ≤ a && decide (a < 0x4000D000000) then .hub ((a - 0x40000000000) / 0x800000)
  else if 0x4000E000000 ≤ a && decide (a < 0x4000E400000) then .qdt
  else .none

/-- The address lies in tier-1 or tier-2. -/
def inTier (a : Nat) : Bool := match regionOf a with | .ctl _ => true | _ => false

/-- The range lies in tier-1 or tier-2 (both are contiguous). -/
def rangeInTier (a n : Nat) : Bool := inTier a && inTier (a + n - 1) && (decide (a + n ≤ 0x8000000000) || decide (0x10000000000 ≤ a))

/-- The range lies in the hub SRAM general store. -/
def rangeInHub (a n : Nat) : Bool := decide (0x40000000000 ≤ a) && decide (a + n ≤ 0x4000D000000)

/-- The range overlaps the calibration image area (R358). -/
def inCalArea (a n : Nat) : Bool := decide (a < 0x8000000000) && decide (0x7FF0000000 < a + n)

/-- A granule never written reads as poisoned zeros in the tiers and the general store (R480), unpoisoned elsewhere. -/
def poisonDefault (g : Nat) : Bool :=
  match regionOf (64 * g) with
  | .ctl _ => true
  | .hub _ => true
  | _ => false

/-! ### Bytes and marks -/

/-- The byte at address `a`; a byte nothing has written is 0 (R480). -/
def Memory.byte (m : Memory) (a : Nat) : Byte := tget 0 a m.bytes

/-- `n` bytes from address `a`. -/
def Memory.read (m : Memory) (a : Nat) : Nat → Bytes
  | 0 => []
  | n + 1 => m.byte a :: m.read (a + 1) n

/-- Write one byte. -/
def Memory.put (m : Memory) (a : Nat) (b : Byte) : Memory := { m with bytes := tset 0 a b m.bytes }

/-- Write bytes from address `a` upward. -/
def Memory.write (m : Memory) (a : Nat) : Bytes → Memory
  | [] => m
  | b :: bs => (m.put a b).write (a + 1) bs

/-- Write the bytes whose enable is set (`some`), from address `a` upward. -/
def Memory.writeEn (m : Memory) (a : Nat) : List (Option Byte) → Memory
  | [] => m
  | none :: bs => m.writeEn (a + 1) bs
  | some b :: bs => (m.put a b).writeEn (a + 1) bs

/-- The poison mark of granule `g` (R235). -/
def Memory.mark (m : Memory) (g : Nat) : Bool := tget (poisonDefault g) g m.poison

/-- Set a poison mark. -/
def Memory.setMark (m : Memory) (g : Nat) (b : Bool) : Memory :=
  { m with poison := tset (poisonDefault g) g b m.poison }

/-- Forget the content and the marks of every granule that `p` names: they read as never written. -/
def Memory.wipe (m : Memory) (p : Nat → Bool) : Memory :=
  { m with bytes := tdrop (fun a => p (a / 64)) m.bytes, poison := tdrop p m.poison, err := tdrop p m.err }

/-- The granule is backed by controller `k`. -/
def granOfCtl (k g : Nat) : Bool := decide (regionOf (64 * g) = .ctl k)

/-- The canonical form of memory: addresses strictly rising, no listed byte 0, no listed mark its default. -/
def Memory.wf (m : Memory) : Bool := twf (fun _ => (0 : Byte)) m.bytes && twf poisonDefault m.poison

/-- Controller `k`. -/
def State.ctl (s : State) (k : Nat) : Ctl := tget {} k s.mem.ctl

/-- Update controller `k`. -/
def State.setCtl (s : State) (k : Nat) (c : Ctl) : State := { s with mem := { s.mem with ctl := tset {} k c s.mem.ctl } }

/-! ### The queue descriptor table as memory (R243, R269) -/

/-- Q0 of a descriptor (Table 9.1). -/
def QDesc.q0 (d : QDesc) : Nat :=
  d.kind % 4 + d.cls % 2 * 2 ^ 2 + d.tenant % 16 * 2 ^ 4 + d.log2sz % 32 * 2 ^ 8 + d.sync % 2 ^ 13 * 2 ^ 13
    + d.alive % 256 * 2 ^ 26 + d.profile % 256 * 2 ^ 34 + d.head % 2 ^ 21 * 2 ^ 42

/-- Q1 of a descriptor (Table 9.1). -/
def QDesc.q1 (d : QDesc) : Nat := d.admPos % 2 ^ 21 + d.tail % 2 ^ 21 * 2 ^ 21 + d.base % 2 ^ 22 * 2 ^ 42

/-- The descriptor two written words spell (Table 9.1). -/
def QDesc.ofWords (q0 q1 : Nat) : QDesc where
  kind := fld q0 1 0
  cls := fld q0 2 2
  tenant := fld q0 7 4
  log2sz := fld q0 12 8
  sync := fld q0 25 13
  alive := fld q0 33 26
  profile := fld q0 41 34
  head := fld q0 62 42
  admPos := fld q1 20 0
  tail := fld q1 41 21
  base := fld q1 63 42

/-- The descriptor in force of queue `q`. -/
def State.qd (s : State) (q : Nat) : QDesc := tget {} q s.q.desc

/-- Change a descriptor in force. -/
def State.setQd (s : State) (q : Nat) (d : QDesc) : State := { s with q := { s.q with desc := tset {} q d s.q.desc } }

/-- The 64 bytes of granule `g` as an engine sees them: the live descriptors in the queue descriptor table, memory
elsewhere. -/
def State.granBytes (s : State) (g : Nat) : Bytes :=
  match regionOf (64 * g) with
  | .qdt =>
    let q := (64 * g - 0x4000E000000) / 16
    (List.range 4).flatMap (fun i => leBytes 8 (s.qd (q + i)).q0 ++ leBytes 8 (s.qd (q + i)).q1)
  | _ => s.mem.read (64 * g) 64

/-! ### Error records -/

/-- Record the first uncorrectable error of a controller page since UE was last cleared (R352). -/
def State.recErr (s : State) (p a src : Nat) : State :=
  if bitOf (s.reg p 0x50) 8 then s
  else ((s.setReg p 0x48 (a % 2 ^ 32)).setReg p 0x4C (a / 2 ^ 32 % 2 ^ 16)).setReg p 0x50 (256 + src)

/-- An engine access to an unbacked address or a controller in FAULT: an uncorrectable error with source UNBACKED in the
H0 page (R347). -/
def State.unbacked (s : State) (a : Nat) : State :=
  let s := s.recErr (pgMem 0) a 4
  (((s.count (pgMem 0) 3).count (pgMem 0) 7).raise (pgMem 0) 1).raise (pgMem 0) 5

/-- Record the first uncorrectable hub SRAM error (R515). -/
def State.recSram (s : State) (a src : Nat) : State :=
  if bitOf (s.reg pgDev 0x68) 8 then s
  else ((s.setReg pgDev 0x60 (a % 2 ^ 32)).setReg pgDev 0x64 (a / 2 ^ 32 % 2 ^ 16)).setReg pgDev 0x68 (256 + src)

/-! ### The weight share cache's reaction to writes (R223, R354) -/

/-- Invalidate the line of address `a` and discard fills of it that were ordered before. -/
def Share.inval (c : Share) (a : Nat) : Share :=
  let set := fld a 21 8
  { sets := tset [] set ((tget [] set c.sets).filter (fun l => l.line != a / 256)) c.sets
    fills := c.fills.filter (fun x => x / 256 != a / 256) }

/-- A write to a tier address invalidates its cache line. -/
def State.invalShare (s : State) (a : Nat) : State := { s with share := s.share.inval a }

/-! ### Check lines (R351) -/

/-- Use check line `l` of a tier-2 channel: a miss fetches it, evicting the least recently used beyond 4,096 lines, and
counts in CNT6; the line becomes the most recently used. -/
def State.useLine (s : State) (k l : Nat) (dirty : Bool) : State :=
  let c := s.ctl k
  match c.lines.find? (fun x => x.1 == l) with
  | some (_, d) => s.setCtl k { c with lines := (l, d || dirty) :: c.lines.filter (fun x => x.1 != l) }
  | none => (s.setCtl k { c with lines := ((l, dirty) :: c.lines).take 4096 }).count (pgMem k) 6

/-- The check line that covers address `a`: 2 KiB of a channel's data (R351). -/
def checkLine (a : Nat) : Nat := (a - 0x10000000000) / 2048 / 16

/-- Bookkeeping of an access to controller `k`: the granule is counted and, in tier 2, its check line is used. -/
def State.touch (s : State) (k a : Nat) (write : Bool) : State :=
  let s := s.count (pgMem k) (if write then 1 else 0)
  if 8 ≤ k then s.useLine k (checkLine a) write else s

/-! ### Check codes (R350, R351, R515) -/

/-- What a decode finds in a granule: the tier-1 code corrects 3 symbols and detects 4; the tier-2 code and the code of each
word of hub SRAM correct one bit and detect two. -/
def decOf (g n : Nat) : Dec :=
  let fix := match regionOf (64 * g) with
    | .ctl k => if k < 8 then 3 else 1
    | _ => 1
  if n = 0 then .clean else if n ≤ fix then .corrected else .uncorrectable

/-- The outcome of a decode of granule `g`: of what the command's read finds and what the granule has held since before, the
worse (log 63). -/
def State.found (s : State) (g : Nat) (dec : Dec) : Dec :=
  match dec, decOf g (tget 0 g s.mem.err) with
  | .uncorrectable, _ => .uncorrectable
  | _, .uncorrectable => .uncorrectable
  | .corrected, _ => .corrected
  | _, .corrected => .corrected
  | _, _ => .clean

/-- A granule laid down anew or written back holds no error. -/
def Memory.heal (m : Memory) (g : Nat) : Memory := { m with err := tset 0 g 0 m.err }

/-- Zeros with a poison mark, as an uncorrectable granule is written back (Table 12.4). -/
def Memory.zap (m : Memory) (g : Nat) : Memory := ((m.write (64 * g) (List.replicate 64 0)).setMark g true).heal g

/-- A write-back to tier 2 updates its check line in the cache (R351). -/
def State.wbLine (s : State) (k g : Nat) : State := if 8 ≤ k then s.useLine k (checkLine (64 * g)) true else s

/-! ### Reading a granule (Table 12.4) -/

/-- A corrected error: counted, CE raised, and counted in the window of R355. -/
def State.corrected (s : State) (k : Nat) : State :=
  let s := (s.count (pgMem k) 2).raise (pgMem k) 0
  let c := s.ctl k
  s.setCtl k { c with ceWin := c.ceWin + 1 }

/-- A write or an uncorrectable error in the calibration image area breaks the record it falls in (R358). -/
def State.breakImage (s : State) (a : Nat) : State :=
  if inCalArea a 64 then
    let t := (a - 0x7FF0000000) / 2 ^ 20
    { s with tile := tset {} t { tget {} t s.tile with img := none } s.tile }
  else s

/-- The images of every tile are lost with a tier-1 device's content. -/
def State.dropImages (s : State) : State :=
  { s with tile := (s.tile.map (fun e => (e.1, { e.2 with img := none }))).filter (fun e => e.2 != {}) }

/-- The controller decodes granule `g` for `src` with outcome `dec`: what is delivered, its mark, and the state with the
write-backs and counts of Table 12.4. A granule marked poisoned decodes as POISONED whatever correctable error it also
holds (R353). -/
def State.decodeCtl (s : State) (k src g : Nat) (dec : Dec) : (Bytes × Bool) × State :=
  let d := s.granBytes g
  match s.found g dec with
  | .uncorrectable =>
    let s := (s.recErr (pgMem k) (64 * g) src)
    let s := (s.count (pgMem k) 3).raise (pgMem k) 1
    let s := { s with mem := s.mem.zap g }
    ((List.replicate 64 0, true), ((s.wbLine k g).invalShare (64 * g)).breakImage (64 * g))
  | .corrected =>
    let s := { s with mem := s.mem.heal g }.wbLine k g
    if s.mem.mark g then ((d, true), s.count (pgMem k) 5) else ((d, false), s.corrected k)
  | .clean =>
    if s.mem.mark g then ((d, true), s.count (pgMem k) 5) else ((d, false), s)

/-- An uncorrectable hub SRAM error at address `a`: counted, raised, and the first one recorded (R515). -/
def State.sramLost (s : State) (src a : Nat) : State := ((s.recSram a src).count pgDev 3).raise pgDev 4

/-- A corrected hub SRAM error (R515). -/
def State.sramFixed (s : State) : State := (s.count pgDev 2).raise pgDev 3

/-- The same for hub SRAM, whose errors the DEVICE page counts (R515). A granule of the queue descriptor table holds four
descriptors, which its zeros disable. -/
def State.decodeHub (s : State) (src g : Nat) (dec : Dec) : (Bytes × Bool) × State :=
  let d := s.granBytes g
  match s.found g dec with
  | .uncorrectable =>
    let s := s.sramLost src (64 * g)
    if regionOf (64 * g) = .qdt then
      let q := (64 * g - 0x4000E000000) / 16
      ((List.replicate 64 0, true), { forN 4 (fun i s => s.setQd (q + i) {}) s with mem := (s.mem.setMark g true).heal g })
    else ((List.replicate 64 0, true), { s with mem := s.mem.zap g })
  | .corrected =>
    let s := { s with mem := s.mem.heal g }
    if s.mem.mark g then ((d, true), s) else ((d, false), s.sramFixed)
  | .clean => ((d, s.mem.mark g), s)

/-- An engine's read of granule `g`: the bytes, whether they are poisoned, and the state after (R347, R352, R515). -/
def State.gRead (s : State) (src g : Nat) (dec : Dec) : (Bytes × Bool) × State :=
  match regionOf (64 * g) with
  | .none => ((List.replicate 64 0, true), s.unbacked (64 * g))
  | .ctl k =>
    if (s.ctl k).st = .fault then ((List.replicate 64 0, true), s.unbacked (64 * g))
    else (s.touch k (64 * g) false).decodeCtl k src g dec
  | .hub _ => s.decodeHub src g dec
  | .qdt => s.decodeHub src g dec

/-- An engine's read of the `n` granules from `g`: the bytes and the mark of each granule. -/
def State.gReads (s : State) (src g : Nat) : Nat → (Bytes × List Bool) × State
  | 0 => (([], []), s)
  | n + 1 =>
    let r := s.gRead src g .clean
    let q := r.2.gReads src (g + 1) n
    ((r.1.1 ++ q.1.1, r.1.2 :: q.1.2), q.2)

/-- The number of granules that bytes `a` to `a + n - 1` touch. -/
def granSpan (a n : Nat) : Nat := if n = 0 then 0 else (a + n - 1) / 64 - a / 64 + 1

/-- An engine's read of `n` bytes from `a`: the bytes, and whether any of their granules is poisoned. -/
def State.engRead (s : State) (src a n : Nat) : (Bytes × Bool) × State :=
  let r := s.gReads src (a / 64) (granSpan a n)
  (((r.1.1.drop (a % 64)).take n, r.1.2.any id), r.2)

/-- A byte as the launch unit and the stream engines see it: 0 where nothing backs it, where its controller is in FAULT and
where its granule holds an uncorrectable error (R347, R352). -/
def State.seenByte (s : State) (a : Nat) : Byte :=
  let gone := match regionOf a with
    | .none => true
    | .ctl k => decide ((s.ctl k).st = .fault)
    | _ => false
  if gone || s.found (a / 64) .clean = .uncorrectable then 0 else s.mem.byte a

/-- The controllers of every granule of a range are enabled and not in standby: an engine's access need not wait (R20,
R357). -/
def State.rangeAwake (s : State) (a n : Nat) : Bool :=
  (List.range (granSpan a n)).all (fun i =>
    match regionOf (64 * (a / 64 + i)) with
    | .ctl k => s.en (pgMem k) && decide ((s.ctl k).st ≠ .selfRefresh) && decide ((s.ctl k).st ≠ .sleep)
    | _ => true)

/-- The controller of granule `g` is disabled or in standby (R20, R357). -/
def State.asleep (s : State) (g : Nat) : Bool := !s.rangeAwake (64 * g) 64

/-! ### Writing a granule (R354) -/

/-- Every byte of the granule is written. -/
def wholeGran (data : List (Option Byte)) : Bool := decide (data.length = 64) && data.all Option.isSome

/-- Lay down a granule in memory: a whole write sets the mark; a part is merged over what the granule decodes to, and a
poisoned granule stays poisoned (R354). A poisoned part marks the granule (R235). -/
def State.lay (s : State) (src g : Nat) (data : List (Option Byte)) (poison : Bool) (dec : Dec) : State :=
  if wholeGran data then
    { s with mem := ((s.mem.writeEn (64 * g) data).setMark g poison).heal g }
  else
    let r := (match regionOf (64 * g) with
      | .ctl k => s.decodeCtl k src g dec
      | _ => s.decodeHub src g dec)
    { r.2 with mem := (r.2.mem.writeEn (64 * g) data).setMark g (r.1.2 || poison) }

/-- A write of granule `g` made to memory at once, with byte enables (`none` where not written), by `src`. An unbacked
address drops it (R347); with the controller disabled or in standby the write waits (R20, R357). The descriptors of the queue descriptor table change only under
R246. -/
def State.gWrite (s : State) (src g : Nat) (data : List (Option Byte)) (poison : Bool) (dec : Dec) : State :=
  match regionOf (64 * g) with
  | .none => s.unbacked (64 * g)
  | .qdt => s
  | .hub _ => s.lay src g data poison dec
  | .ctl k =>
    if (s.ctl k).st = .fault then s.unbacked (64 * g)
    else if s.asleep g then { s with mem := { s.mem with waits := s.mem.waits ++ [⟨s.fr.num, g, data, poison, src, 0⟩] } }
    else (((s.touch k (64 * g) true).invalShare (64 * g)).lay src g data poison dec).breakImage (64 * g)

/-- The writes that wait are made, each once its controller is out of standby (R357). -/
def State.flushWaits (s : State) : State :=
  forL s.mem.waits (fun w s => s.gWrite w.src w.addr w.data w.poison .clean) { s with mem := { s.mem with waits := [] } }

/-- Split the bytes of a write from address `a` into granules with byte enables: granule, enabled bytes. -/
def splitGrans (a : Nat) (bs : List (Option Byte)) : List (Nat × List (Option Byte)) :=
  let pre := List.replicate (a % 64) (none : Option Byte)
  let all := pre ++ bs
  let n := (all.length + 63) / 64
  (List.range n).map (fun i =>
    let c := (all.drop (64 * i)).take 64
    (a / 64 + i, c ++ List.replicate (64 - c.length) none))

/-- A write of bytes made to memory at once, unpoisoned. -/
def State.engWrite (s : State) (src a : Nat) (bs : Bytes) : State :=
  forL (splitGrans a (bs.map some)) (fun w s => s.gWrite src w.1 w.2 false .clean) s

/-! ### Commands -/

/-- MEMORY_READ: one granule is read by `src` and decoded (R352); the answer is what is delivered. It waits, without
effect, while its controller is in standby (R357). -/
def opMemoryRead (src : Fin 8) (addr : BitVec 48) (dec : Dec) (s : State) : State :=
  let g := addr.toNat / 64
  if s.rangeAwake (64 * g) 64 then
    let r := s.gRead src.val g dec
    r.2.answer (.mem r.1.1 r.1.2)
  else s

/-- MEMORY_WRITE: a write of one granule with byte enables, made to memory at once (R354). -/
def opMemoryWrite (src : Fin 8) (addr : BitVec 48) (data : Bytes) (en : BitVec 64) (poison : Bool) (dec : Dec)
    (s : State) : State :=
  let g := addr.toNat / 64
  let d := (List.range 64).map (fun i => if en.getLsbD i then some (data.getD i 0) else none)
  if s.rangeAwake (64 * g) 64 then (s.gWrite src.val g d poison dec).answer .ok else s

/-- The granules of a controller's device: 64 GiB a stack, 62 GiB a channel (Table 12.1). -/
def granulesOf (k : Nat) : Nat := if k < 8 then 2 ^ 30 else 62 * 2 ^ 24

/-- The address of granule `j` of controller `k`, in ascending block order (R348, R353). Tier-1: 64 pseudo channels of
2^22 blocks of 4 granules, taken pseudo channel by pseudo channel; tier-2: blocks of 2 granules. -/
def granAddr (k j : Nat) : Nat :=
  if k < 8 then
    let p := j / 2 ^ 24
    let blk := j / 4 % 2 ^ 22
    let hi := blk * 2 ^ 17
    let lo := Nat.xor p (fld hi 29 24)
    let b := Nat.xor (Nat.xor k (fld hi 23 21)) (fld hi 32 30)
    hi + lo * 2 ^ 11 + b * 2 ^ 8 + j % 4 * 64
  else
    let blk := j / 2
    let hi := blk * 2 ^ 11
    let c := Nat.xor (k - 8) (fld hi 18 15)
    0x10000000000 + hi + c * 2 ^ 7 + j % 2 * 64

/-- MEMORY_SCRUB: the scrubber of controller `k` reads and decodes its next granule, with no delivery, while SCRUB_EN = 1
and the controller is ACTIVE; at the end of its pass SCRUB_PASS is raised (R353). -/
def opMemoryScrub (k : Fin 24) (dec : Dec) (s : State) : State :=
  let c := s.ctl k
  if c.st = .active && bitOf (s.reg (pgMem k) 0x40) 0 && s.en (pgMem k) then
    let g := granAddr k c.scrub / 64
    let s := if 8 ≤ k.val then s.useLine k (checkLine (64 * g)) false else s
    let s := (s.decodeCtl k 3 g dec).2
    let s := s.count (pgMem k) 4
    let c := s.ctl k
    if c.scrub + 1 < granulesOf k then s.setCtl k { c with scrub := c.scrub + 1 }
    else (s.setCtl k { c with scrub := 0 }).raise (pgMem k) 4
  else s

/-- CE_RATE_WINDOW: the window of 2^31 ticks ends, and CE_RATE is raised when more than CE_THRESH corrected errors were
counted in it (R355). -/
def opCeRateWindow (k : Fin 24) (s : State) : State :=
  let c := s.ctl k
  if s.tb.tick % 2 ^ 31 = 0 then
    let s := if fld (s.reg (pgMem k) 0x40) 31 24 < c.ceWin then s.raise (pgMem k) 2 else s
    s.setCtl k { c with ceWin := 0 }
  else s

/-- MEM_TRAINING_DONE: a controller in TRAINING initialises its device to poisoned zeros (R480) and enters ACTIVE, or
enters FAULT with TRAIN_FAIL (R356, Table 12.5). -/
def opMemTrainingDone (k : Fin 24) (ok : Bool) (s : State) : State :=
  let c := s.ctl k
  if c.st = .training then
    if ok then
      let s := if k.val < 8 then s.dropImages else s
      { s with mem := s.mem.wipe (granOfCtl k) }.setCtl k { c with st := .active }
    else (s.setCtl k { c with st := .fault }).raise (pgMem k) 3
  else s

/-- MEM_PHY_LOCK_LOST: a controller whose PHY loses lock enters FAULT and raises TRAIN_FAIL (R356). -/
def opMemPhyLockLost (k : Fin 24) (s : State) : State :=
  let c := s.ctl k
  if c.st = .untrained || c.st = .fault then s
  else (s.setCtl k { c with st := .fault }).raise (pgMem k) 3

/-- DOUBLED_REFRESH: MEM_STAT.REFRESH_2X follows the device's temperature report (R343, R345). -/
def opDoubledRefresh (k : Fin 24) (on : Bool) (s : State) : State :=
  s.setCtl k { s.ctl k with refresh2x := on }

def execMemoryRead (src : Fin 8) (addr : BitVec 48) (dec : Dec) (s : State) : Host.Outcome State Fault Refusal :=
  done s (opMemoryRead src addr dec s)

def execMemoryWrite (src : Fin 8) (addr : BitVec 48) (data : Bytes) (en : BitVec 64) (poison : Bool) (dec : Dec)
    (s : State) : Host.Outcome State Fault Refusal := done s (opMemoryWrite src addr data en poison dec s)

def execMemoryScrub (k : Fin 24) (dec : Dec) (s : State) : Host.Outcome State Fault Refusal := done s (opMemoryScrub k dec s)

def execCeRateWindow (k : Fin 24) (s : State) : Host.Outcome State Fault Refusal := done s (opCeRateWindow k s)

def execMemTrainingDone (k : Fin 24) (ok : Bool) (s : State) : Host.Outcome State Fault Refusal :=
  done s (opMemTrainingDone k ok s)

def execMemPhyLockLost (k : Fin 24) (s : State) : Host.Outcome State Fault Refusal := done s (opMemPhyLockLost k s)

def execDoubledRefresh (k : Fin 24) (on : Bool) (s : State) : Host.Outcome State Fault Refusal :=
  done s (opDoubledRefresh k on s)

end Sys2Proof.Machine
end

