-- ==== Sys2Proof/Machine/Bar4.lean ====
section
/-!
DEFINITION. BAR4, the memory aperture of each PCIe function (R359, R360, R369, R370, R381): the segments, the judgement of
an access granule by granule, the completions of a read, and the reads that wait for a staged granule (R307).
-/
namespace Sys2Proof.Machine

/-- BAR4 size of function `f`, as its logarithm (R367). -/
def State.barLog (s : State) (f : Nat) : Nat := tget 36 f s.hif.bar4Log

/-- SEG_BASE f, i (R381). -/
def State.segBase (s : State) (f i : Nat) : Nat := (tget none (16 * f + i) s.hif.seg).getD (i * 2 ^ s.barLog f / 16)

/-- The module physical address that BAR4 offset `x` of function `f` reaches (R359). -/
def State.barAddr (s : State) (f x : Nat) : Nat :=
  let seg := 2 ^ s.barLog f / 16
  s.segBase f (x / seg) + x % seg

/-- The pieces of an access, one for each granule: address, bytes, and the completion that carries it. A completion ends at
each multiple of the maximum payload, 512 B (Table 13.1; DESIGN CHOICE, log 10). -/
def State.barPieces (s : State) (f off n : Nat) : List (Nat × Nat × Nat) :=
  (List.range (granSpan off n)).map (fun j =>
    let lo := max off (64 * (off / 64 + j))
    let hi := min (off + n) (64 * (off / 64 + j) + 64)
    (s.barAddr f lo, hi - lo, lo / 512))

/-- How a piece is judged: 0 it is made, 1 not permitted (R435), 2 not in tier-1 or tier-2 (R360), 3 its controller is not
ACTIVE (R370), or is disabled (R20, log 45). -/
def State.barJudge (s : State) (t a : Nat) (write : Bool) : Nat :=
  if !s.mayPhys t a write then 1
  else match regionOf a with
    | .ctl k => if (s.ctl k).st = .active && s.en (pgMem k) then 0 else 3
    | _ => 2

/-- What an access counts, once for each kind of judgement its pieces met. -/
def State.barReport (s : State) (t : Nat) (js : List Nat) : State :=
  let s := if js.contains 1 then s.violate t 2 else s
  let s := if js.contains 2 then s.countRaise (pgMem 0) 7 5 else s
  if js.contains 3 then s.countRaise pgHost 2 2 else s

/-- The reads of an access, piece by piece: the completion each belongs to, its bytes and its poison. -/
def State.barReads (s : State) (t : Nat) : List (Nat × Nat × Nat) → List Dec → List (Nat × Bytes × Bool) × State
  | [], _ => ([], s)
  | (a, n, c) :: ps, dec =>
    let r : (Bytes × Bool) × State :=
      if s.barJudge t a false = 0 then
        let g := s.gRead 2 (a / 64) (dec.headD .clean)
        (((g.1.1.drop (a % 64)).take n, g.1.2), g.2)
      else ((List.replicate n 0, false), s)
    let q := r.2.barReads t ps (dec.drop 1)
    ((c, r.1.1, r.1.2) :: q.1, q.2)

/-- One piece joins the completion that follows it when both belong to one: poisoned whole if either is (R369). -/
def cplAdd (p : Nat × Bytes × Bool) : List (Nat × Bytes × Bool) → List (Nat × Bytes × Bool)
  | [] => [p]
  | q :: l => if p.1 = q.1 then (q.1, p.2.1 ++ q.2.1, p.2.2 || q.2.2) :: l else p :: q :: l

/-- The completions of a read: data and EP (R369). -/
def completions (ps : List (Nat × Bytes × Bool)) : List (Bytes × Bool) := (ps.foldr cplAdd []).map (·.2)

/-- A read is served: its completions, each poisoned one counted in CNT3 with BAR4_POISON (R369). -/
def State.barServe (s : State) (f : Nat) (ps : List (Nat × Nat × Nat)) (dec : List Dec) : List (Bytes × Bool) × State :=
  let js := ps.map (fun p => s.barJudge f p.1 false)
  let r := s.barReads f ps dec
  let cs := completions r.1
  let n := (cs.filter (·.2)).length
  let s := r.2.barReport f js
  (cs, if n = 0 then s else (s.countN pgHost 3 n).raise pgHost 1)

/-- A committed staged write of one of the granules has not been applied (R307). -/
def State.barWaits (s : State) (ps : List (Nat × Nat × Nat)) : Bool :=
  s.fr.applying.any (fun w => ps.any (fun p => p.1 / 64 == w.addr))

/-- The reads that waited are served as soon as nothing of them waits, at the addresses of their arrival (R307, R381). -/
def State.barRelease (s : State) : State :=
  forL s.hif.barWait (fun w s =>
    if s.barWaits w.ps then { s with hif := { s.hif with barWait := s.hif.barWait ++ [w] } }
    else
      let r := s.barServe w.fn w.ps w.dec
      { r.2 with irq := { r.2.irq with cpl := r.2.irq.cpl ++ [(w.fn, r.1)] } })
    { s with hif := { s.hif with barWait := [] } }

/-- BAR4_READ. A read that waits keeps the addresses its segments gave it (R381). -/
def opBar4Read (fn : Fin 16) (off : BitVec 41) (len : BitVec 13) (dec : List Dec) (s : State) : State :=
  let f := fn.val
  if 2 ^ s.barLog f < off.toNat + len.toNat then s.answer (.cpl [(List.replicate len.toNat 0, false)])
  else
    let ps := s.barPieces f off.toNat len.toNat
    if s.barWaits ps then
      ({ s with hif := { s.hif with barWait := s.hif.barWait ++ [(⟨f, ps, dec⟩ : BarRead)] } }).answer .waits
    else
      let r := s.barServe f ps dec
      r.2.answer (.cpl r.1)

/-- The writes of an access, piece by piece; a byte whose enable is 0 is `none` (R360). -/
def State.barWrites (s : State) (t : Nat) : List (Nat × Nat × Nat) → List (Option Byte) → List Dec → State
  | [], _, _ => s
  | (a, n, _) :: ps, bs, dec =>
    let part := List.replicate (a % 64) none ++ bs.take n ++ List.replicate (64 - a % 64 - n) none
    let s := if s.barJudge t a true = 0 then s.gWrite 2 (a / 64) part false (dec.headD .clean) else s
    s.barWrites t ps (bs.drop n) (dec.drop 1)

/-- BAR4_WRITE: made to memory at once (R307, R360). -/
def opBar4Write (fn : Fin 16) (off : BitVec 41) (data : List (Option Byte)) (dec : List Dec) (s : State) : State :=
  let f := fn.val
  if 2 ^ s.barLog f < off.toNat + data.length then s
  else
    let ps := s.barPieces f off.toNat data.length
    let js := ps.map (fun p => s.barJudge f p.1 true)
    (s.barWrites f ps data dec).barReport f js

def execBar4Read (fn : Fin 16) (off : BitVec 41) (len : BitVec 13) (dec : List Dec) (s : State) :
    Host.Outcome State Fault Refusal := done s (opBar4Read fn off len dec s)
def execBar4Write (fn : Fin 16) (off : BitVec 41) (data : List (Option (BitVec 8))) (dec : List Dec) (s : State) :
    Host.Outcome State Fault Refusal := done s (opBar4Write fn off data dec s)

end Sys2Proof.Machine
end

