-- ==== Sys2Proof/Machine/Veto.lean ====
section
/-!
DEFINITION. Frame faults, vetoes, undo entries and the event log (chapter Faults, veto and replay), and the parts of the
links that carry vetoes and other Control messages.
-/
namespace Sys2Proof.Machine

/-! ### Links as senders of Control messages -/

/-- Link `l`. -/
def State.lnk (s : State) (l : Nat) : LinkS := tget {} l s.link

/-- Update link `l`. -/
def State.setLnk (s : State) (l : Nat) (x : LinkS) : State := { s with link := tset {} l x s.link }

/-- The link carries Control messages (R332): ACTIVE or RESYNC. -/
def LinkS.carries (x : LinkS) : Bool := decide (x.st = .active) || decide (x.st = .resync)

/-- Fill a Control message to its 16 bytes. -/
def ctlPad (b : Bytes) : Bytes := (b ++ List.replicate 16 0).take 16

/-- A Control message waits on link `l` (R320). -/
def State.sendCtl (s : State) (l : Nat) (m : Bytes) : State :=
  let x := s.lnk l
  s.setLnk l { x with ctl := x.ctl ++ [ctlPad m] }

/-- A VETO message (Table 11.5). -/
def vetoMsg (origin hops frame : Nat) : Bytes :=
  leBytes 1 2 ++ leBytes 1 0 ++ leBytes 2 (origin % 1024) ++ leBytes 1 hops ++ List.replicate 3 0 ++ leBytes 8 frame

/-- Send a message on every link in ACTIVE or RESYNC but `except`. -/
def State.flood (s : State) (except : Option Nat) (m : Bytes) : State :=
  forN 36 (fun l s => if (s.lnk l).carries && except != some l then s.sendCtl l m else s) s

/-- The module's own device number (R379). -/
def State.devNum (s : State) : Nat := fld (s.reg pgDev 0x50) 9 0

/-! ### The event log (R426, R427) -/

/-- Write an event-log entry from page `p`. -/
def State.log (s : State) (p code cls detail : Nat) : State :=
  if s.rg.logOn then
    let i := s.rg.logHead
    let e := leBytes 8 s.mg.time ++ leBytes 8 s.fr.num ++ leBytes 2 (typeOf p) ++ leBytes 2 (instOf p) ++ leBytes 1 code
      ++ leBytes 1 cls ++ leBytes 2 i ++ leBytes 8 detail
    let s := s.engWrite 7 (s.rg.logBase + 32 * (i % 2 ^ s.rg.logLog2)) e
    { s with rg := { s.rg with logHead := (i + 1) % 2 ^ 32 } }.count pgReg 9
  else s

/-- A page's STAT.FAULT becomes 1 through event `bit` (code 8); `was` tells that it was 1 already. -/
def State.faultLog (s : State) (was : Bool) (p bit : Nat) : State := if was then s else s.log p 8 0 bit

/-! ### Undo entries (R409 to R413) -/

/-- The bytes a record occupies, padded to a multiple of 64. -/
def Rec.span (r : Rec) : Nat := (r.bytes + 63) / 64 * 64

/-- The size of the registry area in bytes (R409). -/
def State.regArea (s : State) : Nat := 65536 * s.reg pgReg 0x48

/-- The bytes of the area in use. -/
def State.regUsed (s : State) : Nat := (s.rg.recs.map Rec.span).sum

/-- Write bytes of a record at offset `x` of the area, in ring order; granules begun are zeroed, marks cleared. -/
def State.regPut (s : State) (x : Nat) (bs : Bytes) : State :=
  let base := s.reg64 pgReg 0x40
  let size := s.regArea
  let put (s : State) (i : Nat) (b : Byte) : State :=
    let a := base + (x + i) % (max size 1)
    let m := if a % 64 = 0 then (s.mem.write a (List.replicate 64 0)).heal (a / 64) else s.mem
    { s with mem := (m.put a b).setMark (a / 64) false }
  forL (bs.zipIdx) (fun e s => put s e.2 e.1) s

/-- A record's header (Table 15.4). -/
def Rec.header (r : Rec) : Bytes :=
  let h := leBytes 2 0x7E61 ++ leBytes 1 1 ++ leBytes 1 0 ++ leBytes 4 r.undo.length ++ leBytes 8 r.frame
    ++ leBytes 8 r.startTick ++ leBytes 6 r.dir ++ leBytes 2 r.cycle ++ leBytes 2 r.len
    ++ leBytes 1 (r.lag + 16 * r.reLog) ++ leBytes 1 (r.replays + 8 * b2n r.replay) ++ leBytes 4 r.bytes
    ++ List.replicate 20 0
  h ++ leBytes 4 (crc32c h).toNat

/-- An undo entry's bytes (Tables 15.5, 15.6). -/
def Undo.toBytes (u : Undo) : Bytes :=
  leBytes 8 (u.kind + 16 * u.word + 256 * u.id) ++ leBytes 8 u.val ++ (if u.kind = 6 then (u.env ++ List.replicate 64 0).take 64 else [])

/-- The length of an undo entry (R412). -/
def Undo.len (u : Undo) : Nat := if u.kind = 6 then 80 else 16

/-- The header is rewritten over the record's first 64 bytes. -/
def State.regHeader (s : State) (r : Rec) : State :=
  let h := r.header
  let base := s.reg64 pgReg 0x40
  { s with mem := s.mem.write (base + r.off % (max s.regArea 1)) h }

/-- Refresh PEAK (REG_STAT). -/
def State.regPeak (s : State) : State := { s with rg := { s.rg with peak := max s.rg.peak s.regUsed } }

/-! ### Frame faults and vetoes -/

/-- The frame state is FREE or LOCKED. -/
def State.running (s : State) : Bool := decide (s.fr.st = .free) || decide (s.fr.st = .locked)

/-- Discard what a pending frame has staged and held: its staged writes are dropped, its held completions discarded
(R268, R305, R307), and the discard counts in CNT8. -/
def State.discardFrame (s : State) (f : Nat) : State :=
  if s.fr.disc.contains f then s
  else
    { s with
      fr := { s.fr with disc := f :: s.fr.disc, buf := s.fr.buf.filter (fun w => w.frame != f),
                        faulted := s.fr.faulted.filter (· != f) }
      q := { s.q with hold := s.q.hold.filter (fun h => h.entered != f) } }.count pgFrame 8

/-- Discard every pending frame from `g` on: those that have ended and have not committed, at most LAG + 1 (Table 10.9). None
is pending in ACQUIRE, in RESYNC or in the restore frame. -/
def State.discardFrom (s : State) (g : Nat) : State :=
  let lo := max (max g s.fr.comNext) (s.fr.num - 16)
  if s.running && s.rg.echo.isNone then forN (s.fr.num - lo) (fun i s => s.discardFrame (lo + i)) s else s

/-- A frame number the module has committed. -/
def State.isCommitted (s : State) (g : Nat) : Bool := decide (g < s.fr.comNext)

/-- A veto is acted on (R405): pending covered frames are discarded; in FREE or LOCKED the restore boundary is the end of
g + LAG, or of an earlier frame's when a veto for it comes (R407 otherwise). -/
def State.actVeto (s : State) (v : Veto) : State :=
  let s := s.countRaise pgReg 3 1
  let s := s.discardFrom v.g
  if s.running then
    match s.rg.pend with
    | some w => if v.g < w.g then { s with rg := { s.rg with pend := some v } } else s
    | none => { s with rg := { s.rg with pend := some v } }
  else s

/-- The module holds vetoed frame number `g` (R338). -/
def State.vetoKnown (s : State) (g : Nat) : Bool := s.rg.held.any (fun h => h.1 == g)

/-- Keep a vetoed frame number from the current frame on. -/
def State.holdVeto (s : State) (g : Nat) : State :=
  if s.vetoKnown g then s else { s with rg := { s.rg with held := s.rg.held ++ [(g, s.fr.num)] } }

/-- The module already holds a veto for a frame h ≤ g not yet restored (R404). -/
def State.vetoCovers (s : State) (g : Nat) : Bool :=
  match s.rg.pend with
  | some w => decide (w.g ≤ g)
  | none => s.rg.held.any (fun h => decide (h.1 ≤ g) && !s.isCommitted h.1 && !s.running)

/-- Declare a veto for frame `g` and act on it as on one received (R404, R337); for a committed frame it is late (R408). -/
def State.declareVeto (s : State) (g : Nat) : State :=
  if s.vetoCovers g then s
  else
    let s := s.countRaise pgReg 2 0
    let s := s.log pgReg 2 3 (g % 2 ^ 32)
    let s := (s.holdVeto g).flood none (vetoMsg s.devNum 0 g)
    if s.isCommitted g then (s.countRaise pgReg 5 5).log pgReg 5 3 (g % 2 ^ 32 + s.devNum * 2 ^ 32)
    else s.actVeto ⟨g, true, s.devNum⟩

/-- A frame fault of source `src` (Table 15.2) is charged to frame `g`. -/
def State.frameFault (s : State) (src g : Nat) : State :=
  let was := !s.fr.faulted.isEmpty
  let s := s.raise pgFrame 1
  let s := if s.fr.charged.contains g then s
    else { s with fr := { s.fr with charged := g :: s.fr.charged } }.count pgFrame 2
  let s := if s.isCommitted g || s.fr.faulted.contains g || s.fr.disc.contains g then s
    else (State.faultLog { s with fr := { s.fr with faulted := g :: s.fr.faulted } } was pgFrame 1)
  let s := s.log pgFrame 1 3 (g % 2 ^ 32 + src * 2 ^ 32)
  s.declareVeto g

/-- The module halts (R415, R418): EN is cleared and HALTED comes at the next frame boundary. -/
def State.regHalt (s : State) (g cause : Nat) : State :=
  let was := s.rg.fault
  let s := s.setReg pgFrame 0x10 0
  let s := { s with fr := { s.fr with haltDue := true }, rg := { s.rg with fault := true } }
  let s := (s.countRaise pgReg 6 3).faultLog was pgReg 3
  s.log pgReg 6 3 (g % 2 ^ 32 + cause * 2 ^ 32)

/-- The record of the current frame, the newest one. -/
def State.curRec (s : State) : Option Rec :=
  match s.rg.recs.getLast? with
  | some r => if r.frame = s.fr.num && !s.rg.restoring then some r else none
  | none => none

/-- A record already holds the item's value at its opening. -/
def Rec.has (r : Rec) (kind word id : Nat) : Bool :=
  r.undo.any (fun u => u.live && u.kind == kind && u.word == word && u.id == id)

/-- A ring slot is known by its queue and position. -/
def Rec.hasSlot (r : Rec) (qid pos : Nat) : Bool :=
  r.undo.any (fun u => u.live && u.kind == 6 && u.id == qid && u.val == pos)

/-- Append an undo entry to the current record, or fault the frame when there is no room (R413). -/
def State.append (s : State) (u : Undo) : State :=
  match s.curRec with
  | none => s
  | some r =>
    let r' : Rec := { r with bytes := r.bytes + u.len, undo := r.undo ++ [u] }
    if s.regUsed - r.span + r'.span ≤ s.regArea then
      let s := s.regPut (r.off + r.bytes) u.toBytes
      let s := { s with rg := { s.rg with recs := s.rg.recs.dropLast ++ [r'] } }
      (s.regHeader r').regPeak
    else
      let s := (s.countRaise pgReg 7 4).log pgReg 7 3 (s.fr.num % 2 ^ 32)
      s.frameFault 13 s.fr.num

/-- The first change to an item of Table 15.3 appends one undo entry with its value at the opening (R409). -/
def State.undo (s : State) (kind word id val : Nat) : State :=
  match s.curRec with
  | none => s
  | some r => if r.has kind word id then s else s.append ⟨kind, word, id, val, [], false, true⟩

/-- The same for a ring slot the queue engine is about to rewrite. -/
def State.undoSlot (s : State) (qid pos : Nat) (env : Bytes) (pois : Bool) : State :=
  match s.curRec with
  | none => s
  | some r => if r.hasSlot qid pos then s else s.append ⟨6, 0, qid, pos, env, pois, true⟩

/-- A register write removes the item's undo entries from every held record: they stay as written and are not applied
(R410). -/
def State.forget (s : State) (kind id : Nat) : State :=
  let f (u : Undo) : Undo := if u.kind = kind && u.id = id then { u with live := false } else u
  { s with rg := { s.rg with recs := s.rg.recs.map (fun r => { r with undo := r.undo.map f }) } }

/-! ### Staged writes (R307, R308) -/

/-- An enabled commit window in force contains the address. -/
def State.inWindow (s : State) (a : Nat) : Bool :=
  s.fr.wins.any (fun w => w.2.on && decide (w.2.base ≤ a) && decide (a < w.2.base + 4096 * w.2.size))

/-- A granule write by a stream engine, a VSU lane or a link receive: staged in the commit buffer inside an enabled
window, made to memory elsewhere; a full buffer is a frame fault (R307, R308). -/
def State.stageWrite (s : State) (src g : Nat) (data : List (Option Byte)) (poison : Bool) : State :=
  if s.inWindow (64 * g) then
    if s.fr.buf.length + s.fr.applying.length < 131072 then
      { s with fr := { s.fr with buf := s.fr.buf ++ [⟨s.fr.num, g, data, poison, src, 0⟩] } }
    else (s.raise pgFrame 7).frameFault 5 s.fr.num
  else s.gWrite src g data poison .clean

/-- Another agent has written this byte in this frame, and one of the two is a stream (R230). -/
def State.clash (s : State) (agent a : Nat) : Bool :=
  s.stm.wrote.any (fun w => w.1 != agent && (decide (w.1 < 4096) || decide (agent < 4096)) && decide (w.2.1 = a / 64) &&
    w.2.2.1.getD (a % 64) false)

/-- The bytes of a granule write as they come to memory: a byte that another agent has written in this frame is undefined, a
free value (R230, log 61). The write is noted for the rest of the frame. -/
def State.contest (s : State) (agent g : Nat) (data : List (Option Byte)) : List (Option Byte) × State :=
  let at' (i : Nat) : Bool := s.clash agent (64 * g + i)
  let n := if (List.range data.length).any at' then data.length else 0
  let data' := if n = 0 then data else data.zipIdx.map (fun b =>
    if at' b.2 then b.1.map (fun _ => BitVec.ofNat 8 (Config.free (s.freeCtr + b.2))) else b.1)
  if s.fr.st = .halted then (data, s)
  else (data', { s with freeCtr := s.freeCtr + n, stm := { s.stm with wrote := s.stm.wrote ++ [(agent, g, data.map Option.isSome, s.cntLive pgQueue 8)] } })

/-- The bytes of granule `g` as `agent` reads them: one that another agent has written in this frame, with no sync-cell
operation executed since, is not ordered through a cell, and is undefined, a free value (R143, R230, log 61). A commit window
shows memory as it stands (R307). -/
def State.unsynced (s : State) (agent g : Nat) (bs : Bytes) : Bytes × State :=
  let ws := if s.inWindow (64 * g) then [] else
    s.stm.wrote.filter (fun w => w.1 != agent && w.2.1 == g && w.2.2.2 == s.cntLive pgQueue 8)
  if ws.isEmpty then (bs, s)
  else (bs.zipIdx.map (fun b =>
      if ws.any (fun w => w.2.2.1.getD b.2 false) then BitVec.ofNat 8 (Config.free (s.freeCtr + b.2)) else b.1),
    { s with freeCtr := s.freeCtr + bs.length })

/-- A granule write by stream `agent` or lane `agent` − 4,096. -/
def State.agentWrite (s : State) (agent src g : Nat) (data : List (Option Byte)) (poison : Bool) : State :=
  let r := s.contest agent g data
  r.2.stageWrite src g r.1 poison

end Sys2Proof.Machine
end

