-- ==== Sys2Proof/Machine/Sync.lean ====
section
/-!
DEFINITION. Sync cells, watches and waits (R273 to R277).
-/
namespace Sys2Proof.Machine

/-- The value of cell `c`. -/
def State.cell (s : State) (c : Nat) : Nat := tget 0 c s.sy.cells

/-- A watch on cell `c` fires: freed by the caller, pushed unless the FIFO is full, counted and raised (R277). -/
def State.fireWatch (s : State) (c : Nat) : State :=
  let s := s.countRaise pgQueue 9 5
  if s.sy.fifo.length < 1024 then { s with sy := { s.sy with fifo := s.sy.fifo ++ [c] } }
  else ({ s with sy := { s.sy with ovf := true } }).countRaise pgQueue 10 9

/-- A part of an action in progress has completed (R298). -/
def State.finishPart (s : State) (frame idx part : Nat) : State :=
  let f (a : Act) : Act := if a.frame = frame && a.idx = idx then { a with parts := a.parts.filter (· != part) } else a
  { s with fr := { s.fr with acts := s.fr.acts.map f } }

/-- Every change of a cell's value is judged by its armed watches and the waits in progress (R277). -/
def State.judgeCell (s : State) (c : Nat) : State :=
  let v := s.cell c
  let fires := s.sy.watches.filter (fun w => w.1 == c && decide (w.2 ≤ v))
  let s := { s with sy := { s.sy with watches := s.sy.watches.filter (fun w => !(w.1 == c && decide (w.2 ≤ v))) } }
  let s := forL fires (fun _ s => s.fireWatch c) s
  let met := s.sy.waits.filter (fun w => w.cell == c && decide (w.imm ≤ v))
  let s := { s with sy := { s.sy with waits := s.sy.waits.filter (fun w => !(w.cell == c && decide (w.imm ≤ v))) } }
  forL met (fun w s => s.finishPart w.frame w.idx 0) s

/-- Set a cell's value, with its undo entry, and judge the change. -/
def State.setCell (s : State) (c v : Nat) : State :=
  let s := s.undo 2 0 c (s.cell c)
  let s := { s with sy := { s.sy with cells := tset 0 c (v % 2 ^ 64) s.sy.cells } }
  s.judgeCell c

/-- One sync-cell operation is executed: it counts in CNT8 from every source (R275, Table 9.8). -/
def State.addCell (s : State) (c : Nat) (n : Int) : State :=
  (s.count pgQueue 8).setCell c (untwos 64 (Int.ofNat (s.cell c) + n))

/-- The fields of an operation word (Table 9.5). -/
def opCode (w : Nat) : Nat := fld w 2 0
def opCell (w : Nat) : Nat := fld w 15 3
def opImm (w : Nat) : Nat := fld w 63 24

/-- The range of an ADMIT or RELEASE: first QID and count (Table 9.6). -/
def opFirst (w : Nat) : Nat := fld (opImm w) 17 0
def opCount (w : Nat) : Nat := fld (opImm w) 39 18

/-- The word is valid (Table 9.6, notes): OP 7 is invalid, so is an empty range or one that passes QID 262,143, and cell 0
cannot be named by ADMIT but for none. -/
def opValid (w : Nat) : Bool :=
  decide (opCode w ≠ 7) &&
    (if 5 ≤ opCode w then decide (0 < opCount w) && decide (opFirst w + opCount w ≤ 262144) else true)

/-- Arm a watch: refused when 1,024 are armed; fires at once if the condition holds (R277, Table 9.6). -/
def State.armWatch (s : State) (c imm : Nat) : State :=
  let s := s.count pgQueue 8
  if imm ≤ s.cell c then s.fireWatch c
  else { s with sy := { s.sy with watches := s.sy.watches ++ [(c, imm)] } }

/-- The results of the last operation of a path (R279). -/
def State.syncRes (s : State) (p : Path) (met refused : Bool) (old : Nat) : State :=
  { s with hif := { s.hif with met := tset false (pathIx p) met s.hif.met,
                               refused := tset false (pathIx p) refused s.hif.refused,
                               old := tset 0 (pathIx p) old s.hif.old } }

/-- An operation word issued through SYNC_OP on path `p` (R274): ADMIT, RELEASE and OP 7 are refused; a cell of another
tenant is a violation and its results read 0 (R436); ADD, SET and a CAS that swaps remove the cell's undo entries
(R410). -/
def State.syncReg (s : State) (p : Path) (w : Nat) : State :=
  let c := opCell w
  let imm := opImm w
  let v := s.cell c
  if 5 ≤ opCode w then s.syncRes p false true 0
  else if s.mayPathCell p c then
    match opCode w with
    | 0 => ((s.addCell c (sext 40 imm)).forget 2 c).syncRes p false false v
    | 1 => (((s.count pgQueue 8).setCell c imm).forget 2 c).syncRes p false false v
    | 2 =>
      if v = fld imm 19 0 then (((s.count pgQueue 8).setCell c (fld imm 39 20)).forget 2 c).syncRes p true false v
      else (s.count pgQueue 8).syncRes p false false v
    | 3 => (s.count pgQueue 8).syncRes p (decide (imm ≤ v)) false v
    | _ =>
      if s.sy.watches.length < 1024 then (s.armWatch c imm).syncRes p false false v
      else (s.raise pgQueue 6).syncRes p false true 0
  else (s.deny p pgQueue).syncRes p false false 0

/-- An operation word of a frame-plan action, ADMIT and RELEASE apart: the state, the parts of the action still to complete,
and whether it never completes, as an ARM that finds no free watch (Table 9.6, R277). `frame` and `idx` name the action. -/
def State.syncPlan (s : State) (w frame idx : Nat) : State × List Nat × Bool :=
  let c := opCell w
  let imm := opImm w
  match opCode w with
  | 0 => (s.addCell c (sext 40 imm), [], false)
  | 1 => ((s.count pgQueue 8).setCell c imm, [], false)
  | 2 => (if s.cell c = fld imm 19 0 then (s.count pgQueue 8).setCell c (fld imm 39 20) else s.count pgQueue 8, [], false)
  | 3 =>
    let s := s.count pgQueue 8
    if imm ≤ s.cell c then (s, [], false)
    else ({ s with sy := { s.sy with waits := s.sy.waits ++ [⟨frame, idx, c, imm⟩] } }, [0], false)
  | _ =>
    if s.sy.watches.length < 1024 then (s.armWatch c imm, [], false) else (s.raise pgQueue 6, [], true)

/-- SYNC_CELL_WRITE: a write of a cell through BAR0 sets its whole value, counts in CNT8 and removes its undo entries
from held records (R273, R410); a cell of another tenant is a violation of source 0. -/
def opSyncCellWrite (p : Path) (cell : Fin 8192) (val : BitVec 64) (s : State) : State :=
  if s.mayPathCell p cell.val then ((s.count pgQueue 8).setCell cell.val val.toNat).forget 2 cell.val
  else s.deny p pgQueue

/-- WATCH_POP: a read removes and returns the head entry; OVERFLOW clears when it finds the FIFO empty; a debug read
removes nothing (R277, R442). -/
def opWatchPop (p : Path) (s : State) : State :=
  if s.mayPathR p pgQueue then
    match s.sy.fifo with
    | [] =>
      (if p = .debug then s else { s with sy := { s.sy with ovf := false } }).answer (.word 0)
    | c :: r => (if p = .debug then s else { s with sy := { s.sy with fifo := r } }).answer (.word (2 ^ 31 + c))
  else (s.denyR p pgQueue).answer (.word 0)

def execSyncCellWrite (p : Path) (cell : Fin 8192) (val : BitVec 64) (s : State) : Host.Outcome State Fault Refusal :=
  done s (opSyncCellWrite p cell val s)

def execWatchPop (p : Path) (s : State) : Host.Outcome State Fault Refusal := done s (opWatchPop p s)

end Sys2Proof.Machine
end

