-- ==== Sys2Proof/Machine/Queue.lean ====
section
/-!
DEFINITION. Pigeonholes and envelopes (R243 to R272): doorbells, posting, admission, diversion, consumption, held
descriptor writes, and the check-value units bound to queues (R239, R240).
-/
namespace Sys2Proof.Machine

/-! ### Positions and envelopes -/

/-- The distance from position `a` to position `b`, modulo 2^21 (R244). -/
def posDiff (b a : Nat) : Nat := (b + 2 ^ 21 - a % 2 ^ 21) % 2 ^ 21

/-- The address of position `x` of a queue (R244, R245). -/
def State.slotAddr (s : State) (d : QDesc) (x : Nat) : Nat :=
  s.reg pgQueue 0x40 * 2 ^ 34 + d.base * 4096 + 64 * (x % 2 ^ d.log2sz)

/-- The first and second word of an envelope (Table 9.2). -/
def envW0 (e : Bytes) : Nat := leNat (e.take 8)
def envW1 (e : Bytes) : Nat := leNat ((e.drop 8).take 8)

/-- An envelope with its first two words replaced. -/
def envWith (e : Bytes) (w0 w1 : Nat) : Bytes := leBytes 8 w0 ++ leBytes 8 w1 ++ e.drop 16

/-- The engine's stamp on entry: TENANT, ORIG_QID, POISONED and POSTED_FRAME written; ALIVE, DEFERRED and DIVERTED 0;
reserved bits 0 (R247). -/
def stampEnv (e : Bytes) (tenant q frame : Nat) (pois : Bool) : Bytes :=
  envWith e (envW0 e % 16 + tenant * 2 ^ 4 + b2n pois * 2 ^ 18 + q * 2 ^ 32)
    (envW1 e % 2 ^ 32 + frame % 2 ^ 32 * 2 ^ 32)

/-- The stamp of a diversion: DIVERTED = 1 (R259). -/
def stampDiverted (e : Bytes) : Bytes := envWith e (setFld (envW0 e) 17 17 1) (envW1 e)

/-- The stamps of admission: ALIVE and DEFERRED (R257). -/
def stampAdmit (e : Bytes) (admPos frame : Nat) : Bytes :=
  envWith e (setFld (setFld (envW0 e) 15 8 (admPos % 256)) 16 16 (b2n (decide (envW1 e / 2 ^ 32 ≠ frame % 2 ^ 32)))) (envW1 e)

/-- The admission key of ORDER = 1 (R256): POSTED_FRAME by signed difference to the current frame, SEQ, bytes 16-63. -/
def envKey (cur : Nat) (e : Bytes) : Nat :=
  (envW1 e / 2 ^ 32 + 2 ^ 31 + 2 ^ 32 - cur % 2 ^ 32) % 2 ^ 32 * 2 ^ 416 + envW1 e % 2 ^ 32 * 2 ^ 384 + leNat (e.drop 16)

/-- Insert by key, after equal keys. -/
def insKey {α : Type} (k : α → Nat) (x : α) : List α → List α
  | [] => [x]
  | y :: ys => if k x < k y then x :: y :: ys else y :: insKey k x ys

/-- Stable sort by key. -/
def sortKey {α : Type} (k : α → Nat) : List α → List α
  | [] => []
  | x :: xs =>
    let rec go : List α → List α → List α
      | [], acc => acc
      | y :: ys, acc => go ys (insKey k y acc)
    go (x :: xs) []

/-- The envelope at a position, and its mark, read by the queue engine. -/
def State.envAt (s : State) (d : QDesc) (x : Nat) : (Bytes × Bool) × State := s.gRead 7 (s.slotAddr d x / 64) .clean

/-- The envelopes at `n` positions from `x`. -/
def State.envsAt (s : State) (d : QDesc) (x : Nat) : Nat → List (Bytes × Bool) × State
  | 0 => ([], s)
  | n + 1 =>
    let r := s.envAt d x
    let q := r.2.envsAt d ((x + 1) % 2 ^ 21) n
    (r.1 :: q.1, q.2)

/-- TAIL of queue `q` at the opening of the current record. -/
def State.openTail (s : State) (q : Nat) : Nat :=
  match s.curRec with
  | none => (s.qd q).tail
  | some r =>
    match r.undo.find? (fun u => u.live && u.kind == 1 && u.word == 1 && u.id == q) with
    | some u => fld u.val 41 21
    | none => (s.qd q).tail

/-- Write an envelope into its slot; a slot below the opening TAIL that changes gets an undo entry (Table 15.3). -/
def State.putEnv (s : State) (q : Nat) (d : QDesc) (x : Nat) (e : Bytes) (pois : Bool) : State :=
  let a := s.slotAddr d x
  let old := s.granBytes (a / 64)
  let below := decide (0 < posDiff (s.openTail q) x) && decide (posDiff (s.openTail q) x ≤ 2 ^ 20)
  let s := if d.kind = 1 && below && (old != e || s.mem.mark (a / 64) != pois)
    then s.undoSlot q x old (s.mem.mark (a / 64)) else s
  s.gWrite 7 (a / 64) (e.map some) pois .clean

/-- Write envelopes into consecutive slots. -/
def State.putEnvs (s : State) (q : Nat) (d : QDesc) (x : Nat) : List (Bytes × Bool) → State
  | [] => s
  | e :: es => (s.putEnv q d x e.1 e.2).putEnvs q d ((x + 1) % 2 ^ 21) es

/-- Change a descriptor in force, with the undo entries of the halves that change (KIND 1 and 2; Table 15.3). -/
def State.moveQd (s : State) (q : Nat) (d : QDesc) : State :=
  let o := s.qd q
  let rec1 := o.kind = 1 || o.kind = 2
  let s := if rec1 && o.q0 != d.q0 then s.undo 1 0 q o.q0 else s
  let s := if rec1 && o.q1 != d.q1 then s.undo 1 1 q o.q1 else s
  s.setQd q d

/-! ### The hold store -/

/-- STAT.HOLD_HIGH (R266). -/
def State.holdHigh (s : State) : Bool := decide (49152 < s.q.hold.length)

/-- Put an envelope into the hold store, raising HOLD_HIGH when it becomes so (R266). -/
def State.holdEnv (s : State) (q : Nat) (e : Bytes) (pois : Bool) : State :=
  let was := s.holdHigh
  let s := { s with q := { s.q with hold := s.q.hold ++ [⟨q, s.fr.num, e, pois⟩] } }
  if s.holdHigh && !was then s.raise pgQueue 7 else s

/-! ### Posting (R248 to R250) -/

/-- An exact-class queue fault of the current frame: QUEUE_FAULT, STAT.FAULT, source 11 (R249, R250). -/
def State.queueFault (s : State) : State :=
  let was := s.q.fault
  let s := (s.raise pgQueue 4).faultLog was pgQueue 4
  { s with q := { s.q with fault := true } }.frameFault 11 s.fr.num

/-- POST an envelope to a queue of KIND 1 or 3, for tenant `t`. A queue of another tenant is a violation of source 5 and
stores nothing (R436); an envelope that finds no room, or the engine disabled, is not stored (R249, R516). -/
def State.postEnv (s : State) (t q : Nat) (e : Bytes) (pois : Bool) : State :=
  let d := s.qd q
  if !s.mayQueue t q then s.violate t 5
  else
    let full := if d.kind = 1 then decide (2 ^ d.log2sz ≤ posDiff d.tail d.head) else decide (65536 ≤ s.q.hold.length)
    if !s.en pgQueue || full then (s.count pgQueue 7).queueFault
    else
      let e := stampEnv e d.tenant q s.fr.num pois
      let s := s.count pgQueue 0
      let s := if d.kind = 1 then (s.putEnv q d d.tail e pois).moveQd q { d with tail := (d.tail + 1) % 2 ^ 21 }
        else s.holdEnv q e pois
      if pois && d.cls = 0 then s.queueFault else s

/-! ### Check-value units bound to queues (R239, R240) -/

/-- RUNNING after bytes: CRC-32C in the low half, or CRC-64 (Table 8.8). -/
def crcRunning (poly run : Nat) (bs : Bytes) : Nat :=
  if poly = 0 then (crc32cRun (BitVec.ofNat 32 run) bs).toNat else (crc64Run (BitVec.ofNat 64 run) bs).toNat

/-- Record RUNNING of a unit that was bound when the current record opened (Table 15.3). -/
def State.undoUnit (s : State) (u : Nat) : State :=
  match s.curRec with
  | none => s
  | some r => if r.units.contains u then s.undo 5 0 u (s.reg64 (pgCheck u) 0x48) else s

/-- Unit `u` covers bytes: RUNNING moves on, with its undo entry, and CNT0 counts the bytes. -/
def State.coverBytes (s : State) (u : Nat) (bs : Bytes) : State :=
  let p := pgCheck u
  let run := s.reg64 p 0x48
  let s := s.undoUnit u
  (s.setReg64 p 0x48 (crcRunning (s.reg p 0x40 % 2) run bs)).countN p 0 bs.length

/-- Unit `u` is bound to queue `q` (R239). -/
def State.unitOnQueue (s : State) (u q : Nat) : Bool :=
  s.en (pgCheck u) && bitOf (s.reg (pgCheck u) 0x40) 1 && decide (fld (s.reg (pgCheck u) 0x40) 31 14 = q)
    && decide (tget none u s.chk = none)

/-- Unit `u` judges the alive counter with distance `d` (R240) and covers the envelope; a repeat is not covered again
(R423). -/
def State.unitTakes (s : State) (u d : Nat) (e : Bytes) : State :=
  let p := pgCheck u
  if bitOf (s.reg p 0x40) 2 then
    if d = 0 then s.coverBytes u e
    else if 128 ≤ d then s.countRaise p 3 1
    else (s.countRaise p 4 2).coverBytes u e
  else s.coverBytes u e

/-- The check-value units take an envelope as it is consumed from queue `q`; the expected alive counter of the descriptor
is judged and moved once. -/
def State.checkEnv (s : State) (q : Nat) (e : Bytes) : State :=
  let d := s.qd q
  let alive := fld (envW0 e) 15 8
  let dist := (alive + 256 - d.alive) % 256
  let units := (List.range 32).filter (fun u => s.unitOnQueue u q)
  let judged := units.any (fun u => bitOf (s.reg (pgCheck u) 0x40) 2)
  let s := forL units (fun u s => s.unitTakes u dist e) s
  if judged && decide (dist < 128) then
    let d := s.qd q
    s.moveQd q { d with alive := (alive + 1) % 256 }
  else s

/-- The memory of the rings is out of standby, or no queue has a ring (R348, R357). -/
def State.qmemAwake (s : State) : Bool := s.q.desc.isEmpty || s.rangeAwake (s.reg pgQueue 0x40 * 2 ^ 34) 2048

/-- Consume the oldest admitted envelope of queue `q`, when there is one, the queue is not disabled, its memory answers and
the engine is enabled (R246, R269, R357, R516). -/
def State.consume (s : State) (q : Nat) : Option (Bytes × Bool) × State :=
  let d := s.qd q
  if d.kind = 0 || posDiff d.admPos d.head = 0 || !s.en pgQueue || !s.qmemAwake then (none, s)
  else
    let r := s.envAt d d.head
    let s := r.2.checkEnv q r.1.1
    let d := s.qd q
    (some r.1, s.moveQd q { d with head := (d.head + 1) % 2 ^ 21 })

/-- Consume `n` envelopes, discarding what they hold (RELEASE, host). -/
def State.consumeN (s : State) (q : Nat) : Nat → State
  | 0 => s
  | n + 1 => (s.consume q).2.consumeN q n

/-! ### Admission and diversion (R255 to R260) -/

/-- A pending or held envelope during an admission point: the envelope, its mark, and whether it is eligible. -/
structure Cand where
  env : Bytes
  pois : Bool
  elig : Bool
  /-- the frame in which a held envelope entered -/
  ent : Nat
  /-- its place in position order -/
  ix : Nat
  deriving DecidableEq, Repr

/-- The posted frame has committed (R255). -/
def State.postedCommitted (s : State) (e : Bytes) : Bool :=
  decide (0 < s.fr.comNext) && decide ((s.fr.comNext - 1 + 2 ^ 32 - envW1 e / 2 ^ 32 % 2 ^ 32) % 2 ^ 32 < 2 ^ 31)

/-- The profile fields (R279). -/
def profLimit (p : Nat) : Nat := fld p 19 0
def profOrder (p : Nat) : Bool := bitOf p 20
def profDlEn (p : Nat) : Bool := bitOf p 21
def profDepth (p : Nat) : Nat := fld p 44 24
def profDlq (p : Nat) : Nat := fld p 63 46

/-- The unadmitted envelopes of queue `q` in position order; `fresh` and newly diverted ones are not eligible, nor a held one
before the staged writes of its frame are in memory (R307). -/
def State.cands (s : State) (q : Nat) (late : Nat) : List Cand × State :=
  let d := s.qd q
  if d.kind = 3 then
    let hs := s.q.hold.filter (fun h => h.qid == q)
    (hs.zipIdx.map (fun h => ⟨h.1.env, h.1.pois, s.postedCommitted h.1.env && s.fr.applying.isEmpty && decide (h.2 + late < hs.length), h.1.entered, h.2⟩), s)
  else
    let n := posDiff d.tail d.admPos - tget 0 q s.q.fresh
    let r := s.envsAt d d.admPos n
    (r.1.zipIdx.map (fun e => ⟨e.1.1, e.1.2, decide (e.2 + late < n), 0, e.2⟩), r.2)

/-- How many of `n` eligible envelopes have room: LIMIT less what the frame has admitted, and for KIND 3 the ring's room
(R257). -/
def State.roomFor (s : State) (q n : Nat) : Nat :=
  let d := s.qd q
  let p := tget 0 d.profile s.q.prof
  let m := if profLimit p = 0 then n else min n (profLimit p - tget 0 q s.q.adm)
  if d.kind = 3 then min m (2 ^ d.log2sz - posDiff d.admPos d.head) else m

/-- Make a removed envelope pending in the dead-letter queue, which it enters (R248), or discard it (R259, R260). The state,
and whether it entered. -/
def State.divert (s : State) (dlq : Nat) (c : Cand) : State × Bool :=
  let d := s.qd dlq
  let can := if d.kind = 1 then decide (posDiff d.tail d.head < 2 ^ d.log2sz)
    else if d.kind = 3 then decide (s.q.hold.length < 65536) else false
  if bitOf (envW0 c.env) 17 || !can then (s.countRaise pgQueue 7 3, false)
  else
    let e := stampDiverted c.env
    let s := (s.countRaise pgQueue 6 1).count pgQueue 0
    let s := { s with q := { s.q with dlCount := s.q.dlCount + 1 } }
    if d.kind = 1 then ((s.putEnv dlq d d.tail e c.pois).moveQd dlq { d with tail := (d.tail + 1) % 2 ^ 21 }, true)
    else (s.holdEnv dlq e c.pois, true)

/-- Divert a list, counting those that entered the dead-letter queue. -/
def State.divertAll (s : State) (dlq : Nat) : List Cand → State × Nat
  | [] => (s, 0)
  | c :: cs =>
    let r := s.divert dlq c
    let q := r.1.divertAll dlq cs
    (q.1, q.2 + b2n r.2)

/-- Keep the frame of an admission that moved ADMIT of queue `q` to `x` (R136), forgetting those no position can name. -/
def State.noteAdmit (s : State) (q x f : Nat) : State :=
  let l := (tget [] q s.q.admAt).filter (fun e => decide (posDiff x e.1 < 2 ^ 20))
  { s with q := { s.q with admAt := tset [] q (l ++ [(x, f)]) s.q.admAt } }

/-- The frame in which the envelope at position `x` was admitted (R136). -/
def State.admFrame (s : State) (q x : Nat) : Nat :=
  match (tget [] q s.q.admAt).find? (fun e => decide (0 < posDiff e.1 x) && decide (posDiff e.1 x ≤ 2 ^ 20)) with
  | some e => e.2
  | none => s.fr.num

/-- An admission point for queue `q` (R257). `late` counts the envelopes diverted into each queue at this point, which
are not eligible at it. -/
def State.admitQ (s : State) (late : Tbl Nat) (q : Nat) : State × Tbl Nat :=
  let d := s.qd q
  if d.kind = 0 then (s, late)
  else
    let p := tget 0 d.profile s.q.prof
    let r := s.cands q (tget 0 q late)
    let s := r.2
    let key (c : Cand) : Nat := if profOrder p then envKey s.fr.num c.env else c.ix
    let elig := sortKey key (r.1.filter (·.elig))
    let n := s.roomFor q elig.length
    let adm := (elig.take n).zipIdx.map (fun c => (stampAdmit c.1.env ((d.admPos + c.2) % 2 ^ 21) s.fr.num, c.1.pois))
    let rest := sortKey key (elig.drop n ++ r.1.filter (fun c => !c.elig))
    -- diversion (R259): the excess over DEPTH, greatest keys first
    let occ := (if d.kind = 3 then posDiff d.admPos d.head + n + rest.length
      else posDiff d.tail d.head)
    let depth := if profDepth p = 0 then 2 ^ d.log2sz else profDepth p
    let ex := if d.kind ≠ 2 && profDlEn p then min (occ - depth) rest.length else 0
    let keep := rest.take (rest.length - ex)
    let out := rest.drop (rest.length - ex)
    -- the ring and the hold store
    let s := s.putEnvs q d d.admPos adm
    let held := s.q.hold.filter (fun h => h.qid != q) ++ keep.map (fun c => ⟨q, c.ent, c.env, c.pois⟩)
    let s := if d.kind = 3 then { s with q := { s.q with hold := held } }
      else if profOrder p || ex ≠ 0 then s.putEnvs q d ((d.admPos + n) % 2 ^ 21) (keep.map (fun c => (c.env, c.pois)))
      else s
    let admPos := (d.admPos + n) % 2 ^ 21
    let tail := if d.kind = 3 then admPos else (d.tail + 2 ^ 21 - ex) % 2 ^ 21
    let s := s.moveQd q { s.qd q with admPos := admPos, tail := tail }
    let s := { s with q := { s.q with adm := tset 0 q (tget 0 q s.q.adm + n) s.q.adm } }
    let s := if n = 0 then s else s.noteAdmit q admPos s.fr.num
    let s := s.countN pgQueue 1 n
    let s := s.countN pgQueue 5 ((adm.filter (fun e => bitOf (envW0 e.1) 16)).length)
    let v := s.divertAll (profDlq p) out
    let late := tset 0 (profDlq p) (tget 0 (profDlq p) late + v.2) late
    let s := if d.sync ≠ 0 && n ≠ 0 then v.1.addCell d.sync n else v.1
    (s, late)

/-- An admission point over queues in ascending QID order (R255). -/
def State.admitList (s : State) (late : Tbl Nat) : List Nat → State × Tbl Nat
  | [] => (s, late)
  | q :: qs =>
    let r := s.admitQ late q
    r.1.admitList r.2 qs

/-- The configured queues of a range, ascending. -/
def State.queuesIn (s : State) (first n : Nat) : List Nat :=
  (s.q.desc.map (·.1)).filter (fun q => decide (first ≤ q) && decide (q < first + n))

/-- RELEASE: HEAD := ADMIT for each KIND 1 queue in the range (Table 9.6). -/
def State.releaseRange (s : State) (first n : Nat) : State :=
  forL (s.queuesIn first n) (fun q s =>
    let d := s.qd q
    if d.kind = 1 then s.consumeN q (posDiff d.admPos d.head) else s) s

/-- ADMIT of an operation word: an admission point over its range, then ADD 1 to its cell; one operation (Table 9.6, R275). -/
def State.admitOp (s : State) (w : Nat) : State :=
  let s := (s.admitList [] (s.queuesIn (opFirst w) (opCount w))).1
  if opCell w = 0 then s.count pgQueue 8 else s.addCell (opCell w) 1

/-- RELEASE of an operation word, one operation (Table 9.6, R275). -/
def State.releaseOp (s : State) (w : Nat) : State := (s.releaseRange (opFirst w) (opCount w)).count pgQueue 8

/-- ADMIT or RELEASE from a frame-plan action: done, waiting for queue memory (R357), or never while the engine is disabled
(R516, R20). -/
def State.queueOp (s : State) (w frame idx : Nat) : State × List Nat × Bool :=
  if !s.en pgQueue then (s, [], true)
  else if s.qmemAwake then (if opCode w = 5 then s.admitOp w else s.releaseOp w, [], false)
  else ({ s with q := { s.q with opDue := s.q.opDue ++ [(frame, idx, w)] } }, [0], false)

/-! ### The frame boundary's part (R246, R252, R253, R263) -/

/-- Stamp `n` envelopes of queue `q` from position `x` as they become pending in frame `f`. -/
def State.stampRange (s : State) (q x f : Nat) : Nat → State
  | 0 => s
  | n + 1 =>
    let d := s.qd q
    let r := s.envAt d x
    let s := (r.2.putEnv q d x (stampEnv r.1.1 d.tenant q f r.1.2) r.1.2).count pgQueue 0
    s.stampRange q ((x + 1) % 2 ^ 21) f n

/-- Envelopes become pending in frame `f`; their stamps wait while queue memory is in standby (R357). -/
def State.pendRange (s : State) (q x f n : Nat) : State :=
  if s.qmemAwake then s.stampRange q x f n else { s with q := { s.q with stampDue := s.q.stampDue ++ [(q, x, n, f)] } }

/-- The envelopes that accepted doorbells added become pending and are stamped with the frame that starts (R253). -/
def State.freshPending (s : State) (f : Nat) : State :=
  let l := s.q.fresh
  let s := { s with q := { s.q with fresh := [] } }
  forL l (fun e s => s.pendRange e.1 ((( s.qd e.1).tail + 2 ^ 21 - e.2) % 2 ^ 21) f e.2) s

/-- A ring lies within the queue memory window (R245). -/
def ringFits (d : QDesc) : Bool := decide (d.base * 4096 + 64 * 2 ^ d.log2sz ≤ 2 ^ 34)

/-- The positions satisfy R244. -/
def posValid (d : QDesc) : Bool :=
  decide (posDiff d.tail d.head ≤ 2 ^ d.log2sz) && decide (posDiff d.admPos d.head ≤ posDiff d.tail d.head)

/-- A held descriptor write is judged against the descriptor in force at the boundary that starts frame `f` (R246). A TENANT
written otherwise than by the housekeeping core before the boot lock, as the lock stood when it was written, is a violation
of the writer's (R13, R433, R479). -/
def State.judgeDesc (s : State) (f q : Nat) : State :=
  let h0 := tget none (2 * q) s.q.descHeld
  let h1 := tget none (2 * q + 1) s.q.descHeld
  let o := s.qd q
  let w := QDesc.ofWords ((h0.map (·.1)).getD o.q0) ((h1.map (·.1)).getD o.q1)
  let by' := (h0.map (·.2)).getD (0, false)
  let wrong := decide (w.tenant ≠ o.tenant) && !by'.2
  let s := if wrong then s.violate by'.1 6 else s
  let w := if wrong then { w with tenant := o.tenant } else w
  if o.kind = 0 then
    if 6 ≤ w.log2sz && decide (w.log2sz ≤ 20) && ringFits w && posValid w && (decide (w.kind ≠ 3) || decide (w.tail = w.admPos)) then
      let s := (s.setQd q w).forget 1 q
      let s := if w.admPos = w.head then s else s.noteAdmit q w.admPos f
      if w.kind = 1 || w.kind = 2 then s.pendRange q w.admPos f (posDiff w.tail w.admPos) else s
    else s.reject pgQueue 8
  else if w.kind = 0 then
    let lost := s.q.hold.filter (fun h => h.qid == q)
    let s := if lost.isEmpty then s else (s.countN pgQueue 7 lost.length).raise pgQueue 3
    ({ s with q := { s.q with desc := tset {} q { o with kind := 0 } s.q.desc,
                              hold := s.q.hold.filter (fun h => h.qid != q),
                              fresh := tset 0 q 0 s.q.fresh, stampDue := s.q.stampDue.filter (fun e => e.1 != q),
                              admDue := s.q.admDue.filter (· != q), headDue := tset none q none s.q.headDue } }).forget 1 q
  else s.reject pgQueue 8

/-- The KIND 3 HEAD moves that doorbells asked for (R252). -/
def State.headMoves (s : State) : State :=
  let due := s.q.headDue
  forL due (fun e s =>
    match e.2 with
    | some h => s.consumeN e.1 (posDiff h (s.qd e.1).head)
    | none => s) { s with q := { s.q with headDue := [] } }

/-- The held descriptor writes, KIND 3 HEAD moves and profile writes come into force at the boundary that starts frame
`f`, and the doorbelled envelopes become pending; nothing of it while CTRL.EN is 0 (R516). -/
def State.queueBoundary (s : State) (f : Nat) : State :=
  let s := { s with q := { s.q with adm := [] } }
  if s.en pgQueue then
    let qs := (s.q.descHeld.map (fun e => e.1 / 2)).dedup
    let s := forL qs (fun q s => s.judgeDesc f q) s
    let s := { s with q := { s.q with descHeld := [], prof := s.q.profNext } }
    let s := if s.qmemAwake then s.headMoves else s
    s.freshPending f
  else s

/-- The admission points of the boundary still to be made: a queue's is made once the queue memory is out of standby (R357)
and, for KIND 3, the writes that have committed are in memory (R307). -/
def State.tryAdmit (s : State) : State :=
  if s.q.admDue.isEmpty || !s.en pgQueue || !s.qmemAwake then s
  else
    let now (q : Nat) : Bool := decide ((s.qd q).kind ≠ 3) || s.fr.applying.isEmpty
    let r := s.admitList s.q.admLate (s.q.admDue.filter now)
    { r.1 with q := { r.1.q with admDue := s.q.admDue.filter (fun q => !now q), admLate := r.2 } }

/-- The boundary's admission, for every configured queue (R255). -/
def State.admitBoundary (s : State) : State :=
  if s.en pgQueue then { s with q := { s.q with admDue := s.q.desc.map (fun (e : Nat × QDesc) => e.1), admLate := [] } }.tryAdmit else s

/-- Queue memory is out of standby: what waited for it is done, in the order stamps, operations, admission points (R357). -/
def State.queueWake (s : State) : State :=
  if s.qmemAwake && s.en pgQueue then
    let st := s.q.stampDue
    let ops := s.q.opDue
    let s := { s with q := { s.q with stampDue := [], opDue := [] } }
    let s := forL st (fun e s => s.stampRange e.1 e.2.1 e.2.2.2 e.2.2.1) s
    let s := forL ops (fun e s => (if opCode e.2.2 = 5 then s.admitOp e.2.2 else s.releaseOp e.2.2).finishPart e.1 e.2.1 0) s
    s.tryAdmit
  else s

/-! ### Commands -/

/-- QUEUE_DESC_WRITE: a write of one half of a descriptor is held until the next frame boundary (R246), with its writer. -/
def opQueueDescWrite (p : Path) (q : Fin 262144) (half : Bool) (val : BitVec 64) (s : State) : State :=
  if s.mayPathQ p q.val then
    let h := tset none (2 * q.val + b2n half) (some (val.toNat, pathTenant p, decide (p = .core) && !s.sec.lock)) s.q.descHeld
    { s with q := { s.q with descHeld := h } }
  else s.deny p pgQueue

/-- PROFILE_WRITE: held until the next boundary, or discarded at once when DEPTH exceeds 2^20 (R263, R279). -/
def opProfileWrite (p : Path) (pr : Fin 256) (val : BitVec 64) (s : State) : State :=
  if s.mayPath p pgQueue then
    if 2 ^ 20 < profDepth val.toNat then s.reject pgQueue 8
    else
      let v := setFld (setFld val.toNat 45 45 0) 23 22 0
      { s with q := { s.q with profNext := tset 0 pr.val v s.q.profNext } }
  else s.deny p pgQueue

/-- The outcome of a doorbell is kept for R254. -/
def State.dbOutcome (s : State) (q o k : Nat) : State :=
  ({ s with q := { s.q with lastDb := tset 0 q o s.q.lastDb } }).count pgQueue k

/-- DOORBELL: judged against the queue state (R252, Table 9.4); a queue of another tenant is a violation of source 1. -/
def opDoorbell (fn : Fin 16) (q : Fin 262144) (val : BitVec 64) (s : State) : State :=
  let d := s.qd q.val
  let v := val.toNat
  let new := v % 2 ^ 21
  if !s.mayQueue fn.val q.val then s.violate fn.val 1
  else if 2 ^ 21 ≤ v then s.dbOutcome q.val 2 4
  else if d.kind = 2 then
    let n := posDiff new d.tail
    let occ := posDiff d.tail d.head
    if n ≤ 2 ^ d.log2sz - occ then
      let s := s.dbOutcome q.val 0 2
      { s with q := { s.q with desc := tset {} q.val { d with tail := new } s.q.desc,
                               fresh := tset 0 q.val (tget 0 q.val s.q.fresh + n) s.q.fresh } }
    else if n ≤ 2 ^ d.log2sz then (s.dbOutcome q.val 1 3).raise pgQueue 0
    else s.dbOutcome q.val 2 4
  else if d.kind = 3 then
    let due := (tget none q.val s.q.headDue).getD d.head
    if posDiff new due ≤ posDiff d.admPos due then
      let s := s.dbOutcome q.val 0 2
      { s with q := { s.q with headDue := tset none q.val (some new) s.q.headDue } }
    else s.dbOutcome q.val 2 4
  else s.dbOutcome q.val 2 4

/-- An 8-byte read of a doorbell (R254). -/
def State.doorbellRead (s : State) (q : Nat) : Nat :=
  let d := s.qd q
  d.head + d.tail * 2 ^ 21 + tget 0 q s.q.lastDb % 4 * 2 ^ 42

/-- BAR2_BAD_ACCESS: completes without effect, counted in HOSTIF (R251, Table 13.5). -/
def opBar2BadAccess (_fn : Fin 16) (write : Bool) (s : State) : State :=
  (s.countRaise pgHost 1 0).answer (if write then .ok else .word 0)

/-- A window of 2^WIN frames has ended at a boundary: its count is closed there, before the boundary's own admission (R265). -/
def State.dlClose (s : State) : State :=
  { s with q := { s.q with dlCount := 0, dlEnded := s.q.dlCount }, fr := { s.fr with dlDue := true } }

/-- DL_WINDOW_END: the diversion count of the window of 2^WIN frames that has ended moves to DL_STAT, and DL_RATE is raised
above THRESH (R265). It is due once after each boundary that ends a window. -/
def opDlWindowEnd (s : State) : State :=
  if s.fr.dlDue then
    let n := min s.q.dlEnded (2 ^ 24 - 1)
    let hi := decide (fld (s.reg pgQueue 0x48) 31 8 < s.q.dlEnded)
    let s := s.setReg pgQueue 0x4C (n + b2n hi * 2 ^ 31)
    let s := if hi then s.raise pgQueue 2 else s
    { s with q := { s.q with dlEnded := 0 }, fr := { s.fr with dlDue := false } }
  else s

/-- The soft reset of the QUEUE page: the hold store is emptied, its envelopes counted lost, and all watches are freed
(R278). -/
def State.queueSoft (s : State) : State :=
  let n := s.q.hold.length
  let s := if n = 0 then s else (s.countN pgQueue 7 n).raise pgQueue 3
  { s with q := { s.q with hold := [], fault := false }, sy := { s.sy with watches := [] } }

def execQueueDescWrite (p : Path) (q : Fin 262144) (half : Bool) (val : BitVec 64) (s : State) :
    Host.Outcome State Fault Refusal := done s (opQueueDescWrite p q half val s)

def execProfileWrite (p : Path) (pr : Fin 256) (val : BitVec 64) (s : State) : Host.Outcome State Fault Refusal :=
  done s (opProfileWrite p pr val s)

def execDoorbell (fn : Fin 16) (q : Fin 262144) (val : BitVec 64) (s : State) : Host.Outcome State Fault Refusal :=
  done s (opDoorbell fn q val s)

def execBar2BadAccess (fn : Fin 16) (write : Bool) (s : State) : Host.Outcome State Fault Refusal :=
  done s (opBar2BadAccess fn write s)

def execDlWindowEnd (s : State) : Host.Outcome State Fault Refusal := done s (opDlWindowEnd s)

end Sys2Proof.Machine
end

