-- ==== Sys2Proof/Machine/Plan.lean ====
section
/-!
DEFINITION. Frame plans: the next action record of the current frame, its validity and launch (R293 to R297), completion,
overrun and slack (R298 to R300), and the sync-cell operation commands (R274).
-/
namespace Sys2Proof.Machine

/-- `n` bytes of memory as the launch unit reads them. -/
def State.peek (s : State) (a n : Nat) : Nat := leNat ((List.range n).map (fun i => s.seenByte (a + i)))

/-- `n` bytes of a plan: what the launch unit has read of them. A word that has changed since the boundary before its frame
began may have been read before or after the change (R293, log 60). -/
def State.planWord (s : State) (a n : Nat) : Nat :=
  let v := s.peek a n
  let was (l : List Host.Cell) : Nat := { s with mem := { s.mem with bytes := l } }.peek a n
  if was s.fr.memNow = v && was s.fr.memPrev = v then v
  else match Config.planSeen s.fr.num a % 3 with
    | 0 => was s.fr.memPrev
    | 1 => was s.fr.memNow
    | _ => v

/-- The launch unit reads `n` granules from `g`: each is counted, decoded and recorded as any engine's read (R293, R347, R352,
R515). What it reads of a lost granule stays zeros. -/
def State.fetchGrans (s : State) (g n : Nat) : State :=
  forN n (fun i s =>
    if s.found (g + i) .clean = .uncorrectable then
      -- ERR_INFO gives the launch unit no SOURCE code: a free value (log 60)
      let r := s.draw
      (r.2.gRead (r.1 % 8) (g + i) .clean).2
    else (s.gRead 7 (g + i) .clean).2) s

/-- FRAME_LEN in force (R283). -/
def State.frameLen (s : State) : Nat := 256 * s.fr.len

/-- The directory entry of frame `f` (Table 10.4): the address of the first record and the number of records; with
PLAN_DIR 0 every frame is empty (R494). -/
def State.planOf (s : State) (f : Nat) : Nat × Nat :=
  let a := s.fr.dir + 16 * (f % (max s.fr.cycle 1))
  if s.fr.dir = 0 then (0, 0) else (s.planWord a 8 % 2 ^ 48, s.planWord (a + 8) 2)

/-- The launch unit reads the directory entry and the first 1,024 records of the current frame's plan (R293); the model makes
these reads at the boundary that starts the frame (log 60). -/
def State.planFetch (s : State) : State :=
  if s.fr.dir = 0 then s
  else
    let s := s.fetchGrans ((s.fr.dir + 16 * (s.fr.num % (max s.fr.cycle 1))) / 64) 1
    let p := s.planOf s.fr.num
    s.fetchGrans (p.1 / 64) (granSpan p.1 (32 * min p.2 1024))

/-- An action record (Table 10.5). -/
structure ARec where
  w0 : Nat
  w1 : Nat
  w2 : Nat
  w3 : Nat
  deriving DecidableEq, Repr

/-- The fields of W0 (Table 10.5). -/
def ARec.ty (r : ARec) : Nat := fld r.w0 3 0
def ARec.noslack (r : ARec) : Bool := bitOf r.w0 4
def ARec.start (r : ARec) : Nat := fld r.w0 27 8
def ARec.bound (r : ARec) : Nat := fld r.w0 47 28
def ARec.tag (r : ARec) : Nat := fld r.w0 63 48

/-- The next record of the current frame's plan, when the plan has one, plans execute and no restore is in progress. -/
def State.nextRecord (s : State) : Option ARec :=
  let p := s.planOf s.fr.num
  if s.running && !s.rg.restoring && !s.rg.restoreDue && decide (s.fr.nextRec < p.2) then
    let a := p.1 + 32 * s.fr.nextRec
    some ⟨s.planWord a 8, s.planWord (a + 8) 8, s.planWord (a + 16) 8, s.planWord (a + 24) 8⟩
  else none

/-- The payload is valid (Table 10.6). -/
def ARec.payloadOk (r : ARec) : Bool :=
  match r.ty with
  | 0 => true
  | 1 => decide (0 < fld r.w1 47 32)
  | 2 => true
  | 3 => decide (fld r.w1 5 0 < 36) && decide (0 < fld r.w1 31 16)
  | 4 => decide (0 < fld r.w1 15 0) && decide (fld r.w3 31 0 % 64 = 0)
  | 5 => opValid r.w1
  | _ => false

/-- The record keeps the rules of R296 and Table 10.5, given the STARTs of the records before it in the frame. -/
def State.recValid (s : State) (r : ARec) : Bool :=
  r.payloadOk && decide (r.start < r.bound) && decide (r.bound + 16 ≤ s.frameLen)
    && s.fr.starts.all (fun x => decide (x ≤ r.start))
    && decide ((s.fr.starts.filter (· == r.start)).length < 8)
    && decide ((s.fr.starts.filter (fun x => decide (r.start < x + 64))).length < 64)

/-- The record's launch is due: its START is the current tick; an invalid record is found at its START, or at once when
that tick has passed or is none of the frame. -/
def State.recDue (s : State) (r : ARec) : Bool :=
  decide (r.start = s.fr.tif) ||
    (!s.recValid r && (decide (r.start < s.fr.tif) || decide (s.frameLen ≤ r.start)))

/-- The record is taken off the plan. -/
def State.takeRec (s : State) (r : ARec) : State :=
  { s with fr := { s.fr with nextRec := s.fr.nextRec + 1, starts := r.start :: s.fr.starts } }

/-- An invalid record is not started: PLAN_INVALID, CNT9, a frame fault of source 4 (R296, R402); its action never
completes (R298). -/
def State.badRec (s : State) (r : ARec) : State :=
  let a : Act := ⟨s.fr.num, s.fr.nextRec, r.ty, r.noslack, r.start, r.bound, r.tag, [], true, false⟩
  let s := { s with fr := { s.fr with acts := s.fr.acts ++ [a] } }
  (((s.takeRec r).count pgFrame 9).raise pgFrame 6).frameFault 4 s.fr.num

/-- Launch the next record if it is due and of type `ty`: `go` starts the work, given the record, and says which parts
remain and whether the action can never complete. An invalid record that is due is refused by whichever launch finds
it. -/
def State.launch (s : State) (ty : Nat) (ok : ARec → Bool)
    (go : ARec → Nat → State → State × List Nat × Bool) : State :=
  match s.nextRecord with
  | none => s
  | some r =>
    if !s.recDue r then s
    else if !s.recValid r then s.badRec r
    else if r.ty = ty && ok r then
      let idx := s.fr.nextRec
      let f := s.fr.num
      let g := go r idx (s.takeRec r)
      let a : Act := ⟨f, idx, r.ty, r.noslack, r.start, r.bound, r.tag, g.2.1, g.2.2, false⟩
      { g.1 with fr := { g.1.fr with acts := g.1.fr.acts ++ [a] } }
    else s

/-- ACTION_NOP: launches at START and completes at once (R298, Table 10.7). -/
def opActionNop (s : State) : State :=
  match s.nextRecord with
  | none => s
  | some r =>
    if !s.recDue r then s
    else if !s.recValid r then s.badRec r
    else if r.ty = 0 then s.takeRec r
    else s

/-- The action of a frame and record index can never complete (R298). -/
def State.neverAct (s : State) (frame idx : Nat) : State :=
  let mark (x : Act) : Act := if x.frame = frame && x.idx = idx then { x with never := true } else x
  { s with fr := { s.fr with acts := s.fr.acts.map mark } }

/-- The action in progress of a frame and record index. -/
def State.actOf (s : State) (frame idx : Nat) : Option Act :=
  s.fr.acts.find? (fun a => a.frame == frame && a.idx == idx)

/-- Counted in slack: STREAM, VSU and SYNC without NOSLACK (Table 10.7, R300). -/
def Act.counted (a : Act) : Bool := !a.noslack && (a.ty == 2 || a.ty == 4 || a.ty == 5)

/-- The relative slack of an action complete at tick `c` (R300). -/
def Act.relSlack (a : Act) (c : Nat) : Int :=
  (1000 * ((a.bound : Int) - c)) / ((a.bound : Int) - a.start)

/-- An overrun (R299): a frame fault of source 1, CNT3, OVERRUN, the first one recorded, slack −1. -/
def State.overrunAct (s : State) (a : Act) : State :=
  let s := if bitOf (s.raw pgFrame) 2 then s
    else ((s.setReg pgFrame 0x84 (a.idx % 2 ^ 16 * 2 ^ 16 + a.ty)).setReg pgFrame 0x88 a.tag).setReg64 pgFrame 0x90 a.frame
  let mark (x : Act) : Act := if x.frame = a.frame && x.idx = a.idx then { x with late := true } else x
  let s := { s with fr := { s.fr with acts := s.fr.acts.map mark } }
  let s := if a.frame = s.fr.num && !s.fr.overrun then
      { s with fr := { s.fr with overrun := true, slack := some (-1), slackRec := a.idx } } else s
  (s.countRaise pgFrame 3 2).frameFault 1 a.frame

/-- The action has passed its bound. -/
def State.pastBound (s : State) (a : Act) : Bool := decide (a.frame ≠ s.fr.num) || decide (a.bound ≤ s.fr.tif)

/-- ACTION_OVERRUN: an action not complete at its BOUND tick (R299). -/
def opActionOverrun (frame : BitVec 64) (idx : BitVec 16) (s : State) : State :=
  match s.actOf frame.toNat idx.toNat with
  | some a => if s.pastBound a && !a.late then s.overrunAct a else s
  | none => s

/-- ACTION_COMPLETE: the completion handshake of an action all of whose parts are complete reaches the frame unit; its
completion tick forms its slack (R298, R300). Past its bound it is an overrun first. -/
def opActionComplete (frame : BitVec 64) (idx : BitVec 16) (s : State) : State :=
  match s.actOf frame.toNat idx.toNat with
  | none => s
  | some a =>
    if a.never || !a.parts.isEmpty then s
    else
      let s := if (decide (a.frame ≠ s.fr.num) || decide (a.bound < s.fr.tif)) && !a.late then s.overrunAct a else s
      let s := { s with fr := { s.fr with acts := s.fr.acts.filter (fun x => !(x.frame == a.frame && x.idx == a.idx)) } }
      if a.counted && decide (a.frame = s.fr.num) && !a.late then
        let v := a.relSlack s.fr.tif
        let less := match s.fr.slack with | none => true | some w => decide (v < w)
        if less then { s with fr := { s.fr with slack := some v, slackRec := a.idx } } else s
      else s

/-! ### Sync-cell operation commands (R274) -/

/-- A sync-cell operation of code `op`: the next record of the plan when it is a SYNC record of that operation, or an
operation word issued on a register path. -/
def State.syncRow (s : State) (op : Nat) (src : SyncSrc) : State :=
  match src with
  | .reg p w =>
    if opCode w.toNat = op then
      if s.mayPath p pgQueue then s.syncReg p w.toNat else s.deny p pgQueue
    else s
  | .plan => s.launch 5 (fun r => decide (opCode r.w1 = op)) (fun r idx s => s.syncPlan r.w1 s.fr.num idx)

/-- SYNC_ADMIT from a frame plan: an admission point over the range, then ADD 1 to CELL (Table 9.6); with the queue engine
disabled it is not applied and never completes (R516, R20). On a register path it is refused. -/
def State.syncAdmitRow (s : State) (src : SyncSrc) : State :=
  match src with
  | .reg _ _ => s.syncRow 5 src
  | .plan => s.launch 5 (fun r => decide (opCode r.w1 = 5)) (fun r idx s => s.queueOp r.w1 s.fr.num idx)

/-- SYNC_RELEASE from a frame plan: HEAD := ADMIT for each KIND 1 queue of the range (Table 9.6). -/
def State.syncReleaseRow (s : State) (src : SyncSrc) : State :=
  match src with
  | .reg _ _ => s.syncRow 6 src
  | .plan => s.launch 5 (fun r => decide (opCode r.w1 = 6)) (fun r idx s => s.queueOp r.w1 s.fr.num idx)

def execActionNop (s : State) : Host.Outcome State Fault Refusal := done s (opActionNop s)

def execActionComplete (frame : BitVec 64) (idx : BitVec 16) (s : State) : Host.Outcome State Fault Refusal :=
  done s (opActionComplete frame idx s)

def execActionOverrun (frame : BitVec 64) (idx : BitVec 16) (s : State) : Host.Outcome State Fault Refusal :=
  done s (opActionOverrun frame idx s)

def execSyncAdd (src : SyncSrc) (s : State) : Host.Outcome State Fault Refusal := done s (s.syncRow 0 src)

def execSyncSet (src : SyncSrc) (s : State) : Host.Outcome State Fault Refusal := done s (s.syncRow 1 src)

def execSyncCas (src : SyncSrc) (s : State) : Host.Outcome State Fault Refusal := done s (s.syncRow 2 src)

def execSyncWaitGe (src : SyncSrc) (s : State) : Host.Outcome State Fault Refusal := done s (s.syncRow 3 src)

def execSyncArm (src : SyncSrc) (s : State) : Host.Outcome State Fault Refusal := done s (s.syncRow 4 src)

def execSyncAdmit (src : SyncSrc) (s : State) : Host.Outcome State Fault Refusal := done s (s.syncAdmitRow src)

def execSyncRelease (src : SyncSrc) (s : State) : Host.Outcome State Fault Refusal := done s (s.syncReleaseRow src)

end Sys2Proof.Machine
end

