-- ==== Sys2Proof/Machine/Ctx.lean ====
section
/-!
DEFINITION. Stream contexts as state: their accessors, undo entries, check-unit bindings, faults and ends (R219, R234,
R238), shared by links, tiles and streams.
-/
namespace Sys2Proof.Machine

/-- Context `c`. -/
def State.cx (s : State) (c : Nat) : Ctx := tget {} c s.stm.ctx

/-- Update context `c`. -/
def State.setCx (s : State) (c : Nat) (x : Ctx) : State := { s with stm := { s.stm with ctx := tset {} c x s.stm.ctx } }

/-- Record a context's STATE, position and descriptor address before their first change in a frame (Table 15.6). -/
def State.undoCtx (s : State) (c : Nat) : State :=
  let x := s.cx c
  (s.undo 3 0 c (x.pos % 2 ^ 40 + x.st * 2 ^ 40)).undo 3 1 c x.desc

/-- Some context is in FAULT (STREAM.STAT.FAULT). -/
def State.anyCtxFault (s : State) : Bool := s.stm.ctx.any (fun e => e.2.st == 5)

/-- The check unit bound to context `c` (R238). -/
def State.unitOf (s : State) (c : Nat) : Option Nat := (s.chk.find? (fun e => e.2 == some c)).map (·.1)

/-- Unbind the check unit bound to context `c` (R238). -/
def State.unbindCtx (s : State) (c : Nat) : State :=
  { s with chk := s.chk.filter (fun e => e.2 != some c) }

/-! ### The descriptor (Table 8.1) -/

/-- Word `i` of a context's descriptor. -/
def Ctx.dw (x : Ctx) (i : Nat) : Nat := x.w.getD i 0

def Ctx.tolerant (x : Ctx) : Bool := bitOf (x.dw 0) 4
def Ctx.detached (x : Ctx) : Bool := bitOf (x.dw 0) 5
def Ctx.kindOf (x : Ctx) : Nat := fld (x.dw 0) 3 0
def Ctx.tileOf (x : Ctx) : Nat := fld (x.dw 0) 39 32
def Ctx.linkOf (x : Ctx) : Nat := fld (x.dw 0) 45 40
def Ctx.lclass (x : Ctx) : Nat := fld (x.dw 0) 47 46
def Ctx.srcBase (x : Ctx) : Nat := fld (x.dw 1) 47 0
def Ctx.dstBase (x : Ctx) : Nat := fld (x.dw 2) 47 0
def Ctx.length (x : Ctx) : Nat := fld (x.dw 3) 39 0
def Ctx.rate (x : Ctx) : Nat := fld (x.dw 6) 15 0
def Ctx.burst (x : Ctx) : Nat := fld (x.dw 6) 31 16
def Ctx.drain (x : Ctx) : Nat := fld (x.dw 6) 47 32

/-- The tiles of TILE_MASK. -/
def Ctx.tiles (x : Ctx) : List Nat :=
  ((List.range 64).filter (fun i => bitOf (x.dw 2) i)).map (fun i => x.tileOf / 64 * 64 + i)

/-- A ring geometry word (Table 8.3): ring, slots, slot size in bytes, FULL and EMPTY cells. -/
structure Geo where
  ring : Bool
  slots : Nat
  size : Nat
  full : Nat
  empty : Nat
  deriving DecidableEq, Repr

/-- The fields of a geometry word. -/
def geo (w : Nat) : Geo := ⟨bitOf w 0, fld w 4 1, fld w 13 5 * 256, fld w 26 14, fld w 39 27⟩

def Ctx.srcG (x : Ctx) : Geo := geo (x.dw 4)
def Ctx.dstG (x : Ctx) : Geo := geo (x.dw 5)

/-! ### Check values (R237, R238) -/

/-- The initial value of RUNNING (Table 8.8). -/
def crcInit (poly : Nat) : Nat := if poly = 0 then 2 ^ 32 - 1 else 0

/-- RUNNING after the final XOR equals EXPECT (R237). -/
def State.unitMatches (s : State) (u : Nat) : Bool :=
  let p := pgCheck u
  if s.reg p 0x40 % 2 = 0 then decide (2 ^ 32 - 1 - s.reg p 0x48 = s.reg p 0x50)
  else decide (s.reg64 p 0x48 = s.reg64 p 0x50)

/-- A compare: RESULT, CNT1, and on a mismatch CNT2 and MISMATCH (R238, R239). -/
def State.unitCompare (s : State) (u : Nat) : State :=
  let p := pgCheck u
  let ok := s.unitMatches u
  let s := (s.setReg p 0x5C (1 + 2 * b2n ok)).count p 1
  if ok then s else s.countRaise p 2 0

/-- The unit bound to a context covers bytes in destination order. -/
def State.coverCtx (s : State) (c : Nat) (bs : Bytes) : State :=
  match s.unitOf c with
  | some u => s.coverBytes u bs
  | none => s

/-! ### Faults and ends -/

/-- Flits of context `c` that no link has sent are dropped. -/
def State.dropFlits (s : State) (c : Nat) : State :=
  let clean (x : LinkS) : LinkS := { x with txq := x.txq.filter (fun f => f.inLink != 36 + c) }
  { s with link := (s.link.map (fun e => (e.1, clean e.2))).filter (fun e => decide (e.2 ≠ {})) }

/-- A fault stops the stream: FAULT with its cause, CNT13, STREAM_FAULT and a frame fault of source 10 (R234, R402). Flits not
yet sent are not delivered. -/
def State.streamFault (s : State) (c cause : Nat) : State :=
  let was := s.anyCtxFault
  let s := (s.undoCtx c).dropFlits c
  let s := s.setCx c { s.cx c with st := 5, cause := cause, reqs := [], buf := [], bufP := [], stop := false, env := none }
  let s := ((s.unbindCtx c).countRaise pgStream 13 0).faultLog was pgStream 0
  s.frameFault 10 s.fr.num

/-- Done: the bound unit compares and unbinds; a mismatch of an exact stream with FAULT_ON_MISMATCH is fault cause 8; a
bound stream's action completes (R216, R217, R238, Table 8.6). -/
def State.streamDone (s : State) (c : Nat) : State :=
  let s := s.undoCtx c
  let x := s.cx c
  let bad := match s.unitOf c with
    | some u => !s.unitMatches u && bitOf (s.reg (pgCheck u) 0x40) 3 && !x.tolerant
    | none => false
  let s := match s.unitOf c with
    | some u => (s.unitCompare u).unbindCtx c
    | none => s
  if bad then s.streamFault c 8
  else
    let s := s.setCx c { x with st := 3, reqs := [], buf := [], bufP := [], stop := false }
    match x.act with
    | some (f, i) => if x.det then s else s.finishPart f i 0
    | none => s

/-- A stopped stream enters STOPPED, and its unit unbinds without a compare (R220, R238). -/
def State.streamStopped (s : State) (c : Nat) : State :=
  let s := s.undoCtx c
  let s := s.setCx c { s.cx c with st := 4, reqs := [], buf := [], bufP := [], stop := false }
  s.unbindCtx c

/-- `n` poisoned granules are delivered by context `c`: CNT12 and POISON (R235). -/
def State.poisonDelivered (s : State) (c n : Nat) : State :=
  if n = 0 then s
  else ((s.setCx c { s.cx c with pois := true }).countN pgStream 12 n).raise pgStream 1

/-- Flits of context `c` that wait to be sent on link `l`. -/
def State.flitsOf (s : State) (c l : Nat) : Nat := ((s.lnk l).txq.filter (fun f => f.inLink == 36 + c)).length

/-- A flit of a LINK_TX stream has been sent: its bytes are delivered (R238, R241); the stream is done with its last byte,
or stopped once nothing of it is left. -/
def State.flitSent (s : State) (c : Nat) (f : Flit) : State :=
  let x := s.cx c
  if x.st ≠ 2 then s
  else
    let n := 64 * (f.ngran + 1)
    let s := (s.undoCtx c).coverCtx c (f.data.take n)
    let s := s.poisonDelivered c (popCount 4 f.pois)
    let s := (s.setCx c { s.cx c with pos := x.pos + n }).countN pgStream 1 n
    let x := s.cx c
    if x.length ≤ x.pos then s.streamDone c
    else if x.stop && decide (x.issued % 256 = 0) && x.reqs.isEmpty && decide (s.flitsOf c x.linkOf = 0) then s.streamStopped c
    else s

end Sys2Proof.Machine
end

