-- ==== Sys2Proof/Machine/Link.lean ====
section
/-!
DEFINITION. Nguona links (R312 to R342): states, training, slots and trains, receive handling, Control messages, Doze, the
spare lane, the port map and the device number. The management tunnel's payload is in Mgmt.lean.
-/
namespace Sys2Proof.Machine

/-! ### Names -/

/-- The state code (Table 11.6). -/
def LinkSt.code : LinkSt → Nat
  | .off => 0
  | .dark => 1
  | .train => 2
  | .resync => 3
  | .active => 4
  | .doze => 5
  | .wake => 6
  | .fault => 7

/-- The link-group domain of a link is powered (R28). -/
def State.linkOn (s : State) (l : Nat) : Bool := decide (tget 0 (32 + l / 6) s.pw.dom < 2)

/-- A frame number of which only bits [31:0] are carried, by its signed difference to the current frame (R284). -/
def State.full32 (s : State) (x : Nat) : Nat := ((s.fr.num : Int) + sext 32 (untwos 32 ((x : Int) - s.fr.num))).toNat

/-- Record a link class's indices, SEQs and FREED before their first change in a frame (Table 15.6, KIND 4). -/
def State.undoLink (s : State) (l cls : Nat) : State :=
  let x := s.lnk l
  let id := l + 64 * cls
  if cls = 0 then (s.undo 4 0 id (x.wr0 + x.rd0 * 2 ^ 16 + x.ex0 * 2 ^ 32)).undo 4 1 id x.tx0
  else (s.undo 4 0 id (x.wr1 + x.rd1 * 2 ^ 16 + x.ex1 * 2 ^ 32)).undo 4 1 id (x.tx1 + x.freed * 2 ^ 16)

/-- The work of link `l`, none while its EN is 0 (R20). -/
def State.linkDo (s : State) (l : Nat) (f : State → State) : State := if s.en (pgLink l) then f s else s

/-! ### States -/

/-- Change state, raising STATE_CHANGE (Table 11.7). -/
def State.linkTo (s : State) (l : Nat) (st : LinkSt) : State :=
  let x := s.lnk l
  if x.st = st then s else (s.setLnk l { x with st := st }).raise (pgLink l) 0

/-- Lanes dark: what was in flight on the line is lost. -/
def LinkS.darken (x : LinkS) : LinkS :=
  { x with ctl := [], slow := [], run := 0, runHdr := none, rx := none, frameSlot := false, moveTx := none, moveRx := none,
           unacked := [], tunIn := [], dozeReq := none, dozeAt := none, wins := [], marker := none, markerOk := false,
           stale := none, lostRun := 0, ts := [] }

/-- A link fault (Table 11.10): lanes dark, the cause held, LINK_FAULT raised. -/
def State.linkFault (s : State) (l cause : Nat) : State :=
  let x := s.lnk l
  if x.st = .off || x.st = .fault then s
  else
    let s := s.setLnk l { x.darken with cause := cause }
    let s := (s.linkTo l .fault).raise (pgLink l) 2
    s.log (pgLink l) 8 0 2

/-- Lanes dark and OFF: the DOWN command, a soft reset, or the link group's domain off (Table 11.7). -/
def State.linkOff (s : State) (l : Nat) : State :=
  let x := s.lnk l
  (s.setLnk l x.darken).linkTo l .off

/-- The state of a link whose training starts: SEQs and buffers empty, no lane on the spare (R315, R319). -/
def LinkS.fresh (x : LinkS) : LinkS :=
  { x.darken with cause := 0, tx0 := 0, tx1 := 0, ex0 := 0, ex1 := 0, freed := 0, pFreed := 0, rx0 := [], rx1 := [],
                  wr0 := 0, rd0 := 0, wr1 := 0, rd1 := 0, eaten := [], fwd := [], slot := 0, blk := 0, rxBlk := 0, rxSlot := 0,
                  spareTx := none, spareRx := none, tunTx := 0, tunRx := 255, dJump := false, sinceSlow := 0 }

/-- SCHED_ENT and POST_ENT (R324). -/
def State.schedEnt (s : State) (l : Nat) : Nat := fld (s.reg (pgLink l) 0x40) 12 0
def State.postEnt (s : State) (l : Nat) : Nat := fld (s.reg (pgLink l) 0x40) 28 16

/-- An IDENT message of this module on link `l` (Table 11.5). -/
def State.identMsg (s : State) (l : Nat) : Bytes :=
  leBytes 1 9 ++ [0] ++ leBytes 2 (s.devNum + 2 ^ 15 * b2n (bitOf (s.reg pgDev 0x50) 31)) ++ leBytes 1 l ++ [0]
    ++ leBytes 2 (s.postEnt l)

/-! ### Commands of a link -/

/-- A LINK_CMD write reaches link `l`'s page; one that the state does not permit is refused with CFG_REJECT (R342). -/
def State.linkCmd (s : State) (p : Path) (l : Nat) (ok : Bool) (go : State → State) : State :=
  if s.mayPath p (pgLink l) then
    if ok && s.linkOn l then (if s.en (pgLink l) then go s else s) else s.reject (pgLink l) 10
  else s.deny p (pgLink l)

/-- LINK_UP: OFF to DARK; the dark baseline capture begins (Table 11.7). Refused on a link whose F record is damaged
(R485). -/
def opLinkUp (p : Path) (l : Fin 36) (s : State) : State :=
  s.linkCmd p l.val (decide ((s.lnk l.val).st = .off) && !(s.lnk l.val).noF) (fun s => s.linkTo l.val .dark)

/-- LINK_DOWN: lanes dark, to OFF, from any state (Table 11.7). -/
def opLinkDown (p : Path) (l : Fin 36) (s : State) : State :=
  if s.mayPath p (pgLink l.val) then s.linkOff l.val else s.deny p (pgLink l.val)

/-- Refused on the reference link while SRC = 1, and with a Scheduled window open (R331). -/
def State.dozeRefused (s : State) (l : Nat) : Bool :=
  (decide (s.fr.src = 1) && decide (s.fr.refLink = l)) || !(s.lnk l).wins.isEmpty

/-- LINK_DOZE: the DOZE_REQ exchange starts, naming a later block that the module chooses (R331, Table 11.5; log 2). -/
def opLinkDoze (p : Path) (l : Fin 36) (s : State) : State :=
  s.linkCmd p l.val (decide ((s.lnk l.val).st = .active) && !s.dozeRefused l.val) (fun s =>
    let r := s.draw
    let s := r.2
    let x := s.lnk l.val
    let b := (x.blk + 1 + r.1) % 2 ^ 32
    (s.setLnk l.val { x with dozeReq := some b }).sendCtl l.val (leBytes 1 4 ++ List.replicate 7 0 ++ leBytes 4 b))

/-- A beacon word (R333): `code` is 0xA for BEACON and 0x5 for WAKE. -/
def beaconWord (code frame : Nat) : Nat := code + frame % 2 ^ 32 * 2 ^ 16 + (2 ^ 16 - 1 - code) * 2 ^ 48

/-- LINK_WAKE: a dozing link relights its lanes, sending a WAKE beacon, and runs the wake steps (R333, R334). -/
def opLinkWake (p : Path) (l : Fin 36) (s : State) : State :=
  s.linkCmd p l.val (decide ((s.lnk l.val).st = .doze)) (fun s =>
    let x := s.lnk l.val
    (s.setLnk l.val { x with lastSlot := leBytes 8 (beaconWord 5 s.fr.num), ts := [] }).linkTo l.val .wake)

/-- Schedule a lane's move to S at block B = current + 16, and send the LANE message (R329). -/
def State.moveLane (s : State) (l ln : Nat) (tx : Bool) : State :=
  let x := s.lnk l
  let b := ((if tx then x.blk else x.rxBlk) + 16) % 2 ^ 32
  let s := s.setLnk l (if tx then { x with moveTx := some (ln, b) } else { x with moveRx := some (ln, b) })
  s.sendCtl l (leBytes 1 7 ++ [0] ++ leBytes 1 ln ++ List.replicate 5 0 ++ leBytes 4 b)

/-- The spare lane of a direction is in use or promised. -/
def LinkS.spareBusy (x : LinkS) (tx : Bool) : Bool :=
  if tx then x.spareTx.isSome || x.moveTx.isSome else x.spareRx.isSome || x.moveRx.isSome

/-- The lanes are lit and carry symbols. -/
def LinkS.lit (x : LinkS) : Bool := x.carries || decide (x.st = .train) || decide (x.st = .wake)

/-- The lane now travels on S (R329): counted, raised and recorded. -/
def State.laneOnSpare (s : State) (l ln : Nat) (tx : Bool) : State :=
  let x := s.lnk l
  let s := s.setLnk l (if tx then { x with spareTx := some ln, moveTx := none } else { x with spareRx := some ln, moveRx := none })
  s.countRaise (pgLink l) 10 1

/-- LINK_SUBST: a data lane moves to the spare lane (R329, R342). -/
def opLinkSubst (p : Path) (l : Fin 36) (ln : Fin 8) (s : State) : State :=
  s.linkCmd p l.val ((s.lnk l.val).carries && !(s.lnk l.val).spareBusy true) (fun s => s.moveLane l.val ln.val true)

/-- DARK_CAPTURE_DONE: the capture completes, or is deferred when a lane sees light; the lasers are lit and training
starts, in which the module sends its IDENT (R336, Tables 11.7, 11.8). -/
def opDarkCaptureDone (l : Fin 36) (light : Bool) (base : List Int) (s : State) : State :=
  let x := s.lnk l.val
  if x.st = .dark then
    let y := { x.fresh with deferred := light, base := if light then [] else base }
    let s := s.setLnk l.val y
    let s := if light then s.raise (pgLink l.val) 9 else s
    (s.linkTo l.val .train).sendCtl l.val (s.identMsg l.val)
  else s

/-- DEFERRED_CAPTURE_TAKEN: in OFF or DARK without light, the deferred capture is taken and the flag cleared (R336). -/
def opDeferredCaptureTaken (l : Fin 36) (base : List Int) (s : State) : State :=
  let x := s.lnk l.val
  if x.deferred && (decide (x.st = .off) || decide (x.st = .dark)) then
    s.setLnk l.val { x with deferred := false, base := base }
  else s

/-- BASELINE_UPDATE: in service, a link with a deferred capture updates its estimate every 2^16 blocks (R336). -/
def opBaselineUpdate (l : Fin 36) (base : List Int) (s : State) : State :=
  let x := s.lnk l.val
  if x.deferred && x.carries && decide (x.rxBlk % 2 ^ 16 = 0) then s.setLnk l.val { x with base := base } else s

/-- Twice the delay of one exchange: (t4 − t1) − (t3 − t2), of tick counters modulo 2^32 (R330). -/
def TsEx.twice (e : TsEx) : Int := ((e.t4 - e.t1).toNat : Int) - ((e.t3 - e.t2).toNat : Int)

/-- The mean delay of the exchanges, rounded half to even (R330). -/
def meanDelay (ts : List TsEx) : Int := roundHalfEven ((ts.map TsEx.twice).sum) (2 * ts.length)

/-- The partner fields of an IDENT (Table 11.5). -/
def LinkS.withIdent (x : LinkS) (i : Ident) : LinkS :=
  { x with pValid := true, pAssigned := i.assigned, pLink := i.link.toNat, pDev := i.dev.toNat, pPost := i.postEnt.toNat }

/-- An IDENT is taken (R489): PARTNER is updated; against a frozen map an assigned IDENT that names another partner than
the recorded one is fault cause 5, and the first assigned one is recorded where none was. -/
def State.takeIdent (s : State) (l : Nat) (i : Ident) : State :=
  let x := (s.lnk l).withIdent i
  let me := (i.dev.toNat, i.link.toNat)
  if s.frozen && i.assigned then
    match x.recorded with
    | none => s.setLnk l { x with recorded := some me }
    | some r => if r = me then s.setLnk l x else (s.setLnk l x).linkFault l 5
  else s.setLnk l x

/-- LINK_TRAINING_DONE: IDENT and 64 TSYNC exchanges complete training: D and the credits are set and the link enters
RESYNC (Table 11.8). -/
def opLinkTrainingDone (l : Fin 36) (ident : Ident) (ts : List TsEx) (s : State) : State :=
  let x := s.lnk l.val
  let all := x.ts ++ ts
  if x.st = .train && decide (all.length = 64) then
    let d := (meanDelay all).toNat
    let s := (s.setLnk l.val { x with d := d, dTgt := d, ts := [] }).takeIdent l.val ident
    if (s.lnk l.val).st = .train then s.linkTo l.val .resync else s
  else s

/-- LINK_TRAIN_TIMEOUT: training or a wake that does not complete is fault cause 1 (Table 11.7). -/
def opLinkTrainTimeout (l : Fin 36) (s : State) : State :=
  let x := s.lnk l.val
  if x.st = .train || x.st = .wake then s.linkFault l.val 1 else s

/-- LINK_WAKE_DONE: after 16 exchanges, ACTIVE with D slewing when |d| ≤ GUARD and the frame numbers agree; otherwise RESYNC
with D := D′ at the next re-entry point (R334, Table 11.7). -/
def opLinkWakeDone (l : Fin 36) (pframe : BitVec 32) (ts : List TsEx) (s : State) : State :=
  let x := s.lnk l.val
  let all := x.ts ++ ts
  if x.st = .wake && decide (all.length = 16) then
    let d' := (meanDelay all).toNat
    let d := (d' : Int) - x.d
    let ok := decide (d.natAbs ≤ s.reg (pgLink l.val) 0x54) && decide (pframe.toNat = s.fr.num % 2 ^ 32)
    let s := s.setLnk l.val { x with dTgt := d', dJump := !ok, ts := [] }
    if ok then s.linkTo l.val .active
    else ((s.linkTo l.val .resync).count (pgLink l.val) 12).raise (pgLink l.val) 8
  else s

/-- ALL_LANES_LOSE_SIGNAL: link fault cause 6 (R513). -/
def opAllLanesLoseSignal (l : Fin 36) (s : State) : State :=
  if (s.lnk l.val).lit then s.linkFault l.val 6 else s

/-! ### Sending (R316 to R323) -/

/-- The Posted credits held (R323). -/
def LinkS.credits (x : LinkS) : Nat := x.pPost - (x.tx1 + 2 ^ 16 - x.pFreed) % 2 ^ 16

/-- The next Scheduled flit: the forward buffer first, then the LINK_TX stream of lowest context (R321). -/
def LinkS.nextSched (x : LinkS) : Option Flit :=
  match x.fwd with
  | f :: _ => some f
  | [] => (sortKey Flit.inLink (x.txq.filter (fun f => f.cls == 0))).head?

/-- The next Posted flit. -/
def LinkS.nextPosted (x : LinkS) : Option Flit := (sortKey Flit.inLink (x.txq.filter (fun f => f.cls == 1))).head?

/-- What the next data slot would carry (R320): Scheduled in an open window of an ACTIVE link, unless the module runs on its
local oscillator (R281), else Posted with a credit. -/
def State.nextFlit (s : State) (x : LinkS) : Option Flit :=
  match (if !x.wins.isEmpty && decide (x.st = .active) && !s.tb.localOsc then x.nextSched else none) with
  | some f => some f
  | none => if x.carries && decide (0 < x.credits) then x.nextPosted else none

/-- A flit header (Table 11.4). -/
def flitHdr (cls ngran pois count hops seq src dst postmark : Nat) : Bytes :=
  leBytes 12 (cls % 4 + ngran % 4 * 2 ^ 2 + pois % 16 * 2 ^ 4 + count % 512 * 2 ^ 8 + hops % 4 * 2 ^ 17
    + seq % 2 ^ 16 * 2 ^ 24 + src % 1024 * 2 ^ 40 + dst % 1024 * 2 ^ 50 + postmark % 2 ^ 32 * 2 ^ 64)

/-- A flit as it leaves: an own flit takes the current frame as postmark and this module as its source (R284); a forwarded
one keeps its own (R325). -/
def State.leaving (s : State) (f : Flit) : Flit :=
  if f.inLink < 36 then f else { f with postmark := s.fr.num % 2 ^ 32, src := s.devNum }

/-- The fields a train shares (R318): class, HOPS with NGRAN and POISON, destination, postmark with source. -/
def shareKey (f : Flit) : Nat × Nat × Nat × Nat :=
  (f.cls, f.hops % 4 + 4 * (f.ngran % 4) + 16 * f.pois, f.dst, f.postmark + f.src * 2 ^ 32)

/-- A flit that travels as a train of its own: partial or poisoned (R318). -/
def Flit.single (f : Flit) : Bool := decide (f.ngran ≠ 3) || decide (f.pois ≠ 0)

/-- How many of the waiting flits of the next flit's class could share its train; none after the last slot of a block, which
no train crosses (R316). -/
def State.trainLen (s : State) (x : LinkS) (f : Flit) : Nat :=
  if f.single then min 1 (256 - x.slot)
  else
    let q := (if f.cls = 0 then x.fwd ++ sortKey Flit.inLink (x.txq.filter (fun g => g.cls == 0))
      else sortKey Flit.inLink (x.txq.filter (fun g => g.cls == 1)))
    let n := ((q.map s.leaving).takeWhile (fun g => !g.single && shareKey g == shareKey f)).length
    let lim := if f.cls = 0 then (x.wins.map (·.left)).sum else x.credits
    min (min n lim) (256 - x.slot)

/-- Remove the flit that was sent from its buffer. -/
def LinkS.dropFlit (x : LinkS) (f : Flit) : LinkS :=
  if f.inLink < 36 then { x with fwd := x.fwd.drop 1 } else { x with txq := x.txq.erase f }

/-- A MARKER message (Table 11.5). -/
def markerMsg (late frame : Nat) : Bytes :=
  leBytes 1 1 ++ [0] ++ leBytes 2 late ++ List.replicate 4 0 ++ leBytes 8 (frame % 2 ^ 64)

/-- A TSYNC message takes the tick of its sending: T_A of a request, T_C of a reply (R330, Table 11.5). -/
def stampMsg (tick : Nat) (m : Bytes) : Bytes :=
  if (m.headD 0).toNat % 16 ≠ 6 then m
  else if (m.getD 1 0).toNat % 2 = 0 then m.take 2 ++ leBytes 4 tick ++ m.drop 6
  else m.take 10 ++ leBytes 4 tick ++ m.drop 14

/-- Send a lead slot: the MARKER when a frame has begun, up to 15 waiting messages, CREDIT and MGMT after the others, and the
header of the train that follows (R316, R318, R320). -/
def State.sendLead (s : State) (l : Nat) : State :=
  let x := s.lnk l
  let mk := if x.frameSlot then [markerMsg s.fr.tif s.fr.num] else []
  let ms := mk ++ x.ctl
  let now := ms.take 15
  let slow := x.slow.take (15 - now.length)
  let all := now ++ slow
  let f := ((s.nextFlit x).map s.leaving).filter (fun f => decide (0 < s.trainLen x f))
  let hdr := match f with
    | some f =>
      flitHdr f.cls f.ngran f.pois (s.trainLen x f) f.hops (if f.cls = 0 then x.tx0 else x.tx1) f.src f.dst f.postmark
    | none => flitHdr 2 0 0 0 0 0 s.devNum 0 s.fr.num
  let body := hdr ++ (all.flatMap (fun m => stampMsg s.tb.tick (ctlPad m))) ++ List.replicate (244 - 16 * all.length) 0
  let n := match f with | some f => s.trainLen x f | none => 0
  let y := { x with ctl := ms.drop 15, slow := x.slow.drop slow.length, frameSlot := false,
                    sinceSlow := if slow.isEmpty then x.sinceSlow else 0, run := n, runHdr := f.map shareKey,
                    lastSlot := body ++ leBytes 4 (crc32c body).toNat }
  let v := (now.filter (fun m => (m.headD 0).toNat % 16 == 2)).length
  (s.setLnk l y).countN (pgLink l) 13 v

/-- Send a data slot with flit `f`: its effective header's SEQ, its payload and trailer (R318); the window's count moves on
and its action completes with the last flit (R321). -/
def State.sendData (s : State) (l : Nat) (f : Flit) : State :=
  let s := s.undoLink l f.cls
  let x := s.lnk l
  let g := s.leaving f
  let seq := if f.cls = 0 then x.tx0 else x.tx1
  let hdr := flitHdr g.cls g.ngran g.pois 0 g.hops seq g.src g.dst g.postmark
  let y := x.dropFlit f
  let y := if f.cls = 0 then { y with tx0 := (x.tx0 + 1) % 2 ^ 16 } else { y with tx1 := (x.tx1 + 1) % 2 ^ 16 }
  let y := { y with run := x.run - 1, lastSlot := g.data ++ leBytes 4 (crc32c (hdr ++ g.data)).toNat }
  let s := s.setLnk l y
  let s := s.count (pgLink l) 0
  let s := if f.inLink < 36 then s.count (pgLink l) 16 else s.flitSent (f.inLink - 36) f
  let y := s.lnk l
  if f.cls = 0 then
    match y.wins with
    | [] => s
    | w :: ws =>
      if w.left ≤ 1 then (s.setLnk l { y with wins := ws }).finishPart w.frame w.idx 0
      else s.setLnk l { y with wins := { w with left := w.left - 1 } :: ws }
  else s

/-- A lead slot is due (R320): a Control message waits, slot 0 of a block, the first slot of a frame, or CREDIT and MGMT
messages have waited their interval. -/
def LinkS.leadDue (x : LinkS) : Bool :=
  !x.ctl.isEmpty || decide (x.slot = 0) || x.frameSlot || (!x.slow.isEmpty && decide (256 ≤ x.sinceSlow))

/-- In TRAIN and WAKE one TSYNC request goes out in each block until the exchanges are made (Tables 11.8, 11.9). -/
def State.askTsync (s : State) (l : Nat) : State :=
  let x := s.lnk l
  if x.slot = 0 && ((decide (x.st = .train) && decide (x.ts.length < 64)) || (decide (x.st = .wake) && decide (x.ts.length < 16)))
  then s.sendCtl l (leBytes 1 6) else s

/-- LINK_SLOT: one line slot of a lit link; in TRAIN and WAKE it carries Control messages only (R320, Table 11.6). -/
def opLinkSlot (l : Fin 36) (s : State) : State :=
  if !(s.lnk l.val).lit then s
  else
    let s := s.askTsync l.val
    let x := s.lnk l.val
    let s := if x.leadDue then s.sendLead l.val
      else match s.nextFlit x with
        | none => s.sendLead l.val
        | some f =>
          if 0 < x.run && x.runHdr == some (shareKey (s.leaving f)) then s.sendData l.val f else s.sendLead l.val
    let y := s.lnk l.val
    s.setLnk l.val { y with slot := (y.slot + 1) % 257, sinceSlow := y.sinceSlow + 1,
                            blk := if y.slot = 256 then (y.blk + 1) % 2 ^ 32 else y.blk }

/-! ### Receiving (R322 to R326) -/

/-- Entries of a class in use: waiting to be drained, consumed and not yet freed, and held by forwarded flits (R324, R416). -/
def State.usedEnt (s : State) (l cls : Nat) : Nat :=
  let x := s.lnk l
  (if cls = 0 then x.rx0.length else x.rx1.length) + (x.eaten.filter (fun e => e.1.cls == cls)).length
    + (if cls = 0 then ((s.link.map (fun y => (y.2.fwd.filter (fun f => f.inLink == l)).length)).sum) else 0)

/-- Place a flit in a class's receive buffer. -/
def State.bufferFlit (s : State) (l : Nat) (f : Flit) : State :=
  let x := s.lnk l
  if f.cls = 0 then s.setLnk l { x with rx0 := x.rx0 ++ [f], wr0 := (x.wr0 + 1) % 4096 }
  else s.setLnk l { x with rx1 := x.rx1 ++ [f], wr1 := (x.wr1 + 1) % 4096 }

/-- Deliver a received flit: the module's own to its class's buffer, another's to the forward buffer of its route
(R322, R325). -/
def State.deliverFlit (s : State) (l : Nat) (f : Flit) : State :=
  let x := s.lnk l
  if f.cls = 0 then
    if x.st ≠ .active || s.tb.localOsc then s.count (pgLink l) 6
    else
      let own := !bitOf (s.reg pgDev 0x50) 31 || decide (f.dst = s.devNum)
      let r := tget 0 f.dst s.route
      if !own && (decide (f.hops = 0) || !bitOf r 7 || decide (36 ≤ fld r 5 0)) then
        (s.countRaise (pgLink l) 6 11).frameFault 12 (s.full32 f.postmark)
      else if s.schedEnt l ≤ s.usedEnt l 0 then
        (s.countRaise (pgLink l) 8 5).frameFault 12 (s.full32 f.postmark)
      else if own then s.bufferFlit l f
      else
        let o := fld r 5 0
        let y := s.lnk o
        s.setLnk o { y with fwd := y.fwd ++ [{ f with hops := f.hops - 1, inLink := l }] }
  else if s.postEnt l ≤ s.usedEnt l 1 then s.count (pgLink l) 6
  else s.bufferFlit l f

/-- A flit that stands for a lost one: 256 bytes of zeros, all four granules poisoned (R326). -/
def poisonedFlit (s : State) (cls : Nat) : Flit := ⟨cls, 3, 15, 0, 0, s.devNum, s.fr.num % 2 ^ 32, List.replicate 256 0, 36⟩

/-- Insert `n` poisoned flits. -/
def State.insertLost (s : State) (l cls : Nat) : Nat → State
  | 0 => s
  | n + 1 => (s.deliverFlit l (poisonedFlit s cls)).insertLost l cls n

/-- Set the expected SEQ of a class. -/
def State.setExp (s : State) (l cls v : Nat) : State :=
  let x := s.lnk l
  if cls = 0 then s.setLnk l { x with ex0 := v % 2 ^ 16 } else s.setLnk l { x with ex1 := v % 2 ^ 16 }

/-- A train's header is taken (R326): a SEQ gap of up to 256 is filled with poisoned flits, a larger one is fault cause 4;
before the first MARKER after a restore trains are discarded (R416). -/
def State.takeTrain (s : State) (l : Nat) (h : Bytes) : State :=
  let w := leNat h
  let cls := fld w 1 0
  let n := fld w 16 8
  let seq := fld w 39 24
  let x := s.lnk l
  if 2 ≤ cls || n = 0 || x.stale.isSome then s.setLnk l { x with rx := none }
  else
    let s := s.undoLink l cls
    let x := s.lnk l
    let gap := (seq + 2 ^ 16 - (if cls = 0 then x.ex0 else x.ex1)) % 2 ^ 16
    if 256 < gap then s.linkFault l 4
    else
      let s := if gap = 0 then s else ((s.countN (pgLink l) 6 gap).raise (pgLink l) 4).insertLost l cls gap
      let s := s.setExp l cls seq
      s.setLnk l { s.lnk l with rx := some ⟨h, cls, n, seq⟩ }

/-- A slot has been received: the receiver's place in the block moves on (R315). -/
def State.rxAdvance (s : State) (l : Nat) : State :=
  let x := s.lnk l
  s.setLnk l { x with rxSlot := (x.rxSlot + 1) % 257, rxBlk := if x.rxSlot = 256 then (x.rxBlk + 1) % 2 ^ 32 else x.rxBlk }

/-- A data slot of the train in progress: its trailer is checked, and a mismatch replaces it by poisoned
zeros in its place (R318, R326). -/
def State.takeFlit (s : State) (l : Nat) (payload : Bytes) (trailer : BitVec 32) : State :=
  let x := s.lnk l
  match x.rx with
  | none => s
  | some t =>
    if t.left = 0 || !x.carries then s
    else
      let s := s.undoLink l t.cls
      let w := leNat t.hdr
      let w' := setFld (setFld w 39 24 t.seq) 16 8 0
      let good := decide (payload.length = 256) && decide (crc32c (leBytes 12 w' ++ payload) = trailer)
      let s := if good then s else s.count (pgLink l) 5
      let f : Flit := ⟨t.cls, fld w 3 2, if good then fld w 7 4 else 15, fld w 18 17, fld w 49 40, fld w 59 50, fld w 95 64,
        if good then payload else List.replicate 256 0, 36⟩
      let f := if good then f else { f with ngran := 3 }
      let s := s.setLnk l { s.lnk l with rx := some { t with left := t.left - 1, seq := (t.seq + 1) % 2 ^ 16 } }
      let s := (s.setExp l t.cls (t.seq + 1)).count (pgLink l) 1
      s.deliverFlit l f

/-- LINK_FLIT_RX: a data slot arrives; without a train it is discarded (R326). -/
def opLinkFlitRx (l : Fin 36) (payload : Bytes) (trailer : BitVec 32) (s : State) : State :=
  if (s.lnk l.val).lit then (s.takeFlit l.val payload trailer).rxAdvance l.val else s

/-! ### Control messages (Table 11.5) -/

/-- VETO_RX: recorded, acted on and flooded with the hop count raised; a held one is a duplicate; a committed frame's is
late; during the restore frame an echo (R338, R339, R406, R408). -/
def opVetoRx (l : Fin 36) (frame : BitVec 64) (origin : BitVec 10) (hops : BitVec 8) (s : State) : State :=
  let g := frame.toNat
  let echo := match s.rg.echo with | some (a, b) => decide (a ≤ g) && decide (g ≤ b) | none => false
  if !(s.lnk l.val).carries then s
  else if echo then s.count pgReg 4
  else if s.vetoKnown g then s.count (pgLink l.val) 14
  else
    let s := (s.holdVeto g).flood (some l.val) (vetoMsg origin.toNat ((hops.toNat + 1) % 256) g)
    let s := s.raise (pgLink l.val) 6
    let detail := g % 2 ^ 32 + origin.toNat * 2 ^ 32 + l.val * 2 ^ 42
    if s.isCommitted g then
      ((s.countRaise (pgLink l.val) 15 7).countRaise pgReg 5 5).log pgReg 5 3 detail
    else (s.actVeto ⟨g, false, origin.toNat⟩).log pgReg 3 3 detail

/-- VETO_HOLD_EXPIRE: a vetoed frame number is released 64 frames after it was first seen (R338). -/
def opVetoHoldExpire (frame : BitVec 64) (s : State) : State :=
  { s with rg := { s.rg with held := s.rg.held.filter (fun h => !(h.1 == frame.toNat && decide (h.2 + 64 ≤ s.fr.num))) } }

/-- CREDIT_RX: the cumulative FREED count of the partner (R323). -/
def opCreditRx (l : Fin 36) (freed : BitVec 16) (s : State) : State :=
  if (s.lnk l.val).carries then s.setLnk l.val { s.lnk l.val with pFreed := freed.toNat } else s

/-- DOZE_REQ_RX: answered with DOZE_ACK unless a condition of R331 holds here. -/
def opDozeReqRx (l : Fin 36) (blk : BitVec 32) (s : State) : State :=
  if (s.lnk l.val).st = .active && !s.dozeRefused l.val then
    (s.setLnk l.val { s.lnk l.val with dozeAt := some blk.toNat }).sendCtl l.val
      (leBytes 1 5 ++ List.replicate 7 0 ++ leBytes 4 blk.toNat)
  else s

/-- DOZE_ACK_RX: the exchange is complete, and Doze begins at the named block (Table 11.7). -/
def opDozeAckRx (l : Fin 36) (blk : BitVec 32) (s : State) : State :=
  let x := s.lnk l.val
  if x.st = .active && x.dozeReq == some blk.toNat then
    s.setLnk l.val { x with dozeReq := none, dozeAt := some blk.toNat }
  else s

/-- Block `b` has come in a direction whose current block is `cur` (modulo 2^32). -/
def blkReached (cur b : Nat) : Bool := decide ((cur + 2 ^ 32 - b) % 2 ^ 32 < 2 ^ 31)

/-- DOZE_ENTER: at the named block the link enters DOZE (R333). -/
def opDozeEnter (l : Fin 36) (s : State) : State :=
  let x := s.lnk l.val
  match x.dozeAt with
  | none => s
  | some b =>
    if x.st = .active && blkReached x.blk b then
      ((s.setLnk l.val { x.darken with marker := none }).linkTo l.val .doze).count (pgLink l.val) 11
    else s

/-- DOZE_BEACON: every 1,024 ticks a dozing link sends a beacon on lane 0 (R333). -/
def opDozeBeacon (l : Fin 36) (s : State) : State :=
  let x := s.lnk l.val
  if x.st = .doze && decide (s.tb.tick % 1024 = 0) then
    s.setLnk l.val { x with lastSlot := leBytes 8 (beaconWord 10 s.fr.num) }
  else s

/-- TSYNC_RX: a request is answered with the ticks of its receipt and of the reply; a reply contributes an exchange (R330). -/
def opTsyncRx (l : Fin 36) (reply : Bool) (ta tb tc : BitVec 32) (s : State) : State :=
  let x := s.lnk l.val
  let now := BitVec.ofNat 32 s.tb.tick
  if !x.lit then s
  else if reply then s.setLnk l.val { x with ts := x.ts ++ [⟨ta, tb, tc, now⟩] }
  else s.sendCtl l.val (leBytes 1 6 ++ leBytes 1 1 ++ leBytes 4 ta.toNat ++ leBytes 4 now.toNat ++ leBytes 4 now.toNat)

/-- LANE_MSG_RX: the named lane moves to S at block B, in the direction the partner decided on: this module's sender when
the partner's receiver decided (`tx`), its receiver otherwise (R329). -/
def opLaneMsgRx (l : Fin 36) (tx : Bool) (ln : BitVec 4) (blk : BitVec 32) (s : State) : State :=
  let x := s.lnk l.val
  if !x.lit then s
  else if x.spareBusy tx then s.linkFault l.val 2
  else if tx then s.setLnk l.val { x with moveTx := some (ln.toNat, blk.toNat) }
  else s.setLnk l.val { x with moveRx := some (ln.toNat, blk.toNat) }

/-- LANE_FAIL: the lane moves to S, at once in training, else 16 blocks on; with S in use it is fault cause 2 (R329, R488). -/
def opLaneFail (l : Fin 36) (ln : Fin 8) (tx : Bool) (s : State) : State :=
  let x := s.lnk l.val
  if !x.lit then s
  else if x.spareBusy tx then s.linkFault l.val 2
  else if x.carries then s.moveLane l.val ln.val tx
  else s.laneOnSpare l.val ln.val tx

/-- LANE_MOVE: from block B the lane's symbols travel on S (R329). -/
def opLaneMove (l : Fin 36) (tx : Bool) (s : State) : State :=
  let x := s.lnk l.val
  match (if tx then x.moveTx else x.moveRx) with
  | none => s
  | some (ln, b) => if blkReached (if tx then x.blk else x.rxBlk) b then s.laneOnSpare l.val ln tx else s

/-- IDENT_RX (R489). -/
def opIdentRx (l : Fin 36) (ident : Ident) (s : State) : State :=
  if (s.lnk l.val).lit then s.takeIdent l.val ident else s

/-! ### The port map and the device number -/

/-- FPORT of a link. -/
def State.fport (s : State) (l : Nat) : Nat := s.reg (pgLink l) 0x58

/-- Two links name the same fibre port (R342). -/
def State.portClash (s : State) : Bool :=
  (List.range 36).any (fun i => (List.range i).any (fun j => s.fport i == s.fport j))

/-- MAP_FREEZE: freezes the port map and route table and records each link's assigned partner, or is refused when two links
name the same FPORT (R328, R489). -/
def opMapFreeze (p : Path) (s : State) : State :=
  if s.mayPath p (pgLink 0) then
    if s.frozen then s
    else if s.portClash then s.reject (pgLink 0) 10
    else
      let s := { s with frozen := true }
      forN 36 (fun l s =>
        let x := s.lnk l
        if x.pValid && x.pAssigned then s.setLnk l { x with recorded := some (x.pDev, x.pLink) } else s) s
  else s.deny p (pgLink 0)

/-- DEVNUM_WRITE: assigns the device number; every link in TRAIN, RESYNC or ACTIVE sends a new IDENT; after the freeze it is
discarded (R379, R487). -/
def opDevnumWrite (p : Path) (val : BitVec 32) (s : State) : State :=
  if s.mayPath p pgDev then
    if s.frozen then s.reject pgDev 2
    else
      let s := (s.setReg pgDev 0x50 (Nat.land val.toNat 0x800003FF)).raise pgDev 0
      forN 36 (fun l s => if (s.lnk l).carries || (s.lnk l).st = .train then s.sendCtl l (s.identMsg l) else s) s
  else s.deny p pgDev

/-! ### LINK_WIN (R321) -/

/-- ACTION_LINK_WIN: opens a Scheduled window of FLITS flits; on a link that is not ACTIVE it is not started, counts in
FRAME CNT9 and is a frame fault; on a disabled link it never completes (R20, R321). -/
def opActionLinkWin (s : State) : State :=
  s.launch 3 (fun _ => true) (fun r idx s =>
    let l := fld r.w1 5 0
    let x := s.lnk l
    if !s.en (pgLink l) then (s, [], true)
    else if x.st ≠ .active then ((s.count pgFrame 9).frameFault 4 s.fr.num, [], true)
    else (s.setLnk l { x with wins := x.wins ++ [⟨s.fr.num, idx, fld r.w1 31 16⟩] }, [0], false))

/-- The links' part of a frame boundary that starts frame `f`: markers are due, D moves a tick towards D′ (R334), and at a
re-entry point a link in RESYNC whose partner names the same frame enters ACTIVE (Table 11.7). -/
def State.linkBoundary (s : State) (reentry run : Bool) : State :=
  forN 36 (fun l s =>
    let x := s.lnk l
    if !x.carries || !s.en (pgLink l) then s
    else
      let d := if x.dJump then (if reentry then x.dTgt else x.d)
        else if x.d < x.dTgt then x.d + 1 else if x.dTgt < x.d then x.d - 1 else x.d
      let y := { x with frameSlot := true, d := d, dJump := x.dJump && !reentry }
      let s := s.setLnk l y
      if reentry && run && decide (x.st = .resync) && x.markerOk then s.linkTo l .active else s) s

/-- Entries consumed in frames that have committed are freed, and the sender learns it (R416, R323). -/
def State.freeEntries (s : State) (f : Nat) : State :=
  forN 36 (fun l s =>
    let x := s.lnk l
    let gone := x.eaten.filter (fun e => decide (e.2 ≤ f))
    if gone.isEmpty then s
    else
      let n := (gone.filter (fun e => e.1.cls == 1)).length
      let s := if n = 0 then s else s.undoLink l 1
      let x := s.lnk l
      let fr := (x.freed + n) % 2 ^ 16
      let slow := if n = 0 then x.slow
        else x.slow.filter (fun m => (m.headD 0).toNat % 16 != 3) ++ [ctlPad (leBytes 1 3 ++ [0] ++ leBytes 2 fr)]
      s.setLnk l { x with eaten := x.eaten.filter (fun e => decide (f < e.2)), freed := fr, slow := slow }) s

def execLinkUp (p : Path) (l : Fin 36) (s : State) : Host.Outcome State Fault Refusal := done s (opLinkUp p l s)
def execLinkDown (p : Path) (l : Fin 36) (s : State) : Host.Outcome State Fault Refusal := done s (opLinkDown p l s)
def execLinkDoze (p : Path) (l : Fin 36) (s : State) : Host.Outcome State Fault Refusal := done s (opLinkDoze p l s)
def execLinkWake (p : Path) (l : Fin 36) (s : State) : Host.Outcome State Fault Refusal := done s (opLinkWake p l s)
def execLinkSubst (p : Path) (l : Fin 36) (ln : Fin 8) (s : State) : Host.Outcome State Fault Refusal :=
  done s (opLinkSubst p l ln s)
def execDarkCaptureDone (l : Fin 36) (light : Bool) (base : List Int) (s : State) : Host.Outcome State Fault Refusal :=
  done s (s.linkDo l.val (opDarkCaptureDone l light base))
def execDeferredCaptureTaken (l : Fin 36) (base : List Int) (s : State) : Host.Outcome State Fault Refusal :=
  done s (s.linkDo l.val (opDeferredCaptureTaken l base))
def execBaselineUpdate (l : Fin 36) (base : List Int) (s : State) : Host.Outcome State Fault Refusal :=
  done s (s.linkDo l.val (opBaselineUpdate l base))
def execLinkTrainingDone (l : Fin 36) (ident : Ident) (ts : List TsEx) (s : State) : Host.Outcome State Fault Refusal :=
  done s (s.linkDo l.val (opLinkTrainingDone l ident ts))
def execLinkTrainTimeout (l : Fin 36) (s : State) : Host.Outcome State Fault Refusal := done s (s.linkDo l.val (opLinkTrainTimeout l))
def execLinkWakeDone (l : Fin 36) (pframe : BitVec 32) (ts : List TsEx) (s : State) : Host.Outcome State Fault Refusal :=
  done s (s.linkDo l.val (opLinkWakeDone l pframe ts))
def execAllLanesLoseSignal (l : Fin 36) (s : State) : Host.Outcome State Fault Refusal := done s (s.linkDo l.val (opAllLanesLoseSignal l))
def execLinkSlot (l : Fin 36) (s : State) : Host.Outcome State Fault Refusal := done s (s.linkDo l.val (opLinkSlot l))
def execLinkFlitRx (l : Fin 36) (payload : Bytes) (trailer : BitVec 32) (s : State) : Host.Outcome State Fault Refusal :=
  done s (s.linkDo l.val (opLinkFlitRx l payload trailer))
def execVetoRx (l : Fin 36) (frame : BitVec 64) (origin : BitVec 10) (hops : BitVec 8) (s : State) :
    Host.Outcome State Fault Refusal := done s (s.linkDo l.val (opVetoRx l frame origin hops))
def execVetoHoldExpire (frame : BitVec 64) (s : State) : Host.Outcome State Fault Refusal := done s (opVetoHoldExpire frame s)
def execCreditRx (l : Fin 36) (freed : BitVec 16) (s : State) : Host.Outcome State Fault Refusal := done s (s.linkDo l.val (opCreditRx l freed))
def execDozeReqRx (l : Fin 36) (blk : BitVec 32) (s : State) : Host.Outcome State Fault Refusal := done s (s.linkDo l.val (opDozeReqRx l blk))
def execDozeAckRx (l : Fin 36) (blk : BitVec 32) (s : State) : Host.Outcome State Fault Refusal := done s (s.linkDo l.val (opDozeAckRx l blk))
def execDozeEnter (l : Fin 36) (s : State) : Host.Outcome State Fault Refusal := done s (s.linkDo l.val (opDozeEnter l))
def execDozeBeacon (l : Fin 36) (s : State) : Host.Outcome State Fault Refusal := done s (s.linkDo l.val (opDozeBeacon l))
def execTsyncRx (l : Fin 36) (reply : Bool) (ta tb tc : BitVec 32) (s : State) : Host.Outcome State Fault Refusal :=
  done s (s.linkDo l.val (opTsyncRx l reply ta tb tc))
def execLaneMsgRx (l : Fin 36) (tx : Bool) (ln : BitVec 4) (blk : BitVec 32) (s : State) : Host.Outcome State Fault Refusal :=
  done s (s.linkDo l.val (opLaneMsgRx l tx ln blk))
def execLaneFail (l : Fin 36) (ln : Fin 8) (tx : Bool) (s : State) : Host.Outcome State Fault Refusal :=
  done s (s.linkDo l.val (opLaneFail l ln tx))
def execLaneMove (l : Fin 36) (tx : Bool) (s : State) : Host.Outcome State Fault Refusal := done s (s.linkDo l.val (opLaneMove l tx))
def execIdentRx (l : Fin 36) (ident : Ident) (s : State) : Host.Outcome State Fault Refusal := done s (s.linkDo l.val (opIdentRx l ident))
def execMapFreeze (p : Path) (s : State) : Host.Outcome State Fault Refusal := done s (opMapFreeze p s)
def execDevnumWrite (p : Path) (val : BitVec 32) (s : State) : Host.Outcome State Fault Refusal := done s (opDevnumWrite p val s)
def execActionLinkWin (s : State) : Host.Outcome State Fault Refusal := done s (opActionLinkWin s)

end Sys2Proof.Machine
end

