-- ==== Sys2Proof/Machine/Tile.lean ====
section
/-!
DEFINITION. Optical tensor tiles (R39 to R82): their SRAM and rings, runs, weight switches, vector cycles, the column
digital with its close-out (R83 to R117), routing changes, row and column failures.
-/
namespace Sys2Proof.Machine

/-! ### Names -/

/-- Tile `t`. -/
def State.tl (s : State) (t : Nat) : Tile := tget {} t s.tile

/-- Update tile `t`. -/
def State.setTl (s : State) (t : Nat) (x : Tile) : State := { s with tile := tset {} t x s.tile }

/-- The power state of a tile's group: 0 A0, 1 A1, 2 A2, 3 and 4 in transit (R28, R382). -/
def State.tgDom (s : State) (t : Nat) : Nat := tget 0 (t / 8) s.pw.dom

/-- The tile works: enabled, its group in A0 or A1. -/
def State.tileOn (s : State) (t : Nat) : Bool := s.en (pgTile t) && decide (s.tgDom t < 2)

/-- Healthy columns (R176). -/
def Tile.healthy (x : Tile) : Nat := 130 - popCount 130 x.retired

/-- The physical row that carries logical row `i` of group `g` (R41). -/
def rowCarrier (rowmap g i : Nat) : Nat :=
  if bitOf rowmap (8 * g + 7) && decide (fld rowmap (8 * g + 4) (8 * g) = i) then 33 * g + 32 else 33 * g + i

/-- A substitution is due for logical row `r`. -/
def Tile.substDue (x : Tile) (r : Nat) : Bool := x.rowDue.any (fun e => e.1 == r)

/-- A logical row has a failed carrier and no substitution is due for it (R60, R178). -/
def Tile.rowsShort (x : Tile) : Bool :=
  (List.range 128).any (fun r => bitOf x.rowFail (rowCarrier x.roles.rowmap (r / 32) (r % 32)) && !x.substDue r)

/-- OFF, or STOPPED or DEGRADED in its place (R164). -/
def Tile.offState (x : Tile) : Nat := if x.healthy < 128 then 7 else if x.healthy = 128 then 6 else 0

/-- COLROT.STATE: the health level governs where the tile does not rotate (R164). -/
def Tile.rotState (x : Tile) : Nat := if x.rot = 0 || x.rot = 6 || x.rot = 7 then x.offState else x.rot

/-- COLHEALTH.LEVEL (R176). -/
def Tile.level (x : Tile) : Nat := if 129 ≤ x.healthy then 0 else if x.healthy = 128 then 1 else 2

/-- Zone `z` of the loop engine. -/
def State.zn (s : State) (z : Nat) : Zone := tget {} z s.lp.zone

/-- A zone of the tile is in FAULT (R201). -/
def State.zoneFault (s : State) (t : Nat) : Bool := (List.range 4).any (fun g => (s.zn (4 * t + g)).st == .fault)

/-- All four zones are LOCKED (R199). -/
def State.zonesLocked (s : State) (t : Nat) : Bool := (List.range 4).all (fun g => (s.zn (4 * t + g)).st == .locked)

/-- A zone is enabled without a valid LOAD (Table 18.2). -/
def State.zoneNoCoef (s : State) (t : Nat) : Bool :=
  (List.range 4).any (fun g => (s.zn (4 * t + g)).en && (s.zn (4 * t + g)).work.isEmpty && (s.zn (4 * t + g)).load.isNone)

/-- TILE.STAT.DEGRADED (R60, R176, R201). -/
def State.degraded (s : State) (t : Nat) : Bool :=
  decide ((s.tl t).healthy < 128) || (s.tl t).noF || (s.tl t).rowsShort || s.zoneFault t || s.zoneNoCoef t

/-- ROTATING, UNCALIBRATED and DEGRADED (R165). -/
def State.health (s : State) (t : Nat) : Bool × Bool × Bool :=
  (decide (2 ≤ (s.tl t).rot) && decide ((s.tl t).rot ≤ 5), decide ((s.tl t).rotState = 6), s.degraded t)

/-- HEALTH_CHANGE when one of them, or the health level, has changed since `s0` (Table 2.10, R176). -/
def watchHealth (s0 : State) (t : Nat) (s : State) : State :=
  if s0.health t = s.health t && (s0.tl t).level == (s.tl t).level then s else s.raise (pgTile t) 4

/-- An event that sets TILE.STAT.FAULT: RUN_FAULT (0) or DRIVER_FAULT (9). -/
def State.tileFault (s : State) (t bit : Nat) : State :=
  let was := (s.tl t).fault
  ((s.setTl t { s.tl t with fault := true }).raise (pgTile t) bit).faultLog was (pgTile t) bit

/-! ### Calibrated quantities (Table 6.6, R179 to R181) -/

/-- Keys of a tile's quantities: a compute ring's trim (k = 0), drive entries (1 to 8), psi, h, A2_F (9 to 11). -/
def qRing (row col : Nat) (neg : Bool) (k : Nat) : Nat := ((col * 132 + row) * 2 + b2n neg) * 16 + k

/-- Pilot trim of zone `g`, pilot `j`; row monitor nominal; gain (0), offset (1) and delay (2) of a column. -/
def qPilot (g j : Nat) : Nat := 600000 + 2 * g + j
def qRowNom (row : Nat) : Nat := 610000 + row
def qCol (col k : Nat) : Nat := 620000 + 4 * col + k

/-- The range of a quantity. -/
def qRange (q : Nat) : Int × Int :=
  if q < 600000 then (if q % 16 = 0 then (0, 1023) else if q % 16 ≤ 8 then (0, 127) else (0, 2 ^ 32))
  else if q < 620000 then (0, 1023)
  else if q % 4 = 0 then (0x6000, 0xA000)
  else if q % 4 = 1 then (-2048, 2048)
  else (0, 63)

/-- The F layer's value; offsets are stored above -2,048 (log 9). -/
def fVal (t q : Nat) : Int :=
  if 620000 ≤ q && decide (q % 4 = 1) then (Config.fLayer t q : Int) - 2048 else Config.fLayer t q

/-- The effective value of a quantity of tile `t` (R180). -/
def State.eff (s : State) (t q : Nat) : Int :=
  clampI (qRange q).1 (qRange q).2 (fVal t q + tget 0 q (s.tl t).calU + tget 0 q (s.tl t).calT)

/-! ### Tile SRAM (Table 2.4, R72) -/

/-- `n` bytes of tile SRAM. -/
def Tile.read (x : Tile) (a : Nat) : Nat → Bytes
  | 0 => []
  | n + 1 => tget 0 a x.sram :: x.read (a + 1) n

/-- Write bytes. -/
def Tile.write (x : Tile) (a : Nat) : Bytes → Tile
  | [] => x
  | b :: bs => Tile.write { x with sram := tset 0 a b x.sram } (a + 1) bs

/-- The poison mark of granule `g`. -/
def Tile.mark (x : Tile) (g : Nat) : Bool := tget false g x.pois

/-- Set marks of `n` granules. -/
def Tile.setMarks (x : Tile) (g n : Nat) (b : Bool) : Tile :=
  { x with pois := forN n (fun i p => tset false (g + i) b p) x.pois }

/-- Some granule of a range is poisoned. -/
def Tile.anyMark (x : Tile) (a n : Nat) : Bool := (List.range (granSpan a n)).any (fun i => x.mark (a / 64 + i))

/-- The first ring from `k` on whose row is not in `rowFail`; 264 when there is none (R152). -/
def ringFrom (rowFail k : Nat) : Nat → Nat
  | 0 => 264
  | n + 1 => if 264 ≤ k then 264 else if bitOf rowFail (k / 2) then ringFrom rowFail (k + 1) n else k

/-- The calibration step in progress is abandoned and the engine repeats it: the windows of the trim lock, the drive tables
of all rings, or the shadow comparison (R72, R173). The steps before them are taken by one command each. -/
def Tile.redoStep (x : Tile) : Tile :=
  { x with
    cal := { x.cal with
      windows := [], locked := [], group := 0
      ring := if x.cal.phase = 6 then ringFrom x.rowFail 0 264 else x.cal.ring }
    cmp := {} }

/-- A read finds an ECC error (R72): a corrected one is counted and raises SRAM_CE; an uncorrectable one leaves the granule
as poisoned zeros, and in the calibration area the step in progress is repeated. -/
def State.sramErr (s : State) (t : Nat) (e : SramErr) : State :=
  let g := e.off.val / 64
  if e.uncorrectable then
    let x := ((s.tl t).write (64 * g) (List.replicate 64 0)).setMarks g 1 true
    let x := if 0x31000 ≤ e.off.val then x.redoStep else x
    (s.setTl t x).countRaise (pgTile t) 11 8
  else s.countRaise (pgTile t) 10 7

/-- The error `err`, if the read of the `n` bytes at `a` is the one that finds it. -/
def State.errIn (s : State) (t : Nat) (err : Option SramErr) (a n : Nat) : State :=
  match err with
  | some e => if a ≤ e.off.val && decide (e.off.val < a + n) then s.sramErr t e else s
  | none => s

/-! ### Run parameters (Table 2.7) -/

/-- P of a P code. -/
def pOf (c : Nat) : Nat :=
  match c with
  | 0 => 4
  | 1 => 5
  | 2 => 6
  | 3 => 7
  | 4 => 8
  | 5 => 10
  | _ => 12

/-- The size of an output record (R70). -/
def recSize (fmt : Nat) : Nat := if fmt = 2 then 512 else if fmt = 3 then 128 else 256

/-- Random error sigma in 0.01 LSB, by m code and range code (Table 3.2). -/
def sigmaOf (mc rc : Nat) : Nat :=
  ([152, 91, 68, 60, 115, 76, 63, 59, 88, 66, 60, 58, 71, 61, 59, 58] : List Nat).getD (4 * (mc % 4) + rc % 4) 152

/-- The set descriptor's fields in bytes 0x2000 to 0x21FF of a slot (Table 2.6). -/
def setDesc (par : Bytes) : Nat := leNat ((par.drop 0x1C0).take 6)
def dId (d : Nat) : Nat := fld d 15 0
def dVectors (d : Nat) : Nat := fld d 24 16
def dFirst (d : Nat) : Bool := bitOf d 25
def dLast (d : Nat) : Bool := bitOf d 26
def dAcc (d : Nat) : Nat := fld d 39 32
def dFmt (d : Nat) : Nat := fld d 41 40

def Latch.par (l : Latch) : Bytes := (l.slot.drop 0x2000).take 512

/-- Slot sizes in force. -/
def Tile.aSize (x : Tile) : Nat := 256 * x.aUnits
def Tile.oSize (x : Tile) : Nat := 256 * x.oUnits

/-! ### Runs -/

/-- A run takes the tile: its codes are shown (RUN_STAT). -/
def Tile.begin (x : Tile) (r : TRun) : Tile :=
  { x with run := some r, codes := r.pc + 8 * r.mc + 32 * r.rc, fRun := true, ranCal := true }

/-- A run is refused (R61, R73 note b, R175, R383). -/
def State.runRefused (s : State) (t pc : Nat) : Bool :=
  decide (pc = 7) || s.degraded t || !(s.tl t).ready || decide (s.tgDom t ≠ 0)

/-- When a run has ended, the first of the waiting ones that is not refused starts (R75, R297); one that is refused by now
raises RUN_FAULT, and its action never completes (R61, R383). -/
def State.nextRun (s : State) (t : Nat) : List TRun → State
  | [] => s.setTl t { s.tl t with run := none, waiting := [] }
  | r :: rs =>
    if s.runRefused t r.pc then State.nextRun (((s.tileFault t 0).neverAct r.frame r.idx).frameFault 6 r.frame) t rs
    else s.setTl t (Tile.begin { s.tl t with waiting := rs } r)

/-- The results still to come that are the last of their run. -/
def Tile.finals (x : Tile) : Nat :=
  (x.fifo.filter (·.final)).length + b2n (match x.outRec with | some (_, _, f) => f | none => false)

/-- The newest result still to come is the last of its run. -/
def Tile.markLast (x : Tile) : Tile :=
  match x.fifo.getLast? with
  | some r => { x with fifo := x.fifo.dropLast ++ [{ r with final := true }] }
  | none => { x with outRec := x.outRec.map (fun o => (o.1, o.2.1, true)) }

/-- The open output slot closes (R70). -/
def Tile.closeSlot (x : Tile) : Tile := if x.oFill = 0 then x else { x with oLens := x.oLens ++ [x.oFill], oFill := 0 }

/-- A run has ended: the output slot closes after its last record, at once when none is still to come (R70; the stop of a
run closes it too, log 55). -/
def Tile.endRun (x : Tile) : Tile :=
  let y := x.markLast
  if x.closing < y.finals then { y with closing := x.closing + 1 }
  else if x.fifo.isEmpty && x.outRec.isNone then x.closeSlot
  else x

/-- A run stops at the vector-cycle boundary: RUN_FAULT, STAT.FAULT, a frame fault of its action's frame (R68, R69, R70,
R72). -/
def State.stopRun (s : State) (t src : Nat) : State :=
  match (s.tl t).run with
  | none => s
  | some r =>
    let s := s.tileFault t 0
    let s := s.setTl t { (s.tl t).endRun with run := none }
    ((s.finishPart r.frame r.idx t).frameFault src r.frame).nextRun t (s.tl t).waiting

/-- The tiles a TILE_RUN names (Table 10.6). -/
def runTiles (r : ARec) : List Nat :=
  let t := fld r.w1 7 0
  if r.w2 = 0 then [t] else ((List.range 64).filter (fun i => bitOf r.w2 i)).map (fun i => t / 64 * 64 + i)

/-- Launch a run on each tile of the list: the state, the parts that remain, and whether some tile does not do its
part. -/
def State.launchTiles (s : State) (r : ARec) (idx : Nat) : List Nat → State × List Nat × Bool
  | [] => (s, [], false)
  | t :: ts =>
    let pc := fld r.w1 10 8
    let one : State × List Nat × Bool :=
      if !s.en (pgTile t) then (s, [], true)
      else if s.runRefused t pc then ((s.tileFault t 0).frameFault 6 s.fr.num, [], true)
      else
        let run : TRun := ⟨s.fr.num, idx, pc, fld r.w1 12 11, fld r.w1 14 13, fld r.w1 21 16, fld r.w1 47 32, 0⟩
        let x := s.tl t
        let x := match x.run with
          | none => x.begin run
          | some _ => { x with waiting := x.waiting ++ [run], fRun := true }
        (s.setTl t x, [t], false)
    let more := one.1.launchTiles r idx ts
    (more.1, one.2.1 ++ more.2.1, one.2.2 || more.2.2)

/-- ACTION_TILE_RUN (R75, R297). -/
def opActionTileRun (s : State) : State :=
  s.launch 1 (fun _ => true) (fun r idx s => s.launchTiles r idx (runTiles r))

/-! ### Weights (R62 to R65) -/

/-- The weight slot that follows the set in force is complete. -/
def Tile.nextSlotReady (x : Tile) : Bool := decide (b2n x.wIn < x.wSrc.length)

/-- Its address in tile SRAM. -/
def Tile.nextSlotAt (x : Tile) : Nat := (x.wHead + b2n x.wIn) % 4 * 9216

/-- SHADOW_LOAD_START: the load starts once the shadow latches are free and the next slot is complete (R63). The standby's
logical column is taken here: the spec does not say what a load gives during which SHADOW_LCOL changes (log 64). -/
def opShadowLoadStart (t : Fin 256) (err : Option SramErr) (s : State) : State :=
  let x := s.tl t.val
  if s.tileOn t.val && !x.loading && x.shadow.isNone && x.nextSlotReady then
    let s := s.errIn t.val err x.nextSlotAt 9216
    s.setTl t.val { s.tl t.val with loading := true, loadCol := x.used.lcol }
  else s

/-- SHADOW_LOAD_DONE: the shadow latches hold a complete set, the standby's the weights of the SHADOW_LCOL at the load's
start (R62, R163; log 64). -/
def opShadowLoadDone (t : Fin 256) (s : State) : State :=
  let x := s.tl t.val
  if s.en (pgTile t.val) && x.loading then
    let l : Latch := ⟨x.read x.nextSlotAt 0x2200, x.loadCol, x.anyMark x.nextSlotAt 0x2200⟩
    s.setTl t.val { x with loading := false, shadow := some l }
  else s

/-- WEIGHT_SWITCH: at a vector-cycle boundary where a switch is due, all shadow latches become active in one guard slot;
a set with a lost word or an invalid descriptor is never brought into force (R64, R68, R70, R72). -/
def opWeightSwitch (t : Fin 256) (s : State) : State :=
  let x := s.tl t.val
  match x.run, x.shadow with
  | some r, some l =>
    if !s.en (pgTile t.val) || decide (r.vec ≠ 0) || decide (r.left = 0) then s
    else
      let d := setDesc l.par
      if l.bad then s.stopRun t.val 7
      else if 256 < dAcc d + dVectors d || dVectors d = 0 || dLast d && decide (x.oSize < recSize (dFmt d)) then
        s.stopRun t.val 6
      else
        let x := { x with active := some l, shadow := none, setId := dId d,
                          run := some { r with left := r.left - 1, vec := dVectors d } }
        let x := if x.wIn then { x with wHead := (x.wHead + 1) % 4, wSrc := x.wSrc.drop 1 } else { x with wIn := true }
        (s.setTl t.val x).count (pgTile t.val) 1
  | _, _ => s

/-! ### Vector cycles (R50, R69, R83 to R87) -/

/-- The signed cell codes of a row of 64 bytes (Table 2.5). -/
def rowVals (bs : Bytes) : List Int := bs.flatMap (fun b => [sext 4 b.toNat, sext 4 (b.toNat / 16)])

/-- The dot products of all 128 columns, given the activation codes of the rows (R83). -/
def dots : List Nat → Bytes → List Int
  | [], _ => List.replicate 128 0
  | a :: as, bs => List.zipWith (fun d w => d + a * w) (dots as (bs.drop 64)) (rowVals (bs.take 64))

/-- The activation codes of a record of `p` planes: bit i of plane j has weight 2^j (R69). -/
def actCodes (p : Nat) (rec : Bytes) : List Nat :=
  let planes := (List.range p).map (fun j => leNat ((rec.drop (16 * j)).take 16))
  (List.range 128).map (fun i => (planes.zipIdx.map (fun q => q.1 / 2 ^ i % 2 * 2 ^ q.2)).sum)

/-- The activation slot being consumed. -/
def Tile.aSlotAt (x : Tile) : Nat := 0x9000 + x.aHead * x.aSize

/-- Release the activation slot at the head to its producer. -/
def Tile.aRelease (x : Tile) : Tile := { x with aHead := (x.aHead + 1) % (max x.aSlots 1), aSrc := x.aSrc.drop 1, aRec := 0 }

/-- The tile with every slot of zero records that the ring reaches released, for the next vector cycle of a run with P code
`pc`, and what stops it there: 0 nothing, 1 an invalid slot (R69), 2 a lost header word of a stream of the exact class
(R72). -/
def Tile.aAdvance (x : Tile) (pc : Nat) : Nat → Tile × Nat
  | 0 => (x, 0)
  | n + 1 =>
    match x.aSrc with
    | [] => (x, 0)
    | src :: _ =>
      let h := leNat (x.read x.aSlotAt 5)
      let recs := fld h 24 16
      if x.mark (x.aSlotAt / 64) && decide (src % 2 = 0) then (x, 2)
      else if fld h 34 32 ≠ pc || x.aSize < 64 + 16 * pOf pc * recs then (x, 1)
      else if recs = 0 then x.aRelease.aAdvance pc n
      else (x, 0)

/-- The converter code of an ideal level D / LSB_D, with the free error of the conversion (R53, R86, R88; log 2). -/
def convert (d : Int) (lsb : Nat) (err : Int) : Int :=
  clampI (-512) 511 (roundHalfEven (d * 65536 + err * lsb) (lsb * 65536))

/-- A code is a converter saturation (R87). -/
def satCode (c : Int) : Bool := decide (c ≤ -512) || decide (511 ≤ c)

/-- The slot's header or the activation record is poisoned for the class of the stream that delivered it (R72, R236). -/
def Tile.recPoison (x : Tile) (pc : Nat) : Bool :=
  x.mark (x.aSlotAt / 64) || x.anyMark (x.aSlotAt + 64 + 16 * pOf pc * x.aRec) (16 * pOf pc)

/-- The vector cycle's work, once nothing holds it back. Each converter saturation is counted in CNT6, the standby's with
the others (R53, R87). -/
def State.cycle (s : State) (t : Nat) (r : TRun) (l : Latch) (pois : Bool) : State :=
  let x := s.tl t
  let p := pOf r.pc
  let h := leNat (x.read x.aSlotAt 5)
  let acts := actCodes p (x.read (x.aSlotAt + 64 + 16 * p * x.aRec) (16 * p))
  let ds := dots acts (l.slot.take 8192)
  let sh := p - 2 + r.rc
  let n := s.freeCtr
  let codes := ds.zipIdx.map (fun e => (convert e.1 (2 ^ sh) (Config.convError (n + e.2)), tget e.2 e.2 x.used.cmap))
  let shadow := if x.used.standby = 0xFF then none
    else some (convert (ds.getD l.lcol 0) (2 ^ sh) (Config.convError (n + 128)), x.used.standby, l.lcol)
  let d := setDesc l.par
  let sats := (codes.filter (fun c => satCode c.1)).length + b2n (match shadow with | some c => satCode c.1 | none => false)
  let res : TRes := {
    codes := codes, shadow := shadow, acc := dAcc d + (dVectors d - r.vec), zp := fld h 11 0, sh := sh, pc := r.pc,
    mc := r.mc, rc := r.rc, xo := r.xo, first := dFirst d, last := dLast d, fmt := dFmt d, par := l.par, pois := pois,
    final := decide (r.vec = 1) && decide (r.left = 0) }
  let x := { x with fifo := x.fifo ++ [res], run := some { r with vec := r.vec - 1 }, fVec := x.fVec + 1,
                    fSat := x.fSat + sats, ranCal := true }
  let x := if x.aRec + 1 < fld h 24 16 then { x with aRec := x.aRec + 1 } else x.aRelease
  let s := { s with freeCtr := n + 129 }
  ((s.setTl t x).count (pgTile t) 0).countN (pgTile t) 6 sats

/-- VECTOR_CYCLE: one vector cycle starts when its set is in force, its planes are there, the routing is acknowledged and
the result FIFO can take its results (R34, R35, R74); otherwise the tile waits. `err` is an ECC error found on the way. -/
def opVectorCycle (t : Fin 256) (err : Option SramErr) (s : State) : State :=
  let x := s.tl t.val
  match x.run, x.active with
  | some r, some l =>
    if !s.en (pgTile t.val) || decide (r.vec = 0) || decide (x.used ≠ x.roles) || decide (Config.resultFifo + 1 ≤ x.fifo.length) then s
    else
      let s := s.errIn t.val err x.aSlotAt 64
      let q := (s.tl t.val).aAdvance r.pc 9
      let s := s.setTl t.val q.1
      if q.2 = 1 then s.stopRun t.val 6
      else if q.2 = 2 then (s.streamFault (q.1.aSrc.headD 0 / 2) 7).stopRun t.val 6
      else
        match q.1.aSrc with
        | [] => s
        | src :: _ =>
          let s := s.errIn t.val err (q.1.aSlotAt + 64 + 16 * pOf r.pc * q.1.aRec) (16 * pOf r.pc)
          if (s.tl t.val).recPoison r.pc then
            if src % 2 = 1 then s.cycle t.val r l true
            else (s.streamFault (src / 2) 7).stopRun t.val 6
          else s.cycle t.val r l false
  | _, _ => s

/-! ### The column digital (R54, R92 to R96, R113, R114) -/

/-- The corrected code in units of 1/16 LSB (R92). -/
def corrected16 (c g o : Int) : Int := roundHalfEven (c * g - o * 512) 2048

/-- The rounded output value of an accumulator and whether it overflows OUT_FMT (R113, Table 4.4). -/
def closeValue (fmt rho xo : Nat) (a : Int) : Nat × Bool :=
  let z : FV := .fin (decide (a < 0)) (a.natAbs * (256 + rho)) (-(13 + xo : Int))
  match fmt with
  | 0 => (packF fBf16 z, false)
  | 1 =>
    let w := packF fF16 z
    if w % 2 ^ 15 = 0x7C00 then (0x7E05, true) else (w, false)
  | 2 => (packF fF32 z, false)
  | _ =>
    let i := (toIntF z).getD 0
    if 127 < i.natAbs then (0x80, true) else (untwos 8 i, false)

/-- The saturation marker of OUT_FMT (Table 4.4). -/
def marker (fmt : Nat) : Nat :=
  match fmt with
  | 0 => 0x7FC5
  | 1 => 0x7E05
  | 2 => 0x7FC00005
  | _ => 0x80

/-- The size of a value of OUT_FMT. -/
def valSize (fmt : Nat) : Nat := recSize fmt / 128

/-- One column of a result is added into its accumulator (R93); the accumulators, their flags, and whether the clamp
acted. -/
def accStep (s : State) (t : Nat) (r : TRes) (c : Nat) (code : Int) (pcol : Nat) (x : Tile) : Tile × Bool :=
  let y := corrected16 code (s.eff t (qCol pcol 0)) (s.eff t (qCol pcol 1))
  let w := sext 16 (leNat ((r.par.drop (2 * c)).take 2))
  let e := fld (leNat ((r.par.drop (0x100 + c / 2)).take 1)) (4 * (c % 2) + 3) (4 * (c % 2))
  let u := (y * 2 ^ r.sh - 16 * r.zp * w) * 2 ^ e
  let k := 256 * c + r.acc
  let a := if r.first then u else tget 0 k x.acc + u
  let b := clampI (-(2 : Int) ^ 47) (2 ^ 47 - 1) a
  let f := decide (a ≠ b) || (!r.first && tget false k x.sat)
  ({ x with acc := tset 0 k b x.acc, sat := tset false k f x.sat }, decide (a ≠ b))

/-- All columns of a result; the count of accumulator saturations. -/
def accAll (s : State) (t : Nat) (r : TRes) : Nat → List (Int × Nat) → Tile → Tile × Nat
  | _, [], x => (x, 0)
  | c, e :: es, x =>
    let q := accStep s t r c e.1 e.2 x
    let m := accAll s t r (c + 1) es q.1
    (m.1, m.2 + b2n q.2)

/-- The output record of a closed-out accumulator index and whether a value overflowed (R70, R114). -/
def Tile.closeOut (x : Tile) (r : TRes) : Bytes × Bool :=
  let vs := (List.range 128).map (fun c =>
    let k := 256 * c + r.acc
    if tget false k x.sat then (marker r.fmt, false)
    else closeValue r.fmt (leNat ((r.par.drop (0x140 + c)).take 1)) r.xo (tget 0 k x.acc))
  (vs.flatMap (fun v => leBytes (valSize r.fmt) v.1), vs.any (·.2))

/-- `n` is at most `a` times the square root of 2, for non-negative `a` (R168). -/
def leRoot2 (n : Int) (a : Nat) : Bool := decide (n ≤ 0) || decide (n * n ≤ 2 * (a * a : Nat))

/-- A comparison fails (R169): CNT9, SWAP_ABANDONED, and what the next boundary does. -/
def State.swapAbandoned (s : State) (t : Nat) : State :=
  let x := s.tl t
  let n := x.fails + 1
  let x := if n < 3 then { x with fails := n, due := 1 }
    else if 0 < x.badS then { x with fails := n, badS := x.badS + 1, due := 3 }
    else { x with fails := n, badS := x.badS + 1, due := 2 }
  (s.setTl t x).countRaise (pgTile t) 9 2

/-- The comparison ends with its verdict. -/
def State.verdict (s : State) (t : Nat) (pass : Bool) : State :=
  if pass then s.setTl t { s.tl t with rot := 5 } else s.swapAbandoned t

/-- A vector of the shadow comparison (R168), in VERIFY, when it qualifies. -/
def State.compareVec (s : State) (t : Nat) (r : TRes) : State :=
  let x := s.tl t
  match r.shadow with
  | none => s
  | some (cs, ps, lc) =>
    let cv := r.codes.getD lc (0, 0)
    if x.rot ≠ 4 || x.due ≠ 0 || lc ≠ x.roles.lcol || ps ≠ x.roles.standby || satCode cs || satCode cv.1
        || s.tgDom t ≠ 0 then s
    else
      let ys := corrected16 cs (s.eff t (qCol ps 0)) (s.eff t (qCol ps 1))
      let yv := corrected16 cv.1 (s.eff t (qCol cv.2 0)) (s.eff t (qCol cv.2 1))
      let b := 1600 + 2 * (ys.natAbs + yv.natAbs)
      let sg := sigmaOf r.mc r.rc
      let ok := leRoot2 (1000 * (ys - yv).natAbs - b) (1280 * sg)
      let c : Compare := ⟨x.cmp.n + 1, x.cmp.bad || !ok, x.cmp.sumD + (ys - yv), x.cmp.sumB + b, sg⟩
      let s := s.setTl t { x with cmp := c }
      if c.n < 64 then s
      else (s.setTl t { s.tl t with cmp := {} }).verdict t (!c.bad && leRoot2 (1000 * c.sumD.natAbs - c.sumB) (5120 * c.sigma))

/-- The last result of a run that has ended has been dealt with: its slot closes (R70). -/
def Tile.lastDone (x : Tile) (final : Bool) : Tile :=
  if final && decide (0 < x.closing) then { x.closeSlot with closing := x.closing - 1 } else x

/-- RESULT_ACCUMULATE: the oldest result of the FIFO is corrected and added into the accumulators, which are closed out when
the set is LAST; a record that still waits for the output ring holds it back (R54, R70). -/
def opResultAccumulate (t : Fin 256) (s : State) : State :=
  let x := s.tl t.val
  match x.fifo with
  | [] => s
  | r :: rs =>
    if x.outRec.isSome || !s.en (pgTile t.val) then s
    else
      let q := accAll s t.val r 0 r.codes { x with fifo := rs }
      let pf := r.pois || (!r.first && tget false r.acc x.pflag)
      let y := { q.1 with pflag := tset false r.acc pf q.1.pflag, fBad := q.1.fBad || decide (q.2 ≠ 0) }
      let s := (s.setTl t.val y).countN (pgTile t.val) 7 q.2
      let s := s.compareVec t.val r
      let y := s.tl t.val
      if r.last then
        let o := y.closeOut r
        s.setTl t.val { y with outRec := some (o.1, pf, r.final), fBad := y.fBad || o.2 }
      else s.setTl t.val (y.lastDone r.final)

/-- OUTPUT_RECORD_WRITE: the record is written once a slot has room; the slot closes when it would not fit (R70). -/
def opOutputRecordWrite (t : Fin 256) (s : State) : State :=
  let x := s.tl t.val
  match x.outRec with
  | none => s
  | some (bs, pois, final) =>
    let x := if x.oSize < x.oFill + bs.length then x.closeSlot else x
    if !s.en (pgTile t.val) then s
    else if x.oLens.length < x.oSlots then
      let at' := 0x21000 + (x.oHead + x.oLens.length) % (max x.oSlots 1) * x.oSize + x.oFill
      let y := (x.write at' bs).setMarks (at' / 64) (bs.length / 64) pois
      s.setTl t.val (Tile.lastDone { y with oFill := x.oFill + bs.length, outRec := none } final)
    else s.setTl t.val x

/-- TILE_RUN_COMPLETE: the run completes after its last slot and hands its completion over; a waiting run then starts
(R75). -/
def opTileRunComplete (t : Fin 256) (s : State) : State :=
  let x := s.tl t.val
  match x.run with
  | none => s
  | some r =>
    if s.en (pgTile t.val) && decide (r.left = 0) && decide (r.vec = 0) then
      ((s.setTl t.val { x.endRun with run := none }).finishPart r.frame r.idx t.val).nextRun t.val x.waiting
    else s

/-! ### Routing, rows and columns -/

/-- A group's substitution under the ROWMAP `new` is not one that `old` already has. -/
def newSubst (old new g : Nat) : Bool := bitOf new (8 * g + 7) && fld new (8 * g + 7) (8 * g) != fld old (8 * g + 7) (8 * g)

/-- The routing decided at a frame boundary reaches the tile (R58, R59): SPARE_USED follows ROWMAP, and a row substitution
that takes effect raises ROW_SUBST. -/
def State.route1 (s : State) (t : Nat) : State :=
  let x := s.tl t
  let used := (List.range 4).foldl (fun m g => m + b2n (bitOf x.roles.rowmap (8 * g + 7)) * 2 ^ g) 0
  let s := if (List.range 4).any (newSubst x.used.rowmap x.roles.rowmap) then s.raise (pgTile t) 5 else s
  s.setTl t { s.tl t with used := x.roles, spareUsed := used }

/-- ROUTING_CHANGE: a decided change reaches the running tile at a vector-cycle boundary (R58). -/
def opRoutingChange (t : Fin 256) (s : State) : State :=
  if s.tileOn t.val && decide ((s.tl t.val).used ≠ (s.tl t.val).roles) then s.route1 t.val else s

/-- The group's spare is neither in use nor failed (R81, R177). -/
def Tile.spareFree (x : Tile) (g : Nat) : Bool :=
  !bitOf x.roles.rowmap (8 * g + 7) && !bitOf x.rowFail (33 * g + 32)

/-- A substitution due at the next boundary claims the group's spare. -/
def Tile.spareClaimed (x : Tile) (g : Nat) : Bool := x.rowDue.any (fun e => e.1 / 32 == g)

/-- The logical row a physical row carries. -/
def Tile.rowCarried (x : Tile) (p : Nat) : Option Nat :=
  (List.range 32).findSome? (fun i => if rowCarrier x.roles.rowmap (p / 33) i = p then some (32 * (p / 33) + i) else none)

/-- A row fails (R60, R178): marked, a frame fault of source 8 when it carries a logical row of a READY tile, substituted
at the next boundary with AUTO_SPARE and a free spare, ROW_NO_SPARE without one; a spare that a substitution already due
claims counts as in use (log 55). -/
def State.rowFails (s : State) (t p : Nat) : State :=
  let x := s.tl t
  if bitOf x.rowFail p then s
  else
    let s0 := s
    let s := s.setTl t { x with rowFail := x.rowFail + 2 ^ p }
    match x.rowCarried p with
    | none => s
    | some r =>
      let free := (x.spareFree (p / 33) && !x.spareClaimed (p / 33) && decide (p % 33 ≠ 32)) || x.substDue r
      let auto := bitOf (s.reg (pgTile t) 0x40) 1
      let s := if x.substDue r then s
        else if free && auto then s.setTl t { s.tl t with rowDue := x.rowDue ++ [(r, false)] }
        else if free then s else s.raise (pgTile t) 6
      let s := watchHealth s0 t s
      if x.ready then s.frameFault 8 s.fr.num else s

/-- ROW_FAILURE: a tap monitor low over three rounds, or a bias driver fault (R178). -/
def opRowFailure (t : Fin 256) (row : Fin 132) (driver : Bool) (s : State) : State :=
  if s.tileOn t.val && !bitOf (s.tl t.val).rowFail row.val && (driver || decide (3 ≤ tget 0 row.val (s.tl t.val).lowRuns)) then
    (if driver then s.tileFault t.val 9 else s).rowFails t.val row.val
  else s

/-- The column is in service. -/
def Tile.inService (x : Tile) (c : Nat) : Bool := (List.range 128).any (fun l => tget l l x.roles.cmap == c)

/-- A column fails: DRIVER_FAULT, a frame fault of source 8 when it is in service, and the failover due at the next boundary
(R170). -/
def State.colFails (s : State) (t c : Nat) : State :=
  let x := s.tl t
  if bitOf x.retired c || x.colDue.contains c then s
  else
    let s := s.tileFault t 9
    let s := s.setTl t { s.tl t with colDue := x.colDue ++ [c] }
    if x.inService c && x.ready then s.frameFault 8 s.fr.num else s

/-- COLUMN_FAILURE: a ring driver, converter or heater bias driver reports a fault (R170). -/
def opColumnFailure (t : Fin 256) (col : Fin 130) (s : State) : State :=
  if s.tileOn t.val then s.colFails t.val col.val else s

/-- ROW_SUBST_REQ: requests the substitution of a logical row at the next boundary, or is refused when the group's spare is
in use or has failed (R81). A spare that only a substitution still due claims is judged at the boundary (log 55). A tile
that is degraded for want of the request is no longer (R178). -/
def opRowSubstReq (p : Path) (t : Fin 256) (val : BitVec 32) (s : State) : State :=
  if s.mayPath p (pgTile t.val) then
    let v := val.toNat
    let g := fld v 9 8
    let x := s.tl t.val
    if !bitOf v 31 then s
    else if x.spareFree g then
      watchHealth s t.val (s.setTl t.val { x with rowDue := x.rowDue ++ [(32 * g + fld v 4 0, true)] })
    else s.reject (pgTile t.val) 10
  else s.deny p (pgTile t.val)

/-- A ring configuration write (R71, R80): held pending, or discarded out of range. -/
def State.ringCfg (s : State) (p : Path) (t off lim v : Nat) : State :=
  if s.mayPath p (pgTile t) then
    let n := fld v 19 16
    let u := fld v 8 0
    if n < 3 || decide (8 < n) || decide (u = 0) || decide (lim < n * u * 256) then s.reject (pgTile t) 10
    else
      let x := s.tl t
      (s.setReg (pgTile t) off (Nat.land v 0xF01FF)).setTl t
        (if off = 0x50 then { x with aPend := true } else { x with oPend := true })
  else s.deny p (pgTile t)

/-- ARING_CFG_WRITE and ORING_CFG_WRITE. -/
def opAringCfgWrite (p : Path) (t : Fin 256) (val : BitVec 32) (s : State) : State := s.ringCfg p t.val 0x50 98304 val.toNat
def opOringCfgWrite (p : Path) (t : Fin 256) (val : BitVec 32) (s : State) : State := s.ringCfg p t.val 0x58 65536 val.toNat

/-- A written ring configuration comes into force at a boundary at which the ring is empty and no run is in progress; the
ring's head and tail then return to 0 (R71). -/
def State.ringsBoundary (s : State) (t : Nat) : State :=
  let x := s.tl t
  if x.run.isSome then s
  else
    let a := s.reg (pgTile t) 0x50
    let o := s.reg (pgTile t) 0x58
    let x := if x.aPend && x.aSrc.isEmpty then
        { x with aSlots := fld a 19 16, aUnits := fld a 8 0, aHead := 0, aRec := 0, aPend := false } else x
    let x := if x.oPend && x.oLens.isEmpty && decide (x.oFill = 0) && x.outRec.isNone then
        { x with oSlots := fld o 19 16, oUnits := fld o 8 0, oHead := 0, oPend := false } else x
    s.setTl t x

/-- TILE_SCRUB_PASS: a pass over all words, in ascending order, with what it finds (R72). -/
def opTileScrubPass (t : Fin 256) (errs : List SramErr) (s : State) : State :=
  if s.tileOn t.val && bitOf (s.reg (pgTile t.val) 0x40) 2 then
    forL (sortKey (fun e => e.off.val) errs) (fun e s => s.sramErr t.val e) s
  else s

/-- The tile's rings are emptied, its latches invalidated, its rings parked, its accumulators cleared and its runs abandoned
(R77). -/
def Tile.empty (x : Tile) : Tile :=
  { x with wHead := 0, wSrc := [], wIn := false, aHead := 0, aSrc := [], aRec := 0, oHead := 0, oLens := [], oFill := 0,
           loading := false, shadow := none, active := none, run := none, waiting := [], fifo := [], outRec := none,
           closing := 0, acc := [], sat := [], pflag := [], setId := 0 }

/-- The stall cause of a run in the present tick, if it waits (R76): 2 weight load, 3 operand, 4 back-pressure, 5 swap. -/
def State.tileWait (s : State) (t : Nat) : Option Nat :=
  let x := s.tl t
  match x.run with
  | none => none
  | some r =>
    if r.vec = 0 then
      if r.left = 0 then none
      else if x.shadow.isNone then some 2
      else if x.used ≠ x.roles then some 5 else none
    else if x.aSrc.isEmpty then some 3
    else if Config.resultFifo + 1 ≤ x.fifo.length then some 4
    else if x.used ≠ x.roles then some 5
    else none

def execActionTileRun (s : State) : Host.Outcome State Fault Refusal := done s (opActionTileRun s)
def execShadowLoadStart (t : Fin 256) (err : Option SramErr) (s : State) : Host.Outcome State Fault Refusal :=
  done s (opShadowLoadStart t err s)
def execShadowLoadDone (t : Fin 256) (s : State) : Host.Outcome State Fault Refusal := done s (opShadowLoadDone t s)
def execWeightSwitch (t : Fin 256) (s : State) : Host.Outcome State Fault Refusal := done s (opWeightSwitch t s)
def execVectorCycle (t : Fin 256) (err : Option SramErr) (s : State) : Host.Outcome State Fault Refusal :=
  done s (opVectorCycle t err s)
def execResultAccumulate (t : Fin 256) (s : State) : Host.Outcome State Fault Refusal := done s (opResultAccumulate t s)
def execOutputRecordWrite (t : Fin 256) (s : State) : Host.Outcome State Fault Refusal := done s (opOutputRecordWrite t s)
def execTileRunComplete (t : Fin 256) (s : State) : Host.Outcome State Fault Refusal := done s (opTileRunComplete t s)
def execRoutingChange (t : Fin 256) (s : State) : Host.Outcome State Fault Refusal := done s (opRoutingChange t s)
def execRowFailure (t : Fin 256) (row : Fin 132) (driver : Bool) (s : State) : Host.Outcome State Fault Refusal :=
  done s (opRowFailure t row driver s)
def execColumnFailure (t : Fin 256) (col : Fin 130) (s : State) : Host.Outcome State Fault Refusal :=
  done s (opColumnFailure t col s)
def execRowSubstReq (p : Path) (t : Fin 256) (val : BitVec 32) (s : State) : Host.Outcome State Fault Refusal :=
  done s (opRowSubstReq p t val s)
def execAringCfgWrite (p : Path) (t : Fin 256) (val : BitVec 32) (s : State) : Host.Outcome State Fault Refusal :=
  done s (opAringCfgWrite p t val s)
def execOringCfgWrite (p : Path) (t : Fin 256) (val : BitVec 32) (s : State) : Host.Outcome State Fault Refusal :=
  done s (opOringCfgWrite p t val s)
def execTileScrubPass (t : Fin 256) (errs : List SramErr) (s : State) : Host.Outcome State Fault Refusal :=
  done s (opTileScrubPass t errs s)

end Sys2Proof.Machine
end

