-- ==== Sys2Proof/Machine/Stream.lean ====
section
/-!
DEFINITION. Streams (R214 to R236) and check-value units (R237 to R242): starts, descriptor checks, requests with their
arbitration, deliveries of the six kinds, weight slots (R101 to R106), the weight share cache, stalls, and the commands of
the STREAM and CHECK pages.
-/
namespace Sys2Proof.Machine

/-! ### Weight blocks (Tables 4.1, 4.2; R105) -/

/-- Bytes per row and per chunk of a weight format (Table 4.1). -/
def rowBytes (fmt : Nat) : Nat := ([64, 48, 32, 26] : List Nat).getD fmt 26
def chunkBytes (fmt : Nat) : Nat := 128 * rowBytes fmt

/-- The header fields kept with the context. -/
def Ctx.fmt (x : Ctx) : Nat := fld (x.dw 8) 17 16
def Ctx.kch (x : Ctx) : Nat := fld (x.dw 8) 47 32
def Ctx.nblk (x : Ctx) : Nat := fld (x.dw 8) 63 48
def Ctx.colblk (x : Ctx) : Nat := fld (x.dw 3) 15 0
def Ctx.chunk0 (x : Ctx) : Nat := fld (x.dw 3) 31 16
def Ctx.nchunk (x : Ctx) : Nat := fld (x.dw 3) 47 32
def Ctx.reps (x : Ctx) : Nat := fld (x.dw 3) 63 48

/-- The bytes read for one set (R221). -/
def Ctx.setBytes (x : Ctx) : Nat := 192 + chunkBytes x.fmt

/-- Everything the stream reads: LENGTH, or all sets' bytes. -/
def Ctx.total (x : Ctx) : Nat := if x.kind = 1 then x.setBytes * x.nchunk * x.reps else x.length

/-- Where byte `p` of set `i` lies, and the bytes that follow it there (R105, R221). -/
def Ctx.weightAt (x : Ctx) (i p : Nat) : Nat × Nat :=
  let stride := 64 + chunkBytes x.fmt
  let blk := x.srcBase + 64 + x.colblk * (128 + x.kch * stride)
  if p < 128 then (blk + p, 128 - p)
  else (blk + 128 + (x.chunk0 + i % x.nchunk) * stride + (p - 128), x.setBytes - p)

/-- The header check of R106 and the ranges of R221: none, or the fault cause. -/
def headerOk (x : Ctx) (h : Bytes) : Bool :=
  let k := leNat ((h.drop 8).take 4)
  let n := leNat ((h.drop 12).take 4)
  let st := leNat ((h.drop 16).take 4)
  decide (fld (x.dw 8) 15 0 = 0x4B57) && decide (fld (x.dw 8) 31 24 = 1) && decide (0 < x.kch) && decide (0 < x.nblk)
    && decide (128 * (x.kch - 1) < k) && decide (k ≤ 128 * x.kch)
    && decide (128 * (x.nblk - 1) < n) && decide (n ≤ 128 * x.nblk)
    && decide (st < 2 ^ 31) && decide (0 < fld st 30 23) && decide (fld st 30 23 < 255)
    && decide ((crc32c (h.take 60)).toNat = leNat ((h.drop 60).take 4))
    && decide (x.colblk < x.nblk) && decide (x.chunk0 + x.nchunk ≤ x.kch)

/-- The 128 cell codes of a stored row, as 4-bit numbers (R101 to R103). -/
def rowCodes (fmt : Nat) (row : Bytes) : List Nat :=
  if fmt = 3 then
    (row.flatMap (fun b => [0, 1, 2, 3, 4].map (fun i =>
      let t := b.toNat / 3 ^ i % 3
      if t = 2 then 15 else t))).take 128
  else
    let b := 4 - fmt
    let w := leNat row
    (List.range 128).map (fun c => untwos 4 (sext b (w / 2 ^ (b * c))))

/-- Pack 4-bit codes two to a byte, even index in bits [3:0] (Table 2.5). -/
def packNib : List Nat → Bytes
  | a :: b :: r => BitVec.ofNat 8 (a + 16 * b) :: packNib r
  | [a] => [BitVec.ofNat 8 a]
  | [] => []

/-- The set descriptor of set `i` (R221, Table 2.6). -/
def Ctx.setDescOf (x : Ctx) (i : Nat) : Bytes :=
  let j := i % (max x.nchunk 1)
  let g := x.dw 4
  leBytes 2 ((fld (x.dw 0) 31 16 + i) % 2 ^ 16)
    ++ leBytes 2 (fld g 8 0 + 2 ^ 9 * b2n (bitOf (x.dw 0) 13 && decide (j = 0))
        + 2 ^ 10 * b2n (bitOf (x.dw 0) 14 && decide (j + 1 = x.nchunk)))
    ++ leBytes 1 (fld g 23 16) ++ leBytes 1 (fld g 25 24) ++ List.replicate 58 0

/-- The weight slot built from a set's bytes (R106). -/
def Ctx.buildSlot (x : Ctx) (bs : Bytes) (i : Nat) : Bytes :=
  let w := bs.drop 192
  let rb := rowBytes x.fmt
  let rows := (List.range 128).map (fun r => rowCodes x.fmt ((w.drop (rb * r)).take rb))
  let sums := rows.foldl (fun acc r => List.zipWith (fun a c => a + sext 4 c) acc r) (List.replicate 128 (0 : Int))
  (rows.flatMap packNib) ++ (sums.flatMap (fun v => leBytes 2 (untwos 16 v))) ++ ((bs.drop 128).take 64) ++ (bs.take 128)
    ++ x.setDescOf i

/-- A byte at offset `o` of a set is an invalid ternary byte (R103). -/
def badTrits (fmt o : Nat) (b : Byte) : Bool :=
  fmt == 3 && decide (192 ≤ o) && decide ((if (o - 192) % 26 = 25 then 26 else 242) < b.toNat)

/-! ### Starts (R214 to R218) -/

/-- A start that names a context in LOADING or ACTIVE is fault cause 2: the context's stream stops and it enters FAULT with
that cause (R218, R234, Table 8.6, log 31). -/
def State.startBusy (s : State) (c : Nat) : State := s.streamFault c 2

/-- A stream start (R214): the context enters LOADING. -/
def State.startStream (s : State) (c desc tenant : Nat) (act env : Option (Nat × Nat)) : State :=
  let s := s.undoCtx c
  s.setCx c { st := 1, desc := desc, tenant := tenant, act := act, env := env, kind := (s.cx c).kind }

/-- The context is LOADING or ACTIVE. -/
def Ctx.busy (x : Ctx) : Bool := x.st == 1 || x.st == 2

/-- ACTION_STREAM (R214, R217, R297). A context in FAULT is left only by CLEAR, soft reset or replay (Table 8.4): a start that
names it starts nothing. -/
def opActionStream (s : State) : State :=
  s.launch 2 (fun _ => true) (fun r idx s =>
    let c := fld r.w1 11 0
    if !s.en pgStream then (s, [], true)
    else if (s.cx c).busy then (s.startBusy c, [], true)
    else if (s.cx c).st = 5 then (s, [], true)
    else (s.startStream c (fld r.w2 47 0) 0 (some (s.fr.num, idx)) none, [0], false))

/-- STREAM_ENV_START (R218): the next admitted envelope of the start pigeonhole is consumed; one of another kind, or a
poisoned one, has no effect (R247). -/
def opStreamEnvStart (s : State) : State :=
  let cfg := s.reg pgStream 0x40
  let q := fld cfg 17 0
  if s.en pgStream && bitOf cfg 31 then
    let at' := (s.qd q).head
    let r := s.consume q
    match r.1 with
    | none => r.2
    | some (e, pois) =>
      if pois || fld (envW0 e) 3 0 ≠ 2 then r.2
      else
        let c := fld (leNat ((e.drop 16).take 2)) 11 0
        if (r.2.cx c).busy then r.2.startBusy c
        else if (r.2.cx c).st = 5 then r.2
        else r.2.startStream c (fld (leNat ((e.drop 24).take 8)) 47 0) (fld (envW0 e) 7 4) none (some (q, at'))
  else s

/-- An end's placement (R215). -/
def endOk (base : Nat) (g : Geo) (len : Nat) : Bool :=
  if g.ring then
    decide (3 ≤ g.slots) && decide (0 < g.size) && decide (base % 256 = 0) && rangeInHub base (g.slots * g.size)
  else decide (base % 64 = 0) && (rangeInHub base len || rangeInTier base len)

/-- Fault cause 1 of a descriptor (R215, R323). -/
def State.descBad (s : State) (x : Ctx) : Bool :=
  let k := x.kindOf
  decide (5 < k) || ((k == 4 || k == 5) && (decide (1 < x.lclass) || decide (35 < x.linkOf)))
    || (k == 1 && (x.tolerant || decide (x.nchunk = 0) || decide (x.reps = 0) || decide (x.srcBase % 64 ≠ 0)
        || !inTier x.srcBase))
    || (k != 1 && (decide (x.length = 0) || decide (x.length % 64 ≠ 0)))
    || ((k == 0 || k == 2 || k == 4) && !endOk x.srcBase x.srcG x.length)
    || ((k == 0 || k == 3 || k == 5) && !endOk x.dstBase x.dstG x.length)
    || (k == 2 && (x.tiles.isEmpty
        || x.tiles.any (fun t => decide ((s.tl t).aSize ≠ (s.tl (x.tiles.headD 0)).aSize))
        || decide (x.length % (max (s.tl (x.tiles.headD 0)).aSize 1) ≠ 0)))
    || (decide (x.rate ≠ 0) && decide (x.burst = 0))
    || (k == 4 && x.lclass == 1
        && (!(s.lnk x.linkOf).pValid || decide ((s.lnk x.linkOf).pDev ≠ fld (x.dw 3) 49 40)))

/-- The unit that a descriptor names cannot be bound: it is bound to another stream or to a pigeonhole (Table 8.6). -/
def State.unitBusy (s : State) (u : Nat) : Bool :=
  (tget none u s.chk).isSome || (s.en (pgCheck u) && bitOf (s.reg (pgCheck u) 0x40) 1)

/-- Bind the unit of an accepted descriptor (R238). -/
def State.bindUnit (s : State) (c u : Nat) (x : Ctx) (cont : Bool) : State :=
  let p := pgCheck u
  let s := (s.setReg64 p 0x50 (x.dw 7)).setReg p 0x5C (s.reg p 0x5C / 2 * 2)
  let s := if cont then s else s.setReg64 p 0x48 (crcInit (s.reg p 0x40 % 2))
  { s with chk := tset none u (some c) s.chk }

/-- The descriptor as an engine reads it for a tenant: its words, or none where it cannot be read as one (log 31). -/
def State.readDesc (s : State) (src tenant vsrc a : Nat) : Option (List Nat) × State :=
  if a % 64 ≠ 0 || !rangeInHub a 64 then (none, s)
  else if !s.mayPhys tenant a false then (some (List.replicate 8 0), s.violate tenant vsrc)
  else
    let r := s.gRead src (a / 64) .clean
    if r.1.2 then (none, r.2) else (some ((List.range 8).map (fun i => leNat ((r.1.1.drop (8 * i)).take 8))), r.2)

/-- The halves of a cache line that a WEIGHT read of address `a` covers: both in tier-1, its own in tier-2 (R222). -/
def needHalf (a : Nat) : Bool × Bool :=
  if a < 0x8000000000 then (true, true) else (decide (a % 256 < 128), decide (128 ≤ a % 256))

/-- The weight share cache holds what a WEIGHT read needs (R222, R223). -/
def State.shareHit (s : State) (a : Nat) : Bool :=
  bitOf (s.reg pgStream 0x44) 0 &&
    (tget [] (fld a 21 8) s.share.sets).any (fun l =>
      l.line == a / 256 && (l.lo || !(needHalf a).1) && (l.hi || !(needHalf a).2))

/-- A line used by a WEIGHT read of address `a` becomes the most recently used, with the halves read made valid when the
read fills it (R222). -/
def Share.use (h : Share) (a frame : Nat) (fill : Bool) : Share :=
  let set := fld a 21 8
  let ls := tget [] set h.sets
  let old := (ls.find? (fun l => l.line == a / 256)).getD ⟨a / 256, false, false, frame⟩
  let l : ShareLine := { old with frame := frame, lo := old.lo || (fill && (needHalf a).1), hi := old.hi || (fill && (needHalf a).2) }
  { h with sets := tset [] set ((l :: ls.filter (fun m => m.line != a / 256)).take 16) h.sets }

/-- Any access to a line held makes it the most recently used (R222, R224). -/
def Share.look (h : Share) (a frame : Nat) : Share :=
  if (tget [] (fld a 21 8) h.sets).any (fun l => l.line == a / 256) then h.use a frame false else h

/-- The read of a WEIGHT stream's block header looks up the share cache as its other reads do (R222). -/
def State.headerLook (s : State) (a : Nat) : State :=
  if s.shareHit a then { s.count pgStream 10 with share := s.share.use a s.fr.num false }
  else
    let s := s.count pgStream 11
    if bitOf (s.reg pgStream 0x44) 0 then { s with share := s.share.use a s.fr.num true } else s

/-- The block header that a context's descriptor names, when it names one, need not be waited for (R357). -/
def State.headerAwake (s : State) (c : Nat) : Bool :=
  match (s.readDesc 0 (s.cx c).tenant 4 (s.cx c).desc).1 with
  | none => true
  | some w =>
    let x : Ctx := { w := w }
    decide (x.kindOf ≠ 1) || s.rangeAwake x.srcBase 64

/-- Granule `g` cannot be read: no device backs it, its controller is in FAULT, or its error is uncorrectable (R347, R352). -/
def State.granLost (s : State) (g : Nat) (d : Dec) : Bool :=
  match regionOf (64 * g) with
  | .none => true
  | .ctl k => decide ((s.ctl k).st = .fault) || decide (s.found g d = .uncorrectable)
  | _ => decide (s.found g d = .uncorrectable)

/-- STREAM_DESC_CHECK: the engine reads and checks the descriptor of a LOADING context, which enters ACTIVE or FAULT; a
detached stream's action completes (R215, R217, R221). -/
def State.descCheck (s : State) (c : Nat) (cont : Bool) : State :=
  let x := s.cx c
  let r := s.readDesc 0 x.tenant 4 x.desc
  let s := r.2
  match r.1 with
  | none => s.streamFault c 1
  | some w =>
    let x := { x with w := w }
    let x := { x with kind := x.kindOf % 16, det := x.detached || x.env.isSome, bucket := x.burst * 4096 }
    let s := s.setCx c x
    if s.descBad x then s.streamFault c 1
    else
      let h := if x.kind ≠ 1 then ((List.replicate 64 (0 : Byte), false), s)
        else if s.mayPhys x.tenant x.srcBase false then (s.headerLook x.srcBase).gRead 0 (x.srcBase / 64) .clean
        else ((List.replicate 64 0, false), s.violate x.tenant 4)
      let lost := s.granLost (x.srcBase / 64) .clean
      let s := h.2
      let x := if x.kind = 1 then { x with w := w ++ [leNat (h.1.1.take 8), leNat ((h.1.1.drop 8).take 8)] } else x
      if h.1.2 then s.streamFault c (if lost then 6 else 7)
      else if x.kind = 1 && !headerOk x h.1.1 then s.streamFault c 4
      else
        let u := fld (x.dw 0) 12 8
        let chk := bitOf (x.dw 0) 6
        if chk && s.unitBusy u then s.streamFault c 3
        else
          let s := if chk then s.bindUnit c u x (cont || bitOf (x.dw 0) 7) else s
          let s := (s.setCx c { x with st := 2, env := none }).count pgStream 0
          match x.act with
          | some (f, i) => if x.det then s.finishPart f i 0 else s
          | none => s

/-- STREAM_DESC_CHECK. -/
def opStreamDescCheck (c : Fin 4096) (s : State) : State :=
  if s.en pgStream && (s.cx c.val).st == 1 && s.headerAwake c.val then s.descCheck c.val false else s

/-! ### What a stream could request next (R216, R225, R226, R229) -/

/-- Bytes of the requests outstanding. -/
def Ctx.outstanding (x : Ctx) : Nat := (x.reqs.map (·.len)).sum

/-- Bytes landed so far. -/
def Ctx.landed (x : Ctx) : Nat := x.issued - x.outstanding

/-- The unit (slot or flit) of the given sizes in which byte `o` lies: its index, the offset in it and the bytes left. -/
def unitAt : List Nat → Nat → Nat → Option (Nat × Nat × Nat)
  | [], _, _ => none
  | n :: ns, o, k => if o < n then some (k, o, n - o) else unitAt ns (o - n) (k + 1)

/-- The receive buffer that a LINK_RX stream drains. -/
def State.rxBuf (s : State) (x : Ctx) : List Flit := if x.lclass = 0 then (s.lnk x.linkOf).rx0 else (s.lnk x.linkOf).rx1

/-- Another ACTIVE LINK_RX stream of a lower context drains the same class of the same link (log 31). -/
def State.rxTaken (s : State) (c : Nat) (x : Ctx) : Bool :=
  s.stm.ctx.any (fun e => decide (e.1 < c) && e.2.st == 2 && e.2.kind == 5 && e.2.linkOf == x.linkOf && e.2.lclass == x.lclass)

/-- The next source byte of a stream and how many follow it there; none while the source has not provided it. -/
def State.srcAvail (s : State) (c : Nat) : Option (Nat × Nat) :=
  let x := s.cx c
  let p := x.issued
  if x.total ≤ p then none
  else if x.kind = 1 then some (x.weightAt (p / x.setBytes) (p % x.setBytes))
  else if x.kind = 3 then
    let y := s.tl x.tileOf
    (unitAt y.oLens (x.part + x.outstanding) 0).map (fun u =>
      (0x21000 + (y.oHead + u.1) % (max y.oSlots 1) * y.oSize + u.2.1, min u.2.2 (x.total - p)))
  else if x.kind = 5 then
    if s.rxTaken c x then none
    else (unitAt ((s.rxBuf x).map (fun f => 64 * (f.ngran + 1))) (x.part + x.outstanding) 0).map (fun u =>
      (256 * u.1 + u.2.1, min u.2.2 (x.total - p)))
  else if x.srcG.ring then
    let g := x.srcG
    let n := p / g.size
    if n + 1 ≤ s.cell g.full then
      some (x.srcBase + n % g.slots * g.size + p % g.size, min (x.total - p) (g.size - p % g.size))
    else none
  else some (x.srcBase + p, x.total - p)

/-- How many bytes the destination position may take now (R226); none when it is not free. -/
def State.dstRoom (s : State) (c : Nat) : Option Nat :=
  let x := s.cx c
  let p := x.issued
  if x.kind = 1 then
    let i := p / x.setBytes
    if (s.tl x.tileOf).wSrc.length + (i - x.pos) < 4 then some x.setBytes else none
  else if x.kind = 2 then
    let sz := max (s.tl (x.tiles.headD 0)).aSize 1
    if x.tiles.all (fun t => decide ((s.tl t).aSrc.length + (p / sz - x.pos / sz) < (s.tl t).aSlots)) then some (sz - p % sz)
    else none
  else if x.kind = 4 then
    if (p - x.pos) / 256 ≤ Config.txAhead then some (256 - p % 256) else none
  else if x.dstG.ring then
    let g := x.dstG
    if p / g.size + 1 ≤ s.cell g.empty + g.slots then some (g.size - p % g.size) else none
  else some x.total

/-- A memory read of a stream goes to tier-1 in requests of 256 B, to tier-2 in requests of 128 B (R225). -/
def reqSpan (a : Nat) : Nat :=
  match regionOf a with
  | .ctl k => if k < 8 then 256 - a % 256 else 128 - a % 128
  | _ => 256 - a % 256

/-- Tags or requests in use at tier-1 stack `k` or at tier-2 channel `k - 8` (R225). -/
def State.tagsAt (s : State) (k : Nat) : Nat :=
  (s.stm.ctx.map (fun e =>
    if e.2.kind == 3 || e.2.kind == 5 then 0
    else (e.2.reqs.filter (fun r => !r.hit && !r.landed && decide (regionOf r.addr = .ctl k))).length)).sum

/-- The point at which a request is granted (R228): a stack, a channel, a hub bank, the hit path, a compute-stack-to-hub
port, or a link. -/
def State.grantPoint (_s : State) (x : Ctx) (a : Nat) (hit : Bool) : Nat :=
  if x.kind = 3 then 128 + x.tileOf / 64
  else if x.kind = 5 then 200 + 2 * x.linkOf + x.lclass
  else if hit then 127
  else match regionOf a with
    | .ctl k => k
    | .hub b => 64 + b
    | _ => 126

/-- The stream is at a boundary of its 256-byte requests, where an accepted STOP takes effect (R220): for LINK_TX, of its
flits. -/
def State.stopHere (s : State) (c : Nat) : Bool :=
  match s.srcAvail c with
  | none => true
  | some (a, _) => decide ((if (s.cx c).kind = 4 then (s.cx c).issued else a) % 256 = 0)

/-- An accepted STOP has taken effect: no new reads (R220). -/
def State.stopping (s : State) (c : Nat) : Bool := (s.cx c).stop && s.stopHere c

/-- The bytes of the stream's next request: of what its source has, what its destination takes and what one request carries
(R225, R226). -/
def Ctx.span (x : Ctx) (a n m : Nat) : Nat := min (min n m) (if x.kind != 3 && x.kind != 5 then reqSpan a else 256)

/-- The request a stream contends with: address, length, hit and point; none when it does not contend. -/
def State.wants (s : State) (c : Nat) : Option (Nat × Nat × Bool × Nat) :=
  let x := s.cx c
  if x.st ≠ 2 || s.stopping c then none
  else match s.srcAvail c, s.dstRoom c with
    | some (a, n), some m =>
      let mem := x.kind != 3 && x.kind != 5
      let len := x.span a n m
      let hit := x.kind == 1 && s.shareHit a
      let tagOk := if mem && !hit then
          (match regionOf a with | .ctl k => decide (s.tagsAt k < (if k < 8 then 4096 else 256)) | _ => true)
        else true
      if tagOk && (x.rate == 0 || decide (16 * len ≤ x.bucket)) then some (a, len, hit, s.grantPoint x a hit) else none
    | _, _ => none

/-- Bytes complete at the destination and not consumed, with those of requests issued and not delivered (R228). -/
def State.committedBytes (s : State) (c : Nat) : Nat :=
  let x := s.cx c
  if x.kind = 1 then (s.tl x.tileOf).wSrc.count c * x.setBytes + (x.issued - x.pos * x.setBytes)
  else if x.kind = 2 then
    let f (t : Nat) : Nat := ((s.tl t).aSrc.filter (fun v => v / 2 == c)).length * (s.tl t).aSize
    (x.tiles.map f).foldl min (f (x.tiles.headD 0)) + x.pos % (max (s.tl (x.tiles.headD 0)).aSize 1) + x.outstanding
  else if x.kind = 4 then x.issued - x.pos
  else if x.dstG.ring then x.issued - s.cell x.dstG.empty * x.dstG.size
  else x.outstanding

/-- Time to empty (R228). -/
def State.tte (s : State) (c : Nat) : Nat := min (16 * s.committedBytes c / (s.cx c).drain) (2 ^ 24 - 1)

/-- Context `c` is granted before context `d` at a point whose last grant went to `last - 1` (R228). -/
def State.grantBefore (s : State) (last c d : Nat) : Bool :=
  let x := (s.cx c).drain
  let y := (s.cx d).drain
  if x ≠ 0 && y ≠ 0 then decide (s.tte c < s.tte d) || (decide (s.tte c = s.tte d) && decide (c ≤ d))
  else if x ≠ 0 then true
  else if y ≠ 0 then false
  else decide ((c + 4096 - last) % 4096 ≤ (d + 4096 - last) % 4096)

/-- Of all streams that contend at `c`'s point, `c` is granted. -/
def State.granted (s : State) (c pt : Nat) : Bool :=
  let last := tget 0 pt s.stm.last
  s.stm.ctx.all (fun e => match s.wants e.1 with
    | some (_, _, _, q) => decide (q ≠ pt) || s.grantBefore last c e.1
    | none => true)

/-- STREAM_READ_ISSUE (R225 to R228): the stream's next request, once its destination position is free, its bucket and the
tags allow it and arbitration grants it. -/
def opStreamReadIssue (c : Fin 4096) (s : State) : State :=
  if !s.en pgStream then s
  else match s.wants c.val with
  | none => s
  | some (a, len, hit, pt) =>
    if !s.granted c.val pt then s
    else
      let x := s.cx c.val
      let x := { x with issued := x.issued + len, reqs := x.reqs ++ [⟨a, len, hit, false⟩],
                        bucket := if x.rate = 0 then x.bucket else x.bucket - 16 * len }
      let s := s.setCx c.val x
      let s := if x.kind = 1 then s.count pgStream (if hit then 10 else 11) else s
      let s := if x.kind = 1 && hit then { s with share := s.share.use a s.fr.num false }
        else if x.kind = 1 && bitOf (s.reg pgStream 0x44) 0 then
          let h := s.share.look a s.fr.num
          { s with share := { h with fills := h.fills ++ [a] } }
        else s
      let s := if x.drain = 0 then { s with stm := { s.stm with last := tset 0 pt (c.val + 1) s.stm.last } } else s
      if pt < 24 then { s with stm := { s.stm with peak := tset 0 pt (max (tget 0 pt s.stm.peak) (s.tagsAt pt)) s.stm.peak } } else s

/-! ### Deliveries -/

/-- The `i`th 64 bytes. -/
def granOf (bs : Bytes) (i : Nat) : Bytes := (bs.drop (64 * i)).take 64

/-- Context `c`'s read of the `n` granules from `g`, decoded as `dec` says: bytes, marks, and the fault cause of the
first granule that an exact stream cannot take (Table 8.6). -/
def State.sReads (s : State) (c g : Nat) : Nat → List Dec → (Bytes × List Bool × Nat) × State
  | 0, _ => (([], [], 0), s)
  | n + 1, dec =>
    let d := dec.headD .clean
    let r := s.gRead 0 g d
    let b := r.2.unsynced c g r.1.1
    let q := b.2.sReads c (g + 1) n (dec.drop 1)
    ((b.1 ++ q.1.1, r.1.2 :: q.1.2.1, if s.granLost g d then 6 else if r.1.2 then 7 else q.1.2.2), q.2)

/-- What the oldest request of a context delivers. -/
def State.landData (s : State) (c : Nat) (r : SReq) (dec : List Dec) : (Bytes × List Bool × Nat) × State :=
  let x := s.cx c
  let n := (r.len + 63) / 64
  let cause (ms : List Bool) : Nat := if ms.any id then 7 else 0
  if x.kind = 3 then
    let y := s.tl x.tileOf
    let a := 0x21000 + y.oHead * y.oSize + x.part
    let ms := (List.range n).map (fun i => y.mark (a / 64 + i))
    ((y.read a r.len, ms, cause ms), s)
  else if x.kind = 5 then
    match s.rxBuf x with
    | [] => ((List.replicate r.len 0, List.replicate n false, 0), s)
    | f :: _ =>
      let ms := (List.range n).map (fun i => bitOf f.pois (x.part / 64 + i))
      (((f.data.drop x.part).take r.len, ms, cause ms), s)
  else if !s.mayPhys x.tenant r.addr false then
    ((List.replicate r.len 0, List.replicate n false, 0), s.violate x.tenant 4)
  else if r.hit then
    let ms := (List.range n).map (fun i => s.mem.mark (r.addr / 64 + i))
    ((s.mem.read r.addr r.len, ms, cause ms), s)
  else s.sReads c (r.addr / 64) n dec

/-- One operation on a ring's cell by the engine (R229, R436). -/
def State.ringCell (s : State) (c cell : Nat) : State :=
  if s.mayCell (s.cx c).tenant cell then s.addCell cell 1 else s.violate (s.cx c).tenant 5

/-- The source of the landed bytes is freed once its slot or flit has been read to its end, or LENGTH is reached (R229). -/
def State.srcFree (s : State) (c len : Nat) : State :=
  let x := s.cx c
  let last := decide (x.total ≤ x.landed)
  if x.kind = 3 then
    let y := s.tl x.tileOf
    if y.oLens.headD 0 ≤ x.part + len || last then
      (s.setTl x.tileOf { y with oHead := (y.oHead + 1) % (max y.oSlots 1), oLens := y.oLens.drop 1 }).setCx c { x with part := 0 }
    else s.setCx c { x with part := x.part + len }
  else if x.kind = 5 then
    match s.rxBuf x with
    | [] => s
    | f :: _ =>
      if 64 * (f.ngran + 1) ≤ x.part + len || last then
        let l := x.linkOf
        let s := s.undoLink l x.lclass
        let y := s.lnk l
        let y := if x.lclass = 0 then { y with rx0 := y.rx0.drop 1, rd0 := (y.rd0 + 1) % 4096 }
          else { y with rx1 := y.rx1.drop 1, rd1 := (y.rd1 + 1) % 4096 }
        (s.setLnk l { y with eaten := y.eaten ++ [(f, s.fr.num)] }).setCx c { x with part := 0 }
      else s.setCx c { x with part := x.part + len }
  else if x.kind ≠ 1 && x.srcG.ring && (decide (x.landed % x.srcG.size = 0) || last) then
    (s.setCx c { x with srcN := x.srcN + 1 }).ringCell c x.srcG.empty
  else s

/-- Write a delivered piece to memory with its marks, granule by granule; what of it the protection map forbids is dropped and
counts once (R235, R436). -/
def State.writePiece (s : State) (c tenant a : Nat) (bs : Bytes) (ms : List Bool) : State :=
  let may (i : Nat) : Bool := s.mayPhys tenant (a + 64 * i) true
  let s' := forL ms.zipIdx (fun m t =>
    if may m.2 then t.agentWrite c 0 (a / 64 + m.2) ((granOf bs m.2).map some) m.1 else t) s
  if (List.range ms.length).all may then s' else s'.violate tenant 4

/-- Deliver a piece to an array or slot ring (kinds 0, 3, 5): write it, and count a filled slot in FULL. -/
def State.toMemory (s : State) (c : Nat) (bs : Bytes) (ms : List Bool) : State :=
  let x := s.cx c
  let g := x.dstG
  let a := if g.ring then x.dstBase + x.pos / g.size % g.slots * g.size + x.pos % g.size else x.dstBase + x.pos
  let s := (s.writePiece c x.tenant a bs ms).coverCtx c bs
  let p := x.pos + bs.length
  let s := s.setCx c { s.cx c with pos := p }
  if g.ring && (decide (p % g.size = 0) || decide (x.total ≤ p)) then
    (s.setCx c { s.cx c with dstN := x.dstN + 1 }).ringCell c g.full
  else s

/-- Deliver a piece of a span to every tile of the mask (R216). -/
def State.toTiles (s : State) (c : Nat) (bs : Bytes) (ms : List Bool) : State :=
  let x := s.cx c
  let sz := max (s.tl (x.tiles.headD 0)).aSize 1
  let p := x.pos + bs.length
  let s := forL x.tiles (fun t s =>
    let y := s.tl t
    let a := 0x9000 + (y.aHead + y.aSrc.length) % (max y.aSlots 1) * y.aSize + x.pos % sz
    let y := y.write a bs
    let y := ms.zipIdx.foldl (fun y m => y.setMarks (a / 64 + m.2) 1 m.1) y
    s.setTl t (if p % sz = 0 then { y with aSrc := y.aSrc ++ [2 * c + b2n x.tolerant] } else y)) s
  (s.coverCtx c bs).setCx c { s.cx c with pos := p }

/-- Whole flits of a LINK_TX stream's landed bytes become ready to be sent; the last one may be partial (R318). -/
def State.toLink (s : State) (c : Nat) (bs : Bytes) (ms : List Bool) : State :=
  let x := s.cx c
  let buf := x.buf ++ bs
  let bm := x.bufP ++ ms
  if 256 ≤ buf.length || x.total ≤ x.landed then
    let d := buf.take 256
    let n := (d.length + 63) / 64
    let p := (bm.take 4).zipIdx.foldl (fun a m => a + b2n m.1 * 2 ^ m.2) 0
    let f : Flit := ⟨x.lclass, n - 1, p, if x.lclass = 0 then 3 else 0, 0, fld (x.dw 3) 49 40, 0,
      d ++ List.replicate (256 - d.length) 0, 36 + c⟩
    let y := s.lnk x.linkOf
    (s.setLnk x.linkOf { y with txq := y.txq ++ [f] }).setCx c { x with buf := buf.drop 256, bufP := bm.drop 4 }
  else s.setCx c { x with buf := buf, bufP := bm }

/-- Landed bytes of a WEIGHT stream: a set whose bytes are all there is built into the tile's next weight slot (R106). -/
def State.toWeights (s : State) (c : Nat) (bs : Bytes) : State :=
  let s := s.coverCtx c bs
  let x := s.cx c
  let buf := x.buf ++ bs
  if buf.length < x.setBytes then s.setCx c { x with buf := buf }
  else
    let y := s.tl x.tileOf
    let a := (y.wHead + y.wSrc.length) % 4 * 9216
    let y := (y.write a (x.buildSlot buf x.pos)).setMarks (a / 64) 136 false
    (s.setTl x.tileOf { y with wSrc := y.wSrc ++ [c] }).setCx c { x with buf := [], pos := x.pos + 1 }

/-- The hub-to-stack port that a stream's data passes (R228, Table 8.5): kinds 1 and 2, by compute stack. -/
def Ctx.port (x : Ctx) : Option Nat := if x.kind = 1 || x.kind = 2 then some (x.tileOf / 64) else none

/-- The port grants one request at a time: of the contexts whose data has landed and waits at `c`'s port, none comes before
`c` (R228). -/
def State.portGrants (s : State) (c : Nat) : Bool :=
  match (s.cx c).port with
  | none => true
  | some p => s.stm.ctx.all (fun e =>
      !(e.2.st == 2 && e.2.port == some p && (e.2.reqs.head?.map (·.landed)).getD false)
        || s.grantBefore (tget 0 (132 + p) s.stm.last) c e.1)

/-- The data of the oldest request lands in the hub: it gives its tag back, and waits there until its port grants it. -/
def State.landHead (s : State) (c : Nat) : State :=
  match (s.cx c).reqs with
  | [] => s
  | r :: rs => s.setCx c { s.cx c with reqs := { r with landed := true } :: rs }

/-- STREAM_READ_DATA (R225, R233 to R236): the data of the oldest request lands, and is delivered with its poison marks once its
port grants it, or faults the stream. It waits while a controller of its source is in standby (R357). -/
def opStreamReadData (c : Fin 4096) (dec : List Dec) (s : State) : State :=
  let x := s.cx c.val
  match x.reqs with
  | [] => s
  | r :: rs =>
    if !s.en pgStream || x.st ≠ 2 || (x.kind ≠ 3 && x.kind ≠ 5 && !r.hit && !s.rangeAwake r.addr r.len) then s
    else if !s.portGrants c.val then s.landHead c.val
    else
      let s : State := match x.port with
        | some p => if x.drain = 0 then { s with stm := { s.stm with last := tset 0 (132 + p) (c.val + 1) s.stm.last } } else s
        | none => s
      let s := s.undoCtx c.val
      let q := s.landData c.val r dec
      let bs := q.1.1
      let ms := q.1.2.1
      let s := q.2
      let o := x.buf.length
      if q.1.2.2 ≠ 0 && !x.tolerant then s.streamFault c.val q.1.2.2
      else if x.kind = 1 && bs.zipIdx.any (fun b => badTrits x.fmt (o + b.2) b.1) then s.streamFault c.val 5
      else
        let s := if x.kind = 1 && !r.hit then
            let keep := s.share.fills.contains r.addr && bitOf (s.reg pgStream 0x44) 0
            let h := { s.share with fills := s.share.fills.erase r.addr }
            { s with share := if keep then h.use r.addr s.fr.num true else h }
          else s
        let s := s.setCx c.val { s.cx c.val with reqs := rs }
        let s := s.srcFree c.val r.len
        let s := if x.kind = 4 then s
          else (s.poisonDelivered c.val (ms.filter id).length).countN pgStream 1 r.len
        let s := if x.kind = 1 then s.toWeights c.val bs
          else if x.kind = 2 then s.toTiles c.val bs ms
          else if x.kind = 4 then s.toLink c.val bs ms
          else s.toMemory c.val bs ms
        let y := s.cx c.val
        if y.st ≠ 2 then s
        else if x.kind ≠ 4 && decide ((if x.kind = 1 then x.nchunk * x.reps else x.total) ≤ y.pos) then s.streamDone c.val
        else if s.stopping c.val && y.reqs.isEmpty && decide (s.flitsOf c.val y.linkOf = 0) then s.streamStopped c.val
        else s

/-! ### Stalls (R231, R232) -/

/-- The cause of a wait on the byte at `a`: tier-1, tier-2 or hub, where landed data waits too. -/
def lateCause (kind : Nat) (r : SReq) : Nat :=
  if kind = 3 || kind = 5 || r.hit || r.landed then 8
  else match regionOf r.addr with
    | .ctl k => if k < 8 then 0 else 1
    | _ => 8

/-- What the oldest byte that context `c` lacks waits for (R232): 9 where the list has no cause for it, a tile's output slot that
is not closed (log 31). -/
def State.missing (s : State) (c : Nat) : Option Nat :=
  let x := s.cx c
  match x.reqs with
  | r :: _ => some (lateCause x.kind r)
  | [] =>
    match s.srcAvail c with
    | some (a, _) => some (lateCause x.kind ⟨a, 0, x.kind == 1 && s.shareHit a, false⟩)
    | none =>
      if x.total ≤ x.issued then none
      else if x.kind = 5 then some 2
      else if x.kind = 3 then some 9
      else some 3

/-- The stream's next request is held by its regulator (R227). -/
def State.regulated (s : State) (c : Nat) : Bool :=
  let x := s.cx c
  match s.srcAvail c, s.dstRoom c with
  | some (a, n), some m => x.rate != 0 && decide (x.bucket < 16 * x.span a n m)
  | _, _ => false

/-- The stall cause of an ACTIVE stream in the present tick, if it waits on its own source: not on its destination, nor on its
regulator. -/
def State.streamWait (s : State) (c : Nat) : Option Nat :=
  let x := s.cx c
  if x.st ≠ 2 || s.stopping c then none
  else if x.reqs.isEmpty && ((s.dstRoom c).isNone || s.regulated c) then none
  else s.missing c

/-- The stall cause of a tile run in the present tick by root cause (R232), given its R76 cause. -/
def State.tileRoot (s : State) (t k : Nat) : Nat :=
  let feeder (kind : Nat) : Nat :=
    match s.stm.ctx.find? (fun e => e.2.st == 2 && e.2.kind == kind &&
        (if kind = 1 then e.2.tileOf == t else e.2.tiles.contains t)) with
    | some e => (s.missing e.1).getD 5
    | none => 5
  if k = 2 then (if (s.tl t).nextSlotReady then 4 else feeder 1)
  else if k = 3 then (if (s.tl t).aPend then 5 else feeder 2)
  else if k = 4 then 7
  else 6

/-- The STREAM counter of a stall cause (Table 8.7). -/
def stallCnt (cause : Nat) : Nat := if cause = 8 then 14 else 2 + cause

/-- One tick of context `c`: its bucket gains RATE, and a stalled tick is counted, under a free cause where R232 has none
(R227, R231, R10). -/
def State.streamTick (s : State) (c : Nat) : State :=
  let x := s.cx c
  if x.st ≠ 2 || !s.en pgStream then s
  else
    let w := s.streamWait c
    let b := if x.rate = 0 then x.bucket else min (x.bucket + x.rate) (x.burst * 4096)
    match w with
    | some k =>
      let r := if k = 9 then (s.draw.1 % 9, s.draw.2) else (k, s)
      (r.2.setCx c { x with bucket := b, stall := min (x.stall + 1) (2 ^ 64 - 1), lastCause := r.1 }).count pgStream (stallCnt r.1)
    | none => s.setCx c { x with bucket := b }

/-- The data of a context's oldest request lands in the hub in this tick, which the spec gives no time to: a free choice
(R225, log 31). -/
def State.landTick (s : State) (c : Nat) : State :=
  let x := s.cx c
  match x.reqs with
  | [] => s
  | r :: _ =>
    if x.st ≠ 2 || !s.en pgStream || x.port.isNone || r.landed || !(r.hit || s.rangeAwake r.addr r.len) then s
    else if s.draw.1 % 2 = 1 then s.draw.2.landHead c else s.draw.2

/-! ### The STREAM and CHECK pages -/

/-- STREAM_STOP: accepted for an ACTIVE detached stream, refused otherwise; it takes effect at the next 256-byte request
boundary, at once when the stream is at one with nothing under way (R220). -/
def opStreamStop (p : Path) (s : State) : State :=
  if s.mayPath p pgStream then
    let c := fld (s.sel p pgStream 0x48) 11 0
    let x := s.cx c
    if x.st = 2 && x.det then
      let s := s.setCx c { x with stop := true }
      if s.stopHere c && x.reqs.isEmpty && decide (s.flitsOf c x.linkOf = 0) then s.streamStopped c else s
    else s.reject pgStream 2
  else s.deny p pgStream

/-- STREAM_CLEAR: FAULT to IDLE, refused in other states (Table 8.4). -/
def opStreamClear (p : Path) (s : State) : State :=
  if s.mayPath p pgStream then
    let c := fld (s.sel p pgStream 0x48) 11 0
    if (s.cx c).st = 5 then
      let s := s.undoCtx c
      s.setCx c { s.cx c with st := 0, cause := 0 }
    else s.reject pgStream 2
  else s.deny p pgStream

/-- SHARE_FLUSH: every line is invalidated in one step (R223). -/
def opShareFlush (p : Path) (s : State) : State :=
  if s.mayPath p pgStream then { s with share := { s.share with sets := [] } }
  else s.deny p pgStream

/-- CHECK_COMPARE: a compare on a queue-bound unit, ignored otherwise (R239, R242). -/
def opCheckCompare (p : Path) (u : Fin 32) (s : State) : State :=
  if s.mayPath p (pgCheck u.val) then
    if s.en (pgCheck u.val) && bitOf (s.reg (pgCheck u.val) 0x40) 1 && decide (tget none u.val s.chk = none) then
      s.unitCompare u.val
    else s
  else s.deny p (pgCheck u.val)

/-- CHECK_INIT: RUNNING takes its initial value, or CFG_REJECT while stream-bound (R242). -/
def opCheckInit (p : Path) (u : Fin 32) (s : State) : State :=
  let pg := pgCheck u.val
  if s.mayPath p pg then
    if (tget none u.val s.chk).isSome then s.reject pg 3
    else
      let s := s.undoUnit u.val
      (s.setReg64 pg 0x48 (crcInit (s.reg pg 0x40 % 2))).setReg pg 0x5C (s.reg pg 0x5C / 2 * 2)
  else s.deny p pg

/-- The soft reset of the STREAM page: every context returns to IDLE (R220). -/
def State.streamSoft (s : State) : State :=
  let s := forL (s.stm.ctx.map (·.1)) (fun c s => (s.undoCtx c).dropFlits c) s
  { s with stm := { s.stm with ctx := [] }, chk := [] }

def execActionStream (s : State) : Host.Outcome State Fault Refusal := done s (opActionStream s)
def execStreamEnvStart (s : State) : Host.Outcome State Fault Refusal := done s (opStreamEnvStart s)
def execStreamDescCheck (c : Fin 4096) (s : State) : Host.Outcome State Fault Refusal := done s (opStreamDescCheck c s)
def execStreamReadIssue (c : Fin 4096) (s : State) : Host.Outcome State Fault Refusal := done s (opStreamReadIssue c s)
def execStreamReadData (c : Fin 4096) (dec : List Dec) (s : State) : Host.Outcome State Fault Refusal :=
  done s (opStreamReadData c dec s)
def execStreamStop (p : Path) (s : State) : Host.Outcome State Fault Refusal := done s (opStreamStop p s)
def execStreamClear (p : Path) (s : State) : Host.Outcome State Fault Refusal := done s (opStreamClear p s)
def execShareFlush (p : Path) (s : State) : Host.Outcome State Fault Refusal := done s (opShareFlush p s)
def execCheckCompare (p : Path) (u : Fin 32) (s : State) : Host.Outcome State Fault Refusal := done s (opCheckCompare p u s)
def execCheckInit (p : Path) (u : Fin 32) (s : State) : Host.Outcome State Fault Refusal := done s (opCheckInit p u s)

end Sys2Proof.Machine
end

