-- ==== Sys2Proof/Machine/Operands.lean ====
section
/-!
DEFINITION. The operand forms of the vector and set unit: operation blocks (Table 5.1), element types (Table 5.2), arrays
read and written with poison marks (R119, R125 to R128, R145), and placement (R144).
-/
namespace Sys2Proof.Machine

/-! ### Operation blocks -/

/-- An operation block's eight words. -/
structure VBlk where
  w : List Nat
  deriving DecidableEq, Repr

def VBlk.word (b : VBlk) (i : Nat) : Nat := b.w.getD i 0
def VBlk.op (b : VBlk) : Nat := fld (b.word 0) 7 0
def VBlk.ity (b : VBlk) : Nat := fld (b.word 0) 11 8
def VBlk.oty (b : VBlk) : Nat := fld (b.word 0) 15 12
def VBlk.tolerant (b : VBlk) : Bool := bitOf (b.word 0) 16
def VBlk.syncEn (b : VBlk) : Bool := bitOf (b.word 0) 17
def VBlk.last (b : VBlk) : Bool := bitOf (b.word 0) 18
def VBlk.sync (b : VBlk) : Nat := fld (b.word 0) 31 19
def VBlk.param (b : VBlk) : Nat := fld (b.word 0) 63 32
def VBlk.a (b : VBlk) : Nat := fld (b.word 1) 47 0
def VBlk.b (b : VBlk) : Nat := fld (b.word 2) 47 0
def VBlk.dst (b : VBlk) : Nat := fld (b.word 3) 47 0
def VBlk.n (b : VBlk) : Nat := fld (b.word 4) 31 0
def VBlk.l (b : VBlk) : Nat := fld (b.word 4) 63 32
def VBlk.aux (b : VBlk) : Nat := fld (b.word 5) 47 0
def VBlk.imm (b : VBlk) : Nat := b.word 6
def VBlk.res (b : VBlk) : Nat := fld (b.word 7) 47 0

/-! ### Element types (Table 5.2) -/

def tyFloat (t : Nat) : Bool := decide (t < 3)
def tySize (t : Nat) : Nat := ([2, 2, 4, 1, 2, 4, 8, 4, 8] : List Nat).getD t 1
def tyFmt (t : Nat) : Fmt := if t = 0 then fBf16 else if t = 1 then fF16 else fF32

/-- The range of an integer type. -/
def tyRange (t : Nat) : Int × Int :=
  if t < 7 then (-(2 : Int) ^ (8 * tySize t - 1), 2 ^ (8 * tySize t - 1) - 1) else (0, 2 ^ (8 * tySize t) - 1)

/-- A value in an operation: floating or integer. -/
inductive VNum where
  | fl (v : FV)
  | int (i : Int)
  deriving DecidableEq, Repr

/-- An element of an array and whether it is poisoned (R235). -/
structure El where
  v : VNum
  p : Bool
  deriving DecidableEq, Repr

/-- The value of `w` in type `t`. -/
def widen (t w : Nat) : VNum :=
  if tyFloat t then .fl (unpackF (tyFmt t) w)
  else if t < 7 then .int (sext (8 * tySize t) w) else .int w

/-- A value rounded to binary32 (R126). -/
def r32v (v : FV) : FV := v32 (r32 v)

/-- A value as binary32: an integer is converted with one rounding (R126). -/
def VNum.f (x : VNum) : FV :=
  match x with
  | .fl v => v
  | .int i => r32v (intF i)

/-- An integer value, where there is one. -/
def VNum.i (x : VNum) : Int :=
  match x with
  | .fl _ => 0
  | .int i => i

/-- A result in type `t`: its bits, whether it was clipped (R128) and whether it is invalid (a NaN made an integer). -/
def narrow (t : Nat) (x : VNum) : Nat × Bool × Bool :=
  if tyFloat t then (packF (tyFmt t) (r32v x.f), false, false)
  else
    let (lo, hi) := tyRange t
    let put (i : Int) : Nat × Bool × Bool :=
      (untwos (8 * tySize t) (clampI lo hi i), decide (i < lo) || decide (hi < i), false)
    match x with
    | .int i => put i
    | .fl v =>
      match v with
      | .nan _ _ => (0, false, true)
      | .inf neg => (untwos (8 * tySize t) (if neg then lo else hi), true, false)
      | _ => put ((toIntF v).getD 0)

/-! ### Binary32 steps over values -/

def fadd (a b : FV) : FV := r32v (addF a b)
def fsub (a b : FV) : FV := match a, b with
  | .nan n p, _ => .nan n p
  | _, .nan n p => .nan n p
  | _, _ => r32v (addF a b.neg)
def fmul (a b : FV) : FV := r32v (mulF a b)
def fdiv (a b : FV) : FV := r32v (divF a b)

/-- One rounding of A × B + X (R126); a NaN operand is the result whatever the others are, the first of several (R127). -/
def ffma (a b x : FV) : FV :=
  match a, b, x with
  | .nan n p, _, _ => .nan n p
  | _, .nan n p, _ => .nan n p
  | _, _, .nan n p => .nan n p
  | _, _, _ => r32v (addF (mulF a b) x)

/-- A value as a word of its bits: an argument of `Config.vsuOpen`. -/
def VNum.code (x : VNum) : Nat :=
  match x with
  | .fl v => r32 v
  | .int i => untwos 64 i

/-- Multiply by a power of two, with one rounding. -/
def fscale (v : FV) (n : Int) : FV :=
  match v with
  | .fin s m e => r32v (.fin s m (e + n))
  | _ => v

/-! ### The environment of an operation -/

/-- What an operation has found and will write. `cause` is the first fault found, 0 for none; output bytes carry their
marks. -/
structure VEnv where
  s : State
  /-- the lane, as an agent of R230 -/
  agent : Nat
  tenant : Nat
  /-- granules with an uncorrectable error -/
  bad : List Nat
  exact : Bool
  frame : Nat
  cause : Nat := 0
  count : Nat := 0
  clip : Nat := 0
  invalid : Nat := 0
  pois : Nat := 0
  fail : Nat := 0
  trunc : Bool := false
  outs : List (Nat × List (Byte × Bool)) := []
  posts : List (Nat × Bytes × Bool) := []
  /-- an access that must wait for a controller in standby (R357) -/
  wait : Bool := false

/-- Record a fault. Table 5.5 gives no order among causes that apply together: the first that the operation's own checks and
reads come to stands (log 32). -/
def VEnv.fault (v : VEnv) (c : Nat) : VEnv := if v.cause = 0 then { v with cause := c } else v

/-- A condition whose failure is fault cause `c`. -/
def VEnv.need (v : VEnv) (ok : Bool) (c : Nat) : VEnv := if ok then v else v.fault c

/-- An invalid element or segment: counted (R111, R128, R134, R136), in the exact class once, as it stops the operation with
fault cause 6 (Table 5.5). -/
def VEnv.inval (v : VEnv) : VEnv :=
  if v.exact then (if v.cause = 0 then { v with cause := 6, invalid := v.invalid + 1 } else v)
  else { v with invalid := v.invalid + 1 }

/-- An array's alignment and placement: fault cause 3 (R144); `far` allows tier-1 and tier-2. -/
def VEnv.arr (v : VEnv) (a n size : Nat) (far : Bool) : VEnv :=
  v.need (decide (a % size = 0) && (decide (n = 0) || rangeInHub a (n * size) || (far && rangeInTier a (n * size)))) 3

/-- Read granule `g`: its bytes with their mark; a forbidden read returns zeros (R147); in the exact class an
uncorrectable error is fault cause 8 and poison cause 7. A granule of a tier in standby has to be waited for (R357). -/
def VEnv.gran (v : VEnv) (g : Nat) : List (Byte × Bool) × VEnv :=
  if !v.s.mayPhys v.tenant (64 * g) false then
    (List.replicate 64 (0, false), { v with s := v.s.violate v.tenant 3 })
  else if v.s.asleep g then (List.replicate 64 (0, false), { v with wait := true })
  else
    let d := if v.bad.contains g then Dec.uncorrectable else .clean
    let lost := v.s.granLost g d
    let r := v.s.gRead 1 g d
    let q := r.2.unsynced v.agent g r.1.1
    let v := { v with s := q.2 }
    (q.1.map (fun b => (b, r.1.2)), if r.1.2 && v.exact then v.fault (if lost then 8 else 7) else v)

/-- Read `n` granules. -/
def VEnv.grans (v : VEnv) (g : Nat) : Nat → List (Byte × Bool) × VEnv
  | 0 => ([], v)
  | n + 1 =>
    let r := v.gran g
    let q := r.2.grans (g + 1) n
    (r.1 ++ q.1, q.2)

/-- Read `n` bytes with their marks; nothing once a fault has been found. -/
def VEnv.rd (v : VEnv) (a n : Nat) : List (Byte × Bool) × VEnv :=
  if v.cause ≠ 0 then (List.replicate n (0, false), v)
  else
    let r := v.grans (a / 64) (granSpan a n)
    ((r.1.drop (a % 64)).take n, r.2)

/-- Elements of type `t` in bytes with marks. -/
def elems (t : Nat) : Nat → List (Byte × Bool) → List El
  | 0, _ => []
  | n + 1, bs =>
    let e := bs.take (tySize t)
    ⟨widen t (leNat (e.map (·.1))), e.any (·.2)⟩ :: elems t n (bs.drop (tySize t))

/-- Load `n` elements of type `t`. -/
def VEnv.load (v : VEnv) (a n t : Nat) : List El × VEnv :=
  let r := v.rd a (n * tySize t)
  (elems t n r.1, r.2)

/-- Load an array after its placement check. -/
def VEnv.array (v : VEnv) (a n t : Nat) : List El × VEnv := (v.arr a n (tySize t) false).load a n t

/-- Narrow results into an output array, counting what was clipped, invalid and poisoned. -/
def VEnv.narrows (v : VEnv) (t : Nat) : List El → List (Byte × Bool) × VEnv
  | [] => ([], v)
  | e :: es =>
    let r := narrow t e.v
    let v := if r.2.1 then { v with clip := v.clip + 1 } else v
    let v := if r.2.2 then v.inval else v
    let p := e.p || r.2.2
    let v := if p then { v with pois := v.pois + 1 } else v
    let q := v.narrows t es
    ((leBytes (tySize t) r.1).map (fun b => (b, p)) ++ q.1, q.2)

/-- Write results of type `t` to an array. -/
def VEnv.store (v : VEnv) (a t : Nat) (es : List El) : VEnv :=
  let r := v.narrows t es
  { r.2 with outs := r.2.outs ++ [(a, r.1)] }

/-- Write raw bytes with one mark. -/
def VEnv.raw (v : VEnv) (a : Nat) (bs : Bytes) (p : Bool) : VEnv := { v with outs := v.outs ++ [(a, bs.map (fun b => (b, p)))] }

/-- Make an output's writes: granule by granule, a granule with a poisoned byte marked (R235); a forbidden write is
dropped. -/
def State.laneWrite (s : State) (j tenant a : Nat) (bs : List (Byte × Bool)) : State :=
  let ds := splitGrans a (bs.map (fun b => some b.1))
  let ms := splitGrans a (bs.map (fun b => some (if b.2 then (1 : Byte) else 0)))
  forL (ds.zip ms) (fun w s =>
    if s.mayPhys tenant (64 * w.1.1) true then s.agentWrite (4096 + j) 1 w.1.1 w.1.2 (w.2.2.any (fun b => b == some 1))
    else s.violate tenant 3) s

/-! ### Overlays: an operation that reads what it wrote -/

/-- The bytes at an address as the operation sees them: what it has written there, unless a commit window stages it (R307,
log 32); else memory. -/
def VEnv.see (v : VEnv) (a n : Nat) : List (Byte × Bool) × VEnv :=
  let r := v.rd a n
  if v.s.inWindow a then r
  else
    match v.outs.reverse.find? (fun o => o.1 == a && o.2.length == n) with
    | some o => (o.2, r.2)
    | none => r

end Sys2Proof.Machine
end

