-- ==== Sys2Proof/Machine/Vsu.lean ====
section
/-!
DEFINITION. The operations of the vector and set unit (Table 5.3; R109 to R112, R129, R132 to R141), each from an operation
block and its environment to the environment with its outputs.
-/
namespace Sys2Proof.Machine

/-! ### Shared shapes -/

/-- The `L`-element segments of a list, `n` of them. -/
def segments {α : Type} (l : Nat) : Nat → List α → List (List α)
  | 0, _ => []
  | n + 1, xs => xs.take l :: segments l n (xs.drop l)

/-- Some element is poisoned. -/
def anyP (es : List El) : Bool := es.any (·.p)

/-- The sum of a segment in the order of R129. -/
def treeSum {α : Type} (add : α → α → α) (z : α) : Nat → List α → α
  | 0, _ => z
  | _, [] => z
  | _, [x] => x
  | k + 1, xs =>
    let h := 2 ^ Nat.log2 (xs.length - 1)
    add (treeSum add z k (xs.take h)) (treeSum add z k (xs.drop h))

def fsum (xs : List FV) : FV := treeSum fadd (.fin false 0 0) xs.length xs
def isum (xs : List Int) : Int := treeSum (· + ·) 0 xs.length xs

/-- The sum of values of a type. -/
def vsum (t : Nat) (xs : List VNum) : VNum := if tyFloat t then .fl (fsum (xs.map VNum.f)) else .int (isum (xs.map VNum.i))

/-- `x` is above `y` in the order of R133: a NaN below −infinity, equal zeros. -/
def above (x y : VNum) : Bool :=
  match x, y with
  | .int a, .int b => decide (b < a)
  | _, _ => if x.f.isNan then false else if y.f.isNan then true else ltF y.f x.f

/-- The largest (or smallest) value; the first NaN stands (R127; log 32). -/
def extreme (big : Bool) (xs : List VNum) : VNum :=
  match xs with
  | [] => .int 0
  | x :: r => r.foldl (fun m y =>
      if m.f.isNan then m else if y.f.isNan then y else if (if big then above y m else above m y) then y else m) x

/-- Insert before the first element that `lt` places after it. -/
def insBy {α : Type} (lt : α → α → Bool) (x : α) : List α → List α
  | [] => [x]
  | y :: ys => if lt x y then x :: y :: ys else y :: insBy lt x ys

/-- Stable sort. -/
def sortBy {α : Type} (lt : α → α → Bool) (xs : List α) : List α := xs.foldl (fun acc x => insBy lt x acc) []

/-- Types are valid (R125). -/
def VEnv.types (v : VEnv) (b : VBlk) : VEnv := v.need (decide (b.ity < 9) && decide (b.oty < 9)) 1

/-- Load arrays of one length, checked before any is read. -/
def VEnv.arrays (v : VEnv) (n : Nat) : List (Nat × Nat) → List (List El) × VEnv
  | [] => ([], v)
  | s :: ss =>
    let r := v.load s.1 n s.2
    let q := r.2.arrays n ss
    (r.1 :: q.1, q.2)

/-- Elementwise operations: each output depends on its own position (R145); `extra` poisons every output. -/
def VEnv.ew (v : VEnv) (b : VBlk) (srcs : List (Nat × Nat)) (extra : Bool) (fn : List VNum → VNum) : VEnv :=
  let v := srcs.foldl (fun v s => v.arr s.1 b.n (tySize s.2) false) v
  let v := v.arr b.dst b.n (tySize b.oty) false
  let r := v.arrays b.n srcs
  let es := (List.range b.n).map (fun i =>
    let xs := r.1.map (fun c => c.getD i ⟨.int 0, false⟩)
    (⟨fn (xs.map (·.v)), extra || anyP xs⟩ : El))
  { r.2.store b.dst b.oty es with count := b.n }

/-- A segmented operation's shape: L divides N, L at least 1. -/
def VEnv.seg (v : VEnv) (b : VBlk) : VEnv := v.need (decide (0 < b.l) && decide (b.n % (max b.l 1) = 0)) 1

/-- The number of segments. -/
def VBlk.segs (b : VBlk) : Nat := b.n / (max b.l 1)

/-- The input of a segmented operation, by segment. -/
def VEnv.segLoad (v : VEnv) (b : VBlk) : List (List El) × VEnv :=
  let r := v.array b.a b.n b.ity
  (segments b.l b.segs r.1, r.2)

/-! ### Elementwise arithmetic (R132, R140) -/

/-- ADD. The definition names four sources, so S = 5 is outside its range. -/
def vAdd (b : VBlk) (v : VEnv) : VEnv :=
  let k := fld b.param 1 0 + 2
  let v := (v.types b).need (decide (k ≤ 4)) 1
  v.ew b ((List.range k).map (fun j => ((b.a + j * b.imm) % 2 ^ 48, b.ity))) false (fun xs =>
    match xs with
    | [] => .int 0
    | x :: r => r.foldl (fun a y => if tyFloat b.ity then .fl (fadd a.f y.f) else .int (a.i + y.i)) x)

/-- MUL. -/
def vMul (b : VBlk) (v : VEnv) : VEnv :=
  (v.types b).ew b [(b.a, b.ity), (b.b, b.ity)] false (fun xs =>
    let x := xs.getD 0 (.int 0)
    let y := xs.getD 1 (.int 0)
    if tyFloat b.ity then .fl (fmul x.f y.f) else .int (x.i * y.i))

/-- FMA. -/
def vFma (b : VBlk) (v : VEnv) : VEnv :=
  (v.types b).ew b [(b.a, b.ity), (b.b, b.ity), (b.aux, b.ity)] false (fun xs =>
    let x := xs.getD 0 (.int 0)
    let y := xs.getD 1 (.int 0)
    let z := xs.getD 2 (.int 0)
    if tyFloat b.ity then .fl (ffma x.f y.f z.f) else .int (x.i * y.i + z.i))

/-- SCALE. With ADD_E the exponent word is an input of every output (log 32). -/
def vScale (b : VBlk) (v : VEnv) : VEnv :=
  let v := v.types b
  let f := v32 (b.imm % 2 ^ 32)
  let n := sext 16 (fld b.param 15 0)
  let r : Int × Bool × VEnv :=
    if bitOf b.param 16 then
      let q := v.array b.b 1 4
      let e := q.1.getD 0 ⟨.int 0, false⟩
      (n + e.v.i, e.p, q.2)
    else (n, false, v)
  r.2.2.ew b [(b.a, b.ity)] r.2.1 (fun xs => .fl (fscale (fmul (xs.getD 0 (.int 0)).f f) r.1))

/-- CONVERT (R140). -/
def vConvert (b : VBlk) (v : VEnv) : VEnv := (v.types b).ew b [(b.a, b.ity)] false (fun xs => xs.getD 0 (.int 0))

/-! ### Segments -/

/-- TOPK (R133). -/
def vTopk (b : VBlk) (v : VEnv) : VEnv :=
  let k := fld b.param 8 0
  let v := ((v.types b).need (decide (0 < k) && decide (k ≤ 256)) 1).seg b
  let v := ((v.arr b.a b.n (tySize b.ity) false).arr b.dst (b.segs * k) (tySize b.oty) false).arr b.aux (b.segs * k) 4 false
  let r := v.segLoad b
  let low : VNum := if tyFloat b.oty then .fl (.inf true) else .int (tyRange b.oty).1
  let one (xs : List El) : List El × List El :=
    let p := anyP xs
    let top := (sortBy (fun x y : VNum × Nat => above x.1 y.1) (xs.map (·.v)).zipIdx).take k
    let pad := k - top.length
    (top.map (fun e => ⟨e.1, p⟩) ++ List.replicate pad ⟨low, p⟩,
     top.map (fun e => ⟨.int e.2, p⟩) ++ List.replicate pad ⟨.int (2 ^ 32 - 1), p⟩)
  let os := r.1.map one
  { (r.2.store b.dst b.oty (os.flatMap (·.1))).store b.aux 7 (os.flatMap (·.2)) with count := b.segs * k }

/-- SOFTMAX (R134). -/
def vSoftmax (b : VBlk) (v : VEnv) : VEnv :=
  let v := (v.types b).seg b
  let v := (v.arr b.a b.n (tySize b.ity) false).arr b.dst b.n (tySize b.oty) false
  let r := v.segLoad b
  let tau := v32 (b.imm % 2 ^ 32)
  let step (acc : List El × VEnv) (xs : List El) : List El × VEnv :=
    let z := xs.map (fun e => fmul tau e.v.f)
    let mx := (extreme true (z.map VNum.fl)).f
    if mx.isNan || mx == .inf true then
      (acc.1 ++ xs.map (fun _ => ⟨.fl .qnan, true⟩), acc.2.inval)
    else
      let e := z.map (fun x => r32v (expF (fsub x mx)))
      let t := fsum e
      (acc.1 ++ e.map (fun x => ⟨.fl (fdiv x t), anyP xs⟩), acc.2)
  let o := r.1.foldl step ([], r.2)
  { o.2.store b.dst b.oty o.1 with count := b.n }

/-- NORM (R134). -/
def vNorm (b : VBlk) (v : VEnv) : VEnv :=
  let v := (v.types b).seg b
  let v := ((v.arr b.a b.n (tySize b.ity) false).arr b.b b.l (tySize b.ity) false).arr b.dst b.n (tySize b.oty) false
  let r := v.segLoad b
  let g := r.2.load b.b b.l b.ity
  let eps := v32 (b.imm % 2 ^ 32)
  let len := r32v (intF b.l)
  let one (xs : List El) : List El :=
    let x := xs.map (fun e => e.v.f)
    let mu := if bitOf b.param 0 then fdiv (fsum x) len else .fin false 0 0
    let d := x.map (fun y => fsub y mu)
    let var := fdiv (fsum (d.map (fun y => fmul y y))) len
    let rs := r32v (rsqrtF (fadd var eps))
    (d.zip g.1).map (fun e => ⟨.fl (fmul (fmul e.1 rs) e.2.v.f), anyP xs || e.2.p⟩)
  { g.2.store b.dst b.oty (r.1.flatMap one) with count := b.n }

/-- ROPE (R135). -/
def vRope (b : VBlk) (v : VEnv) : VEnv :=
  let v := ((v.types b).seg b).need (decide (b.l % 2 = 0)) 1
  let v := ((v.arr b.a b.n (tySize b.ity) false).arr b.aux b.segs 4 false).arr b.b (b.l / 2) 4 false
  let v := v.arr b.dst b.n (tySize b.oty) false
  let r := v.segLoad b
  let ps := r.2.load b.aux b.segs 7
  let th := ps.2.load b.b (b.l / 2) 2
  let pair (pos : El) (i : Nat) (x y : El) : List El :=
    let t := th.1.getD i ⟨.int 0, false⟩
    let phi := unpackF fF64 (packF fF64 (mulF (intF pos.v.i) t.v.f))
    let c := r32v (trigF true phi)
    let s := r32v (trigF false phi)
    let p := x.p || y.p || pos.p || t.p
    [⟨.fl (fsub (fmul x.v.f c) (fmul y.v.f s)), p⟩, ⟨.fl (fadd (fmul x.v.f s) (fmul y.v.f c)), p⟩]
  let one (e : List El × El) : List El :=
    (List.range (b.l / 2)).flatMap (fun i =>
      pair e.2 i (e.1.getD (2 * i) ⟨.int 0, false⟩) (e.1.getD (2 * i + 1) ⟨.int 0, false⟩))
  { th.2.store b.dst b.oty ((r.1.zip ps.1).flatMap one) with count := b.n }

/-- The mixing function of R136. -/
def mix64 (z : Nat) : Nat :=
  let z := (Nat.xor z (z / 2 ^ 30)) * 0xBF58476D1CE4E5B9 % 2 ^ 64
  let z := (Nat.xor z (z / 2 ^ 27)) * 0x94D049BB133111EB % 2 ^ 64
  Nat.xor z (z / 2 ^ 31)

/-- One draw (R136). -/
def draw64 (key frame ctr : Nat) : Nat :=
  mix64 ((Nat.xor key (frame * 0x9E3779B97F4A7C15 % 2 ^ 64) + ctr * 0xD1B54A32D192ED03) % 2 ^ 64)

/-- The running sums of a list from the left, each rounded. -/
def cumul : FV → List FV → List FV
  | _, [] => []
  | a, x :: xs => let y := fadd a x; y :: cumul y xs

/-- SAMPLE (R136). -/
def vSample (b : VBlk) (v : VEnv) : VEnv :=
  let v := (v.types b).seg b
  let v := (v.arr b.a b.n (tySize b.ity) false).arr b.dst b.segs 4 false
  let r := v.segLoad b
  let step (acc : List El × VEnv) (e : List El × Nat) : List El × VEnv :=
    let xs := e.1.map (fun x => x.v.f)
    let cs := match xs with | [] => [] | x :: t => x :: cumul x t
    let tot := cs.getLastD (.fin false 0 0)
    if xs.any (fun x => x.isNan || (x.isNeg && !x.isZero)) || tot.isZero || !tot.isFin then
      (acc.1 ++ [⟨.int (2 ^ 32 - 1), true⟩], acc.2.inval)
    else
      let u := draw64 b.imm acc.2.frame (b.param + e.2) / 2 ^ 40
      let t := r32v (mulF (.fin false u (-24)) tot)
      let j := match cs.findIdx? (fun c => ltF t c) with
        | some j => j
        | none => xs.length - 1 - ((xs.reverse.findIdx? (fun x => !x.isZero)).getD 0)
      (acc.1 ++ [⟨.int j, anyP e.1⟩], acc.2)
  let o := r.1.zipIdx.foldl step ([], r.2)
  { o.2.store b.dst 7 o.1 with count := b.segs }

/-- SEGRED: segments of L, or by offsets at AUX; offsets that fall or pass N are an invalid count. An output depends on its
segment and on the two offsets that bound it (R145). The value of an empty segment is not stated, and is free, a function of
the block and its operands (R131, log 33). -/
def vSegred (b : VBlk) (v : VEnv) : VEnv :=
  let mode := fld b.param 1 0
  let v := (v.types b).need (decide (mode < 3)) 1
  let byOff := decide (b.l = 0)
  let m := if byOff then b.imm else b.n / (max b.l 1)
  let v := v.need (decide (m < 2 ^ 32) && (byOff || decide (b.n % (max b.l 1) = 0))) 1
  let v := if byOff then v.arr b.aux (m + 1) 4 false else v
  let v := (v.arr b.a b.n (tySize b.ity) false).arr b.dst m (tySize b.oty) false
  let o := if byOff && decide (v.cause = 0) then v.load b.aux (m + 1) 7
    else ((if v.cause = 0 then List.range (m + 1) else []).map (fun i => ⟨.int (i * b.l : Nat), false⟩), v)
  let off := o.1.map (fun e => e.v.i.toNat)
  let v := o.2.need (((off.zip (off.drop 1)).all (fun e => decide (e.1 ≤ e.2))) && decide (off.getLastD 0 ≤ b.n)) 1
  let r := v.load b.a b.n b.ity
  let one (e : (Nat × Nat) × Nat) : El :=
    let xs := (r.1.drop e.1.1).take (e.1.2 - e.1.1)
    let p := anyP ((o.1.drop e.2).take 2) || anyP xs
    if xs.isEmpty then
      ⟨widen b.oty (Config.vsuOpen b.w e.2 (off ++ r.1.map (fun x => x.v.code)) % 2 ^ (8 * tySize b.oty)), p⟩
    else ⟨if mode = 0 then vsum b.ity (xs.map (·.v)) else extreme (decide (mode = 1)) (xs.map (·.v)), p⟩
  let es := if r.2.cause = 0 then (off.zip (off.drop 1)).zipIdx.map one else []
  { r.2.store b.dst b.oty es with count := m }

/-! ### Sets and graphs (R137, R139) -/

/-- Keys rise strictly. -/
def rising : List Nat → Bool
  | a :: b :: r => decide (a < b) && rising (b :: r)
  | _ => true

/-- Write a result list up to its capacity (R137): COUNT holds the full length. -/
def VEnv.capped (v : VEnv) (b : VBlk) (t : Nat) (xs : List El) : VEnv :=
  let n := min xs.length b.param
  let v := v.arr b.dst n (tySize t) false
  { v.store b.dst t (xs.take n) with count := xs.length, trunc := decide (n < xs.length) }

/-- The three set operations. -/
def vSet (b : VBlk) (v : VEnv) (f : List Nat → List Nat → List Nat) : VEnv :=
  let v := (v.types b).need (decide (7 ≤ b.ity) && decide (7 ≤ b.oty)) 1
  let v := (v.arr b.a b.n (tySize b.ity) false).arr b.b b.l (tySize b.ity) false
  let x := v.load b.a b.n b.ity
  let y := x.2.load b.b b.l b.ity
  let ka := x.1.map (fun e => e.v.i.toNat)
  let kb := y.1.map (fun e => e.v.i.toNat)
  let bad := !(rising ka && rising kb)
  let v := if bad && y.2.exact then y.2.fault 4 else y.2
  let p := bad || anyP x.1 || anyP y.1
  v.capped b b.oty ((f ka kb).map (fun k => ⟨.int k, p⟩))

def vIsect (b : VBlk) (v : VEnv) : VEnv := vSet b v (fun a c => a.filter (fun k => c.contains k))
def vDiff (b : VBlk) (v : VEnv) : VEnv := vSet b v (fun a c => a.filter (fun k => !c.contains k))
def vUnion (b : VBlk) (v : VEnv) : VEnv :=
  vSet b v (fun a c => sortBy (fun x y => decide (x < y)) (a ++ c.filter (fun k => !a.contains k)))

/-- CSR (R139): a frontier node of IMM or more is an index out of range; the tolerant class poisons the whole output. A node
whose row offsets fall has no neighbours: the spec is silent on such offsets (log 33). -/
def vCsr (b : VBlk) (v : VEnv) : VEnv :=
  let v := (v.types b).arr b.a b.n 4 false
  let v := v.need (decide (b.aux % 8 = 0) && decide (b.b % 4 = 0)) 3
  let fr := v.load b.a b.n 7
  let step (acc : List El × Bool × VEnv) (e : El) : List El × Bool × VEnv :=
    let v := acc.2.2
    let k := e.v.i.toNat
    if b.imm ≤ k then (acc.1, true, if v.exact then v.fault 5 else v)
    else
      let v := v.arr (b.aux + 8 * k) 2 8 true
      let o := v.load (b.aux + 8 * k) 2 8
      let lo := ((o.1.getD 0 ⟨.int 0, false⟩).v.i).toNat
      let hi := ((o.1.getD 1 ⟨.int 0, false⟩).v.i).toNat
      let v := o.2.arr (b.b + 4 * lo) (hi - lo) 4 true
      if v.cause ≠ 0 then (acc.1, acc.2.1, v)
      else
        let c := v.load (b.b + 4 * lo) (hi - lo) 7
        (acc.1 ++ c.1, acc.2.1 || e.p || anyP o.1 || anyP c.1, c.2)
  let r := fr.1.foldl step ([], false, fr.2)
  r.2.2.capped b 7 (r.1.map (fun e => { e with p := r.2.1 }))

/-! ### Hash tables (R138) -/

def emptyKey : Nat := 2 ^ 64 - 1

/-- The parameters of a hash operation are in range and the table is aligned (R138). Which types its keys and values may have
is not stated: the model takes any integer ITYPE, and any OTYPE for what HPROBE returns (log 33). -/
def VEnv.hash (v : VEnv) (b : VBlk) : VEnv :=
  let n := fld b.param 5 0
  let m := fld b.param 13 8
  ((v.types b).need (decide (n ≤ 40) && decide (0 < m) && !tyFloat b.ity) 1).need (decide (b.aux % 128 = 0)) 3

/-- Probe for a key: slots in order, up to `fuel` of them from slot number `q` (8 to a bucket). The slot's address with true
where the key matches and false where it is empty, and whether any slot read was poisoned. -/
def VEnv.probe (v : VEnv) (b : VBlk) (key first q : Nat) (p : Bool) : Nat → Option (Nat × Bool) × Bool × VEnv
  | 0 => (none, p, v)
  | fuel + 1 =>
    let n := 2 ^ fld b.param 5 0
    let a := b.aux + (first + q / 8) % n * 128 + q % 8 * 16
    let v := v.arr a 1 16 true
    if v.cause ≠ 0 then (none, p, v)
    else
      let r := v.see a 8
      let k := leNat (r.1.map (·.1))
      let p := p || r.1.any (·.2)
      if k = emptyKey then (some (a, false), p, r.2)
      else if k = key then (some (a, true), p, r.2)
      else r.2.probe b key first (q + 1) p fuel

/-- The first bucket of a key. -/
def firstBucket (b : VBlk) (key : Nat) : Nat :=
  let n := fld b.param 5 0
  if n = 0 then 0 else mix64 (Nat.xor key b.imm) / 2 ^ (64 - n)

/-- A key element as 64 bits. -/
def keyOf (e : El) : Nat := untwos 64 e.v.i

/-- A 64-bit value of a hash table, read in the type it is returned in: signed for INT64. -/
def slotVal (t x : Nat) : VNum := .int (if t = 6 then sext 64 x else x)

/-- HPROBE: the value of each key, or the miss marker (R138). -/
def vHprobe (b : VBlk) (v : VEnv) : VEnv :=
  let v := v.hash b
  let v := (v.arr b.a b.n (tySize b.ity) false).arr b.dst b.n (tySize b.oty) false
  let ks := v.load b.a b.n b.ity
  let step (acc : List El × VEnv) (e : El) : List El × VEnv :=
    let r := acc.2.probe b (keyOf e) (firstBucket b (keyOf e)) 0 e.p (8 * fld b.param 13 8)
    match r.1 with
    | some (a, true) =>
      let q := r.2.2.rd (a + 8) 8
      (acc.1 ++ [⟨slotVal b.oty (leNat (q.1.map (·.1))), r.2.1 || q.1.any (·.2)⟩], q.2)
    | _ => (acc.1 ++ [⟨slotVal b.oty emptyKey, r.2.1⟩], r.2.2)
  let o := if ks.2.cause = 0 then ks.1.foldl step ([], ks.2) else ([], ks.2)
  { o.2.store b.dst b.oty o.1 with count := b.n }

/-- Write bytes of an operation that reads what it writes: a later write of the same place takes the earlier one's place,
outside commit windows. -/
def VEnv.put (v : VEnv) (a : Nat) (bs : List (Byte × Bool)) : VEnv :=
  let keep := if v.s.inWindow a then v.outs else v.outs.filter (fun o => !(o.1 == a && o.2.length == bs.length))
  { v with outs := keep ++ [(a, bs)] }

/-- HINSERT (R138): a poisoned pair is skipped and counted invalid (R145), the empty-marker key is an invalid element. What it
writes carries the marks of the slots probed and of the value added to, and counts once among the poisoned outputs. -/
def vHinsert (b : VBlk) (v : VEnv) : VEnv :=
  let mode := fld b.param 17 16
  let v := (v.hash b).need (decide (mode < 3)) 1
  let v := (v.arr b.a b.n (tySize b.ity) false).arr b.b b.n (tySize b.ity) false
  let ks := v.load b.a b.n b.ity
  let vs := ks.2.load b.b b.n b.ity
  let step (v : VEnv) (e : El × El) : VEnv :=
    let k := keyOf e.1
    if e.1.p || e.2.p then { v with invalid := v.invalid + 1 }
    else if k = emptyKey then v.inval
    else
      let r := v.probe b k (firstBucket b k) 0 false (8 * fld b.param 13 8)
      let v := r.2.2
      let w (a x : Nat) (p : Bool) (v : VEnv) : VEnv :=
        { v.put (a + 8) ((leBytes 8 x).map (fun c => (c, p))) with pois := v.pois + b2n p }
      match r.1 with
      | some (a, true) =>
        let v := { v with count := v.count + 1 }
        if mode = 0 then v
        else if mode = 1 then w a (keyOf e.2) r.2.1 v
        else
          let q := v.see (a + 8) 8
          w a ((leNat (q.1.map (·.1)) + keyOf e.2) % 2 ^ 64) (r.2.1 || q.1.any (·.2)) q.2
      | some (a, false) =>
        let v := w a (keyOf e.2) r.2.1 { v with count := v.count + 1 }
        v.put a ((leBytes 8 k).map (fun c => (c, r.2.1)))
      | none => if v.cause = 0 then { v with fail := v.fail + 1 } else v
  if vs.2.cause = 0 then (ks.1.zip vs.1).foldl step vs.2 else vs.2

/-! ### Indexed access -/

/-- GATHER: an index out of range gives 0, poisoned, in the tolerant class (Table 5.5). -/
def vGather (b : VBlk) (v : VEnv) : VEnv :=
  let v := (v.types b).need (decide (b.a % tySize b.ity = 0)) 3
  let v := (v.arr b.aux b.n 4 false).arr b.dst b.n (tySize b.oty) false
  let xs := v.load b.aux b.n 7
  let step (acc : List El × VEnv) (e : El) : List El × VEnv :=
    let i := e.v.i.toNat
    if acc.2.cause ≠ 0 then acc
    else if b.imm ≤ i then (acc.1 ++ [⟨.int 0, true⟩], if acc.2.exact then acc.2.fault 5 else acc.2)
    else
      let a := (b.a + i * tySize b.ity) % 2 ^ 48
      let r := (acc.2.arr a 1 (tySize b.ity) true).load a 1 b.ity
      let x := r.1.getD 0 ⟨.int 0, false⟩
      (acc.1 ++ [⟨x.v, x.p || e.p⟩], r.2)
  let o := xs.1.foldl step ([], xs.2)
  { o.2.store b.dst b.oty o.1 with count := b.n }

/-- SCATTER_ADD: adds in ascending order, each sum written in OTYPE; a poisoned index is skipped and counted invalid
(R145), one out of range has no element and is skipped in the tolerant class. -/
def vScatterAdd (b : VBlk) (v : VEnv) : VEnv :=
  let v := (v.types b).need (decide (b.dst % tySize b.oty = 0)) 3
  let v := (v.arr b.aux b.n 4 false).arr b.a b.n (tySize b.ity) false
  let xs := v.load b.aux b.n 7
  let as := xs.2.load b.a b.n b.ity
  let step (v : VEnv) (e : El × El) : VEnv :=
    let i := e.1.v.i.toNat
    if v.cause ≠ 0 then v
    else if e.1.p then { v with invalid := v.invalid + 1 }
    else if b.imm ≤ i then (if v.exact then v.fault 5 else v)
    else
      let t := b.oty
      let a := (b.dst + i * tySize t) % 2 ^ 48
      let v := v.arr a 1 (tySize t) true
      if v.cause ≠ 0 then v
      else
        let r := v.see a (tySize t)
        let old := widen t (leNat (r.1.map (·.1)))
        let sum : VNum := if tyFloat t then .fl (fadd old.f e.2.v.f)
          else if tyFloat b.ity then .fl (fadd old.f e.2.v.f) else .int (old.i + e.2.v.i)
        let n := narrow t sum
        let p := r.1.any (·.2) || e.2.p || n.2.2
        let v := if n.2.1 then { r.2 with clip := r.2.clip + 1 } else r.2
        let v := if n.2.2 then v.inval else v
        let v := if p then { v with pois := v.pois + 1 } else v
        { v.put a ((leBytes (tySize t) n.1).map (fun c => (c, p))) with count := v.count + 1 }
  (xs.1.zip as.1).foldl step as.2

/-! ### Activation conversion (R109 to R112) -/

/-- A value's magnitude for STATS: none when it is not finite. -/
def statVal (unsigned : Bool) (x : VNum) : Option FV :=
  let v := match x with | .fl v => v | .int i => intF i
  match v with
  | .fin n m e => if unsigned then some (.fin n m e) else some (.fin false m e)
  | _ => none

/-- STATS: M of the group (R109). -/
def vStats (b : VBlk) (v : VEnv) : VEnv :=
  let v := ((v.types b).arr b.a b.n (tySize b.ity) false).arr b.dst 1 4 false
  let r := v.load b.a b.n b.ity
  let m := r.1.foldl (fun m e =>
    match statVal (bitOf b.param 0) e.v with
    | some x => if ltF m x then x else m
    | none => m) (FV.fin false 0 0)
  { r.2.store b.dst 2 [⟨.fl m, anyP r.1⟩] with count := 1 }

/-- The smallest integer E with m × 2^e ≤ lim × 2^E (R110). -/
def ceilLog (m : Nat) (e : Int) (lim : Nat) : Int :=
  let d : Int := (Nat.log2 m : Int) - Nat.log2 lim
  let fits (k : Int) : Bool := if 0 ≤ k then decide (m ≤ lim * 2 ^ k.toNat) else decide (m * 2 ^ (-k).toNat ≤ lim)
  e + (if fits (d - 1) then d - 1 else if fits d then d else d + 1)

/-- The scale exponent of M (Table 4.3). An M that is negative or a NaN has no stated exponent: `open'` is taken; for +infinity
no E0 of note c exists, and the model takes the clamp's end, 127 (log 33). -/
def quantE (open' : Nat) (m : FV) (lim c : Nat) : Int :=
  match m with
  | .fin _ 0 _ => 0
  | .fin false k e => clampI (-126) 127 (ceilLog k e lim - c)
  | .inf false => 127
  | _ => (open' % 254 : Nat) - 126

/-- The code of an element (R111): the code, clipped, invalid. -/
def quantCode (x : VNum) (e : Int) (zp top : Nat) : Nat × Bool × Bool :=
  let v := match x with | .fl v => v | .int i => intF i
  match v with
  | .nan _ _ => (zp, false, true)
  | .inf n => (if n then 0 else top, true, false)
  | .fin n m k =>
    let i := (toIntF (.fin n m (k - e))).getD 0 + zp
    ((clampI 0 top i).toNat, decide (i < 0) || decide ((top : Int) < i), false)

/-- QUANT (R140): one activation slot and its scale exponent, which depends on M and on all inputs (R145). PARAM[3] = 1 is
taken as the unsigned mode, as STATS codes it: Table 5.3 does not say (log 33). -/
def vQuant (b : VBlk) (v : VEnv) : VEnv :=
  let pc := fld b.param 2 0
  let p := pOf pc
  let uns := bitOf b.param 3
  let v := (v.types b).need (decide (pc < 7) && decide (b.n % 128 = 0) && decide (b.n ≤ 511 * 128)) 1
  let v := ((v.arr b.a b.n (tySize b.ity) false).arr b.b 1 4 false).arr b.aux 1 2 false
  let v := v.arr b.dst (64 + b.n / 128 * 16 * p) 1 false
  let m := v.load b.b 1 2
  let r := m.2.load b.a b.n b.ity
  let zp := if uns then 0 else 2 ^ (p - 1)
  let top := 2 ^ p - 1
  let lim := if uns then 2 ^ p - 1 else 2 ^ (p - 1) - 1
  let m0 := (m.1.getD 0 ⟨.int 0, false⟩).v
  let ex := quantE (Config.vsuOpen b.w 0 (m0.code :: r.1.map (fun x => x.v.code))) m0.f lim (fld b.param 5 4)
  let all := anyP m.1 || anyP r.1
  let cs := r.1.map (fun e => quantCode e.v ex zp top)
  let nan := (cs.filter (fun (c : Nat × Bool × Bool) => c.2.2)).length
  let v := { r.2 with clip := r.2.clip + (cs.filter (fun (c : Nat × Bool × Bool) => c.2.1)).length }
  let v := if nan = 0 then v else if v.exact then v.inval else { v with invalid := v.invalid + nan }
  let one (g : List (Nat × Bool × Bool)) : List (Byte × Bool) :=
    let bad := all || g.any (fun c => c.2.2)
    let planes := (List.range p).flatMap (fun j =>
      leBytes 16 ((g.zipIdx.map (fun c => c.1.1 / 2 ^ j % 2 * 2 ^ c.2)).sum))
    planes.map (fun c => (c, bad))
  let recs := (segments 128 (b.n / 128) cs).map one
  let head := (leBytes 2 zp ++ leBytes 2 (b.n / 128) ++ leBytes 1 pc ++ List.replicate 59 0).map (fun c => (c, all))
  let np := 128 * (recs.filter (fun g => g.any (·.2))).length
  let v := { v with outs := v.outs ++ [(b.dst, head ++ recs.flatMap id)], pois := v.pois + np }
  { v.store b.aux 4 [⟨.int ex, all⟩] with count := b.n }

/-! ### POST (R141) -/

/-- POST: envelopes built from the template; a target outside the queues, or of KIND 0 or 2, is fault cause 5, and in the
tolerant class is not posted and counted invalid (R141, R248). -/
def vPost (b : VBlk) (v : VEnv) : VEnv :=
  let w := fld b.param 2 0
  let v := ((v.types b).arr b.a b.n 8 false).arr b.b 8 8 false
  let v := v.arr b.aux b.n 4 false
  let t := v.rd b.b 64
  let xs := t.2.load b.a b.n 8
  let qs := xs.2.load b.aux b.n 7
  let tp := t.1.any (·.2)
  let step (v : VEnv) (e : El × El) : VEnv :=
    let q := fld b.imm 17 0 + e.2.v.i.toNat
    let k := (v.s.qd q).kind
    let okQ := decide (q < 262144) && (!v.s.mayQueue v.tenant q || k == 1 || k == 3)
    if !okQ then (if v.exact then v.fault 5 else { v with invalid := v.invalid + 1 })
    else
      let env := (t.1.map (·.1)).take (8 * w) ++ leBytes 8 (keyOf e.1) ++ (t.1.map (·.1)).drop (8 * w + 8)
      let p := tp || e.1.p || e.2.p
      { v with posts := v.posts ++ [(q, env, p)], count := v.count + 1, pois := v.pois + b2n p }
  if qs.2.cause = 0 then (xs.1.zip qs.1).foldl step qs.2 else qs.2

/-! ### Steps (Table 5.4) -/

/-- The step count of an operation. -/
def vsuSteps (b : VBlk) (count : Nat) : Nat :=
  let up (x y : Nat) : Nat := (x + y - 1) / y
  let per := up (b.n * tySize b.ity) 256
  match b.op with
  | 0x01 => per * (fld b.param 1 0 + 2)
  | 0x02 => 2 * per
  | 0x03 => 3 * per
  | 0x10 =>
    let k := fld b.param 8 0
    if k ≤ 16 then per else if k ≤ 64 then up b.n 64 else up b.n 16
  | 0x11 => 2 * up b.n 64
  | 0x12 => 2 * up b.n 64
  | 0x13 => up b.n 64
  | 0x14 => up b.n 64
  | 0x20 => up (b.n + b.l) 32
  | 0x21 => up (b.n + b.l) 32
  | 0x22 => up (b.n + b.l) 32
  | 0x28 => b.n
  | 0x29 => b.n
  | 0x30 => up count 32 + b.n
  | 0x38 => up b.n 32
  | 0x39 => up b.n 32
  | 0x48 => b.n
  | _ => per

end Sys2Proof.Machine
end

