-- ==== Sys2Proof/Machine/VsuList.lean ====
section
/-!
DEFINITION. Vector and set unit lanes: operation lists from frame plans and envelopes (R119 to R124), faults (R146, R150), and
one command per operation of Table 5.3.
-/
namespace Sys2Proof.Machine

/-- Lane `j`. -/
def State.lane (s : State) (j : Nat) : Lane := tget {} j s.vsu

/-- Update lane `j`. -/
def State.setLane (s : State) (j : Nat) (x : Lane) : State := { s with vsu := tset {} j x s.vsu }

/-- The list in progress changes to `l`; LIST_ADDR shows it (R148). -/
def State.beginList (s : State) (j : Nat) (l : VList) : State :=
  (s.setLane j { s.lane j with cur := some l }).setReg64 (pgVsu j) 0x58 (l.addr % 2 ^ 48)

/-- A frame-plan list starts on a lane: behind an earlier one it waits (R124); a running envelope list is suspended, which
counts and raises PREEMPT (R123). -/
def State.planList (s : State) (j : Nat) (l : VList) : State :=
  let x := s.lane j
  match x.cur with
  | none => s.beginList j l
  | some c =>
    if c.act.isSome then s.setLane j { x with waiting := x.waiting ++ [l] }
    else if c.ended then s.beginList j l
    else ((s.setLane j { x with susp := some c }).beginList j l).countRaise (pgVsu j) 9 6

/-- ACTION_VSU: each lane of the mask begins its list at LIST + rank × STRIDE (R121). -/
def opActionVsu (s : State) : State :=
  s.launch 4 (fun _ => true) (fun r idx s =>
    let lanes := (List.range 16).filter (fun j => bitOf r.w1 j)
    let s' := forL lanes.zipIdx (fun e s =>
      if s.en (pgVsu e.1) then
        s.planList e.1 ⟨(fld r.w2 47 0 + e.2 * fld r.w3 31 0) % 2 ^ 48, 0, 0, s.fr.num, some (s.fr.num, idx), none, false⟩
      else s) s
    (s', lanes.filter (fun j => s.en (pgVsu j)), lanes.any (fun j => !s.en (pgVsu j))))

/-- VSU_ENV_LIST_START: with ENV_EN and no list on the lane, the next admitted envelope is consumed and its list starts;
an envelope of another kind, or a poisoned one, is counted invalid (R122, R247). -/
def opVsuEnvListStart (lane : Fin 16) (s : State) : State :=
  let p := pgVsu lane.val
  let cfg := s.reg p 0x40
  let q := fld cfg 17 0
  let x := s.lane lane.val
  if s.en p && bitOf cfg 31 && x.cur.isNone && x.susp.isNone then
    let pos := (s.qd q).head
    let f := s.admFrame q pos
    let r := s.consume q
    match r.1 with
    | none => r.2
    | some (e, pois) =>
      if pois || fld (envW0 e) 3 0 ≠ 1 then r.2.countRaise p 4 5
      else r.2.beginList lane.val ⟨fld (leNat ((e.drop 16).take 8)) 47 0, 0, fld (envW0 e) 7 4, f, none, some (q, pos), false⟩
  else s

/-- The address of the block a list has come to. -/
def VList.at (l : VList) : Nat := (l.addr + 64 * l.blk) % 2 ^ 48

/-- The block a list has come to, or the fault cause of a block that cannot be read as one: misplaced or misaligned 3,
poisoned 7, lost to an uncorrectable error 8 (log 32). A forbidden read returns zeros (R147). -/
def State.peekBlk (s : State) (l : VList) : VBlk ⊕ Nat :=
  let a := l.at
  if a % 64 ≠ 0 || !rangeInHub a 64 then .inr 3
  else if !s.mayPhys l.tenant a false then .inl ⟨List.replicate 8 0⟩
  else if s.found (a / 64) .clean = .uncorrectable then .inr 8
  else if s.mem.mark (a / 64) then .inr 7
  else .inl ⟨(List.range 8).map (fun i => leNat (s.mem.read (a + 8 * i) 8))⟩

/-- The fetch of the block a list has come to: a violation where the read is forbidden (R436), else a read of its granule with
what the decode finds (R352, R515). -/
def State.fetchBlk (s : State) (l : VList) (dec : Dec) : State :=
  if l.at % 64 ≠ 0 || !rangeInHub l.at 64 then s
  else if !s.mayPhys l.tenant l.at false then s.violate l.tenant 3
  else (s.gRead 1 (l.at / 64) dec).2

/-- A fault stops the lane's list (R146, R150): FAULT_INFO and FAULT_ADDR hold the first one until software clears OP_FAULT;
CNT8, OP_FAULT, and a frame fault of source 9, of the action's frame, for a frame-plan list (Table 15.2). -/
def State.laneFault (s : State) (j : Nat) (l : VList) (op cause : Nat) : State :=
  let p := pgVsu j
  let s := if s.reg p 0x48 ≠ 0 then s
    else (s.setReg p 0x48 (op * 2 ^ 24 + l.blk % 256 * 2 ^ 8 + cause)).setReg64 p 0x50 l.at
  let was := (s.lane j).fault
  let s := s.setLane j { s.lane j with fault := true, cur := some { l with ended := true } }
  let s := (s.countRaise p 8 0).faultLog was p 0
  match l.act with
  | some a => s.frameFault 9 a.1
  | none => s

/-- Count `n` in CNT `k` and raise its event, when there is any. -/
def State.tally (s : State) (p k bit n : Nat) : State := if n = 0 then s else (s.countN p k n).raise p bit

/-- The result word of an operation (R142). -/
def VEnv.word (v : VEnv) : Nat :=
  v.count % 2 ^ 32 + b2n v.trunc * 2 ^ 32 + b2n (decide (v.pois ≠ 0)) * 2 ^ 33 + b2n (decide (v.clip ≠ 0)) * 2 ^ 34
    + b2n (decide (v.invalid ≠ 0)) * 2 ^ 35 + b2n (decide (v.fail ≠ 0)) * 2 ^ 36

/-- An operation that has found no fault makes its writes and posts, then its result word, then its sync-cell add, and
counts (R120, R142, Table 5.7). -/
def State.commitOp (s : State) (j : Nat) (l : VList) (b : VBlk) (v : VEnv) : State :=
  let p := pgVsu j
  let s := forL v.outs (fun o s => s.laneWrite j l.tenant o.1 o.2) s
  let s := forL v.posts (fun o s => s.postEnv l.tenant o.1 o.2.1 o.2.2) s
  let s := if b.res = 0 then s else s.laneWrite j l.tenant b.res ((leBytes 8 v.word).map (fun c => (c, false)))
  let s := (s.count p 0).countN p 1 (vsuSteps b v.count)
  let s := ((s.tally p 3 4 v.clip).tally p 4 5 v.invalid).tally p 5 1 v.pois
  let s := (s.tally p 6 2 (b2n v.trunc)).tally p 7 3 v.fail
  let s := if b.syncEn then (if s.mayCell l.tenant b.sync then s.addCell b.sync 1 else s.violate l.tenant 5) else s
  s.setLane j { s.lane j with cur := some { l with blk := l.blk + 1, ended := b.last } }

/-- The lane executes the block its list has come to, when its opcode is `op`; `bad` are the operand granules with an
uncorrectable error. An operation with an operand or a ring in memory that is in standby waits (R357); what a faulting one
counted invalid stays counted. -/
def State.vsuRow (s : State) (op : Nat) (sem : VBlk → VEnv → VEnv) (j : Nat) (bad : List Nat) : State :=
  let p := pgVsu j
  match (s.lane j).cur with
  | none => s
  | some l =>
    if !s.en p || l.ended || decide (256 ≤ l.blk) then s
    else match s.peekBlk l with
      | .inr _ => s
      | .inl b =>
        if b.op ≠ op then s
        else
          let s0 := s
          let s := (s.setReg p 0x44 (b.op * 2 ^ 24 + l.blk * 2 ^ 8)).fetchBlk l (if bad.contains (l.at / 64) then .uncorrectable else .clean)
          let v : VEnv := { s := s, agent := 4096 + j, tenant := l.tenant, bad := bad, exact := !b.tolerant, frame := l.frame }
          let v := v.need (!bad.contains (l.at / 64)) 8
          let v := v.need (decide (b.res = 0) || (decide (b.res % 8 = 0) && rangeInHub b.res 8)) 3
          let v := sem b v
          if v.wait || (!v.posts.isEmpty && !s.qmemAwake) then s0
          else if v.cause ≠ 0 then (v.s.tally p 4 5 v.invalid).laneFault j l b.op v.cause
          else v.s.commitOp j l b v

/-- The opcodes of Table 5.3. -/
def opcodes : List Nat :=
  [0x01, 0x02, 0x03, 0x04, 0x10, 0x11, 0x12, 0x13, 0x14, 0x20, 0x21, 0x22, 0x28, 0x29, 0x30, 0x38, 0x39, 0x3A, 0x40, 0x41,
   0x42, 0x48]

/-- The next list of a lane whose list has ended: a waiting frame-plan list, else the suspended envelope list (R123,
R124). -/
def State.nextList (s : State) (j : Nat) : State :=
  let x := s.lane j
  match x.waiting with
  | w :: ws => (s.setLane j { x with waiting := ws }).beginList j w
  | [] =>
    match x.susp with
    | some e => (s.setLane j { x with susp := none }).beginList j e
    | none => s.setLane j { x with cur := none }

/-- The list in progress has ended: its lane's part of the action completes (R121), and the next list starts. -/
def State.endList (s : State) (j : Nat) (l : VList) : State :=
  let s := match l.act with
    | some (f, i) => s.finishPart f i j
    | none => s
  s.nextList j

/-- VSU_LIST_COMPLETE: the list has ended with LAST or a fault; or it ends now, on a block that is no operation, that cannot be
read, or after 256 blocks (R120, Table 5.5). Where no block of the list faults, after 256 of them, FAULT_INFO and FAULT_ADDR show
the last OP, INDEX 0 and the address that follows the list: the spec gives them no content there (log 32). -/
def opVsuListComplete (lane : Fin 16) (s : State) : State :=
  let j := lane.val
  match (s.lane j).cur with
  | none => s
  | some l =>
    if !s.en (pgVsu j) then s
    else if l.ended then s.endList j l
    else if 256 ≤ l.blk then (s.laneFault j l (fld (s.reg (pgVsu j) 0x44) 31 24) 2).endList j l
    else match s.peekBlk l with
      | .inr c => ((s.fetchBlk l .clean).laneFault j l 0 c).endList j l
      | .inl b => if opcodes.contains b.op then s else ((s.fetchBlk l .clean).laneFault j l b.op 1).endList j l

/-- The soft reset of a lane abandons its lists; their envelopes stay consumed (R148). -/
def State.laneSoft (s : State) (j : Nat) : State := s.setLane j {}

/-- One tick of a lane: CNT2 counts while it has a list (Table 5.7). -/
def State.laneTick (s : State) (j : Nat) : State := if (s.lane j).cur.isSome then s.count (pgVsu j) 2 else s

def execActionVsu (s : State) : Host.Outcome State Fault Refusal := done s (opActionVsu s)
def execVsuEnvListStart (lane : Fin 16) (s : State) : Host.Outcome State Fault Refusal := done s (opVsuEnvListStart lane s)
def execVsuListComplete (lane : Fin 16) (s : State) : Host.Outcome State Fault Refusal := done s (opVsuListComplete lane s)
def execVsuAdd (lane : Fin 16) (bad : List Nat) (s : State) : Host.Outcome State Fault Refusal :=
  done s (s.vsuRow 0x01 vAdd lane.val bad)
def execVsuMul (lane : Fin 16) (bad : List Nat) (s : State) : Host.Outcome State Fault Refusal :=
  done s (s.vsuRow 0x02 vMul lane.val bad)
def execVsuFma (lane : Fin 16) (bad : List Nat) (s : State) : Host.Outcome State Fault Refusal :=
  done s (s.vsuRow 0x03 vFma lane.val bad)
def execVsuScale (lane : Fin 16) (bad : List Nat) (s : State) : Host.Outcome State Fault Refusal :=
  done s (s.vsuRow 0x04 vScale lane.val bad)
def execVsuTopk (lane : Fin 16) (bad : List Nat) (s : State) : Host.Outcome State Fault Refusal :=
  done s (s.vsuRow 0x10 vTopk lane.val bad)
def execVsuSoftmax (lane : Fin 16) (bad : List Nat) (s : State) : Host.Outcome State Fault Refusal :=
  done s (s.vsuRow 0x11 vSoftmax lane.val bad)
def execVsuNorm (lane : Fin 16) (bad : List Nat) (s : State) : Host.Outcome State Fault Refusal :=
  done s (s.vsuRow 0x12 vNorm lane.val bad)
def execVsuRope (lane : Fin 16) (bad : List Nat) (s : State) : Host.Outcome State Fault Refusal :=
  done s (s.vsuRow 0x13 vRope lane.val bad)
def execVsuSample (lane : Fin 16) (bad : List Nat) (s : State) : Host.Outcome State Fault Refusal :=
  done s (s.vsuRow 0x14 vSample lane.val bad)
def execVsuIsect (lane : Fin 16) (bad : List Nat) (s : State) : Host.Outcome State Fault Refusal :=
  done s (s.vsuRow 0x20 vIsect lane.val bad)
def execVsuUnion (lane : Fin 16) (bad : List Nat) (s : State) : Host.Outcome State Fault Refusal :=
  done s (s.vsuRow 0x21 vUnion lane.val bad)
def execVsuDiff (lane : Fin 16) (bad : List Nat) (s : State) : Host.Outcome State Fault Refusal :=
  done s (s.vsuRow 0x22 vDiff lane.val bad)
def execVsuHprobe (lane : Fin 16) (bad : List Nat) (s : State) : Host.Outcome State Fault Refusal :=
  done s (s.vsuRow 0x28 vHprobe lane.val bad)
def execVsuHinsert (lane : Fin 16) (bad : List Nat) (s : State) : Host.Outcome State Fault Refusal :=
  done s (s.vsuRow 0x29 vHinsert lane.val bad)
def execVsuCsr (lane : Fin 16) (bad : List Nat) (s : State) : Host.Outcome State Fault Refusal :=
  done s (s.vsuRow 0x30 vCsr lane.val bad)
def execVsuGather (lane : Fin 16) (bad : List Nat) (s : State) : Host.Outcome State Fault Refusal :=
  done s (s.vsuRow 0x38 vGather lane.val bad)
def execVsuScatterAdd (lane : Fin 16) (bad : List Nat) (s : State) : Host.Outcome State Fault Refusal :=
  done s (s.vsuRow 0x39 vScatterAdd lane.val bad)
def execVsuSegred (lane : Fin 16) (bad : List Nat) (s : State) : Host.Outcome State Fault Refusal :=
  done s (s.vsuRow 0x3A vSegred lane.val bad)
def execVsuConvert (lane : Fin 16) (bad : List Nat) (s : State) : Host.Outcome State Fault Refusal :=
  done s (s.vsuRow 0x40 vConvert lane.val bad)
def execVsuStats (lane : Fin 16) (bad : List Nat) (s : State) : Host.Outcome State Fault Refusal :=
  done s (s.vsuRow 0x41 vStats lane.val bad)
def execVsuQuant (lane : Fin 16) (bad : List Nat) (s : State) : Host.Outcome State Fault Refusal :=
  done s (s.vsuRow 0x42 vQuant lane.val bad)
def execVsuPost (lane : Fin 16) (bad : List Nat) (s : State) : Host.Outcome State Fault Refusal :=
  done s (s.vsuRow 0x48 vPost lane.val bad)

end Sys2Proof.Machine
end

