-- ==== Sys2Proof/Machine/Cal.lean ====
section
/-!
DEFINITION. Ring locking and background calibration (R151 to R184): the measurement of a column, the rotation of standby and
column under calibration, failover, acquisition, the calibration image, and a tile's part of a frame boundary.
-/
namespace Sys2Proof.Machine

/-! ### A column's measurement (R154, R155, R158) -/

/-- A column under measurement: the engine's work, the tile's failed rows with the spare rows that the measurement adds
(R177), and whether a step has failed (R162). -/
structure ColRun where
  work : CalWork
  rowFail : Nat
  bad : Bool
  deriving DecidableEq, Repr

/-- A working value of quantity `q` of tile `t`: as measured so far, else the value in force (R158). -/
def State.work (s : State) (t : Nat) (w : CalWork) (q : Nat) : Int := tget (s.eff t q) q w.val

/-- Store working values. -/
def CalWork.put (w : CalWork) (vs : List (Nat × Int)) : CalWork := { w with val := vs.foldl (fun m v => tins v.1 v.2 m) w.val }

/-- The sum of y over raw codes of column `c`, in units of 1/16 LSB: each code corrected with the column's working gain and
offset (R92, R154). -/
def State.ySum (s : State) (t c : Nat) (w : CalWork) (raw : List (BitVec 10)) : Int :=
  (raw.map (fun r => corrected16 r.toInt (s.work t w (qCol c 0)) (s.work t w (qCol c 1)))).sum

/-- The slots in which `row` sent light, of `slots` in which a step measured it: none on a failed row, all of them outside
runs; while runs carried planes, what their data gave (R155; log 34). -/
def State.litOf (s : State) (t rowFail row slots given : Nat) : Nat :=
  if bitOf rowFail row then 0
  else if (s.tl t).ranCal || (s.tl t).run.isSome then min given slots
  else slots

/-- Offset: the sum of 4,096 codes with every ring parked (R159). -/
def ColRun.offset (r : ColRun) (sum : Int) : ColRun := { r with work := { r.work with offSum := sum, phase := 3 } }

/-- G and O from the sums of the offset and gain samples (R159); none outside their limits. -/
def gainOffset (off sum : Int) : Option (Int × Int) :=
  let d := sum - off
  if d ≤ 0 then none
  else
    let g := roundHalfEven (32768 * 384 * 4096) d
    let o := roundHalfEven (64 * off * g) (32768 * 4096)
    if 0x6000 ≤ g && decide (g ≤ 0xA000) && decide (o.natAbs ≤ 2048) then some (g, o) else none

/-- Gain: the sum of 4,096 codes with the calibration charge source on; G and O are formed, or the step fails (R159). -/
def ColRun.gain (r : ColRun) (c : Nat) (sum : Int) : ColRun :=
  match gainOffset r.work.offSum sum with
  | none => { r with bad := true }
  | some (g, o) => { r with work := { r.work.put [(qCol c 0, g), (qCol c 1, o)] with phase := 4 } }

/-! ### Delay trim (R160) -/

/-- A point of a sweep: the code, the lit slots of the ring's row, and the sum of y in units of 1/16 LSB. -/
structure SweepPt where
  code : Nat
  lit : Nat
  sum : Int
  deriving DecidableEq, Repr

/-- The point of greatest response per lit slot, of the lowest code on a tie; a code without light has no response. -/
def bestTrim (ps : List SweepPt) : Option SweepPt :=
  ps.foldl (fun b r =>
    if r.lit = 0 then b
    else match b with
      | none => some r
      | some a =>
        let l := a.sum * r.lit
        let m := r.sum * a.lit
        if l < m || (decide (l = m) && decide (r.code < a.code)) then some r else b) none

/-- The lowest-numbered row that has not failed (R160). -/
def lowRow (rowFail : Nat) : Option Nat := (List.range 132).find? (fun p => !bitOf rowFail p)

/-- The codes of the first part of the sweep, and those within 3 of its best code (R160). -/
def trimCodes : List Nat := (List.range 16).map (4 * ·)
def trimNear (b : Nat) : List Nat := (List.range 64).filter (fun c => decide (c ≠ b) && decide (c ≤ b + 3) && decide (b ≤ c + 3))

/-- The points of samples of 1,024 slots at `codes`; none unless each code has its 1,024 samples (R160). -/
def State.trimPoints (s : State) (t c : Nat) (r : ColRun) (row : Nat) : List Nat → List Samples → Option (List SweepPt)
  | [], [] => some []
  | k :: ks, m :: ms =>
    if m.raw.length = 1024 then
      (s.trimPoints t c r row ks ms).map (⟨k, s.litOf t r.rowFail row 1024 m.lit, s.ySum t c r.work m.raw⟩ :: ·)
    else none
  | _, _ => none

/-- Delay trim: the sweep of the positive ring of the lowest row that has not failed sets the best code, or fails at 0 or 63
(R160). None while the sweep is not whole or nothing of it was lit. A column without any such row fails (log 34). -/
def State.colTrim (s : State) (t c : Nat) (resp : List Samples) (r : ColRun) : Option ColRun :=
  match lowRow r.rowFail with
  | none => some { r with bad := true }
  | some row =>
    (s.trimPoints t c r row trimCodes (resp.take 16)).bind fun ps =>
    (bestTrim ps).bind fun b =>
    (s.trimPoints t c r row (trimNear b.code) (resp.drop 16)).bind fun qs =>
    (bestTrim (ps ++ qs)).map fun p =>
      if p.code = 0 || p.code = 63 then { r with bad := true }
      else { r with work := { r.work.put [(qCol c 2, (p.code : Int))] with phase := 5, group := 0 } }

/-! ### Trim lock (R152 to R157) -/

/-- The sums over a window of y times the sine table at the first and second harmonic of a channel, for phase lag `psi`: y in
units of 1/16 LSB, one value an update. -/
def lockSums (ftw psi : Nat) : Nat → List Int → Int × Int
  | _, [] => (0, 0)
  | u, y :: ys =>
    let th := (u * ftw % 2 ^ 32 / 2 ^ 22 + 1024 - psi % 1024) % 1024
    let r := lockSums ftw psi (u + 1) ys
    (r.1 + y * sineTab th, r.2 + y * sineTab ((2 * th + 256) % 1024))

/-- The outcome of a window for one ring (Table 6.2): `none` void, `some (locked, step)` otherwise, the step to add to the
trim. The slots of a window are 8,192 updates of 40 samples of 32 slots. `h` and `a2f` are in units of 2^-16 (log 34). -/
def windowOutcome (neg : Bool) (ch psi h a2f lit : Nat) (ys : List Int) : Option (Bool × Int) :=
  let slots : Int := 8192 * 40 * 32
  let sg : Int := if neg then -1 else 1
  let n := lockSums ((27 + 2 * ch) * 2 ^ 19) psi 0 ys
  let n1 := sg * n.1
  let n2 := -sg * n.2
  if (lit : Int) * 64 < slots then none
  else if n2 ≤ 0 || decide (2 * n2 * 4 * slots * 65536 < (lit : Int) * a2f * (8192 * 32767 * 16)) then
    some (false, 4 * Int.sign n1)
  else
    let num := -(99997 * (h : Int) * n1)
    let den := 100000 * 65536 * 4 * n2
    if 2 * (num.natAbs : Int) ≤ den then some (true, 0) else some (false, -(roundHalfEven num den))

/-- The rings of a group that are dithered: row and polarity; those of failed rows are skipped (R152). -/
def groupRings (rowFail g : Nat) : List (Nat × Bool) :=
  ((List.range 6).map (fun i => 6 * g + i)).flatMap (fun p => if bitOf rowFail p then [] else [(p, false), (p, true)])

/-- A ring fails (Table 6.2, note b; R177): on a spare row that carries no logical row the row is marked, else the column
fails. -/
def ColRun.ringFails (r : ColRun) (rowmap row : Nat) : ColRun :=
  if row % 33 = 32 && !bitOf rowmap (8 * (row / 33) + 7) then
    if bitOf r.rowFail row then r else { r with rowFail := r.rowFail + 2 ^ row }
  else { r with bad := true }

/-- One ring after a window (R157). -/
def State.ringWindow (s : State) (t c : Nat) (ys : List Int) (lit : List Nat) (e : Nat × Bool) (r : ColRun) : ColRun :=
  let k := 2 * e.1 + b2n e.2
  if tget false k r.work.locked || r.bad || bitOf r.rowFail e.1 then r
  else
    let ch := 2 * (e.1 % 6) + b2n e.2
    match windowOutcome e.2 ch (Config.fLayer t (qRing e.1 c e.2 9)) (Config.fLayer t (qRing e.1 c e.2 10))
        (Config.fLayer t (qRing e.1 c e.2 11)) (s.litOf t r.rowFail e.1 (8192 * 40 * 32) (lit.getD (e.1 % 6) 0)) ys with
    | none => r
    | some (true, _) =>
      { r with work := { r.work with locked := tset false k true r.work.locked
                                     windows := tset 0 k (tget 0 k r.work.windows + 1) r.work.windows } }
    | some (false, d) =>
      let q := qRing e.1 c e.2 0
      let v := s.work t r.work q + d
      let n := tget 0 k r.work.windows + 1
      if v < 0 || decide (1023 < v) || decide (8 ≤ n) then r.ringFails (s.tl t).roles.rowmap e.1
      else { r with work := { r.work.put [(q, v)] with windows := tset 0 k n r.work.windows } }

/-- The group's rings are all locked, or on rows that have failed. -/
def ColRun.groupDone (r : ColRun) (g : Nat) : Bool :=
  (groupRings r.rowFail g).all (fun e => tget false (2 * e.1 + b2n e.2) r.work.locked)

/-- The first group from `g` on with a ring not locked; 22 when there is none. -/
def ColRun.nextGroup (r : ColRun) (g : Nat) : Nat → Nat
  | 0 => 22
  | n + 1 => if 22 ≤ g then 22 else if r.groupDone g then r.nextGroup (g + 1) n else g

/-- The window is whole: 8,192 updates of 40 samples (R153, R156). -/
def wholeWin (w : LockWin) : Bool := decide (w.raw.length = 8192) && w.raw.all (fun u => decide (u.length = 40))

/-- A lock-in window: each dithered ring of the group is judged under Table 6.2; when all of them are locked the engine moves
to the next group, and after the last to the drive tables (R157). None for a window that is not whole. -/
def State.colWindow (s : State) (t c : Nat) (w : LockWin) (r : ColRun) : Option ColRun :=
  if wholeWin w then
    let ys := w.raw.map (s.ySum t c r.work)
    let r := forL (groupRings r.rowFail r.work.group) (s.ringWindow t c ys w.lit) r
    let g := r.nextGroup r.work.group 22
    some (if r.bad then r
      else if g < 22 then { r with work := { r.work with group := g } }
      else { r with work := { r.work with phase := 6, ring := ringFrom r.rowFail 0 264 } })
  else none

/-! ### Drive tables (R161) -/

/-- R(c_a) ≤ j × 0.25 for a sweep point: sum in units of 1/16 LSB. -/
def ptLe (p : SweepPt) (j : Nat) : Bool := decide (p.sum ≤ 4 * j * p.lit)
def ptGe (p : SweepPt) (j : Nat) : Bool := decide ((4 * j * p.lit : Nat) ≤ p.sum)

/-- The entry for magnitude `j`, interpolated between the first two successive points that enclose it. -/
def entryOf (j : Nat) : List SweepPt → Option Int
  | a :: b :: r =>
    if ptLe a j && ptGe b j then
      let den := b.sum * a.lit - a.sum * b.lit
      let num := ((b.code : Int) - a.code) * (4 * j * a.lit - a.sum) * b.lit
      some (a.code + (if den = 0 then 0 else roundHalfEven num den))
    else entryOf j (b :: r)
  | _ => none

/-- R falls by more than 0.05 LSB between successive points. -/
def sweepFalls : List SweepPt → Bool
  | a :: b :: r =>
    decide (16 * (a.lit : Int) * b.lit < 20 * (a.sum * b.lit - b.sum * a.lit)) || sweepFalls (b :: r)
  | _ => false

/-- Strictly increasing. -/
def increasing : List Int → Bool
  | a :: b :: r => decide (a < b) && increasing (b :: r)
  | _ => true

/-- A ring's entries for magnitudes 1 to 8, or none when the table fails; the positive ring's entry 8 is its entry 7. -/
def driveTable (neg : Bool) (sw : List SweepPt) : Option (List Int) :=
  let m := if neg then 8 else 7
  let es := (List.range m).filterMap (fun i => entryOf (i + 1) sw)
  let top := match sw.getLast? with
    | some p => ptGe p m
    | none => false
  if top && decide (es.length = m) && increasing es && !sweepFalls sw then some (if neg then es else es ++ [es.getD 6 0])
  else none

/-- The sweep codes (R161). -/
def sweepCodes : List Nat := (List.range 16).map (8 * ·) ++ [127]

/-- The point of a sweep code from its takes of 512 samples: a code is taken again, up to three times, while the ring's row
has been lit for fewer than 256 slots, and the takes are summed (log 34). None while the takes are not whole, or while
nothing of them was lit. -/
def State.sweepPoint (s : State) (t c : Nat) (r : ColRun) (row code : Nat) (takes : List Samples) : Option SweepPt :=
  let lits := takes.map (fun m => s.litOf t r.rowFail row 16384 m.lit)
  let whole := takes.all (fun m => decide (m.raw.length = 512)) && decide (takes.length ≤ 4)
  let asked := (List.range takes.length).all (fun i => i == 0 || decide ((lits.take i).sum < 256))
  if whole && asked && decide (lits.sum ≠ 0) && (decide (256 ≤ lits.sum) || decide (takes.length = 4)) then
    some ⟨code, lits.sum, s.ySum t c r.work (takes.flatMap (·.raw))⟩
  else none

/-- The points of a whole sweep. -/
def State.sweepPoints (s : State) (t c : Nat) (r : ColRun) (row : Nat) : List Nat → Sweep → Option (List SweepPt)
  | [], [] => some []
  | k :: ks, m :: ms => (s.sweepPoint t c r row k m).bind (fun p => (s.sweepPoints t c r row ks ms).map (p :: ·))
  | _, _ => none

/-- One ring's drive table; after the last ring the column's staged values are complete (R161, Table 6.3). None while the
sweep is not whole. -/
def State.colTable (s : State) (t c : Nat) (sw : Sweep) (r : ColRun) : Option ColRun :=
  let row := r.work.ring / 2
  let neg := decide (r.work.ring % 2 = 1)
  let next (r : ColRun) : ColRun :=
    let k := ringFrom r.rowFail (r.work.ring + 1) 264
    { r with work := { r.work with ring := k, phase := if k < 264 then 6 else 7 } }
  if bitOf r.rowFail row || decide (264 ≤ r.work.ring) then some (next r)
  else (s.sweepPoints t c r row sweepCodes sw).map fun ps =>
    match driveTable neg ps with
    | none => let f := r.ringFails (s.tl t).roles.rowmap row; if f.bad then f else next f
    | some es => next { r with work := r.work.put (es.zipIdx.map (fun e => (qRing row c neg (e.2 + 1), e.1))) }

/-! ### The column under calibration -/

/-- The calibration engine measures the column under calibration: CALIBRATE, in A0, at the step `ph` of Table 6.3 (R172). -/
def State.calAt (s : State) (t ph : Nat) : Bool :=
  let x := s.tl t
  decide (x.rot = 2) && decide (x.cal.phase = ph) && decide (s.tgDom t = 0) && s.en (pgTile t) && decide (x.roles.calcol < 130)
    && !x.colDue.contains x.roles.calcol

/-- The column under calibration as it has been measured so far. -/
def Tile.colRun (x : Tile) : ColRun := ⟨x.cal, x.rowFail, false⟩

/-- The outcome of a step reaches the tile: a column that has failed is retired at the next frame boundary (R162); complete,
its values are staged and the tile goes to VERIFY, or to PROMOTE without a standby (Table 6.5). -/
def State.colStep (s : State) (t : Nat) (o : Option ColRun) : State :=
  match o with
  | none => s
  | some r =>
    let x := s.tl t
    let x : Tile := { x with rowFail := r.rowFail, ranCal := x.run.isSome }
    if r.bad then s.setTl t { x with cal := {}, colDue := x.colDue ++ [x.roles.calcol] }
    else if r.work.phase = 7 then
      s.setTl t { x with staged := some r.work, cal := {}, cmp := {}, rot := if x.roles.standby = 0xFF then 3 else 4 }
    else s.setTl t { x with cal := r.work }

/-- CAL_OFFSET_MEASURE and CAL_GAIN_MEASURE (R159). -/
def opCalOffsetMeasure (t : Fin 256) (sum : Int) (s : State) : State :=
  if s.calAt t.val 2 then s.colStep t.val (some ((s.tl t.val).colRun.offset sum)) else s
def opCalGainMeasure (t : Fin 256) (sum : Int) (s : State) : State :=
  if s.calAt t.val 3 then s.colStep t.val (some ((s.tl t.val).colRun.gain (s.tl t.val).roles.calcol sum)) else s

/-- CAL_DELAY_TRIM (R160). -/
def opCalDelayTrim (t : Fin 256) (resp : List Samples) (s : State) : State :=
  if s.calAt t.val 4 then s.colStep t.val (s.colTrim t.val (s.tl t.val).roles.calcol resp (s.tl t.val).colRun) else s

/-- LOCKIN_WINDOW_END (R157). -/
def opLockinWindowEnd (t : Fin 256) (raw : List (List (BitVec 10))) (lit : List Nat) (s : State) : State :=
  if s.calAt t.val 5 then s.colStep t.val (s.colWindow t.val (s.tl t.val).roles.calcol ⟨raw, lit⟩ (s.tl t.val).colRun) else s

/-- CAL_DRIVE_TABLE: one ring's sweep completes (R161). An uncorrectable error in the calibration area makes the engine
repeat the step (R72, R173). -/
def opCalDriveTable (t : Fin 256) (m : TabSweep) (s : State) : State :=
  if s.calAt t.val 6 then
    let s1 := s.errIn t.val m.err 0x31000 0xF000
    match m.err with
    | some e =>
      if e.uncorrectable && decide (0x31000 ≤ e.off.val) then s1
      else s1.colStep t.val (s1.colTable t.val (s1.tl t.val).roles.calcol m.sweep (s1.tl t.val).colRun)
    | none => s1.colStep t.val (s1.colTable t.val (s1.tl t.val).roles.calcol m.sweep (s1.tl t.val).colRun)
  else s

/-! ### Roles (R163 to R176) -/

/-- Start measuring the column under calibration (Table 6.3, step 1). -/
def Tile.beginCal (x : Tile) : Tile := { x with cal := { phase := 2 }, rot := 2, ranCal := x.run.isSome }

/-- The state that rotation takes: CALIBRATE if C exists, VERIFY if only S exists, STOPPED or DEGRADED by health (Table 6.5). -/
def Tile.rotate (x : Tile) : Tile :=
  if x.healthy < 128 then { x with rot := 7 }
  else if x.healthy = 128 then { x with rot := 6 }
  else if x.roles.calcol < 130 && x.staged.isNone then (if x.rot = 2 && decide (x.cal.phase ≠ 0) then x else x.beginCal)
  else if x.roles.standby < 130 then { x with rot := 4 }
  else if x.staged.isSome then { x with rot := 3 }
  else { x with rot := x.offState }

/-- The logical column a physical column carries. -/
def Roles.carried (r : Roles) (c : Nat) : Option Nat := (List.range 128).find? (fun l => tget l l r.cmap == c)

/-- The victim: the in-service column of lowest number above the pointer, wrapping (R163). -/
def Tile.victim (x : Tile) : Option Nat :=
  (((List.range 130).map (fun i => (x.ptr + 1 + i) % 130)).find? (fun c => (x.roles.carried c).isSome))

/-- The standby shadows the victim's logical column. -/
def Tile.shadowVictim (x : Tile) : Tile :=
  match x.victim with
  | some c => { x with roles := { x.roles with lcol := (x.roles.carried c).getD 0 }, cmp := {}, fails := 0 }
  | none => x

/-- Values come into force: T := staged − (F + U) for each (R181), CAL_COUNT and CAL_TIME (R183); CAL_COUNT saturates (R10). -/
def State.forceVals (s : State) (t : Nat) (vs : List (Nat × Int)) (n : Nat) : State :=
  let x := s.tl t
  let tl := vs.foldl (fun m v => tset 0 v.1 (v.2 - (fVal t v.1 + tget 0 v.1 x.calU)) m) x.calT
  s.setTl t { x with calT := tl, calCount := min (x.calCount + n) (2 ^ 32 - 1), calTime := s.mg.time }

/-- A staged C becomes S with its values in force; without one there is no standby. -/
def State.promote (s : State) (t : Nat) : State :=
  let x := s.tl t
  match x.staged with
  | some w =>
    let s := s.forceVals t w.val 1
    let x := s.tl t
    s.setTl t { x with staged := none, roles := { x.roles with standby := x.roles.calcol, calcol := 0xFF } }
  | none => s.setTl t { x with roles := { x.roles with standby := 0xFF } }

/-- Retire a column: COL_RETIRED (R176). -/
def State.retire (s : State) (t c : Nat) : State :=
  let x := s.tl t
  if bitOf x.retired c then s else (s.setTl t { x with retired := x.retired + 2 ^ c }).raise (pgTile t) 3

/-- Point a logical column at a physical one. -/
def Roles.point (r : Roles) (l c : Nat) : Roles := { r with cmap := tset l l c r.cmap }

/-- After a failover the comparison starts again. A victim against which a standby has failed stays the victim while it is in
service; otherwise the victim is the one of R163, and nothing has failed against it (R169, R170). -/
def Tile.reshadow (x : Tile) (v : Nat) : Tile :=
  if 0 < x.badS && (x.roles.carried v).isSome then { x with cmp := {}, fails := 0, due := 0 }
  else { x.shadowVictim with due := 0, badS := 0 }

/-- A failed column at a frame boundary (R170). -/
def State.failover (s : State) (t c : Nat) : State :=
  let x := s.tl t
  let v := tget x.roles.lcol x.roles.lcol x.roles.cmap
  if c = x.roles.standby then
    let s := (s.retire t c).promote t
    s.setTl t ((s.tl t).reshadow v)
  else if c = x.roles.calcol then
    let s := s.retire t c
    let x := s.tl t
    s.setTl t { x with cal := {}, staged := none, coverAt := none, roles := { x.roles with calcol := 0xFF } }
  else match x.roles.carried c with
    | none => s.retire t c
    | some l =>
      if x.roles.standby < 130 then
        let s := s.retire t c
        let x := s.tl t
        let s := (s.setTl t { x with roles := x.roles.point l x.roles.standby }).promote t
        s.setTl t ((s.tl t).reshadow v)
      else if x.roles.calcol < 130 then
        match x.coverAt with
        | none => s.setTl t { x with cal := {}, staged := none, coverAt := some (s.tb.tick + 80000) }
        | some a =>
          if s.tb.tick < a then s
          else
            let s := s.retire t c
            let x := s.tl t
            s.setTl t { x with roles := { x.roles.point l x.roles.calcol with calcol := 0xFF }, coverAt := none }
      else
        let s := s.retire t c
        let x := s.tl t
        s.setTl t { x with roles := x.roles.point l 0xFF }

/-- A column whose failover has not been completed stays due. -/
def Tile.stillDue (x : Tile) (c : Nat) : Bool := !bitOf x.retired c

/-- The rotation state after the failovers of a boundary (R164, R170, Table 6.5): a column that carries on until C has settled
leaves it; health alone governs a tile that does not rotate and ends an acquisition pass; a failed C leaves a comparison of
S and V as it stands (`onlyC`); any other rotation goes on as the roles now allow, its comparison started again. -/
def Tile.afterFailover (x : Tile) (onlyC : Bool) : Tile :=
  if x.coverAt.isSome then x
  else if x.rot = 0 || x.rot = 6 || x.rot = 7 then { x with rot := x.offState }
  else if x.rot = 1 then (if x.healthy ≤ 128 then { x with rot := x.offState, acqEnd := none } else x)
  else if onlyC && (x.rot = 4 || x.rot = 5) && decide (129 ≤ x.healthy) then x
  else { x with cmp := {} }.rotate

/-- A substitution that falls due at a frame boundary (R59, R81): it takes the group's spare, and the row is marked in
ROW_FAIL, at this boundary. Where the spare is in use or has failed by then, software's request is refused with CFG_REJECT,
and an automatic one raises ROW_NO_SPARE (log 55). -/
def State.substAt (s : State) (t : Nat) (e : Nat × Bool) : State :=
  let x := s.tl t
  let g := e.1 / 32
  let p := 33 * g + e.1 % 32
  if rowCarrier x.roles.rowmap g (e.1 % 32) = 33 * g + 32 then s
  else if x.spareFree g then
    s.setTl t { x with rowFail := if bitOf x.rowFail p then x.rowFail else x.rowFail + 2 ^ p
                       roles := { x.roles with rowmap := setFld x.roles.rowmap (8 * g + 7) (8 * g) (128 + e.1 % 32) } }
  else s.raise (pgTile t) (if e.2 then 10 else 6)

/-- The row substitutions of a boundary. Those that the module makes itself wait for the end of an acquisition pass (R174). -/
def State.substRows (s : State) (t : Nat) : State :=
  let x := s.tl t
  let wait (e : Nat × Bool) : Bool := decide (x.rot = 1) && x.acqEnd.isNone && !e.2
  forL (x.rowDue.filter (fun e => !wait e)) (fun e s => s.substAt t e) (s.setTl t { x with rowDue := x.rowDue.filter wait })

/-- The swap: S takes L, V becomes C, a staged C becomes S (Table 6.5), counted in CNT8. -/
def State.swap (s : State) (t : Nat) : State :=
  let x := s.tl t
  let l := x.roles.lcol
  let v := tget l l x.roles.cmap
  let st := x.roles.standby
  let s := s.promote t
  let x := s.tl t
  let x := { x with roles := { x.roles.point l st with calcol := v }, ptr := v, badS := 0, due := 0 }
  (s.setTl t (x.shadowVictim.beginCal)).count (pgTile t) 8

/-- The exchange after three failures: S becomes C, a staged C becomes S, V stays the victim (R169). -/
def State.exchange (s : State) (t : Nat) : State :=
  let st := (s.tl t).roles.standby
  let s := s.promote t
  let x := s.tl t
  let x := { x with roles := { x.roles with calcol := st }, ptr := st, fails := 0, due := 0, cmp := {} }
  s.setTl t x.beginCal

/-- What an acquisition pass finds on one column, step by step (R158 to R161, R174): its run at the end, or none while the
measurements are not whole. Windows and sweeps that a failed step leaves over are not looked at. -/
def State.measureCol (s : State) (t c : Nat) (m : ColMeas) (wins : List LockWin) (tabs : List Sweep) : Option ColRun :=
  let go (f : ColRun → Option ColRun) (o : Option ColRun) : Option ColRun := o.bind (fun r => if r.bad then some r else f r)
  let r := (ColRun.offset ⟨{ phase := 2 }, (s.tl t).rowFail, false⟩ m.off).gain c m.gain
  let r := go (s.colTrim t c m.trim) (some r)
  let r := forL wins (fun w r => go (fun r => if r.work.phase = 5 then s.colWindow t c w r else some r) r) r
  let r := forL tabs (fun w r => go (fun r => if r.work.phase = 6 then s.colTable t c w r else some r) r) r
  r.bind (fun r => if r.bad || decide (r.work.phase = 7) then some r else none)

/-- The results of an acquisition pass, when it is whole: the runs of columns 0 to 129. -/
def State.passRuns (s : State) (t : Nat) : Nat → List ColMeas → List (List LockWin) → List (List Sweep) → Option (List ColRun)
  | c, [], _, _ => if c = 130 then some [] else none
  | c, m :: ms, ws, ts =>
    (s.measureCol t c m (ws.headD []) (ts.headD [])).bind (fun r => (s.passRuns t (c + 1) ms ws.tail ts.tail).map (r :: ·))

/-- An acquisition pass comes into force (R174): the healthy columns take the roles in ascending order; `cols` failed. ROWMAP
stays: the spec is silent on it over a pass (log 55). -/
def State.acquired (s : State) (t : Nat) (vals : List (Nat × Int)) (cols : List Nat) : State :=
  let good := (List.range 130).filter (fun c => !cols.contains c)
  let s := s.forceVals t vals good.length
  let y := s.tl t
  let cmap := (List.range 128).foldl (fun m l => tset l l (good.getD l 0xFF) m) ([] : Tbl Nat)
  let c := good.getD 129 0xFF
  let y : Tile := { y with
    roles := { cmap := cmap, standby := good.getD 128 0xFF, calcol := c, lcol := 0, rowmap := y.roles.rowmap }
    retired := 0, valid := true, ptr := if c < 130 then c else 129, staged := none, cal := {}, badS := 0, due := 0
    colDue := [], coverAt := none, acqEnd := none }
  let s := forL cols (fun c s => s.retire t c) (s.setTl t y)
  s.setTl t ((s.tl t).shadowVictim.rotate)

/-- Rotation stops at once (R173): the measurement and the comparison are abandoned. -/
def State.rotStop (s : State) (t : Nat) : State :=
  let x := s.tl t
  watchHealth s t (s.setTl t { x with rot := x.offState, cal := {}, staged := none, cmp := {}, due := 0, acqEnd := none })

/-- A zone of the tile enters FAULT: READY is cleared and the values are invalid (R175). -/
def State.tileZoneFault (s : State) (t : Nat) : State :=
  let s := s.rotStop t
  s.setTl t { s.tl t with ready := false, valid := false }

/-- The tile group leaves A0 and A1: READY is cleared (R175). -/
def State.tileLeaves (s : State) (t : Nat) : State :=
  let s := s.rotStop t
  s.setTl t { s.tl t with ready := false }

/-- SAT_WARN for the frame that ends (R116). -/
def State.satWarn (s : State) (t : Nat) : State :=
  let x := s.tl t
  let s := if x.fBad || decide (128 * x.fVec < 4096 * x.fSat) then s.raise (pgTile t) 1 else s
  s.setTl t { x with fVec := 0, fSat := 0, fBad := false, fRun := x.run.isSome }

/-- The conditions under which a tile rotates (Table 6.5). -/
def State.mayRotate (s : State) (t : Nat) : Bool :=
  s.en (pgTile t) && bitOf (s.reg (pgTile t) 0x40) 0 && decide (s.tgDom t = 0) && s.zonesLocked t

/-! ### Layers (R182) -/

/-- A new U layer comes into force: with the tile READY its effective values do not change (R182). -/
def State.newU (s : State) (t : Nat) (u : Tbl Int) : State :=
  let x := s.tl t
  if x.ready then
    let keys := (u.map (·.1) ++ x.calU.map (·.1)).dedup
    let tl := keys.foldl (fun m q => tset 0 q (tget 0 q x.calT - (tget 0 q u - tget 0 q x.calU)) m) x.calT
    s.setTl t { x with calU := u, calT := tl, uDue := none }
  else s.setTl t { x with calU := u, uDue := none }

/-- A U layer brought in: at once where the tile is not READY, else at the next frame boundary (R171, R182). -/
def State.bringU (s : State) (t : Nat) (u : Tbl Int) : State :=
  let x := s.tl t
  if x.ready then s.setTl t { x with uDue := some u } else s.newU t u

/-- The U layer that waits for this boundary (R171, step 1). -/
def State.uBoundary (s : State) (t : Nat) : State :=
  match (s.tl t).uDue with
  | some u => s.newU t u
  | none => s

/-- A commit of tracked values: U := U + T, T := 0. -/
def State.commitT (s : State) (t : Nat) : State :=
  let x := s.tl t
  s.setTl t { x with calU := x.calT.foldl (fun m v => tset 0 v.1 (tget 0 v.1 x.calU + v.2) m) x.calU, calT := [] }

/-! ### The calibration image (R184, R358) -/

/-- Every tier-1 controller keeps images (Table 18.2). -/
def State.tier1Active (s : State) : Bool := (List.range 8).all (fun k => (s.ctl k).st == .active)

/-- The first granule of tile `t`'s record, and its granules: the spec gives the place, not the layout (log 56). -/
def imageAt (t : Nat) : Nat := (0x7FF0000000 + t * 2 ^ 20) / 64
def imageSize : Nat := 64 * (Config.imageGrans % 16384 + 1)

/-- What the record says is good: its granules unpoisoned, and the CRC-32C that ends it right (R358). -/
def State.imageGood (s : State) (t : Nat) : Bool :=
  let bs := s.mem.read (64 * imageAt t) imageSize
  (List.range (imageSize / 64)).all (fun i => !s.mem.mark (imageAt t + i))
    && decide (leNat (bs.drop (imageSize - 4)) = (crc32c (bs.take (imageSize - 4))).toNat)

/-- Tile `t`'s record is written: bytes whose layout the spec does not give, and so free values, ended by their CRC-32C
(R184, R358, log 56). -/
def State.writeImage (s : State) (t : Nat) : State :=
  let body := (List.range (imageSize - 4)).map (fun i => BitVec.ofNat 8 (Config.free (s.freeCtr + i)))
  let s := { s with freeCtr := s.freeCtr + imageSize }
  let s := s.engWrite 0 (64 * imageAt t) (body ++ leBytes 4 (crc32c body).toNat)
  let x := s.tl t
  s.setTl t { x with img := some ⟨x.calT, x.roles, x.retired, x.rowFail, x.ptr⟩, imgDue := false }

/-- An image that is still to be written is written once tier-1 can take it (R387). -/
def State.writeDue (s : State) (t : Nat) : State :=
  if (s.tl t).imgDue && s.tier1Active then s.writeImage t else s

/-- The spares in use under a ROWMAP (SPARE_USED). -/
def spareMask (rowmap : Nat) : Nat := (List.range 4).foldl (fun m g => m + b2n (bitOf rowmap (8 * g + 7)) * 2 ^ g) 0

/-- After a wake, once the zones are locked and tier-1 is back, a good image gives the tile its state and READY, and the
rotation resumes from OFF; without one the tile makes an acquisition pass (R184, R174). -/
def State.tileRestore (s : State) (t : Nat) : State :=
  let x := s.tl t
  if !x.backDue || !s.zonesLocked t || decide (2 ≤ s.tgDom t) then s
  else match x.img with
    | none => s.setTl t { x with backDue := false }
    | some v =>
      if !s.tier1Active then s
      else if s.imageGood t then
        let y : Tile := { x with calT := v.calT, roles := v.roles, used := v.roles, retired := v.retired, rowFail := v.rowFail
                                 ptr := v.ptr, spareUsed := spareMask v.roles.rowmap, valid := true, ready := true
                                 backDue := false, img := none }
        watchHealth s t (s.setTl t { y with rot := y.offState })
      else s.setTl t { x with backDue := false, img := none }

/-! ### A tile's part of a frame boundary -/

/-- What falls due at step 4 of R171: the end of an acquisition pass, a swap, a promotion, an exchange or a new comparison, or
the start of rotation (Table 6.5). -/
def State.rolesBoundary (s : State) (t : Nat) : State :=
  let x := s.tl t
  match x.acqEnd with
  | some (vals, cols) => s.acquired t vals (cols ++ x.colDue.filter (fun c => !cols.contains c))
  | none =>
    if s.tgDom t ≠ 0 then s
    else if x.rot = 5 || (x.rot = 4 && decide (x.due = 3)) then s.swap t
    else if x.rot = 3 then
      let s := s.promote t
      let y := s.tl t
      let y := if y.badS = 0 then y.shadowVictim else { y with cmp := {}, fails := 0 }
      s.setTl t { y with rot := 4 }
    else if x.rot = 4 && decide (x.due = 2) then s.exchange t
    else if x.rot = 4 && decide (x.due = 1) then s.setTl t { x with due := 0, cmp := {} }
    else if (x.rot = 0 || x.rot = 6 || x.rot = 7) && x.valid && s.mayRotate t then s.setTl t x.rotate
    else s

/-- The failovers of a boundary (R170). An exact-class fault of the frame that begins where a failed column carries on. -/
def State.failBoundary (s : State) (t : Nat) : State :=
  let failed := (s.tl t).colDue
  if failed.isEmpty then s
  else
    let onlyC := failed == [(s.tl t).roles.calcol]
    let s := forL failed (fun c s => s.failover t c) s
    let x := s.tl t
    let s := s.setTl t ({ x with colDue := x.colDue.filter x.stillDue }.afterFailover onlyC)
    if x.coverAt.isSome then s.frameFault 8 s.fr.num else s

/-- An enabled tile at the boundary that ends a frame (R171): SAT_WARN, rings, a new U layer, the test-pattern comparison of a
frame without a run (R168; its verdict is free, log 34), failover, row substitution, then a swap, promotion, exchange or
acquisition, and READY (R174, R184). A disabled tile does none of it (R20). -/
def State.tileBoundary (s : State) (t : Nat) : State :=
  let s0 := s
  let s := s.uBoundary t
  if !s.en (pgTile t) then s
  else
    let noRun := !(s.tl t).fRun
    let s := ((s.satWarn t).ringsBoundary t).tileRestore t
    let s := if (s.tl t).rot = 4 && (s.tl t).due = 0 && noRun && s.mayRotate t then
        let r := s.draw
        r.2.verdict t (decide (r.1 % 2 = 0))
      else s
    let failed := !(s.tl t).colDue.isEmpty
    let s := (s.failBoundary t).substRows t
    let s := if failed then s else s.rolesBoundary t
    let x := s.tl t
    let s := if x.valid && !x.ready && decide (x.rot ≠ 1) && s.zonesLocked t && decide (s.tgDom t < 2) then
        s.setTl t { x with ready := true } else s
    let s := if (s.tl t).run.isNone && (s.tl t).used ≠ (s.tl t).roles then s.route1 t else s
    watchHealth s0 t s

/-- ACQUISITION_PASS_START: a tile without valid values, restored or kept, whose zones are locked in A0 starts the pass
(R174, R184, Table 6.5). -/
def opAcquisitionPassStart (t : Fin 256) (s : State) : State :=
  let s := s.tileRestore t.val
  let x := s.tl t.val
  if !x.valid && !x.backDue && (x.rot = 0 || x.rot = 6 || x.rot = 7) && s.mayRotate t.val then
    let s1 := s.setTl t.val { x with rot := 1, cal := {}, staged := none, ranCal := x.run.isSome }
    let on := { s1.lp with stageOff := tdrop (fun k => decide (k / 520 = t.val)) s1.lp.stageOff }
    watchHealth s t.val { s1 with lp := on }
  else s

/-- ACQUISITION_PASS_DONE: all 130 columns have been measured; the results come into force at the next frame boundary, and
spare rows whose rings failed are marked (R174, R177). -/
def opAcquisitionPassDone (t : Fin 256) (cols : List ColMeas) (wins : List (List LockWin)) (tabs : List (List Sweep)) (s : State) : State :=
  let x := s.tl t.val
  if x.rot = 1 && s.mayRotate t.val then
    match s.passRuns t.val 0 cols wins tabs with
    | none => s
    | some rs =>
      let bad := (List.range 130).filter (fun c => match rs[c]? with | some r => r.bad | none => true)
      let vals := (rs.filter (fun r => !r.bad)).flatMap (·.work.val)
      s.setTl t.val { x with acqEnd := some (vals, bad), rowFail := rs.foldl (fun m r => Nat.lor m r.rowFail) x.rowFail }
  else s

/-- The soft reset of a tile (R77, R173). -/
def State.tileSoft (s : State) (t : Nat) : State :=
  let x := s.tl t
  let y : Tile := { x.empty with fault := false, cmp := {}, fVec := 0, fSat := 0, fBad := false, fRun := false }
  s.setTl t (if y.rot = 2 then y.beginCal else y)

def execCalOffsetMeasure (t : Fin 256) (sum : Int) (s : State) : Host.Outcome State Fault Refusal :=
  done s (opCalOffsetMeasure t sum s)
def execCalGainMeasure (t : Fin 256) (sum : Int) (s : State) : Host.Outcome State Fault Refusal :=
  done s (opCalGainMeasure t sum s)
def execCalDelayTrim (t : Fin 256) (resp : List Samples) (s : State) : Host.Outcome State Fault Refusal :=
  done s (opCalDelayTrim t resp s)
def execLockinWindowEnd (t : Fin 256) (raw : List (List (BitVec 10))) (lit : List Nat) (s : State) :
    Host.Outcome State Fault Refusal := done s (opLockinWindowEnd t raw lit s)
def execCalDriveTable (t : Fin 256) (m : TabSweep) (s : State) : Host.Outcome State Fault Refusal :=
  done s (opCalDriveTable t m s)
def execAcquisitionPassStart (t : Fin 256) (s : State) : Host.Outcome State Fault Refusal :=
  done s (opAcquisitionPassStart t s)
def execAcquisitionPassDone (t : Fin 256) (cols : List ColMeas) (wins : List (List LockWin)) (tabs : List (List Sweep)) (s : State) :
    Host.Outcome State Fault Refusal := done s (opAcquisitionPassDone t cols wins tabs s)

end Sys2Proof.Machine
end

