-- ==== Sys2Proof/Machine/Loop.lean ====
section
/-!
DEFINITION. The thermal loop engine (R185 to R213): the inner period, pilot estimates, the zone update, supervision, the
outer step, zone commands, test signals and capture. All numbers are binary32 bit patterns.
-/
namespace Sys2Proof.Machine

/-- Update zone `z`. -/
def State.setZn (s : State) (z : Nat) (x : Zone) : State := { s with lp := { s.lp with zone := tset {} z x s.lp.zone } }

/-- Word `i` of the working coefficients: the field at byte 4i of Table 7.5. -/
def Zone.c (x : Zone) (i : Nat) : Nat := x.work.getD i 0

/-- The fields of Table 7.5 past the matrices. -/
def Zone.nu (x : Zone) : Nat := x.c 44
def Zone.u0 (x : Zone) : Nat := x.c 45
def Zone.kb (x : Zone) : Nat := x.c 46
def Zone.pmax (x : Zone) : Nat := x.c 47
def Zone.yscale (x : Zone) : Nat := x.c 50
def Zone.rthr (x : Zone) : Nat := x.c 51
def Zone.nfault (x : Zone) : Nat := fld (x.c 62) 27 20

/-- A row of products summed from left to right (R185). -/
def row32 : List (Nat × Nat) → Nat
  | [] => 0
  | (a, b) :: t => t.foldl (fun m p => add32 m (mul32 p.1 p.2)) (mul32 a b)

/-- Entries `i` to `i + 3` of the coefficients against the state. -/
def Zone.dot (x : Zone) (i : Nat) : Nat := row32 (((List.range 4).map (fun j => x.c (i + j))).zip x.x)

/-- A quantity is at least another (both finite). -/
def ge32 (a b : Nat) : Bool := lt32 b a || eqF (v32 a) (v32 b)

/-- The power a DAC code delivers (R194). -/
def Zone.power (x : Zone) (code : Nat) : Nat := div32 (mul32 (int32 code) x.pmax) (int32 65535)

/-- The zone runs: WARM or LOCKED. -/
def Zone.runs (x : Zone) : Bool := decide (x.st = .warm) || decide (x.st = .locked)

/-- The tile group of a zone is in A0 or A1. -/
def State.groupOn (s : State) (z : Nat) : Bool := decide (s.tgDom (z / 4) < 2)

/-- The group's lasers are lit and settled: in A0 or A1, or from step 6 of a wake, and not held dark (Table 14.4, R477). -/
def State.groupLit (s : State) (z : Nat) : Bool :=
  (s.groupOn z || (decide (s.tgDom (z / 4) = 4) && tget false (z / 32) s.pw.lit)) && !s.pw.held && !(s.tl (z / 4)).noF

/-- The group has not left A0 and A1 for A2, nor gone dark: a running zone runs on (Tables 7.3, 14.2). -/
def State.groupStays (s : State) (z : Nat) : Bool :=
  decide (s.tgDom (z / 4) ≠ 2) && decide (s.tgDom (z / 4) ≠ 3) && !s.pw.held && !(s.tl (z / 4)).noF

/-- The output of a zone: 0 in OFF, and in FAULT while the group is outside A0 and A1 (Table 7.2). -/
def State.zoneCode (s : State) (z : Nat) : Nat :=
  let x := s.zn z
  if x.st = .off || (x.st = .fault && !s.groupOn z) then 0 else x.code

/-- The model temperature of a zone: the coolant inlet's in OFF (R197). -/
def State.zoneTheta (s : State) (z : Nat) : Nat := if (s.zn z).st = .off then s.mg.inlet else (s.zn z).theta

/-- The model temperature of the module: the largest zone value; an unlisted zone is OFF (R197). -/
def State.modelTemp (s : State) : Nat :=
  s.lp.zone.foldl (fun m e => if lt32 m (s.zoneTheta e.1) then s.zoneTheta e.1 else m)
    (if s.lp.zone.length < 1024 then s.mg.inlet else s.zoneTheta 0)

/-! ### Pilots (R190, R191) -/

/-- The synthesiser phase index at update `u`, less the pilot's lag. -/
def pilotIdx (psi u : Nat) : Nat := (21474836 * u % 2 ^ 32 / 2 ^ 22 + 1024 - psi) % 1024

/-- A term of a lock-in sum: q(u) × S[i] / 32,767, each operation rounded (R185, R190; log 35). -/
def pilotTerm (q : BitVec 12) (i : Nat) : Nat := div32 (mul32 (int32 q.toNat) (int32 (sineTab i))) (int32 32767)

/-- The two lock-in sums of a window's samples, formed from left to right, each sum rounded (R185, R190). -/
def pilotSums (psi : Nat) (qs : List (BitVec 12)) : Nat × Nat :=
  qs.zipIdx.foldl (fun m e =>
    let i := pilotIdx psi e.2
    let j := (2 * i + 256) % 1024
    if e.2 = 0 then (pilotTerm e.1 i, pilotTerm e.1 j)
    else (add32 m.1 (pilotTerm e.1 i), add32 m.2 (pilotTerm e.1 j))) (0, 0)

/-- The estimate of a pilot over a whole window of 200 updates, when it is valid (R190). -/
def dhat (psi h : Nat) (qs : List (BitVec 12)) : Option Nat :=
  let m := pilotSums psi qs
  let k := div32 (int32 2) (int32 200)
  let a1 := mul32 k m.1
  let a2 := mul32 (neg32 k) m.2
  if decide (qs.length = 200) && lt32 0 a2 then
    let d := div32 (mul32 (neg32 h) a1) (mul32 (int32 4) a2)
    if fin32 d && ge32 (int32 20) (abs32 d) then some d else none
  else none

/-- The measurement of a period (R191). -/
def Zone.measure (x : Zone) (q0 q1 : List (BitVec 12)) : Option Nat :=
  match dhat (fld (x.c 62) 9 0) (x.c 60) q0, dhat (fld (x.c 62) 19 10) (x.c 61) q1 with
  | some a, some b => some (div32 (mul32 x.yscale (add32 a b)) (int32 2))
  | some a, none => some (mul32 x.yscale a)
  | none, some b => some (mul32 x.yscale b)
  | none, none => none

/-! ### Test signal (R208) -/

/-- The injected value of this period for zone `z`. -/
def State.injOf (s : State) (z : Nat) : Nat :=
  let cfg := s.reg pgLoop 0x84
  if s.lp.inj && fld cfg 9 0 = z then
    let amp := div32 (int32 (s.reg pgLoop 0x8C)) (int32 4096)
    let wave := if bitOf cfg 29 then (if s.lp.prbs / 2 ^ 14 % 2 = 1 then int32 1 else int32 (-1))
      else div32 (int32 (sineTab (s.lp.phase / 2 ^ 22 % 1024))) (int32 32767)
    let scale := if bitOf cfg 30 then int32 1 else (s.zn z).pmax
    mul32 (mul32 amp wave) scale
  else 0

/-- The PRBS-15 register a bit on (x^15 + x^14 + 1); its bit 14 is the bit given (log 35). -/
def prbsNext (r : Nat) : Nat := 2 * r % 2 ^ 15 + (r / 2 ^ 14 + r / 2 ^ 13) % 2

/-- The generator at the start of a period. -/
def State.testPeriod (s : State) : State :=
  let cfg := s.reg pgLoop 0x84
  let run := (s.zn (fld cfg 9 0)).runs
  if s.lp.injDue && run then
    { s with lp := { s.lp with inj := true, injDue := false, phase := 0, prbs := 0x7FFF, bit := fld cfg 23 16 } }
  else if s.lp.inj then
    if run then
      let ph := (s.lp.phase + min (s.reg pgLoop 0x88) (2 ^ 30)) % 2 ^ 32
      if s.lp.bit = 0 then
        { s with lp := { s.lp with phase := ph, prbs := prbsNext s.lp.prbs, bit := fld cfg 23 16 } }
      else { s with lp := { s.lp with phase := ph, bit := s.lp.bit - 1 } }
    else { s with lp := { s.lp with inj := false } }
  else s

/-! ### Capture (R210) -/

/-- CAP_ADDR. -/
def State.capAddr (s : State) : Nat := s.reg64 pgLoop 0xA0 % 2 ^ 48

/-- CAP_STAT with a flag or its count set. -/
def State.capStat (s : State) (active done refused : Bool) (n : Nat) : State :=
  s.setReg pgLoop 0x98 (n + 2 ^ 16 * b2n active + 2 ^ 17 * b2n done + 2 ^ 18 * b2n refused)

/-- The capture ends: DONE, CAPTURE_DONE. -/
def State.capEnd (s : State) : State :=
  if s.lp.capOn || s.lp.capArmed then
    let s := { s with lp := { s.lp with capOn := false, capArmed := false } }
    (s.capStat false true (bitOf (s.reg pgLoop 0x98) 18) (fld (s.reg pgLoop 0x98) 12 0)).raise pgLoop 5
  else s

/-- One period of a capture of zone `z` (Table 7.6): a sample every DEC + 1 periods. -/
def State.capSample (s : State) (z u : Nat) (y : Option Nat) (x : List Nat) (inj : Nat) (clamp : Bool) : State :=
  let cfg := s.reg pgLoop 0x90
  if s.lp.capOn && fld cfg 9 0 = z then
    if 0 < s.lp.capWait then { s with lp := { s.lp with capWait := s.lp.capWait - 1 } }
    else
      let n := fld (s.reg pgLoop 0x98) 12 0
      let st := match (s.zn z).st with | .off => 0 | .warm => 1 | .locked => 2 | .fault => 3
      let last := s.lp.period % 2 ^ 16 + 2 ^ 16 * b2n y.isSome + 2 ^ 17 * b2n clamp
        + 2 ^ 18 * b2n (s.lp.inj && fld (s.reg pgLoop 0x84) 9 0 = z) + 2 ^ 19 * st
      let bytes := leBytes 4 u ++ leBytes 4 (y.getD 0x7FC00000) ++ (x.flatMap (leBytes 4)) ++ leBytes 4 inj ++ leBytes 4 last
      let s := s.engWrite 7 (s.capAddr + 32 * n) bytes
      let s := { s with lp := { s.lp with capWait := fld cfg 23 16 } }
      let s := s.capStat true false (bitOf (s.reg pgLoop 0x98) 18) (n + 1)
      if 4096 ≤ n + 1 then s.capEnd else s
  else s

/-! ### The zone update (R194 to R201) -/

/-- The known inputs of a zone (R192): tile power and coolant inlet as the slow rounds gave them before tick 12,800 of the
period, and whether one is older than eight rounds. -/
def State.loopInputs (s : State) (t : Nat) : Nat × Nat × Bool :=
  let lim := s.tb.tick / 16000 * 16000 + 12800
  let late (a : Nat) : Bool := decide (lim ≤ a) && decide (lim ≤ s.tb.tick)
  let p := if late (tget 0 t s.mg.powerAt) then (tget 0 t s.mg.powerWas, tget 0 t s.mg.powerWasAt)
    else (tget 0 t s.mg.power, tget 0 t s.mg.powerAt)
  let i := if late s.mg.inletAt then (s.mg.inletWas, s.mg.inletWasAt) else (s.mg.inlet, s.mg.inletAt)
  let cfg := s.mg.roundCfg
  let round := 8 * (4800 + 125 * fld cfg 27 24 * fld cfg 20 0)
  (p.1, i.1, decide (p.2 + 8 * round < s.tb.tick) || decide (i.2 + 8 * round < s.tb.tick))

/-- The control law and observer of one period (R194): the zone after it, and whether the clamp acted. -/
def Zone.update (x : Zone) (y : Option Nat) (p t inj : Nat) (setPt : Bool) : Zone × Bool :=
  let du := sub32 (x.power x.code) x.u0
  let w1 := sub32 p (x.c 48)
  let w2 := sub32 t (x.c 49)
  let r := match y with | some v => sub32 v (x.dot 28) | none => 0
  let xn := (List.range 4).map (fun i =>
    row32 ((((List.range 4).map (fun j => x.c (4 * i + j))).zip x.x) ++
      [(x.c (16 + i), du), (x.c (20 + i), w1), (x.c (24 + i), w2), (x.c (32 + i), r)]))
  let sp := if setPt then add32 x.s inj else x.s
  let fb := row32 ((List.range 4).map (fun i => (x.c (36 + i), sub32 (xn.getD i 0) (mul32 (x.c (40 + i)) sp))))
  let v := sub32 (add32 x.u0 (mul32 x.nu sp)) fb
  let vi := if setPt then v else add32 v inj
  let uc := clamp32 0 x.pmax vi
  let acted := lt32 vi 0 || lt32 x.pmax vi
  let xn := if acted then xn.set 3 (sub32 (xn.getD 3 0) (mul32 x.kb (sub32 uc vi))) else xn
  let code := ((toIntF (v32 (div32 (mul32 uc (int32 65535)) x.pmax))).getD 0).toNat
  ({ x with x := xn, next := some (min code 65535), y := y.getD x.y, r := r, yValid := y.isSome, sat := acted }, acted)

/-- A transition falls due at the next period; a fault already found, or the way to OFF, stands (R198, R200). -/
def Zone.want (x : Zone) (d : Nat) : Zone := if 4 ≤ x.due || x.due = 1 then x else { x with due := d }

/-- The zone's model temperature from its prediction (R197). -/
def Zone.predict (x : Zone) : Zone := { x with theta := add32 (x.c 55) (x.dot 28) }

/-- The supervision of a zone after its update (R200, Table 7.3): what falls due at the next period. A zone fault holds the
output (R201). The warm-up limit is a time, judged at the period start. -/
def Zone.supervise (x : Zone) (tol : Nat) : Zone :=
  let hi := x.yValid && lt32 x.rthr (abs32 x.r)
  let high := if !x.yValid then x.highRun else if hi then x.highRun + 1 else 0
  let hcode := if hi && x.highRun = 0 then x.code else x.highCode
  let lost := if x.st = .locked && !x.yValid then x.lostRun + 1 else 0
  let near := x.yValid && ge32 (div32 (int32 tol) (int32 256)) (abs32 (sub32 x.y x.s))
    && ge32 (div32 x.rthr (int32 2)) (abs32 x.r)
  let lock := if x.st = .warm && near then x.lockRun + 1 else 0
  let x := { x with highRun := high, highCode := hcode, lostRun := lost, lockRun := lock }
  if x.pilotShort then { x with due := 8, next := some x.code }
  else if x.nfault ≤ high then { x with due := 5, next := some hcode }
  else if x.st = .locked && 64 ≤ lost then { x with due := 6, next := some x.code }
  else if x.st = .warm && 64 ≤ lock then x.want 3
  else x

/-! ### Commands of ZONE_CMD (R207, R213) -/

/-- A field of a coefficient copy is inside its range (Table 7.5, R196, R207). -/
def coefRange (w : List Nat) : Bool :=
  let c (i : Nat) : Nat := w.getD i 0
  let pos (i : Nat) : Bool := lt32 0 (c i)
  ((List.range 62).all (fun i => fin32 (c i)))
    && pos 47 && ge32 (rat32 false 320 1000) (c 47) && ge32 (c 45) 0 && ge32 (c 47) (c 45)
    && ge32 (c 46) 0 && !ltF (.fin false 1 0) (mulF (v32 (c 39)) (v32 (c 46)))
    && pos 50 && pos 51 && pos 52 && pos 53 && pos 54
    && ge32 (c 56) 0 && ge32 (int32 1) (c 56) && ge32 (c 57) 0 && ge32 (c 59) (c 58)
    && pos 60 && pos 61 && decide (0 < fld (c 62) 27 20)

/-- Words of the coefficient memory of a zone. -/
def State.coefWords (s : State) (z n : Nat) : List Nat := (List.range n).map (fun i => tget 0 (64 * z + i) s.lp.mem)

/-- Why a LOAD of zone `z` is rejected: 0 not, 1 CRC, 2 range (R207). -/
def State.loadReason (s : State) (z : Nat) : Nat :=
  let w := s.coefWords z 63
  if (crc32c (w.flatMap (leBytes 4))).toNat ≠ tget 0 (64 * z + 63) s.lp.mem then 1
  else if coefRange w then 0 else 2

/-- One zone's part of a command: its reason when rejected, and the state after it. -/
def State.zoneCmd (s : State) (cmd z : Nat) : Nat × State :=
  let x := s.zn z
  match cmd with
  | 1 =>
    let r := s.loadReason z
    if r = 0 then (0, watchHealth s (z / 4) (s.setZn z { x with load := some (s.coefWords z 63) }))
    else (r, s.raise pgLoop 4)
  | 2 => (0, watchHealth s (z / 4) (s.setZn z { x with en := true }))
  | 3 => (0, watchHealth s (z / 4) (s.setZn z (if x.runs then { x.want 1 with en := false } else { x with en := false })))
  | 4 => if x.st = .fault then (0, s.setZn z { x with due := 1 }) else (3, s)
  | 5 => if x.st = .locked then (0, s.setZn z (x.want 2)) else (3, s)
  | _ => (3, s)

/-- A command over zones in ascending order; the first rejection is kept. -/
def State.zoneCmds (cmd : Nat) : List Nat → State → Option (Nat × Nat) × State
  | [], s => (none, s)
  | z :: zs, s =>
    let r := s.zoneCmd cmd z
    let q := State.zoneCmds cmd zs r.2
    (if r.1 = 0 then q.1 else some (z, r.1), q.2)

/-- The waiting ZONE_CMD completes, with its result (R213). -/
def State.runZoneCmd (s : State) : State :=
  match s.lp.cmd with
  | none => s
  | some (cmd, z, all) =>
    let r := State.zoneCmds cmd (if all then List.range 1024 else [z]) { s with lp := { s.lp with cmd := none } }
    match r.1 with
    | none => r.2.setReg pgLoop 0x4C (z * 2 ^ 16)
    | some (zr, why) => r.2.setReg pgLoop 0x4C (zr * 2 ^ 16 + why * 2 ^ 4 + 2)

/-- A ZONE_CMD write: pending until the next zone update; discarded while one is pending (R213). -/
def State.zoneCmdWrite (s : State) (p : Path) (cmd z : Nat) (all : Bool) : State :=
  if s.mayPath p pgLoop then
    if s.lp.cmd.isSome then s
    else { s.setReg pgLoop 0x4C (z * 2 ^ 16 + 1) with lp := { s.lp with cmd := some (cmd, z, all) } }
  else s.deny p pgLoop

/-- ZONE_LOAD, ENABLE, DISABLE, CLEAR, REINIT (R213). -/
def opZoneLoad (p : Path) (z : Fin 1024) (all : Bool) (s : State) : State := s.zoneCmdWrite p 1 z.val all
def opZoneEnable (p : Path) (z : Fin 1024) (all : Bool) (s : State) : State := s.zoneCmdWrite p 2 z.val all
def opZoneDisable (p : Path) (z : Fin 1024) (all : Bool) (s : State) : State := s.zoneCmdWrite p 3 z.val all
def opZoneClear (p : Path) (z : Fin 1024) (all : Bool) (s : State) : State := s.zoneCmdWrite p 4 z.val all
def opZoneReinit (p : Path) (z : Fin 1024) (all : Bool) (s : State) : State := s.zoneCmdWrite p 5 z.val all

/-- An accepted copy becomes the working set. -/
def Zone.takeLoad (x : Zone) : Zone :=
  match x.load with
  | some w => { x with work := w, load := none }
  | none => x

/-- ZONE_UPDATE: a waiting command completes; then the zone's measurement, update, clamp and supervision of this period, once,
in WARM and LOCKED (R194, R200). -/
def opZoneUpdate (z : Fin 1024) (q0 q1 : List (BitVec 12)) (s : State) : State :=
  let s := s.runZoneCmd
  let x := (s.zn z.val).takeLoad
  if x.runs && !x.fresh && s.en pgLoop then
    let x := if x.st = .warm then { x with s := x.target } else x
    let y := x.measure q0 q1
    let s := if y.isNone then s.count pgLoop 3 else s
    let w := s.loopInputs (z.val / 4)
    let s := if w.2.2 && !s.lp.stale then { (s.countRaise pgLoop 4 3) with lp := { s.lp with stale := true } } else s
    let inj := s.injOf z.val
    let r := x.update y w.1 w.2.1 inj (bitOf (s.reg pgLoop 0x84) 30)
    let s := if r.2 then s.count pgLoop 5 else s
    let s := s.capSample z.val (x.power x.code) y x.x inj r.2
    let cfg := s.reg pgLoop 0x40
    s.setZn z.val (Zone.supervise { r.1.predict with fresh := true } (fld cfg 23 16))
  else s.setZn z.val x

/-! ### Period starts (R186 to R188, R198, R202, R203, R205) -/

/-- A zone fault is declared (R201): recorded, counted, raised; the tile leaves rotation and READY, and a tile run of the
current frame makes it a frame fault. -/
def State.zoneFaults (s : State) (z cause : Nat) : State :=
  let t := z / 4
  let was := s.lp.zone.any (fun e => e.2.st == .fault)
  let run := s.fr.acts.any (fun a => a.ty == 1 && a.frame == s.fr.num && a.parts.contains t) || (s.tl t).run.isSome
    || (s.tl t).fRun
  let s0 := s
  let s := s.setZn z { s.zn z with st := .fault, cause := cause, due := 0, next := none }
  let s := (s.countRaise pgLoop 6 0).faultLog was pgLoop 0
  let s := watchHealth s0 t (s.tileZoneFault t)
  if run then s.frameFault 8 s.fr.num else s

/-- A zone enters WARM from OFF: trims, state, set-point and profile (Table 7.3). -/
def State.zoneWarm (s : State) (z : Nat) : State :=
  let x := s.zn z
  let pilot (j : Nat) : Nat :=
    (clampI 0 1023 (fVal (z / 4) (qPilot (z % 4) j) + tget 0 (qPilot (z % 4) j) (s.tl (z / 4)).calU)).toNat
  s.setZn z (Zone.predict { x with
    st := .warm, x := [0, 0, 0, 0], s := x.target, vel := 0, acc := 0, warmAt := s.tb.tick, lockRun := 0, lostRun := 0
    highRun := 0, due := 0, cause := 0, trim0 := pilot 0, trim1 := pilot 1 })

/-- The mean of the effective trims of a row group's compute rings over healthy columns and rows not failed (R202). -/
def State.meanTrim (s : State) (t g : Nat) : Option Nat :=
  let x := s.tl t
  let rows := ((List.range 33).map (fun i => 33 * g + i)).filter (fun r => !bitOf x.rowFail r)
  let cols := (List.range 130).filter (fun c => !bitOf x.retired c)
  let vals := cols.flatMap (fun c => rows.flatMap (fun r => [s.eff t (qRing r c false 0), s.eff t (qRing r c true 0)]))
  if vals.isEmpty then none else some (div32 (int32 vals.sum) (int32 vals.length))

/-- The outer step of a zone's target (R202). -/
def Zone.outer (x : Zone) (tau ctr band : Nat) : Zone :=
  let e := sub32 tau (int32 ctr)
  let b := int32 band
  let k := mul32 (x.c 56) x.yscale
  let t := if lt32 b e then add32 x.target (mul32 k (sub32 e b))
    else if lt32 e (neg32 b) then add32 x.target (mul32 k (add32 e b))
    else sub32 x.target (x.c 57)
  { x with target := clamp32 (x.c 58) (x.c 59) t }

/-- 160 microseconds. -/
def dt160 : Nat := rat32 false 16 100000

/-- The set-point profile generator (R203, R204). -/
def Zone.profile (x : Zone) : Zone :=
  let vmax := if lt32 (rat32 false 2 100) (x.c 52) then rat32 false 2 100 else x.c 52
  let amax := x.c 53
  let d := sub32 x.target x.s
  if ge32 (mul32 vmax dt160) (abs32 d) && ge32 (mul32 amax dt160) (abs32 x.vel) then { x with s := x.target, vel := 0, acc := 0 }
  else
    let root := r32 (sqrtF (v32 (mul32 (mul32 (int32 2) amax) (abs32 d))))
    let m := if lt32 root vmax then root else vmax
    let vd := if lt32 d 0 then neg32 m else if lt32 0 d then m else 0
    let ad := clamp32 (neg32 amax) amax (div32 (sub32 vd x.vel) dt160)
    let j := mul32 (x.c 54) dt160
    let acc := add32 x.acc (clamp32 (neg32 j) j (sub32 ad x.acc))
    let vel := clamp32 (neg32 vmax) vmax (add32 x.vel (mul32 acc dt160))
    { x with acc := acc, vel := vel, s := add32 x.s (mul32 vel dt160) }

/-- The outer step of tile `t` (R202), with the profile generator of its LOCKED zones (R203). -/
def State.outerStep (s : State) (t : Nat) : State :=
  let cfg := s.reg pgLoop 0x44
  let on := bitOf (s.reg pgLoop 0x40) 24 && s.zonesLocked t && (s.tl t).ready
  let s := if on then s.count pgLoop 1 else s
  forN 4 (fun g s =>
    let x := s.zn (4 * t + g)
    let x := if on then
        match s.meanTrim t g with
        | some tau => x.outer tau (fld cfg 9 0) (fld cfg 23 16)
        | none => x
      else x
    let x := if x.st = .locked then x.profile else x
    s.setZn (4 * t + g) x) s

/-- A zone goes to OFF (Table 7.3, R211). -/
def State.zoneOff (s : State) (z : Nat) : State :=
  watchHealth s (z / 4) (s.setZn z { s.zn z with
    st := .off, code := 0, next := none, due := 0, cause := 0, lockRun := 0, yValid := false, sat := false })

/-- A zone at the start of a period: its waiting transition, its output and its conditions (Table 7.3, R188). The warm-up
limit counts the time since WARM was entered, in units of 256,000 ticks; its fault holds the code of the period that ends. -/
def State.zonePeriod (s : State) (z : Nat) : State :=
  let x := s.zn z
  let slow := decide (x.st = .warm) && decide (x.due ≠ 3)
    && decide (x.warmAt + 256000 * fld (s.reg pgLoop 0x40) 15 0 ≤ s.tb.tick)
  let x := if slow then { x.want 7 with next := if x.due < 4 && x.due ≠ 1 then some x.code else x.next } else x
  let late := x.runs && x.next.isNone && s.en pgLoop
  let s := if late then s.countRaise pgLoop 2 2 else s
  let x := { x with code := if x.runs then x.next.getD x.code else x.code, next := none, fresh := false }
  let x := if x.runs then x else x.takeLoad
  let s := s.setZn z x
  if 4 ≤ x.due && x.runs then s.zoneFaults z (x.due - 4)
  else if x.runs && (!x.en || !s.en pgLoop || !s.groupStays z || x.due = 1) then s.zoneOff z
  else if x.st = .fault && (x.due = 1 || !s.en pgLoop) then s.zoneOff z
  else if x.due = 2 && decide (x.st = .locked) then
    s.setZn z (Zone.predict { x with
      st := .warm, x := [0, 0, 0, 0], vel := 0, acc := 0, warmAt := s.tb.tick, lockRun := 0, highRun := 0, due := 0 })
  else if x.due = 3 && decide (x.st = .warm) then
    (s.setZn z { x with st := .locked, due := 0, lostRun := 0 }).raise pgLoop 1
  else if x.st = .off && x.en && s.en pgLoop && !x.work.isEmpty && s.groupLit z then s.zoneWarm z
  else s.setZn z { x with due := 0 }

/-- The lasers of a group in a wake are relit and settled at a moment the module alone knows (Table 14.4, step 6; log 62). -/
def State.relight (s : State) : State :=
  forN 32 (fun g s =>
    if tget 0 g s.pw.dom = 4 && !tget false g s.pw.lit then
      let r := s.draw
      if r.1 % 2 = 0 then { r.2 with pw := { r.2.pw with lit := tset false g true r.2.pw.lit } } else r.2
    else s) s

/-- The zones that have left their reset state. -/
def State.zones (s : State) : List Nat := s.lp.zone.map (·.1)

/-- LOOP_PERIOD_START: at a tick that is a multiple of 16,000 a new inner period starts (R186): the outer step of the period
before when it was due, the waiting command when no zone update took it, the zones' outputs and transitions, flagged stages
switched off, and the test signal and capture of the period. One boundary starts one period. -/
def opLoopPeriodStart (s : State) : State :=
  if s.tb.tick % 16000 ≠ 0 || decide (s.lp.began = s.tb.tick / 16000 + 1) then s
  else
    let old := s.zones
    let s0 := s
    let z := fld (s.reg pgLoop 0x90) 9 0
    let s := if (s.zn z).runs && (s.zn z).fresh then s
      else s.capSample z ((s.zn z).power (s.zoneCode z)) none (s.zn z).x (s.injOf z) false
    let s := s.relight
    let s := if s.lp.period % 16 = 15 && s.en pgLoop then forL ((old.map (· / 4)).dedup) (fun t s => s.outerStep t) s else s
    let s := s.runZoneCmd
    let s := forL s.zones (fun z s => s.zonePeriod z) s
    let s := { s with lp := { s.lp with stageOff := forL s.lp.stageDue (fun e m => tset false e.1 true m) s.lp.stageOff,
                                        stageDue := [], stale := false, period := s.tb.tick / 16000
                                        began := s.tb.tick / 16000 + 1 } }
    let s := forL (s.zones.filter (fun z => (s.zn z).pilotShort)) (fun z s => s.setZn z { s.zn z with pilotOff := true }) s
    let was := s.lp.inj
    let s := s.testPeriod
    let cfg := s.reg pgLoop 0x90
    let s := if s.lp.capArmed && (!bitOf cfg 24 || (s.lp.inj && !was)) then
        { s.capStat true false false 0 with lp := { s.lp with capArmed := false, capOn := true, capWait := 0 } }
      else s
    let s : State := if s.lp.capOn && (s0.zn z).st != ZoneSt.off && (s.zn z).st == ZoneSt.off then s.capEnd else s
    if s.en pgLoop then s.count pgLoop 0 else s

/-- STAGE_SHORT: a heater bias stage flags a short: latched, counted and raised; it is switched off at the next period, and
the column fails or the zone's pilot stage faults it (R205). -/
def opStageShort (z : Fin 1024) (col : Option (Fin 130)) (s : State) : State :=
  match col with
  | some c =>
    let k := 130 * z.val + c.val
    if tget false k s.lp.stageOff || tget false k s.lp.stageDue then s
    else
      let s := { s with lp := { s.lp with stageDue := tset false k true s.lp.stageDue } }
      (s.countRaise pgLoop 7 6).colFails (z.val / 4) c.val
  | none =>
    let x := s.zn z.val
    if x.pilotShort then s
    else (s.countRaise pgLoop 7 6).setZn z.val { x with pilotShort := true }

/-- TEST_CFG_WRITE: injection starts, changes or stops from the next period; a change of zone, point or source stops it
first (R208). -/
def opTestCfgWrite (p : Path) (val : BitVec 32) (s : State) : State :=
  if s.mayPath p pgLoop then
    let old := s.reg pgLoop 0x84
    let v := Nat.land val.toNat 0xE0FF03FF
    let moved := bitOf old 31 && (fld old 9 0 ≠ fld v 9 0 || fld old 30 29 ≠ fld v 30 29)
    let s := s.setReg pgLoop 0x84 v
    let inj := s.lp.inj && bitOf v 31 && !moved
    let again := bitOf v 31 && (!bitOf old 31 || moved || s.lp.injDue)
    { s with lp := { s.lp with inj := inj, injDue := again } }
  else s.deny p pgLoop

/-- CAP_ARM: a capture starts at the next period, or is refused when its buffer is misplaced (R210). -/
def opCapArm (p : Path) (s : State) : State :=
  if s.mayPath p pgLoop then
    if rangeInHub s.capAddr 131072 && s.capAddr % 4096 = 0 then
      { s.capStat false false false 0 with lp := { s.lp with capArmed := true, capOn := false } }
    else
      let c := s.reg pgLoop 0x98
      s.capStat (bitOf c 16) (bitOf c 17) true (fld c 12 0)
  else s.deny p pgLoop

/-- CAP_STOP: ends the capture (R210). -/
def opCapStop (p : Path) (s : State) : State :=
  if s.mayPath p pgLoop then s.capEnd else s.deny p pgLoop

/-- The soft reset of the LOOP page (R211). -/
def State.loopSoft (s : State) : State :=
  let s := forL s.zones (fun z s => (s.setZn z { s.zn z with en := false }).zoneOff z) s
  let s := if s.lp.cmd.isSome then s.setReg pgLoop 0x4C 0 else s
  let s := { s with lp := { s.lp with inj := false, injDue := false, cmd := none } }
  s.capEnd

def execLoopPeriodStart (s : State) : Host.Outcome State Fault Refusal := done s (opLoopPeriodStart s)
def execZoneUpdate (z : Fin 1024) (q0 q1 : List (BitVec 12)) (s : State) : Host.Outcome State Fault Refusal :=
  done s (opZoneUpdate z q0 q1 s)
def execZoneLoad (p : Path) (z : Fin 1024) (all : Bool) (s : State) : Host.Outcome State Fault Refusal :=
  done s (opZoneLoad p z all s)
def execZoneEnable (p : Path) (z : Fin 1024) (all : Bool) (s : State) : Host.Outcome State Fault Refusal :=
  done s (opZoneEnable p z all s)
def execZoneDisable (p : Path) (z : Fin 1024) (all : Bool) (s : State) : Host.Outcome State Fault Refusal :=
  done s (opZoneDisable p z all s)
def execZoneClear (p : Path) (z : Fin 1024) (all : Bool) (s : State) : Host.Outcome State Fault Refusal :=
  done s (opZoneClear p z all s)
def execZoneReinit (p : Path) (z : Fin 1024) (all : Bool) (s : State) : Host.Outcome State Fault Refusal :=
  done s (opZoneReinit p z all s)
def execStageShort (z : Fin 1024) (col : Option (Fin 130)) (s : State) : Host.Outcome State Fault Refusal :=
  done s (opStageShort z col s)
def execTestCfgWrite (p : Path) (val : BitVec 32) (s : State) : Host.Outcome State Fault Refusal :=
  done s (opTestCfgWrite p val s)
def execCapArm (p : Path) (s : State) : Host.Outcome State Fault Refusal := done s (opCapArm p s)
def execCapStop (p : Path) (s : State) : Host.Outcome State Fault Refusal := done s (opCapStop p s)

end Sys2Proof.Machine
end

