-- ==== Sys2Proof/Machine/Power.lean ====
section
/-!
DEFINITION. Power domains and votes, entry to A2 and wakes, A3 and the resets of everything outside the always-on domain,
the slack governor and the thermal limits (R301 to R303, R380, R382 to R400, R475 to R477, R509).
-/
namespace Sys2Proof.Machine

/-! ### Domains and votes (R382 to R387) -/

/-- The index of a domain: TG 0 to 31, LG 32 to 37, T1 38, T2 39, HUB 40. -/
def domIx : Dom → Nat
  | .tg g => g.val
  | .lg k => 32 + k.val
  | .t1 => 38
  | .t2 => 39
  | .hub => 40

/-- The state of a domain: 0 A0, 1 A1, 2 A2, 3 entering A2, 4 waking. -/
def State.dom (s : State) (d : Nat) : Nat := tget 0 d s.pw.dom

/-- Set a domain's state. A tile group's lasers are relit anew in each wake. -/
def State.setDom (s : State) (d v : Nat) : State :=
  { s with pw := { s.pw with dom := tset 0 d v s.pw.dom, lit := tset false d false s.pw.lit } }

/-- The register offset and bit of domain `d`'s vote in client `c`'s words (R400). -/
def votePlace (c d : Nat) : Nat × Nat :=
  if d < 16 then (0x40 + 16 * c, 2 * d) else if d < 32 then (0x44 + 16 * c, 2 * (d - 16)) else (0x48 + 16 * c, 2 * (d - 32))

/-- The CAL vote of a domain, which the module sets itself (R387). -/
def State.calVote (s : State) (d : Nat) : Nat :=
  if d = 40 then (if (List.range 40).any (fun e => s.dom e != 2) then 2 else 0)
  else if d = 38 then
    (if (List.range 256).any (fun t => (s.tl t).imgDue || ((s.tl t).backDue && s.zonesLocked t)) then 2 else 0)
  else if d < 32 then (if (List.range 8).any (fun i => (s.tl (8 * d + i)).rot == 1) then 2 else 0)
  else 0

/-- The vote of client `c` for domain `d`. -/
def State.vote (s : State) (c d : Nat) : Nat :=
  if c = 3 then s.calVote d
  else
    let p := votePlace c d
    fld (s.reg pgPower p.1) (p.2 + 1) p.2

/-- The target state of a domain (R386): 0 A0, 1 A1, 2 A2. -/
def State.target (s : State) (d : Nat) : Nat :=
  let v := max (max (s.vote 0 d) (s.vote 1 d)) (max (s.vote 2 d) (s.vote 3 d))
  if v = 0 then 2 else if v = 1 && d < 32 then 1 else 0

/-- Tile groups whose target is A1 go from A0 to A1 at once (R383, R386): when a vote changes, and when the CAL vote of an
acquisition pass has ended. -/
def State.a1Follow (s : State) : State := forN 32 (fun d s => if s.dom d = 0 && s.target d = 1 then s.setDom d 1 else s) s

/-- What changed votes do at once: a tile group voted from A0 to A1 dims its lasers; a domain in entry whose target has
risen turns back when the vote came before step 5, which the module alone knows (R389, log 2). -/
def State.votesChanged (s0 s : State) : State :=
  forN 41 (fun d s =>
    if s.dom d = 3 && s0.target d = 2 && s.target d < 2 then
      let r := s.draw
      if r.1 % 2 = 0 then ((r.2.setDom d 4).countRaise pgPower 3 1) else r.2
    else s) s.a1Follow

/-- VOTE_WRITE: HOST from the PF, SCHED from the PF or the management side, MGMT from the management side; any other path,
the CAL words and a field of 3 are discarded with CFG_REJECT (R386). The firmware sets SCHED votes too (R387). -/
def opVoteWrite (p : Path) (client : Fin 4) (word : Fin 3) (val : BitVec 32) (s : State) : State :=
  let mine := match client.val with
    | 0 => decide (p = .pf)
    | 1 => decide (p = .pf) || decide (p = .mgmt) || decide (p = .debug) || decide (p = .core)
    | 2 => decide (p = .mgmt) || decide (p = .debug)
    | _ => false
  let v := if word.val = 2 then val.toNat % 2 ^ 18 else val.toNat
  if !s.mayPath p pgPower then s.deny p pgPower
  else if !mine || (List.range 16).any (fun i => fld v (2 * i + 1) (2 * i) == 3) then s.reject pgPower 8
  else State.votesChanged s (s.setReg pgPower (0x40 + 16 * client.val + 4 * word.val) v)

/-- MGMT votes of 2 for some domains, as a wake event sets them (R390). -/
def State.mgmtVotes (s : State) (ds : List Nat) : State :=
  State.votesChanged s (forL ds (fun d s =>
    let p := votePlace 2 d
    s.setReg pgPower p.1 (setFld (s.reg pgPower p.1) (p.2 + 1) p.2 2)) s)

/-! ### Resets of everything outside the always-on domain (R380, R385, R393, R398) -/

/-- The pages of the always-on domain: POWER, CALENDAR, COURIER, SMBUS (R382). -/
def aonPage (p : Nat) : Bool := p == pgPower || p == pgClock || p == pgCour || p == pgSmb

/-- The state with every block outside the always-on domain as after power-on. Fuses and flash keep their content, PERST# its level;
DEVICE's count of warm resets is kept (R379). -/
def State.aonOnly (s : State) : State :=
  let r := State.reset
  { r with
    pending := s.pending, freeCtr := s.freeCtr, resp := s.resp
    regs := s.regs.filter (fun e => aonPage (e.1 / 4096))
    evRaw := s.evRaw.filter (fun e => aonPage e.1), evEn := s.evEn.filter (fun e => aonPage e.1)
    cnt := s.cnt.filter (fun e => aonPage (e.1 / 32) || e.1 == 32 * pgDev)
    snap := s.snap.filter (fun e => aonPage (e.1 / 32) || e.1 == 32 * pgDev)
    soft := s.soft.filter (fun e => aonPage e.1)
    irq := { r.irq with msix := s.irq.msix, cour := s.irq.cour, smbAlert := s.irq.smbAlert, cpl := s.irq.cpl }
    hif := { r.hif with perstHigh := s.hif.perstHigh }
    sec := { r.sec with svnFuse := s.sec.svnFuse }
    mg := { r.mg with time := s.mg.time, timeNew := s.mg.timeNew, timeValid := s.mg.timeValid, vbatLow := s.mg.vbatLow,
                      onVbat := s.mg.onVbat, alarmDone := s.mg.alarmDone,
                      mctpOut := s.mg.mctpOut, mctpIn := s.mg.mctpIn, flash := s.mg.flash }
    pw := { s.pw with held := true, vmax := 50, throttling := false, alarm := false, level := 0, watts := [] } }

/-- Every domain at one state. -/
def State.allDoms (s : State) (v : Nat) : State := { s with pw := { s.pw with dom := forN 41 (fun d m => tset 0 d v m) [], lit := [] } }

/-- A warm reset (R380): start-up restarts from its step 2; each domain wakes as its votes ask (R484). -/
def State.warmReset (s : State) : State :=
  let s := { (s.count pgDev 0).aonOnly with lp := {} }
  let s := { s with pw := { s.pw with a3 := false } }
  let up := (List.range 40).any (fun d => s.target d < 2)
  forN 41 (fun d s => s.setDom d (if s.target d < 2 || (d = 40 && up) then 4 else 2)) (s.allDoms 2)

/-- Every domain but AON loses its rail without the entry steps: the module is in A3, the memory's content is lost
(R393, R398, R509). -/
def State.railsOff (s : State) : State :=
  let s := s.aonOnly.allDoms 2
  { s with pw := { s.pw with a3 := true } }

/-- WARM_RESET: RESET_CMD with the key and CMD = 1; any other write is refused (R380). -/
def opWarmReset (p : Path) (val : BitVec 32) (s : State) : State :=
  if !s.mayPath p pgDev then s.deny p pgDev
  else if fld val.toNat 31 16 = 0x5AA5 && fld val.toNat 3 0 = 1 then s.warmReset
  else s.countRaise pgDev 1 1

/-- POWER_ON: both supplies are up: every vote at its reset value, every domain wakes, start-up begins (R475, R476). -/
def opPowerOn (s : State) : State :=
  if s.pw.powered then s
  else
    let s := forN 3 (fun c s => forN 3 (fun w s =>
      s.setReg pgPower (0x40 + 16 * c + 4 * w) (regReset pgPower (0x40 + 16 * c + 4 * w)).toNat) s) s
    let s := { s with pw := { s.pw with powered := true, a3 := false, held := true }, mg := { s.mg with onVbat := false } }
    s.allDoms 4

/-! ### Wake sources (R389, R390) -/

/-- The domains a latched source votes for: MGMT 1, PARTNER 2, THERMAL 3 (Table 14.3). -/
def wakeDoms (bit link : Nat) : List Nat :=
  match bit with
  | 2 => [32 + link / 6, 40]
  | 3 => [40]
  | _ => [38, 39, 40]

/-- An edge of source `bit` of WAKE_PEND. When a domain it names is in entry, it may fall in step 5: a privileged edge is
then latched and any other is lost (R389, log 2). In A3 a management wake or calendar alarm leaves by a warm reset (R393). -/
def State.wakeEdge (s : State) (bit link : Nat) : State :=
  let ds := wakeDoms bit link
  let priv := 1 ≤ bit && bit ≤ 3
  if s.pw.a3 then (if bit = 1 || bit = 5 then (s.mgmtVotes ds).warmReset else s)
  else
    let entering := ds.any (fun d => s.dom d == 3)
    let r : Nat × State := if entering then s.draw else (1, s)
    let s := r.2
    if r.1 % 2 = 0 then
      if priv then
        let v := setFld (Nat.lor (s.reg pgPower 0x98) (2 ^ bit)) 21 16 (if bit = 2 then link else fld (s.reg pgPower 0x98) 21 16)
        let s := s.setReg pgPower 0x98 v
        { s with pw := { s.pw with latched := Nat.lor s.pw.latched (2 ^ bit), latchLink := if bit = 2 then link else s.pw.latchLink } }
      else s
    else
      let s := if 4 ≤ bit then s.setReg pgPower 0x98 (Nat.lor (s.reg pgPower 0x98) (2 ^ bit)) else s
      s.mgmtVotes ds

/-- A management wake: courier chain or SMBus (R450). -/
def State.mgmtWake (s : State) : State := s.wakeEdge 1 0

/-- PCIE_WAKE_EVENT: PCIe reset deasserted or electrical idle exit, when enabled (Table 14.3). -/
def opPcieWakeEvent (s : State) : State := if bitOf (s.reg pgPower 0x94) 0 then s.wakeEdge 4 0 else s

/-- Replay the latched events when an entry completes (R389). -/
def State.replayWakes (s : State) : State :=
  let go (bit : Nat) (s : State) : State :=
    if bitOf s.pw.latched bit then
      let s := (s.countRaise pgPower 2 2).setReg pgPower 0x98 (Nat.lor (s.reg pgPower 0x98) 1)
      s.mgmtVotes (wakeDoms bit s.pw.latchLink)
    else s
  let s := go 3 (go 2 (go 1 s))
  { s with pw := { s.pw with latched := 0 } }

/-! ### Entry to A2 (R388) -/

/-- The tile is doing a run. -/
def Tile.busyRun (x : Tile) : Bool := x.run.isSome || !x.waiting.isEmpty || decide (x.closing ≠ 0)

/-- DOMAIN_ENTRY: a domain whose target is A2 starts its entry; a tile group at a frame boundary, or in HALTED, once its runs
have completed, clearing READY, and writing the image of each tile whose values are valid, as soon as tier-1 can take it; HUB only
when every other domain is in A2 (R184, R385, R388). -/
def opDomainEntry (d : Dom) (s : State) : State :=
  let k := domIx d
  let ok := match d with
    | .tg g => (decide (s.fr.st = .halted) || decide (s.fr.tif = 0)) && (List.range 8).all (fun i => !(s.tl (8 * g.val + i)).busyRun)
    | .hub => (List.range 40).all (fun e => s.dom e == 2)
    | _ => true
  if s.dom k < 2 && s.target k = 2 && ok then
    let s := s.setDom k 3
    match d with
    | .tg g => forN 8 (fun i s =>
        let t := 8 * g.val + i
        let s := s.tileLeaves t
        (s.setTl t { s.tl t with img := none, imgDue := (s.tl t).valid, backDue := false }).writeDue t) s
    | _ => s
  else s

/-- A tile loses its rail: its state is in the image, or nowhere (R184, R382). -/
def State.tileOff (s : State) (t : Nat) : State :=
  let x := s.tl t
  s.setTl t { x.empty with sram := [], pois := [], valid := false, ready := false, rot := 0, calT := [], roles := {}, used := {}
                           retired := 0, rowFail := 0, rowDue := [], colDue := [], uDue := none, spareUsed := 0
                           imgDue := false, backDue := x.img.isSome }

/-- HUB goes off (R385): PCIe down, HALTED, pending frames discarded, everything but AON lost, save the tiers in standby,
the descriptor table, the general store banks of RET_MASK and the images (R357). -/
def State.hubOff (s : State) : State :=
  let mask := s.reg pgPower 0x90
  let lost (g : Nat) : Bool := match regionOf (64 * g) with
    | .hub b => b = 26 || !bitOf mask b
    | _ => false
  let mem : Memory := { s.mem.wipe lost with ctl := s.mem.ctl }
  let keep (x : Tile) : Tile := { ({} : Tile) with ptr := x.ptr, img := x.img, backDue := x.backDue }
  let kept := s.tile.map (fun e => (e.1, keep e.2))
  let r := s.aonOnly
  { r with mem := mem, q := { r.q with desc := s.q.desc }, tile := kept.filter (fun e => e.2 ≠ {}) }

/-- A tier's controllers leave ACTIVE: SELF_REFRESH, or SLEEP for a tier-2 channel with RETAIN = 0 (R357). -/
def State.tierStandby (s : State) (first n : Nat) : State :=
  forN n (fun i s =>
    let k := first + i
    let c := s.ctl k
    if c.st = .active then
      let sleep := 8 ≤ k && !bitOf (s.reg (pgMem k) 0x40) 16
      s.setCtl k { c with st := if sleep then .sleep else .selfRefresh, lines := [] }
    else s) s

/-- No request to controllers `first` to `first + n - 1` is outstanding: no stream read, no released granule (Table 14.2,
step 2). -/
def State.tierQuiet (s : State) (first n : Nat) : Bool :=
  (List.range n).all (fun i => s.tagsAt (first + i) == 0) &&
    s.fr.applying.all (fun w => match regionOf (64 * w.addr) with
      | .ctl k => decide (k < first) || decide (first + n ≤ k)
      | _ => true)

/-- The entry's steps before the rail goes off are done (Table 14.2): a group's images are written, or tier-1 is up and cannot
take them, and its zones are OFF; a tier's requests are complete; every other domain is in A2 before HUB (R385). -/
def State.entryDone (s : State) (d : Dom) : Bool :=
  match d with
  | .tg g =>
    (List.range 32).all (fun i => !(s.zn (32 * g.val + i)).runs) &&
      (decide (s.dom 38 < 2) || (List.range 8).all (fun i => !(s.tl (8 * g.val + i)).imgDue))
  | .t1 => s.tierQuiet 0 8
  | .t2 => s.tierQuiet 8 16
  | .hub => (List.range 40).all (fun e => s.dom e == 2)
  | .lg _ => true

/-- DOMAIN_ENTRY_COMPLETE: once its steps are done the rail goes off: links and lasers go off, tiers enter standby, and latched
wakes are replayed (Table 14.2). -/
def opDomainEntryComplete (d : Dom) (s : State) : State :=
  let k := domIx d
  if s.dom k = 3 && s.entryDone d then
    let s : State := (match d with
      | .tg g => forN 8 (fun i s => s.tileOff (8 * g.val + i)) s
      | .lg l => forN 6 (fun i s => s.linkOff (6 * l.val + i)) s
      | .t1 => s.tierStandby 0 8
      | .t2 => s.tierStandby 8 16
      | .hub => s.hubOff)
    (((s.setDom k 2).countRaise pgPower 0 0).replayWakes)
  else s

/-! ### Wake (R392) -/

/-- Training of the controllers starts once the time base has locked, firmware has started and the tier is powered (R480). -/
def State.startTraining (s : State) : State :=
  if s.tb.locked && s.sec.started.isSome then
    forN 24 (fun k s =>
      let c := s.ctl k
      let on := s.dom (if k < 8 then 38 else 39) ≠ 2 && s.dom (if k < 8 then 38 else 39) ≠ 3
      if c.st = .untrained && on then s.setCtl k { c with st := .training } else s) s
  else s

/-- DOMAIN_WAKE: a powered domain in A2 whose target has risen starts its wake (Table 14.4). While HUB is entering A2 the wake
of another raises HUB's CAL vote (R387): before step 5 it aborts that entry, and after it waits for HUB; the module alone
knows which (R389, log 2). -/
def opDomainWake (d : Dom) (s : State) : State :=
  let k := domIx d
  if s.dom k = 2 && s.target k < 2 && !s.pw.a3 then
    if s.dom 40 = 3 then
      let r := s.draw
      if r.1 % 2 = 0 then ((r.2.setDom k 4).setDom 40 4).countRaise pgPower 3 1 else r.2
    else s.setDom k 4
  else s

/-- A tile at the end of its group's wake: one whose entry was aborted has kept its state; any other takes it from its image,
or makes an acquisition pass (R184, R174). -/
def State.tileBack (s : State) (t : Nat) : State :=
  let x := s.tl t
  if x.valid then s.setTl t { x with img := none, imgDue := false, backDue := false } else s.tileRestore t

/-- A tier's controllers come back ACTIVE; a channel back from SLEEP decodes as poisoned zeros (R357). -/
def State.tierBack (s : State) (first n : Nat) : State :=
  forN n (fun i s =>
    let k := first + i
    let c := s.ctl k
    if c.st = .selfRefresh then s.setCtl k { c with st := .active }
    else if c.st = .sleep then { s with mem := s.mem.wipe (granOfCtl k) }.setCtl k { c with st := .active }
    else s) s

/-- DOMAIN_WAKE_COMPLETE: the domain is back: a tile group once its lasers are lit and each enabled zone is LOCKED or in
FAULT (Table 14.4, R477). -/
def opDomainWakeComplete (d : Dom) (s : State) : State :=
  let k := domIx d
  let ok := match d with
    | .tg g => !s.pw.held && (List.range 32).all (fun i =>
        let z := s.zn (32 * g.val + i)
        !z.en || z.work.isEmpty || decide (z.st = .locked) || decide (z.st = .fault))
    | _ => true
  if s.dom k = 4 && ok then
    let s := s.setDom k (if s.target k = 1 then 1 else 0)
    let s : State := (match d with
      | .tg g => forN 8 (fun i s => s.tileBack (8 * g.val + i)) s
      | .t1 => (forN 256 (fun t s => s.writeDue t) (s.tierBack 0 8).startTraining).flushWaits.queueWake
      | .t2 => (s.tierBack 8 16).startTraining.flushWaits.queueWake
      | _ => s)
    s.countRaise pgPower 1 0
  else s

/-- FULL_LASER_POWER_RESTORED: a group voted from A1 to A0 is at full laser power (R383). -/
def opFullLaserPowerRestored (g : Fin 32) (s : State) : State :=
  if s.dom g.val = 1 && s.target g.val = 0 then s.setDom g.val 0 else s

/-! ### A3 and supply failures (R393, R509) -/

/-- A3_CMD: from the management side, with the key, while no domain holds a HOST, SCHED or MGMT vote (R393). -/
def opA3Cmd (p : Path) (val : BitVec 32) (s : State) : State :=
  let none := (List.range 41).all (fun d => s.vote 0 d == 0 && s.vote 1 d == 0 && s.vote 2 d == 0)
  if !s.mayPath p pgPower then s.deny p pgPower
  else if !bitOf val.toNat 0 then s
  else if (p = .mgmt || p = .debug) && fld val.toNat 31 16 = 0xA3A3 && none then s.railsOff
  else s.reject pgPower 8

/-- VIN_FAULT: every rail but AON is removed; SHUT_CAUSE.REGULATOR (R509). -/
def opVinFault (s : State) : State :=
  let s := (s.setReg pgPower 0xAC (Nat.lor (s.reg pgPower 0xAC) 2)).railsOff
  { s with pw := { s.pw with fault := true } }

/-- AUX_LOSS: AON is held in reset; the calendar clock runs on VBAT, or restarts from 0 with VALID clear (R448, R458,
R509). -/
def opAuxLoss (vbat : Bool) (s : State) : State :=
  let r := State.reset
  let keep : Mgmt := { r.mg with flash := s.mg.flash, onVbat := vbat, time := if vbat then s.mg.time else 0,
                                 timeValid := vbat && s.mg.timeValid, vbatLow := vbat && s.mg.vbatLow }
  { r with pending := s.pending, freeCtr := s.freeCtr, mg := keep, sec := { r.sec with svnFuse := s.sec.svnFuse } }.allDoms 2

/-! ### VCORE adjustment (R302, R303) -/

/-- VMIN and VMAX of VLIM. -/
def State.vlim (s : State) : Nat × Nat := (fld (s.reg pgGov 0x48) 5 0, fld (s.reg pgGov 0x48) 13 8)

/-- Start a VCORE adjustment to code `c` (Table 10.8, step 2). -/
def State.startAdjust (s : State) (c : Nat) : State :=
  { s with gov := { s.gov with want := c, adjusting := true, acked := false, tries := 0 } }

/-- The code above VMAX in force moves down at once, or after the adjustment in progress (R396). -/
def State.holdVmax (s : State) : State :=
  if s.pw.vmax < s.gov.code && !s.gov.adjusting then s.startAdjust s.pw.vmax else s

/-- A code that VSET asks for, inside the limits (R303). -/
def State.goVset (s : State) (c : Nat) : State :=
  let c := clampN s.vlim.1 (max s.vlim.1 s.pw.vmax) c
  if c = s.gov.code then s else s.startAdjust c

/-- An adjustment has ended: a VSET code written during it is carried out now (R303), and the limit is held (R396). -/
def State.adjusted (s : State) : State :=
  match s.gov.vsetDue with
  | some c => ({ s with gov := { s.gov with vsetDue := none } }.goVset c).holdVmax
  | none => s.holdVmax

/-- VCORE_WRITE_ACK: the bus is recovered if a target holds SDA (R456); an acknowledged write settles next; one that is not
is retried once, then fails (R303). -/
def opVcoreWriteAck (bus : BusLine) (ack : Bool) (s : State) : State :=
  if s.gov.adjusting && !s.gov.acked then
    let s := match bus with
      | .free => s.setReg pgSmb 0x48 (fld (s.reg pgSmb 0x48) 15 8 * 2 ^ 8)
      | .releasedAfter _ => (s.count pgSmb 5).setReg pgSmb 0x48 (fld (s.reg pgSmb 0x48) 15 8 * 2 ^ 8)
      | .stuck => (s.countRaise pgSmb 4 2).setReg pgSmb 0x48 (fld (s.reg pgSmb 0x48) 15 8 * 2 ^ 8 + 1)
    let r := s.draw
    let s := r.2.setReg pgSmb 0x48 (r.1 % 2 ^ 7 * 2 ^ 8 + fld (r.2.reg pgSmb 0x48) 7 0)
    if ack && bus ≠ .stuck then { s with gov := { s.gov with acked := true } }
    else if s.gov.tries = 0 then { s with gov := { s.gov with tries := 1 } }
    else ({ s with gov := { s.gov with adjusting := false, want := s.gov.code, tries := 0 } }.countRaise pgGov 4 2).adjusted
  else s

/-- VCORE_SETTLE: VCORE is at the new code and the next decision may be made (Table 10.8, steps 4 and 5). -/
def opVcoreSettle (s : State) : State :=
  if s.gov.adjusting && s.gov.acked then
    let moved := s.gov.want != s.gov.code
    let s := { s with gov := { s.gov with code := s.gov.want, adjusting := false, acked := false } }
    (if moved then s.raise pgGov 3 else s).adjusted
  else s

/-- VSET_WRITE: with AUTO = 0 an enabled governor carries the code out under Table 10.8, inside its limits, after an
adjustment that is in progress (R303). -/
def opVsetWrite (p : Path) (val : BitVec 32) (s : State) : State :=
  if s.mayPath p pgGov then
    let c := val.toNat % 64
    let s := s.setReg pgGov 0x4C c
    if !bitOf (s.reg pgGov 0x40) 0 && s.en pgGov then
      if s.gov.adjusting then { s with gov := { s.gov with vsetDue := some c } } else s.goVset c
    else s
  else s.deny p pgGov

/-! ### Thermal limits (R394 to R399) -/

/-- A thermal alarm begins: ALARM, CNT5, a privileged wake (R397). -/
def State.thermalAlarm (s : State) : State := (s.countRaise pgPower 5 5).wakeEdge 3 0

/-- An alarm stands: by temperature or by inlet. -/
def State.alarmed (s : State) : Bool := s.pw.alarm || s.pw.inletHigh

/-- THROTTLE_STAT.LEVEL follows what stands: alarm, throttle, warning (POWER page). -/
def State.setLevel (s : State) : State :=
  let warn := lt32 (int32 (fld (s.reg pgPower 0x9C) 7 0)) s.modelTemp
  { s with pw := { s.pw with level := if s.alarmed then 3 else if s.pw.throttling then 2 else if warn then 1 else 0 } }

/-- The inlet has been judged (R394, R397): above INLET_MAX it raises INLET_HIGH and, where none stands, an alarm. -/
def State.judgeInlet (s : State) (above : Bool) : State :=
  let was := s.alarmed
  let s := if above then s.raise pgPower 6 else s
  let s := { s with pw := { s.pw with inletHigh := above } }
  let s := if above && !was then s.thermalAlarm else s
  (if above then { s with pw := { s.pw with vmax := s.vlim.1, throttling := decide (s.vlim.1 < s.vlim.2) } }.holdVmax
    else s).setLevel

/-- The temperature is at or above a limit in degrees. -/
def State.atLeast (s : State) (lim : Int) : Bool := ge32 s.modelTemp (int32 lim)

/-- The judgement of the model temperature at the end of a governor window (R394 to R398). -/
def State.judgeThermal (s : State) : State :=
  let l1 := s.reg pgPower 0x9C
  let hyst := fld l1 31 24
  let tAlarm := fld l1 23 16
  let tThr := fld l1 15 8
  let tWarn := fld l1 7 0
  let vmin := s.vlim.1
  let vmax := s.vlim.2
  if s.atLeast (fld (s.reg pgPower 0xA0) 7 0) then (s.setReg pgPower 0xAC (Nat.lor (s.reg pgPower 0xAC) 1)).railsOff
  else
    let warn := lt32 (int32 tWarn) s.modelTemp
    let s := if warn then s.raise pgPower 3 else s
    let s := (if s.atLeast tThr then
        if s.pw.throttling then
          let v := max vmin (s.pw.vmax - 2)
          let s := if v < s.pw.vmax then s.count pgPower 4 else s
          { s with pw := { s.pw with vmax := v } }
        else
          let v := max vmin (min vmax s.gov.code - 2)
          { s with pw := { s.pw with vmax := v, throttling := true } }.countRaise pgPower 4 4
      else if !s.atLeast ((tThr : Int) - hyst) then
        let v := min vmax (s.pw.vmax + 1)
        { s with pw := { s.pw with vmax := max vmin v, throttling := decide (v < vmax) } }
      else s)
    let was := s.alarmed
    let al := s.atLeast tAlarm || (s.pw.alarm && s.atLeast ((tAlarm : Int) - hyst))
    let s := { s with pw := { s.pw with alarm := al } }
    let s := if al && !was then s.thermalAlarm else s
    let s := if s.alarmed then { s with pw := { s.pw with vmax := vmin, throttling := decide (vmin < vmax) } } else s
    s.setLevel.holdVmax

/-- AON_INLET_CHECK: while HUB is in A2 the AON logic judges the inlet (R394). -/
def opAonInletCheck (above : Bool) (s : State) : State := if s.dom 40 = 2 then s.judgeInlet above else s

/-! ### The slack governor (R301) -/

/-- The step the window's slack asks for, and the surplus windows after it. -/
def State.govStep (s : State) : Int × Nat :=
  let cfg := s.reg pgGov 0x40
  let tg := s.reg pgGov 0x44
  let band : Int := max 1 (fld tg 23 16)
  let aim : Int := fld tg 11 0
  match s.gov.least with
  | none => (0, s.gov.above)
  | some v =>
    if s.gov.overran || v < fld tg 31 24 then (4, 0)
    else if v < aim - band then (min 4 (-((v - aim) / band)), 0)
    else if aim + band < v then
      if fld cfg 23 16 ≤ s.gov.above + 1 then (-1, 0) else (0, s.gov.above + 1)
    else (0, 0)

/-- A decision of the governor; a step of +4 is an emergency step (R301, R303, R311). -/
def State.govDecide (s : State) : State :=
  let r := s.govStep
  let vmin := s.vlim.1
  let top := max vmin s.pw.vmax
  let c := (clampI vmin top ((s.gov.code : Int) + r.1)).toNat
  let s := s.count pgGov 0
  let s := if r.1 = 4 then s.countRaise pgGov 3 0 else s
  let s := if 0 < r.1 && top ≤ s.gov.code then s.raise pgGov 1 else s
  let s := if s.gov.code < c then s.count pgGov 1 else if c < s.gov.code then s.count pgGov 2 else s
  let s := { s with gov := { s.gov with above := r.2, winSlack := s.gov.least.getD 1000, lastStep := r.1, least := none,
                                        overran := false } }
  if c = s.gov.code then s else s.startAdjust c

/-- GOVERNOR_DECISION: once after the boundary that ends a window, the temperature is judged, then the governor decides
unless it is adjusting, disabled or in manual mode (R301 to R303, R394). -/
def opGovernorDecision (s : State) : State :=
  if s.fr.govDue then
    let s := { s with fr := { s.fr with govDue := false } }.judgeThermal
    if s.gov.adjusting || s.pw.a3 || !s.en pgGov || !bitOf (s.reg pgGov 0x40) 0 then s else s.govDecide
  else s

def execPowerOn (s : State) : Host.Outcome State Fault Refusal := done s (opPowerOn s)
def execWarmReset (p : Path) (val : BitVec 32) (s : State) : Host.Outcome State Fault Refusal := done s (opWarmReset p val s)
def execVoteWrite (p : Path) (client : Fin 4) (word : Fin 3) (val : BitVec 32) (s : State) :
    Host.Outcome State Fault Refusal := done s (opVoteWrite p client word val s)
def execDomainEntry (d : Dom) (s : State) : Host.Outcome State Fault Refusal := done s (opDomainEntry d s)
def execDomainEntryComplete (d : Dom) (s : State) : Host.Outcome State Fault Refusal := done s (opDomainEntryComplete d s)
def execDomainWake (d : Dom) (s : State) : Host.Outcome State Fault Refusal := done s (opDomainWake d s)
def execDomainWakeComplete (d : Dom) (s : State) : Host.Outcome State Fault Refusal := done s (opDomainWakeComplete d s)
def execFullLaserPowerRestored (g : Fin 32) (s : State) : Host.Outcome State Fault Refusal :=
  done s (opFullLaserPowerRestored g s)
def execPcieWakeEvent (s : State) : Host.Outcome State Fault Refusal := done s (opPcieWakeEvent s)
def execA3Cmd (p : Path) (val : BitVec 32) (s : State) : Host.Outcome State Fault Refusal := done s (opA3Cmd p val s)
def execVinFault (s : State) : Host.Outcome State Fault Refusal := done s (opVinFault s)
def execAuxLoss (vbat : Bool) (s : State) : Host.Outcome State Fault Refusal := done s (opAuxLoss vbat s)
def execVcoreWriteAck (bus : BusLine) (ack : Bool) (s : State) : Host.Outcome State Fault Refusal :=
  done s (opVcoreWriteAck bus ack s)
def execVcoreSettle (s : State) : Host.Outcome State Fault Refusal := done s (opVcoreSettle s)
def execVsetWrite (p : Path) (val : BitVec 32) (s : State) : Host.Outcome State Fault Refusal := done s (opVsetWrite p val s)
def execAonInletCheck (above : Bool) (s : State) : Host.Outcome State Fault Refusal := done s (opAonInletCheck above s)
def execGovernorDecision (s : State) : Host.Outcome State Fault Refusal := done s (opGovernorDecision s)

end Sys2Proof.Machine
end

