-- ==== Sys2Proof/Machine/Time.lean ====
section
/-!
DEFINITION. The time base (R280 to R282, R309), frame configuration, frame alignment and the start of the frame unit
(R283 to R291), and the plan switch (R294).
-/
namespace Sys2Proof.Machine

/-! ### The time base -/

/-- The source of the PLL follows USE_LOCAL in HALTED only (R281); on the local oscillator it is in no holdover. -/
def State.applyOsc (s : State) : State :=
  let l := bitOf (s.reg pgTb 0x40) 0
  if s.fr.st = .halted then
    { s with tb := { s.tb with localOsc := l, holdover := s.tb.holdover && !l, lostFor := if l then 0 else s.tb.lostFor } }
  else s

/-- FRAME_CFG comes into force (R283). -/
def State.applyCfg (s : State) : State :=
  let v := s.reg pgFrame 0x40
  { s with fr := { s.fr with len := fld v 12 0, lag := fld v 19 16, reLog := fld v 27 24 } }

/-- The staged plan directory and CYCLE come into force (R294). -/
def State.applyPlan (s : State) : State :=
  { s with fr := { s.fr with dir := s.reg64 pgFrame 0x68 % 2 ^ 48, cycle := fld (s.reg pgFrame 0x70) 12 0, switchAt := none } }

/-- Alignment starts anew: the next reference event sets the phase (Table 10.3). -/
def State.realign (s : State) : State := { s with fr := { s.fr with aligned := false, goodRun := 0 } }

/-- ALIGN_CFG's SRC and REF_LINK come into force with no transition: HALTED, ACQUIRE, RESYNC (Table 10.3). -/
def State.applyAlign (s : State) : State :=
  let v := s.reg pgFrame 0x44
  let t := { s with fr := { s.fr with src := fld v 1 0, refLink := fld v 13 8 } }
  if t.fr.src = s.fr.src && t.fr.refLink = s.fr.refLink then s else t.realign

/-- The frame unit leaves HALTED when CTRL.EN = 1 and the PLL is locked, not in holdover: FREE with SRC = 0, else ACQUIRE; a
module on its local oscillator may enter only FREE (R281, Table 10.3). The first boundary comes at the next tick; a frame
that ACQUIRE has in progress starts none of its records (R292). -/
def State.tryStart (s : State) : State :=
  if s.fr.st = .halted && s.en pgFrame && s.tb.locked && !s.tb.holdover then
    if s.fr.src ≠ 0 && (s.tb.localOsc || s.tb.confined) then s.reject pgFrame 9
    else
      { s with fr := { s.fr with
          st := if s.fr.src = 0 then .free else .acquire
          started := false, tif := 0, slew := 0, judged := false, pending := 0, slipRun := 0, aligned := false, goodRun := 0
          memNow := s.mem.bytes, memPrev := s.mem.bytes
          haltDue := false, comNext := s.fr.num, disc := [], faulted := [], charged := [], acts := []
          nextRec := if s.fr.src = 0 then 65536 else 0, starts := []
          slack := none, slackRec := 0, overrun := false } }
  else s

/-- PLL_LOCK: the PLL locks; the tick counter starts at 0 on the first lock (R280). The controllers' training and a frame
unit that waits for the lock start (R480, Table 10.3). -/
def opPllLock (s : State) : State :=
  if s.tb.locked then s
  else
    State.tryStart (State.startTraining { s with tb := { s.tb with
      locked := true, ever := true, confined := s.tb.confined || (!s.tb.ever && s.tb.localOsc), tick := if s.tb.ever then s.tb.tick else 0, fault := false
      refOk := s.tb.refOk || !s.tb.localOsc } })

/-- PLL_UNLOCK: the PLL loses a lock it had: FAULT and PLL_UNLOCK (R309). -/
def opPllUnlock (s : State) : State :=
  if s.tb.locked then
    let was := s.tb.fault
    let s := { s with tb := { s.tb with locked := false, holdover := false, lostFor := 0, fault := true } }
    (s.raise pgTb 2).faultLog was pgTb 2
  else s

/-- REFCLK_LOST: holdover of a PLL that is locked to it, REF_LOST, CNT0, and a frame fault of the current frame outside
HALTED (R282). -/
def opRefclkLost (s : State) : State :=
  if s.tb.refOk then
    let s := { s with tb := { s.tb with refOk := false } }.countRaise pgTb 0 0
    let s := { s with tb := { s.tb with holdover := s.tb.locked && !s.tb.localOsc, lostFor := 0 } }
    if s.fr.st = .halted then s else s.frameFault 3 s.fr.num
  else s

/-- REFCLK_RETURN: the PLL relocks without a phase jump and REF_BACK is raised (R282); a frame unit that waits in HALTED for a
locked PLL starts (Table 10.3). -/
def opRefclkReturn (s : State) : State :=
  if s.tb.refOk then s
  else ({ s with tb := { s.tb with refOk := true, holdover := false, lostFor := 0 } }.raise pgTb 1).tryStart

/-- The ticks of 1 s (R280, R282). -/
def holdoverTicks : Nat := 1600000000

/-- HOLDOVER_EXPIRE: the reference is still absent 1 s after its loss: HALTED at the next frame boundary (R282,
Table 10.3). -/
def opHoldoverExpire (s : State) : State :=
  if s.tb.holdover && decide (holdoverTicks ≤ s.tb.lostFor) && decide (s.fr.st ≠ .halted) then
    { s with fr := { s.fr with haltDue := true } }
  else s

/-! ### Reference events (R286 to R290) -/

/-- GUARD (R288). -/
def State.guardT (s : State) : Nat := fld (s.reg pgFrame 0x44) 23 16

/-- Frames `k` after the one whose boundary is nearest to an instant `t` ticks after the current boundary. -/
def nearest (t : Int) (len : Nat) : Int := (2 * t + len) / (2 * (max len 1 : Nat))

/-- The tick of the boundary that starts frame `f`, relative to the current frame's; a slew already judged moves the
boundaries to come (R288). -/
def State.boundaryTick (s : State) (f : Nat) : Int :=
  if f + 1 = s.fr.num then -(s.fr.lastLen : Int)
  else ((f : Int) - s.fr.num) * s.frameLen + (if s.fr.num < f then s.fr.slew else 0)

/-- The phase error as FRAME.PHASE.ERR keeps it: 16 bits, saturating. -/
def satErr (e : Int) : Int := clampI (-32768) 32767 e

/-- The module enters RESYNC from LOCKED (Table 10.3): the pending frames, and the current one as it ends, never commit
(R292); no restore is made from here (R407). -/
def State.toResync (s : State) : State :=
  let s := (s.countRaise pgFrame 6 3).discardFrom s.fr.comNext
  let s := { s with fr := { s.fr with st := .resync } }.realign
  { s with rg := { s.rg with pend := none, recs := [], replayTo := none } }

/-- A slip (Table 10.1): counted, raised; the third in LOCKED is a frame fault and leads to RESYNC; before LOCKED the count
of events restarts. -/
def State.slip (s : State) : State :=
  let s := s.countRaise pgFrame 4 0
  let s := { s with fr := { s.fr with slipRun := min 3 (s.fr.slipRun + 1) } }
  if s.fr.st = .locked then
    if s.fr.slipRun = 3 then (s.frameFault 2 s.fr.num).toResync else s
  else s.realign

/-- A reference event with phase error `e` (Table 10.1). -/
def State.judgeRef (s : State) (e : Int) : State :=
  let s := { s with fr := { s.fr with err := satErr e } }
  if e.natAbs ≤ s.guardT then
    { s with fr := { s.fr with pending := e, slipRun := 0, goodRun := min 3 (s.fr.goodRun + 1) } }
  else s.slip

/-- What a frame that never commits has staged and held is dropped (R292). -/
def State.dropFrame (s : State) (f : Nat) : State :=
  { s with fr := { s.fr with buf := s.fr.buf.filter (fun w => w.frame != f), faulted := s.fr.faulted.filter (· != f) }
           q := { s.q with hold := s.q.hold.filter (fun h => h.entered != f) } }

/-- Records of the frame in progress that ACQUIRE and RESYNC do not start (R292, CNT9). -/
def State.skipRecs (s : State) : State := s.countN pgFrame 9 ((s.planOf s.fr.num).2 - s.fr.nextRec)

/-- The first reference event in ACQUIRE or RESYNC: the tick within the frame is set so that e = 0 and the frame number is
taken from the postmark, if there is one; it counts as the first of the three events (Table 10.3, log 21). `t` is the
instant of the event after the boundary of the frame it names. A frame that is left so never commits, and its records count
as not started (R292). -/
def State.setPhase (s : State) (f : Nat) (t : Int) : State :=
  let len : Int := s.frameLen
  let k := t / max len 1
  let n := ((f : Int) + k).toNat
  let s := if n = s.fr.num then s else s.skipRecs.dropFrame s.fr.num
  { s with fr := { s.fr with
      nextRec := if n = s.fr.num then s.fr.nextRec else 0
      num := n, tif := (t - k * len).toNat, err := 0, pending := 0, slipRun := 0, slew := 0, judged := false, aligned := true
      goodRun := 1, refNext := f + 1, comNext := n, disc := [], started := true } }

/-- The frame unit waits for a first reference event. -/
def State.awaitsRef (s : State) : Bool :=
  (decide (s.fr.st = .acquire) || decide (s.fr.st = .resync)) && !s.fr.aligned

/-- A reference event for frame `f` (R287): one that comes outside the window of its frame after it has been judged missing is
that slip, and no other. -/
def State.refEvent (s : State) (f : Nat) (e : Int) : State :=
  let far := decide (s.frameLen < 4 * e.natAbs)
  if far && decide (f < s.fr.refNext) then s
  else
    let s := if far && decide (f ≠ s.fr.refNext) then s else { s with fr := { s.fr with refNext := max s.fr.refNext (f + 1) } }
    s.judgeRef e

/-- MARKER_RX: on the reference link a reference event, on any other measured only (R287, R288, R290). A link keeps the frame
its partner's marker names, and ends the discarding of stale trains at the marker awaited (R416, Table 11.7). -/
def opMarkerRx (l : Fin 36) (frame : BitVec 64) (late : BitVec 16) (s : State) : State :=
  let x := s.lnk l.val
  if x.carries then
    let f := frame.toNat
    let t : Int := (s.fr.tif : Int) - late.toNat - x.d
    let near := (s.fr.num : Int) + nearest t s.frameLen
    let y := { x with marker := some f, markerOk := decide ((f : Int) = near), markAt := (s.tb.tick : Int) - late.toNat - x.d
                      stale := if x.stale = some f then none else x.stale }
    let s := s.setLnk l.val y
    let e := t - s.boundaryTick f
    if s.fr.st = .halted then s
    else if s.fr.src = 1 && s.fr.refLink = l.val then
      if s.awaitsRef then s.setPhase f (late.toNat + x.d) else s.refEvent f e
    else if s.guardT < e.natAbs then s.countRaise pgFrame 7 8
    else s
  else s

/-- FS_OFFSET, signed (FRAME page). -/
def State.fsOffset (s : State) : Int := sext 20 (s.reg pgFrame 0x48)

/-- The frame that a boundary at tick `p` starts by the postmarks of the links in service: of the lowest-numbered one that has
named a frame (Table 10.3; which link is open, log 21). -/
def State.postmarkAt (s : State) (p : Int) : Option Nat :=
  (List.range 36).findSome? (fun l =>
    let x := s.lnk l
    if x.carries then x.marker.map (fun f => ((f : Int) + nearest (p - x.markAt) s.frameLen).toNat) else none)

/-- FRAME_SYNC_PULSE: under SRC = 2 a reference event, measured against the nearest boundary. The first one sets the phase; the
frame number is taken from a link postmark, and without one does not change (R287, Table 10.3). -/
def opFrameSyncPulse (s : State) : State :=
  if s.fr.src = 2 && decide (s.fr.st ≠ .halted) then
    if s.awaitsRef then
      let o := s.fsOffset
      match s.postmarkAt ((s.tb.tick : Int) - o) with
      | some f => s.setPhase f o
      | none => s.setPhase s.fr.num (o % max (s.frameLen : Int) 1)
    else
      let t := (s.fr.tif : Int) - s.fsOffset
      let f := ((s.fr.num : Int) + nearest t s.frameLen).toNat
      s.refEvent f (t - s.boundaryTick f)
  else s

/-- The tick within the current frame at which the next reference event is expected (R287). -/
def State.refExpected (s : State) : Int :=
  s.boundaryTick s.fr.refNext + (if s.fr.src = 1 then ((s.lnk s.fr.refLink).d : Int) else s.fsOffset)

/-- REFERENCE_EVENT_MISSING: the expected reference event has not come within FRAME_LEN / 4 ticks of its expected tick, which
counts as a slip (R287, R288). -/
def opReferenceEventMissing (s : State) : State :=
  if s.fr.src ≠ 0 && decide (s.fr.st ≠ .halted) && decide (s.fr.st ≠ .free) && !s.awaitsRef
      && decide (s.refExpected * 4 + s.frameLen < (s.fr.tif : Int) * 4) then
    { s with fr := { s.fr with refNext := s.fr.refNext + 1 } }.slip
  else s

/-- SLEW_JUDGE: at tick FRAME_LEN − 2 a frame with PENDING ≠ 0 is made one tick longer or shorter (R288). -/
def opSlewJudge (s : State) : State :=
  if s.fr.st ≠ .halted && !s.fr.judged && decide (s.fr.tif + 2 = s.frameLen) then
    let d : Int := if 0 < s.fr.pending then 1 else if s.fr.pending < 0 then -1 else 0
    let s := { s with fr := { s.fr with judged := true, slew := d } }
    if d = 0 then s else s.count pgFrame 5
  else s

/-! ### Commands on the FRAME page -/

/-- FRAME_ENABLE: CTRL.EN is set (Table 10.3). -/
def opFrameEnable (p : Path) (s : State) : State :=
  if s.mayPath p pgFrame then
    if s.en pgFrame && s.fr.st ≠ .halted then s else (s.setReg pgFrame 0x10 1).tryStart
  else s.deny p pgFrame

/-- The values of a FRAME_CFG write are in range (R283). -/
def cfgValid (v : Nat) : Bool :=
  decide (16 ≤ fld v 12 0) && decide (fld v 12 0 ≤ 4096) && decide (2 ≤ fld v 19 16) && decide (fld v 19 16 ≤ 8)
    && decide (4 ≤ fld v 27 24)

/-- FRAME_CFG_WRITE: in force at once in HALTED, else at the next re-entry point; discarded when out of range (R283). -/
def opFrameCfgWrite (p : Path) (val : BitVec 32) (s : State) : State :=
  if s.mayPath p pgFrame then
    if cfgValid val.toNat then
      let s := s.setReg pgFrame 0x40 (Nat.land val.toNat 0x0F0F1FFF)
      if s.fr.st = .halted then s.applyCfg else s
    else s.reject pgFrame 9
  else s.deny p pgFrame

/-- The key of the holding register or the staged low half of a path at the BAR0 offset of a low half (R6, R9). -/
def halfKey (p : Path) (off : Nat) : Nat := pathIx p * 2 ^ 26 + off

/-- A switch is armed for frame `f`: refused when that is fewer than 2 frames ahead; in HALTED the staged values come into
force at once (R294). -/
def State.armSwitch (s : State) (f : Nat) : State :=
  let s := s.setReg64 pgFrame 0x78 f
  if s.fr.st = .halted then s.applyPlan.raise pgFrame 5
  else if s.fr.num + 2 ≤ f then { s with fr := { s.fr with switchAt := some f } }
  else s.reject pgFrame 9

/-- PLAN_SWITCH_ARM: the write of SWITCH_FRAME_HI brings both halves into force and arms the switch (R9, R294). -/
def opPlanSwitchArm (p : Path) (val : BitVec 32) (s : State) : State :=
  if s.mayPath p pgFrame then
    let key := halfKey p (pageBase pgFrame + 0x78)
    let lo := (tget none key s.hif.staged).getD (s.reg pgFrame 0x78)
    let s := { s with hif := { s.hif with staged := tset none key none s.hif.staged } }
    s.armSwitch (lo + 2 ^ 32 * val.toNat)
  else s.deny p pgFrame

def execPllLock (s : State) : Host.Outcome State Fault Refusal := done s (opPllLock s)
def execPllUnlock (s : State) : Host.Outcome State Fault Refusal := done s (opPllUnlock s)
def execRefclkLost (s : State) : Host.Outcome State Fault Refusal := done s (opRefclkLost s)
def execRefclkReturn (s : State) : Host.Outcome State Fault Refusal := done s (opRefclkReturn s)
def execHoldoverExpire (s : State) : Host.Outcome State Fault Refusal := done s (opHoldoverExpire s)
def execSlewJudge (s : State) : Host.Outcome State Fault Refusal := done s (opSlewJudge s)
def execMarkerRx (l : Fin 36) (frame : BitVec 64) (late : BitVec 16) (s : State) : Host.Outcome State Fault Refusal :=
  done s (s.linkDo l.val (opMarkerRx l frame late))
def execFrameSyncPulse (s : State) : Host.Outcome State Fault Refusal := done s (opFrameSyncPulse s)
def execReferenceEventMissing (s : State) : Host.Outcome State Fault Refusal := done s (opReferenceEventMissing s)
def execFrameEnable (p : Path) (s : State) : Host.Outcome State Fault Refusal := done s (opFrameEnable p s)
def execFrameCfgWrite (p : Path) (val : BitVec 32) (s : State) : Host.Outcome State Fault Refusal :=
  done s (opFrameCfgWrite p val s)
def execPlanSwitchArm (p : Path) (val : BitVec 32) (s : State) : Host.Outcome State Fault Refusal :=
  done s (opPlanSwitchArm p val s)

end Sys2Proof.Machine
end

