-- ==== Sys2Proof/Machine/Soft.lean ====
section
/-!
DEFINITION. Soft resets of pages (R18, R19, Table 0.3 and the additions of the blocks' chapters).
-/
namespace Sys2Proof.Machine

/-- The soft reset of page `p` is requested and not complete (R19). -/
def State.softDue (s : State) (p : Nat) : Bool := tget false p s.soft

/-- The reset takes effect at a frame boundary (R19). -/
def softAtBoundary (p : Nat) : Bool :=
  match blkOf p with
  | .tile => true
  | .vsu => true
  | .stream => true
  | .queue => true
  | .link => true
  | .frame => true
  | .registry => true
  | _ => false

/-- A row's registers return their RW bits to the reset values; the other bits stay (R18). -/
def State.softRow (s : State) (p : Nat) (r : RegRow) : State :=
  forN r.n (fun i s =>
    let off := r.off + r.stride * i
    let old := s.reg p off
    s.setReg p off (old - Nat.land old r.rw + Nat.land (regReset p off).toNat r.rw)) s

/-- What a page records until software clears an event is empty again (R150, R310, R363, R378, R380, R381). -/
def State.clearRecords (s : State) (p cleared : Nat) : State :=
  match blkOf p with
  | .vsu => if bitOf cleared 0 then (s.setReg p 0x48 0).setReg64 p 0x50 0 else s
  | .hbm => if bitOf cleared 1 then (s.setReg64 p 0x48 0).setReg p 0x50 0 else s
  | .lpddr => if bitOf cleared 1 then (s.setReg64 p 0x48 0).setReg p 0x50 0 else s
  | .device => if bitOf cleared 4 then (s.setReg64 p 0x60 0).setReg p 0x68 0 else s
  | .frame => if bitOf cleared 2 then ((s.setReg p 0x84 0).setReg p 0x88 0).setReg64 p 0x90 0 else s
  | .hostif => if bitOf cleared 3 then s.setReg p 0x48 0 else s
  | _ => s

/-- R18 for the page's header and stored registers: RW fields at their reset values, EVT_RAW clear. With EVT_RAW clear the
records that hold until an event is cleared are empty, so that the next first one is recorded (log 40). -/
def State.softFields (s : State) (p : Nat) : State :=
  let s := (forL (ctrlRow :: regRows (blkOf p)) (fun r s => s.softRow p r) s).clearRecords p (2 ^ 32 - 1)
  { s with evRaw := tset 0 p 0 s.evRaw, evEn := tset 0 p 0 s.evEn
           hif := { s.hif with sel := tdrop (fun k => k % 2 ^ 22 / 4096 == p) s.hif.sel } }

/-- The page's events and nothing else of its fields (Table 0.3). -/
def State.softEvents (s : State) (p : Nat) : State := { s with evRaw := tset 0 p 0 s.evRaw }

/-- A link's page: PORT, and the route table in the page of L00, unless frozen (R328); the link goes OFF (Table 11.7). -/
def State.softLink (s : State) (l : Nat) : State :=
  let s := if s.frozen then s else s.setReg (pgLink l) 0x58 l
  let s := if l = 0 && !s.frozen then { s with route := [] } else s
  s.linkOff l

/-- A memory controller's page: the error records are cleared and the scrub pass restarts (R363). -/
def State.softMem (s : State) (k : Nat) : State :=
  let s := ((s.setReg (pgMem k) 0x48 0).setReg (pgMem k) 0x4C 0).setReg (pgMem k) 0x50 0
  s.setCtl k { s.ctl k with scrub := 0 }

/-- The work in progress of a management page is abandoned (R474). -/
def State.softMgmt (s : State) (b : Blk) : State :=
  match b with
  | .courier => forN 36 (fun l s => if (s.lnk l).tunFor.isEmpty then s else s.setLnk l { s.lnk l with tunFor := [] }) s
  | .smbus => { s with mg := { s.mg with mctpOut := [], mctpIn := none } }
  | .calendar => { s with mg := { s.mg with timeNew := none } }
  | .hkadc => { s with mg := { s.mg with trig := none, calBusy := 0 } }
  | .calstore =>
    let busy := decide (4 ≤ s.mg.cs)
    { s with
      mg := { s.mg with
        cs := if busy then s.mg.csPrev else s.mg.cs, csRecs := none, csLoad := false, csWait := none, fwSlot := none, fwBuf := [] }
      sec := { s.sec with seq := if busy then none else s.sec.seq } }
  | _ => s

/-- The effect of a soft reset of page `p`, with CTRL.SOFT_RESET reading 0 again (R18, Table 0.3). PROTECT's clears the
violation counters of each tenant and source, and keeps the page's CNT0 and CNT1 (DESIGN CHOICE, log 40). -/
def State.softPage (s0 : State) (p : Nat) : State :=
  let s := { s0 with soft := tset false p false s0.soft }
  match blkOf p with
  | .directory => s.softFields p
  | .device =>
    let d := s.reg pgDev 0x50
    let t := s.softFields p
    if s.frozen then t.setReg pgDev 0x50 d else t
  | .timebase => (s.softFields p).applyOsc
  | .frame => { s.softFields p with fr := { s.fr with num := 0, haltDue := true } }
  | .governor =>
    let t := s.softFields p
    { t with gov := { t.gov with
        above := 0, least := none, overran := false, want := t.gov.code, adjusting := false, acked := false, vsetDue := none, tries := 0 } }
  | .registry => { s with rg := { s.rg with recs := [], fault := false } }
  | .power => State.votesChanged s0 (s.softFields p)
  | .hkadc => (s.softEvents p).softMgmt .hkadc
  | .calstore => (s.softEvents p).softMgmt .calstore
  | .calendar => (s.softEvents p).softMgmt .calendar
  | .courier => (s.softEvents p).softMgmt .courier
  | .smbus => (s.softEvents p).softMgmt .smbus
  | .protect => { s with sec := { s.sec with viol := [], violSnap := [] } }
  | .debug =>
    let t := s.softFields p
    { t with sec := { t.sec with nonce := none, response := [] } }
  | .hostif =>
    let t := s.softFields p
    { t with hif := { t.hif with seg := [] } }
  | .loop => (s.softFields p).loopSoft
  | .check => s.setReg p 0x10 0
  | .vsu => (s.softFields p).laneSoft (instOf p)
  | .stream => (s.softFields p).streamSoft
  | .queue => (s.softFields p).queueSoft
  | .tile => (s.softFields p).tileSoft (instOf p)
  | .link => (s.softFields p).softLink (instOf p)
  | .hbm => (s.softFields p).softMem (instOf p)
  | .lpddr => (s.softFields p).softMem (8 + instOf p)

/-- The soft resets that take effect at a frame boundary, the frame unit's apart (R19). -/
def State.softBoundary (s : State) : State :=
  forL (s.soft.map (·.1)) (fun p s => if softAtBoundary p && p != pgFrame then s.softPage p else s) s

/-- SOFT_RESET: CTRL.SOFT_RESET written 1 requests the reset, and reads 1 until it is complete (R19). -/
def opSoftReset (p : Path) (page : Fin 382) (s : State) : State :=
  if s.mayPath p page.val then { s with soft := tset false page.val true s.soft }
  else s.deny p page.val

/-- SOFT_RESET_COMPLETE: a requested reset takes effect within 2 µs, a stream-bound check unit's once the stream has
unbound; of the blocks that wait for a frame boundary only FRAME and REGISTRY complete without one, in HALTED (R19, log 40). -/
def opSoftResetComplete (page : Fin 382) (s : State) : State :=
  let p := page.val
  if !s.softDue p then s
  else if softAtBoundary p then
    if s.fr.st = .halted && (p = pgFrame || p = pgReg) then
      let t := s.softPage p
      if p = pgFrame then { t.applyCfg.applyAlign.applyPlan with fr := { t.applyCfg.applyAlign.applyPlan.fr with haltDue := false } }
      else t
    else s
  else if blkOf p = .check && (tget none (instOf p) s.chk).isSome then s
  else s.softPage p

def execSoftReset (p : Path) (page : Fin 382) (s : State) : Host.Outcome State Fault Refusal := done s (opSoftReset p page s)
def execSoftResetComplete (page : Fin 382) (s : State) : Host.Outcome State Fault Refusal :=
  done s (opSoftResetComplete page s)

end Sys2Proof.Machine
end

