-- ==== Sys2Proof/Machine/CalStore.lean ====
section
/-!
DEFINITION. The serial flash and the calibration store: banks and records (R466 to R469), bank writes (R470), import and
interpolation of link lanes (R471, R472), firmware slot writes (R473) and the start-up's loading of calibration (R481).
-/
namespace Sys2Proof.Machine

/-! ### Flash (Table 17.5) -/

/-- What a flash byte that nothing has written holds: the factory layer, else erased (log 12). -/
def flashDefault (a : Nat) : Byte := if 0x02000000 ≤ a && decide (a < 0x0A000000) then Config.flashF a else 0xFF#8

/-- A byte of the flash. -/
def State.flashByte (s : State) (a : Nat) : Byte := (tget none a s.mg.flash).getD (flashDefault a)

/-- `n` bytes of the flash. -/
def State.flashRead (s : State) (a : Nat) : Nat → Bytes
  | 0 => []
  | n + 1 => s.flashByte a :: s.flashRead (a + 1) n

/-- Program bytes. -/
def State.flashWrite (s : State) (a : Nat) : Bytes → State
  | [] => s
  | b :: bs =>
    let v := if b = flashDefault a then none else some b
    State.flashWrite { s with mg := { s.mg with flash := tset none a v s.mg.flash } } (a + 1) bs

/-- Erase a range outside the factory layer. -/
def State.flashErase (s : State) (a n : Nat) : State :=
  { s with mg := { s.mg with flash := tdrop (fun x => decide (a ≤ x) && decide (x < a + n)) s.mg.flash } }

/-- The base of U bank A or B, and its size. -/
def bankBase (b : Bool) : Nat := if b then 0x10000000 else 0x0A000000
def bankSize : Nat := 0x6000000

/-! ### Records (Tables 17.7, 17.8) -/

/-- The body size of a record type; 0 for an invalid one (Table 17.8). -/
def bodySize (ty : Nat) : Nat := ([0, 343200, 780, 16, 144, 8, 584] : List Nat).getD ty 0

/-- A size padded to a multiple of 16. -/
def pad16 (n : Nat) : Nat := (n + 15) / 16 * 16

/-- The INSTANCE of a record is in range. -/
def recInst (ty inst : Nat) : Bool := if ty ≤ 3 then decide (inst < 256) else if ty = 5 then decide (inst = 0) else decide (inst < 36)

/-- The record at the front of a run of bytes, its LENGTH, whether TYPE, LENGTH and INSTANCE are right, and whether its RCRC
matches (Tables 17.7, 17.8). LENGTH counts the padding (log 41). -/
def recAt (bs : Bytes) : CsRec × Nat × Bool × Bool :=
  let ty := leNat (bs.take 2)
  let inst := leNat ((bs.drop 2).take 2)
  let len := leNat ((bs.drop 4).take 4)
  let size := bodySize ty
  let body := (bs.drop 32).take size
  (⟨ty, inst, leNat ((bs.drop 8).take 8), leNat ((bs.drop 16).take 4), body⟩, len,
    size != 0 && len == 32 + pad16 size && decide (len ≤ bs.length) && recInst ty inst,
    decide ((crc32c body).toNat = leNat ((bs.drop 28).take 4)))

/-- The records of a staged image with whether the RCRC of each matches; none where a type, length or INSTANCE is wrong
(R468, R470). -/
def parseRecs : Nat → Bytes → Option (List (CsRec × Bool))
  | 0, bs => if bs.isEmpty then some [] else none
  | n + 1, bs =>
    if bs.isEmpty then some []
    else
      let r := recAt bs
      if r.2.2.1 then (parseRecs n (bs.drop r.2.1)).map (fun rs => (r.1, r.2.2.2) :: rs) else none

/-- The records of a valid bank with whether each counts: one of an invalid TYPE or INSTANCE is ignored as one whose RCRC fails,
and the others stand (R468, log 41). A LENGTH that leads nowhere ends the list. -/
def bankRecs : Nat → Bytes → List (CsRec × Bool)
  | 0, _ => []
  | n + 1, bs =>
    let r := recAt bs
    if bs.isEmpty then []
    else if r.2.1 < 32 || bs.length < r.2.1 then [(r.1, false)]
    else (r.1, r.2.2.1 && r.2.2.2) :: bankRecs n (bs.drop r.2.1)

/-- A record's bytes. -/
def CsRec.toBytes (r : CsRec) : Bytes :=
  leBytes 2 r.ty ++ leBytes 2 r.inst ++ leBytes 4 (32 + pad16 r.body.length) ++ leBytes 8 r.time ++ leBytes 4 r.count
    ++ List.replicate 8 0 ++ leBytes 4 (crc32c r.body).toNat ++ r.body
    ++ List.replicate (pad16 r.body.length - r.body.length) 0

/-- A signed little-endian field of a body. -/
def sAt (body : Bytes) (off n : Nat) : Int := sext (8 * n) (leNat ((body.drop off).take n))

/-- A signed value as `n` bytes. -/
def sBytes (n : Nat) (v : Int) : Bytes := leBytes n (untwos (8 * n) v)

/-- The places of a tile record's values: quantity, offset and size (Table 17.8). -/
def recFields (ty : Nat) : List (Nat × Nat × Nat) :=
  match ty with
  | 1 => (List.range 132).flatMap (fun p => (List.range 130).flatMap (fun c => [false, true].flatMap (fun neg =>
      let o := 10 * (2 * (130 * p + c) + b2n neg)
      (qRing p c neg 0, o, 2) :: (List.range 8).map (fun k => (qRing p c neg (k + 1), o + 2 + k, 1)))))
  | 2 => (List.range 130).flatMap (fun c => [(qCol c 0, 6 * c, 2), (qCol c 1, 6 * c + 2, 2), (qCol c 2, 6 * c + 4, 1)])
  | 3 => (List.range 4).flatMap (fun g => [(qPilot g 0, 4 * g, 2), (qPilot g 1, 4 * g + 2, 2)])
  | _ => []

/-- A tile record's body from a U layer. -/
def tileBody (u : Tbl Int) (ty : Nat) : Bytes :=
  (recFields ty).flatMap (fun f => sBytes f.2.2 (tget 0 f.1 u) ++ (if ty = 2 && f.2.2 = 1 then [0] else []))

/-- The values of a tile record, added to a layer. -/
def tileVals (r : CsRec) (u : Tbl Int) : Tbl Int :=
  (recFields r.ty).foldl (fun m f => tset 0 f.1 (sAt r.body f.2.1 f.2.2) m) u

/-- The 72 lane values of a type 4 body: TX lanes 0 to 7 and S, then RX lanes, four values each. -/
def laneVals (body : Bytes) : List Int := (List.range 72).map (fun i => sAt body (2 * i) 2)

/-- The records of the U layer held (R470, R465): each tile's three, each link's one, and the system calibration in force. -/
def State.uRecords (s : State) : List CsRec :=
  let tiles := (List.range 256).flatMap (fun t =>
    let x := s.tl t
    [1, 2, 3].map (fun ty => ⟨ty, t, x.calTime, x.calCount, tileBody x.calU ty⟩))
  let links := (List.range 36).map (fun l =>
    let x := s.lnk l
    if x.sets.isEmpty then (⟨4, l, x.calTime, x.calCount, (List.range 72).flatMap (fun i => sBytes 2 (tget 0 i x.calU))⟩ : CsRec)
    else ⟨6, l, x.calTime, x.calCount, x.sets.flatMap (fun v => sBytes 2 v.1 ++ v.2.flatMap (sBytes 2))⟩)
  let hk : List CsRec := match s.mg.coef with
    | some (z, g) => [⟨5, 0, s.mg.time, 0, sBytes 4 z ++ leBytes 4 g⟩]
    | none => []
  tiles ++ links ++ hk

/-- Of the records of a bank, those in force: one whose RCRC fails is ignored, counted and raises REC_BAD; a type 6 record
beside a type 4 one of its link is counted (R468). -/
def State.goodRecs (s : State) (rs : List (CsRec × Bool)) : List CsRec × State :=
  let bad := (rs.filter (fun r => !r.2)).length
  let s := if bad = 0 then s else (s.countN pgCs 2 bad).raise pgCs 3
  let ok := (rs.filter (·.2)).map (·.1)
  let twice := ok.filter (fun r => r.ty == 6 && ok.any (fun q => q.ty == 4 && q.inst == r.inst))
  (ok.filter (fun r => !(r.ty == 6 && ok.any (fun q => q.ty == 4 && q.inst == r.inst))), s.countN pgCs 2 twice.length)

/-- A link's lane values in force have changed: its count and time (R472). -/
def State.laneChanged (s : State) (l : Nat) (x : LinkS) : State :=
  s.setLnk l { x with calCount := min (x.calCount + 1) (2 ^ 32 - 1), calTime := s.mg.time }

/-- A U layer comes into force (R182, R463, R472). A link's values under a type 6 record start from those in force and
follow by interpolation. -/
def State.applyU (s : State) (rs : List CsRec) : State :=
  let s := forN 256 (fun t s =>
    let mine := rs.filter (fun r => decide (r.ty ≤ 3) && r.inst == t)
    s.bringU t (mine.foldl (fun u r => tileVals r u) [])) s
  let s := forN 36 (fun l s =>
    let x := s.lnk l
    let y := match rs.find? (fun r => (r.ty == 4 || r.ty == 6) && r.inst == l) with
      | none => { x with calU := [], sets := [], step := [] }
      | some r =>
        if r.ty = 4 then
          { x with sets := [], step := [], calU := (laneVals r.body).zipIdx.foldl (fun m v => tset 0 v.2 v.1 m) [] }
        else
          { x with sets := (List.range 4).map (fun k => (sAt r.body (146 * k) 2, laneVals (r.body.drop (146 * k + 2)))) }
    if y.calU == x.calU && y.sets == x.sets then s.setLnk l y else s.laneChanged l y) s
  let coef := (rs.find? (fun r => r.ty == 5)).map (fun r => (sAt r.body 0 4, leNat ((r.body.drop 4).take 4)))
  { s with mg := { s.mg with coef := coef } }

/-! ### Banks (Tables 17.6, 17.9) -/

/-- A header whose MAGIC, VER and CHECK match. -/
def headOk (h : Bytes) : Bool :=
  decide (leNat (h.take 4) = 0x4B4E4255) && decide (leNat ((h.drop 4).take 1) = 1)
    && decide ((crc32c (h.take 60)).toNat = leNat ((h.drop 60).take 4))

/-- The bytes of a bank's records when it is valid (R467). -/
def State.bank (s : State) (b : Bool) : Option (Nat × Bytes) :=
  let h := s.flashRead (bankBase b) 64
  let n := leNat ((h.drop 28).take 4)
  if headOk h && decide (n + 4096 ≤ bankSize) then
    let body := s.flashRead (bankBase b + 4096) n
    if (crc32c body).toNat = leNat ((h.drop 32).take 4) then some (leNat ((h.drop 8).take 8), body) else none
  else none

/-- The bank selection from SCAN (R469). -/
def State.selectBank (s : State) : State :=
  let a := s.bank false
  let b := s.bank true
  let pick : Option (Bool × Nat × Bytes) := match a, b with
    | some x, some y => if x.1 < y.1 then some (true, y) else some (false, x)
    | some x, none => some (false, x)
    | none, some y => some (true, y)
    | none, none => none
  let s := { s with mg := { s.mg with aValid := a.isSome, bValid := b.isSome } }
  match pick with
  | none => ({ s with mg := { s.mg with cs := 1, noU := true, seq := 0 } }.raise pgCs 2).applyU []
  | some (w, q, body) =>
    let r := s.goodRecs (bankRecs body.length body)
    { r.2 with mg := { r.2.mg with cs := if w then 3 else 2, noU := false, seq := q } }.applyU r.1

/-- A command that CS_STAT shows refused with a reason; CFG_REJECT is raised (log 41). -/
def State.csRefuse (s : State) (why : Nat) : State := { s with mg := { s.mg with result := 2, reason := why } }.raise pgCs 4

/-- A command on CALSTORE that may be accepted: refused with REASON 1 in SCAN, WRITE_A and WRITE_B (R469), and while an image
that waits for its tier has not been read (log 41). -/
def State.csCmd (s : State) (p : Path) (go : State → State) : State :=
  if !s.mayPath p pgCs then s.deny p pgCs
  else if !s.en pgCs then s
  else if s.mg.cs = 0 || 4 ≤ s.mg.cs || s.mg.csWait.isSome then s.csRefuse 1
  else go s

/-- The bank being written. -/
def State.csBank (s : State) : Bool := decide (s.mg.cs = 5)

/-- Step 3 of Table 17.10, where the core is free to begin it: the header sector of the bank is erased and the bank is invalid
from here. The model takes it as soon as steps 1 and 2 are done (log 41). -/
def State.csErase (s : State) : State :=
  if s.sec.seq = some .flash then
    let b := s.csBank
    let s := s.flashErase (bankBase b) 4096
    { s with mg := if b then { s.mg with bValid := false } else { s.mg with aValid := false } }
  else s

/-- The write of the inactive bank is accepted (Table 17.9): from ACTIVE_A bank B, else bank A. While a halt is pending or
in force the core starts no locked sequence (R443): RESUME starts it. -/
def State.csBegin (s : State) (recs : Option (List CsRec)) (load : Bool) (q : Seq) : State :=
  State.csErase { s with
    mg := { s.mg with cs := if s.mg.cs = 2 then 5 else 4, csPrev := s.mg.cs, result := 1, reason := 0, csRecs := recs, csLoad := load }
    sec := { s.sec with seq := if s.sec.halted || s.sec.haltPending then s.sec.seq else some q } }

/-- CS_COMMIT: accepted, its step 2 at the next frame boundary (Table 17.10). -/
def opCsCommit (p : Path) (s : State) : State := s.csCmd p (fun s => s.csBegin none false .calCommit)

/-- The staged image: its bytes, or none where STAGE is misplaced or unreadable (Table 17.12). -/
def State.staged (s : State) : Option Bytes × State :=
  let a := s.reg64 pgCs 0x48 % 2 ^ 48
  let n := fld (s.reg pgCs 0x50) 26 0
  if a % 64 ≠ 0 || n = 0 || !rangeInTier a n then (none, s)
  else
    let r := s.engRead 7 a n
    (if r.1.2 then none else some r.1.1, r.2)

/-- A bank holds at most one record per (TYPE, INSTANCE) (R468); an image that holds two is refused (log 41). -/
def onceEach (rs : List CsRec) : Bool := decide (rs.map (fun r => 2 ^ 16 * r.ty + r.inst)).Nodup

/-- The staged records are checked, then written to the inactive bank (R470). -/
def State.csLoadNow (s : State) : State :=
  let r := s.staged
  match r.1.bind (fun bs => parseRecs bs.length bs) with
  | some rs => if rs.all (·.2) && onceEach (rs.map (·.1)) then r.2.csBegin (some (rs.map (·.1))) true .flash else r.2.csRefuse 2
  | none => r.2.csRefuse 2

/-- The staged image can be read now: none of its tier memory is in standby (R357). -/
def State.stageAwake (s : State) : Bool :=
  let a := s.reg64 pgCs 0x48 % 2 ^ 48
  let n := fld (s.reg pgCs 0x50) 26 0
  !rangeInTier a n || s.rangeAwake a n

/-- One link block of a GQ4120 file as a type 6 body: each imported lane in its place, lane S 0 (R471). -/
def importBody (blk : Bytes) : Bytes :=
  (List.range 4).flatMap (fun k =>
    let v := blk.drop (2 + 130 * k)
    v.take 2 ++ (v.drop 2).take 64 ++ List.replicate 8 0 ++ (v.drop 66).take 64 ++ List.replicate 8 0)

/-- The four set temperatures of a type 6 body rise strictly. -/
def tempsRise (body : Bytes) : Bool :=
  let t (k : Nat) : Int := sAt body (146 * k) 2
  decide (t 0 < t 1) && decide (t 1 < t 2) && decide (t 2 < t 3)

/-- The link blocks of a valid GQ4120 file (Table 17.11). -/
def importFile (bs : Bytes) : Option (List (Nat × Bytes)) :=
  let n := leNat ((bs.drop 5).take 1)
  let body := bs.drop 16
  let blks := (List.range n).map (fun i =>
    let b := (body.drop (522 * i)).take 522
    (leNat (b.take 1), importBody b))
  if leNat (bs.take 4) = 0x4C432041 && leNat ((bs.drop 4).take 1) = 3 && 1 ≤ n && n ≤ 36
      && leNat ((bs.drop 8).take 4) = 522 * n && body.length = 522 * n
      && (crc32c body).toNat = leNat ((bs.drop 12).take 4)
      && blks.all (fun b => decide (b.1 < 36) && tempsRise b.2) then some blks
  else none

/-- Block by block, the file's links get type 6 records in place of theirs, in the U layer written to the inactive bank
(R471). -/
def State.csImportNow (s : State) : State :=
  let r := s.staged
  match r.1.bind importFile with
  | some blks =>
    let s := r.2.count pgCs 3
    let one (m : List CsRec) (b : Nat × Bytes) : List CsRec :=
      m.filter (fun q => !((q.ty == 4 || q.ty == 6) && q.inst == b.1)) ++ [⟨6, b.1, s.mg.time, 0, b.2⟩]
    s.csBegin (some (blks.foldl one s.uRecords)) true .flash
  | none => r.2.csRefuse 2

/-- A LOAD or an IMPORT reads its image, or waits while that lies in a tier in standby (R357). -/
def State.csStage (s : State) (imp : Bool) : State :=
  if s.stageAwake then (if imp then s.csImportNow else s.csLoadNow)
  else { s with mg := { s.mg with csWait := some imp, result := 1, reason := 0 } }

/-- What waited for its image goes on as soon as the tier is back. -/
def State.csRetry (s : State) : State :=
  match s.mg.csWait with
  | none => s
  | some imp => if s.stageAwake then State.csStage { s with mg := { s.mg with csWait := none } } imp else s

/-- CS_LOAD and CS_IMPORT (R470, R471). -/
def opCsLoad (p : Path) (s : State) : State := s.csCmd p (fun s => s.csStage false)
def opCsImport (p : Path) (s : State) : State := s.csCmd p (fun s => s.csStage true)

/-- The frame boundary's part: a COMMIT folds T into U on every tile, and its records are those of the new U (R182,
Table 17.10). It waits while the core is halted (R443). -/
def State.csBoundary (s : State) : State :=
  if 4 ≤ s.mg.cs && s.mg.csRecs.isNone && !s.mg.csLoad && s.sec.seq == some .calCommit then
    let s := forN 256 (fun t s => s.commitT t) s
    State.csErase { s with
      mg := { s.mg with csRecs := some s.uRecords }, sec := { s.sec with seq := if s.sec.haltPending then none else some .flash } }
  else s

/-- A write fails (Table 17.9): WRITE_FAIL, CNT1, the previous state; a bank whose header sector has been erased is invalid. -/
def State.csFail (s : State) (why : Nat) : State :=
  ({ s with mg := { s.mg with cs := s.mg.csPrev, result := 3, reason := why, csRecs := none, csLoad := false }
            sec := { s.sec with seq := none } }).countRaise pgCs 1 1

/-- The largest SEQ in a bank header whose CHECK matches, as step 5 of Table 17.10 finds them: the header of the bank being
written has been erased in step 3. -/
def State.seqMax (s : State) : Nat :=
  let q (b : Bool) : Nat :=
    let h := s.flashRead (bankBase b) 64
    if headOk h then leNat ((h.drop 8).take 8) else 0
  max (q false) (q true)

/-- A bank's bytes (Table 17.6). -/
def bankBytes (seq time : Nat) (recs : List CsRec) : Bytes × Bytes :=
  let body := recs.flatMap CsRec.toBytes
  let h := leBytes 4 0x4B4E4255 ++ leBytes 4 1 ++ leBytes 8 seq ++ leBytes 8 time ++ leBytes 4 recs.length
    ++ leBytes 4 body.length ++ leBytes 4 (crc32c body).toNat ++ List.replicate 24 0
  (h ++ leBytes 4 (crc32c h).toNat, body)

/-- BANK_WRITE_DONE: the bank is erased, programmed and read back valid, or the write fails (Tables 17.9, 17.10). -/
def opBankWriteDone (outcome : BankOutcome) (s : State) : State :=
  match s.mg.csRecs with
  | none => s
  | some recs =>
    if s.sec.seq != some .flash then s
    else match outcome with
      | .flashError => s.csFail 3
      | .badReadBack => s.csFail 5
      | .good =>
        let b := s.csBank
        let seq := (if s.mg.csPrev = 1 then s.seqMax else s.mg.seq) + 1
        let s := s.flashErase (bankBase b) bankSize
        let bs := bankBytes seq s.mg.time recs
        let s := (s.flashWrite (bankBase b) bs.1).flashWrite (bankBase b + 4096) bs.2
        let load := s.mg.csLoad
        let m := if b then { s.mg with bValid := true } else { s.mg with aValid := true }
        let s := { s with
          mg := { m with cs := if b then 3 else 2, result := 0, reason := 0, seq := seq, csRecs := none, csLoad := false }
          sec := { s.sec with seq := none } }
        let s := s.countRaise pgCs 0 0
        if load then s.applyU recs else s

/-! ### Interpolation (R472) -/

/-- The target of a value with knots `t`, `v` at temperature `num * 2^-k` in units of 1/256 °C (R472). -/
def laneTarget (ts vs : List Int) (num : Int) (k : Nat) : Int :=
  let t (i : Nat) : Int := ts.getD i 0
  let v (i : Nat) : Int := vs.getD i 0
  let d : Int := 2 ^ k
  let seg (i : Nat) : Int := roundHalfEven (v i * ((t (i + 1) - t i) * d) + (v (i + 1) - v i) * (num - t i * d)) ((t (i + 1) - t i) * d)
  if num ≤ t 0 * d then v 0
  else if t 3 * d ≤ num then v 3
  else if num < t 1 * d then seg 0
  else if num < t 2 * d then seg 1
  else seg 2

/-- A finite value as a numerator over a power of two, in units of 1/256. -/
def in256 (x : FV) : Int × Nat :=
  let n := x.num
  if 0 ≤ n.2 + 8 then (n.1 * 2 ^ (n.2 + 8).toNat, 0) else (n.1, (-(n.2 + 8)).toNat)

/-- LANE_INTERPOLATE: once every 1,024 slow rounds, each value of a link with a type 6 record moves one code towards its target at
the next frame boundary. -/
def opLaneInterpolate (l : Fin 36) (s : State) : State :=
  let x := s.lnk l.val
  if x.sets.isEmpty || s.mg.rounds % 1024 ≠ 0 || s.mg.rounds = x.stepAt || !s.en pgCs then s
  else
    let th := in256 (v32 s.modelTemp)
    let step := (List.range 72).foldl (fun m i =>
      let tgt := laneTarget (x.sets.map (·.1)) (x.sets.map (fun v => v.2.getD i 0)) th.1 th.2
      tset 0 i (tgt - tget 0 i x.calU).sign m) []
    s.setLnk l.val { x with step := step, stepAt := s.mg.rounds }

/-- The frame boundary's part: the steps due are made and counted (R472, Table 17.12). -/
def State.laneBoundary (s : State) : State :=
  forN 36 (fun l s =>
    let x := s.lnk l
    if x.step.isEmpty then s
    else
      let u := x.step.foldl (fun m e => tset 0 e.1 (tget 0 e.1 m + e.2) m) x.calU
      (s.laneChanged l { x with calU := u, step := [] }).count pgCs 4) s

/-! ### Firmware slots (R473) -/

/-- The base of a firmware slot. -/
def slotBase (b : Bool) : Nat := if b then 0x01000000 else 0

/-- While no firmware runs the boot ROM accepts the commands from the management side only (R432, R473). -/
def State.fwDeaf (s : State) (p : Path) : Bool := s.sec.started.isNone && p != .mgmt && p != .debug

/-- FW_ERASE: the slot is erased and a write starts; refused for the slot started at boot. -/
def opFwErase (p : Path) (slot : Bool) (s : State) : State :=
  if !s.mayPath p pgCs then s.deny p pgCs
  else if s.fwDeaf p || s.sec.started = some (b2n slot) then s.reject pgCs 4
  else
    let s := s.flashErase (slotBase slot) 0x1000000
    { s with mg := { s.mg with fwSlot := some slot, fwWords := 0, fwErr := false, fwLast := slot, fwBuf := [] } }

/-- FW_DATA: 4 bytes are appended, and a full page of 256 bytes is programmed; past the slot's end it is an error. -/
def opFwData (p : Path) (val : BitVec 32) (s : State) : State :=
  if !s.mayPath p pgCs then s.deny p pgCs
  else if s.fwDeaf p then s.reject pgCs 4
  else match s.mg.fwSlot with
    | none => s.reject pgCs 4
    | some b =>
      if 0x400000 ≤ s.mg.fwWords + s.mg.fwBuf.length / 4 then { s with mg := { s.mg with fwErr := true } }
      else
        let buf := s.mg.fwBuf ++ leBytes 4 val.toNat
        if buf.length < 256 then { s with mg := { s.mg with fwBuf := buf } }
        else
          let s := s.flashWrite (slotBase b + 4 * s.mg.fwWords) buf
          { s with mg := { s.mg with fwWords := s.mg.fwWords + 64, fwBuf := [] } }

/-- FW_FINISH: the last partial page is programmed and the write ends. -/
def opFwFinish (p : Path) (slot : Bool) (s : State) : State :=
  if !s.mayPath p pgCs then s.deny p pgCs
  else if s.mg.fwSlot = some slot && !s.fwDeaf p then
    let s := s.flashWrite (slotBase slot + 4 * s.mg.fwWords) s.mg.fwBuf
    { s with mg := { s.mg with fwWords := s.mg.fwWords + s.mg.fwBuf.length / 4, fwBuf := [], fwSlot := none } }
  else s.reject pgCs 4

/-! ### Start-up (R481) -/

/-- STARTUP_CAL_LOAD: started firmware selects a bank, brings F and U into force with T := 0 on tiles without an image, copies
the loop coefficients, loads and enables every zone, sets LOOP.CTRL.EN, and lets the lasers light (R477, R481). -/
def opStartupCalLoad (s : State) : State :=
  if s.sec.started.isSome && decide (s.mg.cs = 0) && !s.sec.halted then
    let s := forN 256 (fun t s =>
      let x := s.tl t
      s.setTl t { x with calT := [], noF := Config.fRecordBad t }) s
    let s := forN 36 (fun l s => s.setLnk l { s.lnk l with noF := Config.fRecordBad (256 + l) }) s
    let bad := ((List.range 292).filter Config.fRecordBad).length
    let s := if bad = 0 then s else (s.countN pgCs 2 bad).raise pgCs 3
    let s := s.selectBank
    let mem := forN 1024 (fun z m => forN 64 (fun i m =>
      tset 0 (64 * z + i) (leNat (s.flashRead (0x16000000 + 256 * z + 4 * i) 4)) m) m) []
    let s := { s with lp := { s.lp with mem := mem } }
    let r := State.zoneCmds 1 (List.range 1024) s
    let s := match r.1 with
      | none => r.2.setReg pgLoop 0x4C 0
      | some (z, why) => r.2.setReg pgLoop 0x4C (z * 2 ^ 16 + why * 2 ^ 4 + 2)
    let s := (State.zoneCmds 2 (List.range 1024) s).2
    let s := s.setReg pgLoop 0x10 1
    { s with pw := { s.pw with held := false } }
  else s

def execCsCommit (p : Path) (s : State) : Host.Outcome State Fault Refusal := done s (opCsCommit p s)
def execCsLoad (p : Path) (s : State) : Host.Outcome State Fault Refusal := done s (opCsLoad p s)
def execCsImport (p : Path) (s : State) : Host.Outcome State Fault Refusal := done s (opCsImport p s)
def execBankWriteDone (outcome : BankOutcome) (s : State) : Host.Outcome State Fault Refusal :=
  done s (opBankWriteDone outcome s)
def execLaneInterpolate (l : Fin 36) (s : State) : Host.Outcome State Fault Refusal := done s (opLaneInterpolate l s)
def execFwErase (p : Path) (slot : Bool) (s : State) : Host.Outcome State Fault Refusal := done s (opFwErase p slot s)
def execFwData (p : Path) (val : BitVec 32) (s : State) : Host.Outcome State Fault Refusal := done s (opFwData p val s)
def execFwFinish (p : Path) (slot : Bool) (s : State) : Host.Outcome State Fault Refusal := done s (opFwFinish p slot s)
def execStartupCalLoad (s : State) : Host.Outcome State Fault Refusal := done s (opStartupCalLoad s)

end Sys2Proof.Machine
end

