-- ==== Sys2Proof/Machine/Boundary.lean ====
section
/-!
DEFINITION. The frame boundary (R283 to R285, R291 to R294, R304, R305, R307, R405, R409, R417), the commit's application
to memory, and the restore (R414 to R418).
-/
namespace Sys2Proof.Machine

/-! ### Settings that come into force at a boundary -/

/-- The commit windows as the registers hold them (R307). -/
def State.applyWins (s : State) : State :=
  let w (i : Nat) : Win :=
    ⟨s.reg64 pgFrame (0x200 + 16 * i) % 2 ^ 48 / 4096 * 4096, fld (s.reg pgFrame (0x208 + 16 * i)) 23 0,
      bitOf (s.reg pgFrame (0x20C + 16 * i)) 0⟩
  { s with fr := { s.fr with wins := forN 16 (fun i m => tset {} i (w i) m) [] } }

/-- The event log's area lies in tier-1 or tier-2, outside the calibration image area (R426). -/
def logPlaced (base log2 : Nat) : Bool :=
  rangeInTier base (32 * 2 ^ log2) && !inCalArea base (32 * 2 ^ log2)

/-- The event log's settings (R426, R428): a change of its place or size restarts LOG_HEAD at 0; a misplaced log is off. -/
def State.applyLog (s : State) : State :=
  let base := s.reg64 pgReg 0x70 % 2 ^ 48
  let cfg := s.reg pgReg 0x78
  let l := fld cfg 4 0
  let same := decide (base = s.rg.logBase) && decide (l = s.rg.logLog2)
  { s with rg := { s.rg with logBase := base, logLog2 := l, logOn := bitOf cfg 31 && logPlaced base l,
                             logHead := if same then s.rg.logHead else 0 } }

/-! ### The frame that ends -/

/-- The slack of a frame (R300): −1 with an overrun, 1,000 with no counted action. -/
def State.frameSlack (s : State) : Int := if s.fr.overrun then -1 else s.fr.slack.getD 1000

/-- The governor's window takes the ended frame's slack, when it has any (R301). -/
def State.govFrame (s : State) : State :=
  let g := s.gov
  let v : Option Int := if s.fr.overrun then some (-1) else s.fr.slack
  let least := match v, g.least with
    | some a, some b => some (min a b)
    | some a, none => some a
    | none, b => b
  { s with gov := { g with least := least, overran := g.overran || s.fr.overrun } }

/-- The frame in progress ends: actions of it not complete have passed their bounds (R299), its slack is shown (R300), and in
ACQUIRE and RESYNC its records count as not started (R292). Actions that never complete are dropped. -/
def State.closeFrame (s : State) : State :=
  let open' := s.fr.acts.filter (fun a => a.frame == s.fr.num && !a.late)
  let s := forL open' (fun a s => s.overrunAct a) s
  let s := if s.running then s else s.skipRecs
  let s := (s.setReg pgFrame 0x80 (s.fr.slackRec % 2 ^ 16 * 2 ^ 16 + untwos 12 s.frameSlack)).govFrame
  { s with fr := { s.fr with acts := s.fr.acts.filter (fun a => !a.never) } }

/-- The counter of ticks within the frame starts again; PENDING moves by what the frame was slewed (R288). -/
def State.turn (s : State) (n : Nat) : State :=
  { s with fr := { s.fr with
      num := n, tif := 0, lastLen := ((s.frameLen : Int) + s.fr.slew).toNat, pending := s.fr.pending - s.fr.slew, slew := 0
      judged := false, nextRec := 0, starts := [], slack := none, slackRec := 0, overrun := false
      memNow := s.mem.bytes, memPrev := s.fr.memNow, charged := s.fr.charged.filter (fun f => decide (n ≤ f + 16)) }
           stm := { s.stm with wrote := [] } }

/-! ### Commit (R305, R307, R416, R418) -/

/-- Frame `p` commits: its staged writes are released in issue order, its receive entries and record are freed. -/
def State.commitFrame (s : State) (p : Nat) : State :=
  let s := { s with
    fr := { s.fr with
      committed := p, comNext := p + 1, applying := s.fr.applying ++ s.fr.buf.filter (fun (w : Staged) => w.frame == p)
      buf := s.fr.buf.filter (fun (w : Staged) => w.frame != p), faulted := s.fr.faulted.filter (· != p) }
    rg := { s.rg with
      recs := s.rg.recs.filter (fun r => decide (p < r.frame)), replays := tset 0 p 0 s.rg.replays
      replayTo := if s.rg.replayTo = some p then none else s.rg.replayTo } }
  (s.count pgFrame 1).freeEntries p

/-- The commits of the boundary that ends frame `f`: every frame whose LAG has passed, in order; a discarded one never
commits. -/
def State.commits (s : State) (f : Nat) : State :=
  forN (min 16 (f + 1 - s.fr.lag - s.fr.comNext)) (fun _ s =>
    let p := s.fr.comNext
    if s.fr.disc.contains p then { s with fr := { s.fr with comNext := p + 1, disc := s.fr.disc.filter (· != p) } }
    else s.commitFrame p) s

/-! ### Records (R409, R411) -/

/-- The envelopes whose list or stream start is in progress: queue and position. -/
def State.envsInProgress (s : State) : List (Nat × Nat) :=
  let l (v : Option VList) : List (Nat × Nat) := match v with
    | some x => if x.ended then [] else x.env.toList
    | none => []
  s.vsu.flatMap (fun e => l e.2.cur ++ l e.2.susp) ++ s.stm.ctx.flatMap (fun e => if e.2.st = 1 then e.2.env.toList else [])

/-- For each such queue the oldest position: the farthest behind HEAD. -/
def State.oldestHeads (s : State) : List (Nat × Nat) :=
  let ps := s.envsInProgress
  ((ps.map (·.1)).dedup).map (fun q =>
    let d (x : Nat) : Nat := posDiff (s.qd q).head x
    (q, ((ps.filter (fun p => p.1 == q)).map (·.2)).foldl (fun m x => if d m < d x then x else m) (s.qd q).head))

/-- The position of the first byte of the first slot not freed, for a stream that fills a tile ring or a hub slot ring
(Table 15.3). -/
def State.backOf (s : State) (c : Nat) : Option Nat :=
  let x := s.cx c
  if x.st ≠ 2 then none
  else if x.kind = 1 then some (x.pos - ((s.tl x.tileOf).wSrc.filter (· == c)).length)
  else if x.kind = 2 then
    let sz := max (s.tl (x.tiles.headD 0)).aSize 1
    let n := x.tiles.foldl (fun m t => max m (((s.tl t).aSrc.filter (fun a => a / 2 == c)).length)) 0
    some ((x.pos / sz - n) * sz)
  else if x.kind ≠ 4 && x.dstG.ring then some (min x.pos (s.cell x.dstG.empty * x.dstG.size))
  else none

/-- The check units bound at this moment (R239, R238). -/
def State.boundUnits (s : State) : List Nat :=
  (List.range 32).filter (fun u => (tget none u s.chk).isSome || (s.en (pgCheck u) && bitOf (s.reg (pgCheck u) 0x40) 1))

/-- The registry opens a record for the frame that starts (R409, Table 15.4); one without room overflows (R413). -/
def State.openRecord (s : State) : State :=
  if s.running && s.en pgReg then
    let n := s.fr.num
    let area := max s.regArea 1
    let off := match s.rg.recs.getLast? with
      | some r => (r.off + r.span) % area
      | none => 0
    let r : Rec := {
      frame := n, startTick := s.tb.tick, dir := s.fr.dir, cycle := s.fr.cycle, len := s.fr.len, lag := s.fr.lag
      reLog := s.fr.reLog, replays := tget 0 n s.rg.replays
      replay := match s.rg.replayTo with | some t => decide (n ≤ t) | none => false
      off := off, bytes := 64, undo := [], heads := s.oldestHeads
      backs := s.stm.ctx.filterMap (fun e => (s.backOf e.1).map (fun p => (e.1, p))), units := s.boundUnits }
    if s.regUsed + 64 ≤ s.regArea then
      let s := { s with rg := { s.rg with recs := s.rg.recs ++ [r] } }
      ((s.regPut off r.header).regPeak).count pgReg 0
    else
      let s := (s.countRaise pgReg 7 4).log pgReg 7 3 (n % 2 ^ 32)
      s.frameFault 13 n
  else s

/-! ### The frame that starts -/

/-- The boundary starts a frame whose number is a multiple of 2^RE_LOG2 (R285). -/
def State.isReentry (s : State) (n : Nat) : Bool := decide (n % 2 ^ s.fr.reLog = 0)

/-- A re-entry point: FRAME_CFG comes into force (R283), a change of reference is made (Table 10.3), and a member with three
good events enters LOCKED (R291). A change written before RESYNC is taken here too, and alignment starts anew (R310). -/
def State.reenter (s : State) : State :=
  let s := s.applyCfg
  let v := s.reg pgFrame 0x44
  let src := fld v 1 0
  let l := fld v 13 8
  let same := decide (src = s.fr.src) && decide (l = s.fr.refLink)
  match s.fr.st with
  | .free =>
    if src = 0 then { s with fr := { s.fr with refLink := l } }
    else if s.tb.localOsc || s.tb.confined then
      (s.setReg pgFrame 0x44 (setFld (setFld v 1 0 s.fr.src) 13 8 s.fr.refLink)).reject pgFrame 9
    else { s with fr := { s.fr with src := src, refLink := l, st := .locked, slipRun := 0, pending := 0, refNext := s.fr.num } }.raise pgFrame 4
  | .locked =>
    if same then s
    else if src = 0 then { s with fr := { s.fr with src := 0, refLink := l, st := .free, slipRun := 0, pending := 0 } }
    else { s with fr := { s.fr with src := src, refLink := l, slipRun := 0, pending := 0, refNext := s.fr.num } }
  | _ =>
    if !same then s.applyAlign
    else if 3 ≤ s.fr.goodRun && (decide (s.fr.st = .acquire) || decide (s.fr.st = .resync)) then
      { s with fr := { s.fr with st := .locked, comNext := s.fr.num, disc := [] } }.raise pgFrame 4
    else s

/-- The tiles that a boundary could change: those the state lists and those whose page holds a written register. -/
def State.tilesInUse (s : State) : List Nat :=
  (List.range 256).filter (fun t => s.tile.any (fun e => e.1 == t) || s.regs.any (fun e => e.1 / 4096 == pgTile t))

/-- A window of 2^`w` frames ends at the boundary that starts frame `n`. -/
def windowEnds (n w : Nat) : Bool := decide (n % 2 ^ w = 0)

/-- The frame numbered FRAME_NUM starts: links, lanes, calibration commits and tiles, the record, queues and admission, in this
order (R409, R255), and the launch unit reads its plan (R293). `ended` tells that a frame has ended here. -/
def State.startFrame (s : State) (ended reentry : Bool) : State :=
  let n := s.fr.num
  let s := s.count pgFrame 0
  let s := ((s.linkBoundary reentry s.running).laneBoundary).csBoundary
  let s := (forL s.tilesInUse (fun t s => s.tileBoundary t) s).a1Follow
  let dl := ended && windowEnds n (fld (s.reg pgQueue 0x48) 3 0)
  let s := if dl then (opDlWindowEnd s).dlClose else s
  let s := (s.openRecord.queueBoundary n).admitBoundary
  let s := if s.running then s.planFetch else s
  let gv := ended && windowEnds n (min 8 (fld (s.reg pgGov 0x40) 7 4))
  { s with fr := { s.fr with started := true, govDue := s.fr.govDue || gv } }

/-- The settings every boundary brings into force: commit windows, the armed plan switch, the event log. -/
def State.applyBoundary (s : State) : State :=
  let s := s.applyWins
  let s := match s.fr.switchAt with
    | some f => if f ≤ s.fr.num then s.applyPlan.raise pgFrame 5 else s
    | none => s
  s.applyLog

/-- The frame unit enters HALTED at the boundary (Table 10.3): pending frames are discarded without a commit, records freed,
settings held for later boundaries come into force, and the counter stops at the number the boundary would have started
(log 37). -/
def State.haltNow (s : State) : State :=
  let s := if s.rg.restoring || s.rg.restoreDue then s.regHalt s.rg.last 1 else s
  let s := s.discardFrom s.fr.comNext
  let s := { s with
    fr := { s.fr with st := .halted, acts := [], buf := [], faulted := [], disc := [], started := false, nextRec := 65536 }
    rg := { s.rg with recs := [], pend := none, restoring := false, restoreDue := false, echo := none, replayTo := none, replays := [] }
    sy := { s.sy with waits := [] }
    q := { s.q with opDue := [], admDue := [], admLate := [] }
    stm := { s.stm with wrote := [] } }
  let s := if s.softDue pgFrame then s.softPage pgFrame else s
  let s := { s with fr := { s.fr with haltDue := false } }
  let s := s.applyCfg.applyAlign.applyPlan.applyOsc.applyBoundary
  let s := s.laneBoundary.csBoundary
  let s := (forL s.tilesInUse (fun t s => s.tileBoundary t) s).a1Follow
  s.queueBoundary s.fr.num

/-- A boundary that ends frame `f` in the ordinary way. -/
def State.plainBoundary (s : State) (f : Nat) : State :=
  let vetoed := match s.rg.pend with | some v => decide (v.g ≤ f) | none => false
  let s := { s with rg := { s.rg with echo := none } }
  let s := if s.running then (if vetoed then s.discardFrame f else s).commits f else s.dropFrame f
  let re := s.isReentry s.fr.num
  let s := if re then s.reenter else s
  s.applyBoundary.startFrame true re

/-! ### The restore boundary (R405, R414 to R418) -/

/-- The record of frame `g`, when the registry holds it. -/
def State.recOf (s : State) (g : Nat) : Option Rec := if s.en pgReg then s.rg.recs.find? (fun r => r.frame == g) else none

/-- The restore boundary that ends frame `f` for veto `v` (R414): the counter goes to g − 1, RESTORING is set; no commit,
admission or record is made. Without g's record, or past the replay limit, the module halts instead (R415, R418). -/
def State.restoreBoundary (s : State) (f : Nat) (v : Veto) : State :=
  let lim := fld (s.reg pgReg 0x4C) 2 0
  let made := tget 0 v.g s.rg.replays
  match s.recOf v.g with
  | none => (s.regHalt v.g 1).haltNow
  | some r =>
    if lim ≤ made then (s.regHalt v.g 0).haltNow
    else
      let lag := s.fr.lag
      let s := s.discardFrame f
      let n := (v.g + 2 ^ 64 - 1) % 2 ^ 64
      let s := { s with
        fr := { s.fr with num := n, len := r.len, nextRec := 65536, disc := [], charged := [], refNext := n }
        rg := { s.rg with
          pend := none, last := v.g, lastOwn := v.own, lastOrigin := v.origin, restoring := true, restoreDue := true
          echo := some (v.g, v.g + lag), held := s.rg.held.filter (fun h => decide (h.1 < v.g) || decide (v.g + lag < h.1))
          replays := tset 0 v.g (made + 1) s.rg.replays, replayTo := some (v.g + lag), applied := 0 } }
      let s := s.applyBoundary.count pgFrame 0
      let s := forN 36 (fun l s => if (s.lnk l).carries then s.setLnk l { s.lnk l with stale := some n, rx := none } else s) s
      let s := (s.linkBoundary false s.running).laneBoundary.csBoundary
      let s := (forL s.tilesInUse (fun t s => s.tileBoundary t) s).a1Follow
      { s with q := { s.q with admDue := [], admLate := [] } }.queueBoundary n

/-- The restore boundary has come: the end of frame g + LAG (R405). -/
def State.restoreHere (s : State) (f : Nat) : Option Veto :=
  match s.rg.pend with
  | some v => if s.running && decide (v.g + s.fr.lag ≤ f) then some v else none
  | none => none

/-- FRAME_BOUNDARY: the first boundary after HALTED starts the frame numbered FRAME_NUM; every other ends the current frame,
when its ticks have passed (R284, R288, Table 10.3). -/
def opFrameBoundary (s : State) : State :=
  if s.fr.st = .halted then s
  else if s.fr.st = .free && !s.fr.started then
    if 1 ≤ s.fr.tif then
      if s.fr.haltDue || !s.en pgFrame || s.softDue pgFrame then s.softBoundary.haltNow
      else
        let s := { s.softBoundary with fr := { s.softBoundary.fr with
          tif := 0, nextRec := 0, memNow := s.softBoundary.mem.bytes, memPrev := s.softBoundary.fr.memNow } }
        let re := s.isReentry s.fr.num
        let s := if re then s.reenter else s
        s.applyBoundary.startFrame false re
    else s
  else if (s.frameLen : Int) + s.fr.slew ≤ s.fr.tif then
    let f := s.fr.num
    let s := s.closeFrame.softBoundary.turn ((f + 1) % 2 ^ 64)
    if s.fr.haltDue || !s.en pgFrame || s.softDue pgFrame || s.rg.restoring then s.haltNow
    else match s.restoreHere f with
      | some v => s.restoreBoundary f v
      | none => s.plainBoundary f
  else s

/-- A released granule as the commit buffer gives it up: an error of one bit in a word is corrected, a greater one leaves zeros
marked poisoned, recorded at a place in the buffer that the spec does not give (R515, log 63). -/
def State.unstage (s : State) (w : Staged) : Staged × State :=
  if w.err = 0 then (w, s)
  else if w.err = 1 then ({ w with err := 0 }, s.sramFixed)
  else
    let r := s.draw
    ({ w with err := 0, poison := true, data := w.data.map (fun b => b.map (fun _ => 0)) },
      r.2.sramLost w.src (0x4000D000000 + 64 * (r.1 % 131072)))

/-- COMMIT_GRANULE_APPLY: the oldest released granule is applied to memory (R307); it waits while a controller is in
standby. With the last one in memory, the completions that waited are admitted. -/
def opCommitGranuleApply (s : State) : State :=
  match s.fr.applying with
  | [] => s
  | w :: ws =>
    if s.rangeAwake (64 * w.addr) 64 then
      let r := { s with fr := { s.fr with applying := ws } }.unstage w
      (r.2.gWrite r.1.src r.1.addr r.1.data r.1.poison .clean).barRelease.tryAdmit
    else s

/-! ### The restore (Table 15.7) -/

/-- A descriptor half at its opening value: all of it for KIND 1; HEAD, ADMIT and ALIVE for KIND 2 (Table 15.3). -/
def QDesc.back (d : QDesc) (word val : Nat) : QDesc :=
  let w := if word = 0 then QDesc.ofWords val d.q1 else QDesc.ofWords d.q0 val
  if d.kind = 2 then
    if word = 0 then { d with head := w.head, alive := w.alive } else { d with admPos := w.admPos }
  else w

/-- The receive entries of a class between two indices: those consumed and not yet freed come back (R416). -/
def LinkS.rewind (x : LinkS) (cls wr rd : Nat) : LinkS :=
  let gone := x.eaten.filter (fun e => e.1.cls == cls)
  let cur := if cls = 0 then x.rx0 else x.rx1
  let now := if cls = 0 then x.rd0 else x.rd1
  let base := (now + 4096 - gone.length % 4096) % 4096
  let k := (rd + 4096 - base) % 4096
  let n := (wr + 4096 - rd) % 4096
  let seq := ((gone.map (·.1) ++ cur).drop k).take n
  let keep := gone.take k ++ x.eaten.filter (fun e => e.1.cls != cls)
  if cls = 0 then { x with rx0 := seq, rd0 := rd, wr0 := wr, eaten := keep } else { x with rx1 := seq, rd1 := rd, wr1 := wr, eaten := keep }

/-- An undo entry is applied (Tables 15.3, 15.6). -/
def State.applyUndo (u : Undo) (s : State) : State :=
  match u.kind with
  | 1 => s.setQd u.id ((s.qd u.id).back u.word u.val)
  | 2 => { s with sy := { s.sy with cells := tset 0 u.id u.val s.sy.cells } }.judgeCell u.id
  | 3 =>
    let x := s.cx u.id
    if u.word = 0 then s.setCx u.id { x with pos := fld u.val 39 0, st := fld u.val 42 40 }
    else s.setCx u.id { x with desc := fld u.val 47 0, w := [] }
  | 4 =>
    let l := u.id % 64
    let cls := u.id / 64
    let x := s.lnk l
    if u.word = 0 then
      let y := x.rewind cls (fld u.val 11 0) (fld u.val 27 16)
      s.setLnk l (if cls = 0 then { y with ex0 := fld u.val 47 32 } else { y with ex1 := fld u.val 47 32 })
    else if cls = 0 then s.setLnk l { x with tx0 := fld u.val 15 0 }
    else s.setLnk l { x with tx1 := fld u.val 15 0, freed := fld u.val 31 16 }
  | 5 => s.setReg64 (pgCheck u.id) 0x48 u.val
  | 6 =>
    s.gWrite 7 (s.slotAddr (s.qd u.id) u.val / 64) (u.env.map some) u.pois .clean
  | _ => s

/-- The live undo entries from the newest record down to frame `g`'s, newest first. -/
def State.undoList (s : State) (g : Nat) : List Undo :=
  ((s.rg.recs.filter (fun r => decide (g ≤ r.frame))).reverse).flatMap (fun r => (r.undo.filter (·.live)).reverse)

/-- The words of a context's descriptor, and for WEIGHT of its block header, as memory holds them (R419 keeps them). -/
def State.rereadDesc (s : State) (x : Ctx) : List Nat :=
  let w := (List.range 8).map (fun i => s.peek (x.desc + 8 * i) 8)
  let y := { x with w := w }
  if y.kindOf = 1 then w ++ [s.peek y.srcBase 8, s.peek (y.srcBase + 8) 8] else w

/-- A context ACTIVE at the opening starts again from the position restored, or from the first slot not freed, with its bucket
full and its destination ring empty; any other drops what it had in flight (Table 15.3, R227). -/
def State.restartCtx (s : State) (backs : List (Nat × Nat)) (c : Nat) : State :=
  let x := s.cx c
  let calm : Ctx := { x with reqs := [], buf := [], bufP := [], stop := false, part := 0, act := none }
  if x.st = 2 then
    let y := { calm with w := if x.w.isEmpty then s.rereadDesc x else x.w }
    let y := { y with kind := y.kindOf }
    let p := match backs.find? (fun b => b.1 == c) with
      | some b => b.2
      | none => x.pos
    let y := { y with pos := p, issued := if y.kind = 1 then p * y.setBytes else p, bucket := y.burst * 4096
                      dstN := if y.dstG.ring then p / max y.dstG.size 1 else 0
                      srcN := if y.srcG.ring then p / max y.srcG.size 1 else 0
                      part := if y.kind = 5 then p % 256 else 0 }
    let s := s.setCx c y
    let u := fld (y.dw 0) 12 8
    let s := if bitOf (y.dw 0) 6 && (tget none u s.chk).isNone then { s with chk := tset none u (some c) s.chk } else s
    if y.kind ≠ 1 && y.kind ≠ 2 && y.kind ≠ 4 && y.dstG.ring then
      { s with sy := { s.sy with cells := tset 0 y.dstG.full (s.cell y.dstG.empty) s.sy.cells } }.judgeCell y.dstG.full
    else s
  else (s.setCx c calm).unbindCtx c

/-- Pending envelopes of a KIND 2 queue stamped `g` or later are restamped `g` (Table 15.3). -/
def State.restampFrom (s : State) (q g : Nat) : State :=
  let d := s.qd q
  if d.kind = 2 then
    forN (posDiff d.tail d.admPos) (fun i s =>
      let a := s.slotAddr d ((d.admPos + i) % 2 ^ 21) / 64
      let r := s.gRead 7 a .clean
      let e := r.1.1
      let f := s.full32 (envW1 e / 2 ^ 32)
      if g ≤ f then
        r.2.gWrite 7 a ((envWith e (envW0 e) (envW1 e % 2 ^ 32 + g % 2 ^ 32 * 2 ^ 32)).map some) r.1.2 .clean
      else r.2) s
  else s

/-- Running work is abandoned (Table 15.7, step 2): actions, waits, lists, windows, flits not yet sent. -/
def State.abandon (s : State) (g : Nat) : State :=
  let s := { s with fr := { s.fr with acts := [] }, sy := { s.sy with waits := [] }, q := { s.q with opDue := [] }
                    vsu := (s.vsu.map (fun e => (e.1, ({ fault := e.2.fault } : Lane)))).filter (fun e => e.2 ≠ {}) }
  forN 36 (fun l s =>
    let x := s.lnk l
    s.setLnk l { x with wins := [], txq := [], run := 0, runHdr := none,
                        fwd := x.fwd.filter (fun f => decide (s.full32 f.postmark < g)) }) s

/-- RESTORE: steps 2 to 4 of Table 15.7. -/
def opRestore (s : State) : State :=
  if s.rg.restoreDue then
    let g := s.rg.last
    let us := s.undoList g
    let s : State := forL us State.applyUndo (s.abandon g)
    let s : State := (s.countN pgReg 8 us.length)
    let r := s.recOf g
    let s : State := forL ((r.map (·.heads)).getD []) (fun h (s : State) => s.setQd h.1 { s.qd h.1 with head := h.2 }) s
    let s : State := forL (s.q.desc.map (·.1)) (fun q (s : State) => s.restampFrom q g) s
    let adm : Tbl (List (Nat × Nat)) := s.q.admAt.map (fun e => (e.1, e.2.filter (fun a => decide (a.2 < g))))
    let tiles : Tbl Tile := s.tile.map (fun e => (e.1, e.2.empty))
    let s : State := { s with q := { s.q with admAt := adm.filter (fun e => !e.2.isEmpty) }
                              tile := tiles.filter (fun e => decide (e.2 ≠ {})) }
    let s : State := forL (s.stm.ctx.map (·.1)) (fun c (s : State) => s.restartCtx ((r.map (·.backs)).getD []) c) s
    { s with rg := { s.rg with restoreDue := false, applied := us.length } }
  else s

/-- The last tick by which a restore must be complete (Table 15.7, step 5). -/
def State.restoreInTime (s : State) : Bool := decide (s.fr.tif + 16 ≤ s.frameLen)

/-- The frame of a plan switch that the restored frames made: the first record with another directory or CYCLE than g's. -/
def State.switchAgain (s : State) (r : Rec) : Option Nat :=
  match s.rg.recs.find? (fun q => decide (r.frame < q.frame) && (q.dir != r.dir || q.cycle != r.cycle)) with
  | some q => some q.frame
  | none => if s.fr.dir != r.dir || s.fr.cycle != r.cycle then some (r.frame + 1) else none

/-- RESTORE_COMPLETE: directory, CYCLE and configuration are set from g's header, RESTORING clears, RESTORED is raised, and the
restore is logged (Table 15.7, step 5; Table 15.9). -/
def opRestoreComplete (s : State) : State :=
  if s.rg.restoring && !s.rg.restoreDue && s.restoreInTime then
    let g := s.rg.last
    match s.recOf g with
    | none => s
    | some r =>
      let again := s.switchAgain r
      let s := { s with
        fr := { s.fr with
          dir := r.dir, cycle := r.cycle, len := r.len, lag := r.lag, reLog := r.reLog
          switchAt := match again with | some f => some f | none => s.fr.switchAt }
        rg := { s.rg with restoring := false, recs := s.rg.recs.filter (fun q => decide (q.frame < g)) } }
      let s := s.countRaise pgReg 1 2
      s.log pgReg 4 0 (g % 2 ^ 32 + tget 0 g s.rg.replays % 8 * 2 ^ 32 + s.rg.applied % 2 ^ 24 * 2 ^ 40)
  else s

/-- RESTORE_LATE: a restore not complete by tick FRAME_LEN − 16 halts the module (R415). -/
def opRestoreLate (s : State) : State :=
  if (s.rg.restoring || s.rg.restoreDue) && !s.restoreInTime then
    { s.regHalt s.rg.last 1 with rg := { (s.regHalt s.rg.last 1).rg with restoring := false, restoreDue := false } }
  else s

def execFrameBoundary (s : State) : Host.Outcome State Fault Refusal := done s (opFrameBoundary s)
def execCommitGranuleApply (s : State) : Host.Outcome State Fault Refusal := done s (opCommitGranuleApply s)
def execRestore (s : State) : Host.Outcome State Fault Refusal := done s (opRestore s)
def execRestoreComplete (s : State) : Host.Outcome State Fault Refusal := done s (opRestoreComplete s)
def execRestoreLate (s : State) : Host.Outcome State Fault Refusal := done s (opRestoreLate s)

end Sys2Proof.Machine
end

