-- ==== Sys2Proof/Machine/Crypto.lean ====
section
/-!
DEFINITION. SHA-384 (FIPS 180-4) and the verification of ECDSA P-384 signatures (FIPS 186-5), which R432 and R441 use.
-/
namespace Sys2Proof.Machine

/-! ### SHA-384 -/

/-- The round constants of SHA-384. -/
def shaKA : List (BitVec 64) := [
  0x428a2f98d728ae22#64, 0x7137449123ef65cd#64, 0xb5c0fbcfec4d3b2f#64, 0xe9b5dba58189dbbc#64,
  0x3956c25bf348b538#64, 0x59f111f1b605d019#64, 0x923f82a4af194f9b#64, 0xab1c5ed5da6d8118#64,
  0xd807aa98a3030242#64, 0x12835b0145706fbe#64, 0x243185be4ee4b28c#64, 0x550c7dc3d5ffb4e2#64,
  0x72be5d74f27b896f#64, 0x80deb1fe3b1696b1#64, 0x9bdc06a725c71235#64, 0xc19bf174cf692694#64,
  0xe49b69c19ef14ad2#64, 0xefbe4786384f25e3#64, 0x0fc19dc68b8cd5b5#64, 0x240ca1cc77ac9c65#64,
  0x2de92c6f592b0275#64, 0x4a7484aa6ea6e483#64, 0x5cb0a9dcbd41fbd4#64, 0x76f988da831153b5#64,
  0x983e5152ee66dfab#64, 0xa831c66d2db43210#64, 0xb00327c898fb213f#64, 0xbf597fc7beef0ee4#64,
  0xc6e00bf33da88fc2#64, 0xd5a79147930aa725#64, 0x06ca6351e003826f#64, 0x142929670a0e6e70#64,
  0x27b70a8546d22ffc#64, 0x2e1b21385c26c926#64, 0x4d2c6dfc5ac42aed#64, 0x53380d139d95b3df#64,
  0x650a73548baf63de#64, 0x766a0abb3c77b2a8#64, 0x81c2c92e47edaee6#64, 0x92722c851482353b#64]

/-- The round constants of SHA-384, second half. -/
def shaKB : List (BitVec 64) := [
  0xa2bfe8a14cf10364#64, 0xa81a664bbc423001#64, 0xc24b8b70d0f89791#64, 0xc76c51a30654be30#64,
  0xd192e819d6ef5218#64, 0xd69906245565a910#64, 0xf40e35855771202a#64, 0x106aa07032bbd1b8#64,
  0x19a4c116b8d2d0c8#64, 0x1e376c085141ab53#64, 0x2748774cdf8eeb99#64, 0x34b0bcb5e19b48a8#64,
  0x391c0cb3c5c95a63#64, 0x4ed8aa4ae3418acb#64, 0x5b9cca4f7763e373#64, 0x682e6ff3d6b2b8a3#64,
  0x748f82ee5defb2fc#64, 0x78a5636f43172f60#64, 0x84c87814a1f0ab72#64, 0x8cc702081a6439ec#64,
  0x90befffa23631e28#64, 0xa4506cebde82bde9#64, 0xbef9a3f7b2c67915#64, 0xc67178f2e372532b#64,
  0xca273eceea26619c#64, 0xd186b8c721c0c207#64, 0xeada7dd6cde0eb1e#64, 0xf57d4f7fee6ed178#64,
  0x06f067aa72176fba#64, 0x0a637dc5a2c898a6#64, 0x113f9804bef90dae#64, 0x1b710b35131c471b#64,
  0x28db77f523047d84#64, 0x32caab7b40c72493#64, 0x3c9ebe0a15c9bebc#64, 0x431d67c49c100d4c#64,
  0x4cc5d4becb3e42b6#64, 0x597f299cfc657e2a#64, 0x5fcb6fab3ad6faec#64, 0x6c44198c4a475817#64]

/-- The initial hash value of SHA-384. -/
def shaInit : List (BitVec 64) := [
  0xcbbb9d5dc1059ed8#64, 0x629a292a367cd507#64, 0x9159015a3070dd17#64, 0x152fecd8f70e5939#64,
  0x67332667ffc00b31#64, 0x8eb44a8768581511#64, 0xdb0c2e0d64f98fa7#64, 0x47b5481dbefa4fa4#64]

/-- A big-endian list of bytes as a number. -/
def beNat (bs : Bytes) : Nat := bs.foldl (fun n b => 256 * n + b.toNat) 0

/-- The low `n` bytes of a number, most significant first. -/
def beBytes (n v : Nat) : Bytes := (leBytes n v).reverse

def rotr64 (x : BitVec 64) (n : Nat) : BitVec 64 := (x >>> n) ||| (x <<< (64 - n))

/-- One more word of the message schedule; the newest word stands first. -/
def shaNext (w : List (BitVec 64)) : BitVec 64 :=
  let a := w.getD 14 0
  let b := w.getD 1 0
  (rotr64 b 19 ^^^ rotr64 b 61 ^^^ (b >>> 6)) + w.getD 6 0 + (rotr64 a 1 ^^^ rotr64 a 8 ^^^ (a >>> 7)) + w.getD 15 0

/-- The schedule's words, newest first, after `n` more of them. -/
def shaSched : Nat → List (BitVec 64) → List (BitVec 64)
  | 0, w => w
  | n + 1, w => shaSched n (shaNext w :: w)

/-- One round over the eight working variables. -/
def shaRound (v : List (BitVec 64)) (kw : BitVec 64) : List (BitVec 64) :=
  match v with
  | [a, b, c, d, e, f, g, h] =>
    let t1 := h + (rotr64 e 14 ^^^ rotr64 e 18 ^^^ rotr64 e 41) + ((e &&& f) ^^^ (~~~e &&& g)) + kw
    let t2 := (rotr64 a 28 ^^^ rotr64 a 34 ^^^ rotr64 a 39) + ((a &&& b) ^^^ (a &&& c) ^^^ (b &&& c))
    [t1 + t2, a, b, c, d + t1, e, f, g]
  | _ => v

/-- The sixteen words of a 128-byte block, in order. -/
def shaWords : Nat → Bytes → List (BitVec 64)
  | 0, _ => []
  | n + 1, bs => BitVec.ofNat 64 (beNat (bs.take 8)) :: shaWords n (bs.drop 8)

/-- The hash value after a block. -/
def shaBlock (h : List (BitVec 64)) (blk : Bytes) : List (BitVec 64) :=
  let w := (shaSched 64 (shaWords 16 blk).reverse).reverse
  let v := ((shaKA ++ shaKB).zip w).foldl (fun v kw => shaRound v (kw.1 + kw.2)) h
  (h.zip v).map (fun x => x.1 + x.2)

/-- The hash value after `n` blocks. -/
def shaBlocks : Nat → List (BitVec 64) → Bytes → List (BitVec 64)
  | 0, h, _ => h
  | n + 1, h, bs => shaBlocks n (shaBlock h (bs.take 128)) (bs.drop 128)

/-- The message with its padding: a 1 bit, zeros, and its length in bits as 128 bits. -/
def shaPad (m : Bytes) : Bytes :=
  m ++ [0x80#8] ++ List.replicate ((239 - m.length % 128) % 128) 0 ++ beBytes 16 (8 * m.length)

/-- SHA-384 of a message: 48 bytes. -/
def sha384 (m : Bytes) : Bytes :=
  let p := shaPad m
  ((shaBlocks (p.length / 128) shaInit p).take 6).flatMap (fun w => beBytes 8 w.toNat)

/-! ### ECDSA P-384 -/

def p384 : Nat := 2 ^ 384 - 2 ^ 128 - 2 ^ 96 + 2 ^ 32 - 1
def p384n : Nat := 0xffffffffffffffffffffffffffffffffffffffffffffffffc7634d81f4372ddf581a0db248b0a77aecec196accc52973
def p384b : Nat := 0xb3312fa7e23ee7e4988e056be3f82d19181d9c6efe8141120314088f5013875ac656398d8a2ed19d2a85c8edd3ec2aef
def p384gx : Nat := 0xaa87ca22be8b05378eb1c71ef320ad746e1d3b628ba79b9859f741e082542a385502f25dbf55296c3a545e3872760ab7
def p384gy : Nat := 0x3617de4a96262c6f5d9e98bf9292dc29f8f41dbd289a147ce9da3113b5f0b8c00a60b1ce1d7e819d7a431d7c90ea0e5f

/-- `a ^ e mod m` over the low `n` bits of `e`. -/
def powMod (m : Nat) : Nat → Nat → Nat → Nat
  | 0, _, _ => 1 % m
  | n + 1, a, e => let r := powMod m n (a * a % m) (e / 2); if e % 2 = 1 then r * a % m else r

/-- The inverse modulo a prime. -/
def invMod (m a : Nat) : Nat := powMod m 384 (a % m) (m - 2)

/-- An affine point of the curve; `none` is the point at infinity. -/
abbrev Pt := Option (Nat × Nat)

/-- The sum of two points. -/
def ptAdd (a b : Pt) : Pt :=
  match a, b with
  | none, _ => b
  | _, none => a
  | some (x1, y1), some (x2, y2) =>
    if x1 = x2 && (y1 + y2) % p384 = 0 then none
    else
      let l := if x1 = x2 then (3 * x1 * x1 + (p384 - 3)) * invMod p384 (2 * y1) % p384
        else (y2 + (p384 - y1)) * invMod p384 (x2 + (p384 - x1)) % p384
      let x3 := (l * l + (p384 - x1) + (p384 - x2)) % p384
      some (x3, (l * (x1 + (p384 - x3)) + (p384 - y1)) % p384)

/-- `k` times a point, over the low `n` bits of `k`. -/
def ptMul : Nat → Nat → Pt → Pt
  | 0, _, _ => none
  | n + 1, k, a => let r := ptMul n (k / 2) (ptAdd a a); if k % 2 = 1 then ptAdd r a else r

/-- An uncompressed point, 97 bytes, that lies on the curve. -/
def ptOf (bs : Bytes) : Pt :=
  let x := beNat ((bs.drop 1).take 48)
  let y := beNat ((bs.drop 49).take 48)
  if bs.length = 97 && bs.take 1 == [0x04#8] && decide (x < p384) && decide (y < p384)
      && decide ((y * y) % p384 = (x * x * x + (p384 - 3) * x + p384b) % p384) then some (x, y) else none

/-- An ECDSA P-384 signature (r, s), 96 bytes, over a message hashed by SHA-384, verifies with the public key. -/
def ecdsaOk (key : Bytes) (msg sig : Bytes) : Bool :=
  let r := beNat (sig.take 48)
  let s := beNat ((sig.drop 48).take 48)
  match ptOf key with
  | none => false
  | some q =>
    if sig.length = 96 && 1 ≤ r && decide (r < p384n) && decide (1 ≤ s) && decide (s < p384n) then
      let e := beNat (sha384 msg)
      let w := invMod p384n s
      match ptAdd (ptMul 384 (e * w % p384n) (some (p384gx, p384gy))) (ptMul 384 (r * w % p384n) (some q)) with
      | none => false
      | some (x, _) => x % p384n == r
    else false

end Sys2Proof.Machine
end

