-- ==== Sys2Proof/Machine/Secure.lean ====
section
/-!
DEFINITION. Secure boot (R430 to R432), the boot lock (R433), attestation (R437, R438), the debug levels with unlock and halt
(R439 to R443), JTAG, and the DOE mailbox and IDE keys (R364, R437).
-/
namespace Sys2Proof.Machine

/-! ### Boot (R432) -/

/-- The fused security version: the number of bits set in SVN_FUSE (Table 16.1). -/
def State.svn (s : State) : Nat := popCount 64 s.sec.svnFuse

/-- The header and the image of a slot whose LENGTH is in its bounds, MAGIC and VER matching (Table 16.2). -/
def State.slotImage (s : State) (b : Bool) : Option (Bytes × Bytes) :=
  let h := s.flashRead (slotBase b) 512
  let n := leNat ((h.drop 8).take 4)
  if leNat (h.take 4) = 0x46573936 && leNat ((h.drop 4).take 1) = 1 && n ≠ 0 && n % 64 = 0 && n ≤ 16776704 then
    some (h, s.flashRead (slotBase b + 512) n)
  else none

/-- The SVN, FLAGS and FW_VER of a valid slot (R432). -/
def State.slotValid (s : State) (b : Bool) : Option (Nat × Nat × Nat) :=
  match s.slotImage b with
  | none => none
  | some (h, img) =>
    let key := leNat ((h.drop 5).take 1)
    let svn := leNat ((h.drop 7).take 1)
    if !bitOf (Config.revoke % 2 ^ 16) key && decide (s.svn ≤ svn)
        && decide (beNat (sha384 Config.rootKey) = Config.rootHash)
        && ecdsaOk Config.rootKey ((h.drop 4).take 124) ((h.drop 128).take 96)
        && ecdsaOk ((h.drop 16).take 97) (h.take 320 ++ img) ((h.drop 320).take 96) then
      some (svn, leNat ((h.drop 6).take 1), leNat ((h.drop 12).take 4))
    else none

/-- Firmware starts from a slot: COMMIT_SVN raises SVN_FUSE first, FW_VER is copied, and memory training may begin (R432,
R480). -/
def State.startSlot (s : State) (b : Bool) (v : Nat × Nat × Nat) : State :=
  let img := match s.slotImage b with
    | some (h, img) => sha384 (h ++ img)
    | none => []
  let fuse := if bitOf v.2.1 0 then Nat.lor s.sec.svnFuse (2 ^ min v.1 64 - 1) else s.sec.svnFuse
  let s := { s with sec := { s.sec with svnFuse := fuse, started := some (b2n b), image := img }, hif := { s.hif with phyOn := true } }
  (s.setReg pgDev 0x54 v.2.2).startTraining

/-- BOOT_VERIFY: once HUB is up the boot ROM judges both slots, enables the PCIe PHY and starts the valid slot of higher SVN,
slot A when equal; with none valid no firmware starts and the PHY is disabled (R432, R478, Table 18.2). -/
def opBootVerify (s : State) : State :=
  if s.pw.powered && decide (s.dom 40 < 2) && !s.sec.judged then
    let a := s.slotValid false
    let b := s.slotValid true
    let s := { s with sec := { s.sec with judged := true } }
    match a, b with
    | some x, some y => if x.1 < y.1 then s.startSlot true y else s.startSlot false x
    | some x, none => s.startSlot false x
    | none, some y => s.startSlot true y
    | none, none => { s with hif := { s.hif with phyOn := false } }
  else s

/-! ### The boot lock (R433) -/

/-- The items of the protection map, in page order, each list after its length (R433, log 9). -/
def State.mapItems (s : State) : List Nat :=
  let wins := s.sec.wins.flatMap (fun e => [e.1, e.2.base, e.2.size, e.2.rd, e.2.wr])
  let own := s.sec.owner.flatMap (fun e => [e.1, e.2])
  let qs := (s.q.desc.filter (fun e => e.2.tenant != 0)).flatMap (fun e => [e.1, e.2.tenant])
  let cells := s.sec.cellTag.flatMap (fun e => [e.1, e.2])
  [wins.length] ++ wins ++ [own.length] ++ own ++ [qs.length] ++ qs ++ [cells.length] ++ cells ++ [s.reg pgProt 0x44]

/-- BOOT_LOCK: the housekeeping core sets the lock, MAP_DIGEST is computed, and configuration requests are answered from
then on (R433, R479, Table 18.1); any other write of LOCK is a violation of source 6 (R13, R433). -/
def opBootLock (core : Bool) (s : State) : State :=
  if core && !s.sec.lock then
    let d := Config.mapDigest s.mapItems % 2 ^ 384
    let s := { s with sec := { s.sec with lock := true, digest := d }, hif := { s.hif with cfgReady := true } }
    s.raise pgProt 0
  else s.violate 0 6

/-! ### Attestation (R437, R438) -/

/-- The SPDM connection of a transport. -/
def State.spdm (s : State) : Tr → Spdm
  | .doe => s.sec.spdmDoe
  | .smbus => s.sec.spdmSmb

/-- Store a transport's connection. -/
def State.setSpdm (s : State) (tr : Tr) (x : Spdm) : State :=
  match tr with
  | .doe => { s with sec := { s.sec with spdmDoe := x } }
  | .smbus => { s with sec := { s.sec with spdmSmb := x } }

/-- A message in MCTP packets of 64 bytes, with the transport header of the DMTF binding: destination, source, and SOM, EOM,
sequence and tag (R454, log 43). -/
def mctpSplit (dst src tag : Nat) : Nat → Nat → Bytes → List Bytes
  | 0, _, _ => []
  | n + 1, k, bs =>
    let som := if k = 0 then 128 else 0
    let eom := if bs.length ≤ 64 then 64 else 0
    (leBytes 1 1 ++ leBytes 1 dst ++ leBytes 1 src ++ leBytes 1 (som + eom + 16 * (k % 4) + tag) ++ bs.take 64)
      :: (if bs.length ≤ 64 then [] else mctpSplit dst src tag n (k + 1) (bs.drop 64))

/-- An MCTP message leaves: its packets wait for Block Reads, and it is the answer (Table 17.12). -/
def State.mctpSend (s : State) (ty : Nat) (body : Bytes) : State :=
  let m := leBytes 1 ty ++ body
  let key := match s.mg.mctpIn with | some x => x.1 | none => 0
  let pkts := mctpSplit (key / 8) (fld (s.reg pgSmb 0x44) 7 0) (key % 8) (m.length / 64 + 1) 0 m
  (({ s with mg := { s.mg with mctpOut := s.mg.mctpOut ++ pkts } }).count pgSmb 1).answer (.msg m)

/-- The responder serves a transport: firmware runs, and for DOE the PCIe port answers (R437, log 43). -/
def State.spdmUp (s : State) (tr : Tr) : Bool :=
  s.sec.started.isSome && (match tr with | .doe => decide (0 < s.hif.width) && s.hif.cfgReady | .smbus => true)

/-- An SPDM answer on its transport. -/
def State.spdmAnswer (s : State) (tr : Tr) (body : Bytes) : State :=
  match tr with
  | .doe => s.answer (.msg body)
  | .smbus => (s.count pgSmb 0).mctpSend 5 body

/-- The SPDM error answer. -/
def State.spdmError (s : State) (tr : Tr) (why : Nat) : State := s.spdmAnswer tr (Config.stdBody 0x7F why)

/-- A request that the connection has come far enough for; an error else (log 43). -/
def State.spdmStep (s : State) (tr : Tr) (ok : Bool) (go : State → State) : State :=
  if !s.spdmUp tr then s else if ok then go s else s.spdmError tr 4

/-- GET_VERSION: a new connection starts (log 43). -/
def opGetVersion (tr : Tr) (s : State) : State :=
  s.spdmStep tr true (fun s => (s.setSpdm tr { version := true }).spdmAnswer tr (Config.stdBody 0x04 0))

/-- GET_CAPABILITIES, after GET_VERSION. -/
def opGetCapabilities (tr : Tr) (s : State) : State :=
  s.spdmStep tr (s.spdm tr).version (fun s => (s.setSpdm tr { s.spdm tr with caps := true }).spdmAnswer tr (Config.stdBody 0x61 0))

/-- NEGOTIATE_ALGORITHMS, after GET_CAPABILITIES: an error where the requester offers none of Table 16.6's algorithms. -/
def opNegotiateAlgorithms (tr : Tr) (offers : Bool) (s : State) : State :=
  s.spdmStep tr ((s.spdm tr).caps && offers)
    (fun s => (s.setSpdm tr { s.spdm tr with algs := true }).spdmAnswer tr (Config.stdBody 0x63 0))

/-- GET_DIGESTS: the digest of slot 0's chain. -/
def opGetDigests (tr : Tr) (s : State) : State :=
  s.spdmStep tr (s.spdm tr).algs (fun s => s.spdmAnswer tr (Config.stdBody 0x01 0))

/-- GET_CERTIFICATE: slot 0 holds the only chain (Table 16.6). -/
def opGetCertificate (tr : Tr) (slot : BitVec 4) (s : State) : State :=
  s.spdmStep tr ((s.spdm tr).algs && slot == 0) (fun s => s.spdmAnswer tr (Config.stdBody 0x02 0))

/-- CHALLENGE: signed with the alias key over the requester's nonce. -/
def opChallenge (tr : Tr) (slot : BitVec 4) (nonce : List (BitVec 8)) (s : State) : State :=
  s.spdmStep tr ((s.spdm tr).algs && slot == 0) (fun s => s.spdmAnswer tr (Config.stdBody 0x03 (leNat nonce)))

/-- The digest of a measurement index (Table 16.7). -/
def State.measurement (s : State) (index : Nat) : Bytes :=
  match index with
  | 1 => Config.measure 1 []
  | 2 => if s.sec.started.isSome then s.sec.image else List.replicate 48 0
  | 3 => Config.measure 3 [s.sec.svnFuse, Config.revoke]
  | 4 => leBytes 48 s.sec.digest
  | _ => Config.measure 5 [s.sec.highest, tget 0 0 s.sec.level, tget 0 1 s.sec.level, tget 0 2 s.sec.level]

/-- GET_MEASUREMENTS: index 0 asks how many there are, 0xFF for all, 1 to 5 for one (R438, log 43). -/
def opGetMeasurements (tr : Tr) (index : BitVec 8) (s : State) : State :=
  let i := index.toNat
  s.spdmStep tr ((s.spdm tr).algs && (i ≤ 5 || i == 255)) (fun s =>
    let body := if i = 0 then leBytes 1 5
      else if i = 255 then [1, 2, 3, 4, 5].flatMap s.measurement
      else s.measurement i
    s.spdmAnswer tr (Config.stdBody 0x60 i ++ body))

/-- The sessions a transport may hold (Table 16.6). -/
def spdmMax : Tr → Nat
  | .doe => 4
  | .smbus => 1

/-- The lowest session number not in use. -/
def freeSid (t : Tbl Nat) : Nat := ((List.range 8).filter (fun k => tget 0 k t == 0)).headD 0

/-- KEY_EXCHANGE: a session in handshake starts where the transport has room. -/
def opKeyExchange (tr : Tr) (pub : List (BitVec 8)) (s : State) : State :=
  let x := s.spdm tr
  s.spdmStep tr (x.algs && decide (x.sessions.length < spdmMax tr)) (fun s =>
    let k := freeSid x.sessions
    (s.setSpdm tr { x with sessions := tset 0 k 1 x.sessions }).spdmAnswer tr (leBytes 1 k ++ Config.stdBody 0x64 (leNat pub)))

/-- FINISH: a session in handshake is established, or ends where its check fails. -/
def opFinish (tr : Tr) (sid : BitVec 3) (ok : Bool) (s : State) : State :=
  let x := s.spdm tr
  let k := sid.toNat
  s.spdmStep tr (tget 0 k x.sessions == 1) (fun s =>
    if ok then (s.setSpdm tr { x with sessions := tset 0 k 2 x.sessions }).spdmAnswer tr (Config.stdBody 0x65 k)
    else (s.setSpdm tr { x with sessions := tset 0 k 0 x.sessions }).spdmError tr 6)

/-- KEY_UPDATE: an established session goes on under new keys, which the standard derives. -/
def opKeyUpdate (tr : Tr) (sid : BitVec 3) (s : State) : State :=
  s.spdmStep tr (tget 0 sid.toNat (s.spdm tr).sessions == 2) (fun s => s.spdmAnswer tr (Config.stdBody 0x69 sid.toNat))

/-- END_SESSION: an established session ends. -/
def opEndSession (tr : Tr) (sid : BitVec 3) (s : State) : State :=
  let x := s.spdm tr
  s.spdmStep tr (tget 0 sid.toNat x.sessions == 2) (fun s =>
    (s.setSpdm tr { x with sessions := tset 0 sid.toNat 0 x.sessions }).spdmAnswer tr (Config.stdBody 0x6C sid.toNat))

/-- DOE_DISCOVERY: the data objects of the mailbox, discovery, CMA/SPDM and secured CMA/SPDM, and the next index (Table 13.1,
log 43). -/
def opDoeDiscovery (index : BitVec 8) (s : State) : State :=
  if 0 < s.hif.width && s.hif.cfgReady then
    let i := index.toNat
    s.answer (.msg (if i < 3 then leBytes 2 1 ++ leBytes 1 i ++ leBytes 1 (if i = 2 then 0 else i + 1)
      else leBytes 2 0xFFFF ++ leBytes 2 0))
  else s

/-- IDE_KM_MESSAGE: in a secured session over DOE, keys are programmed, and a stream with keys starts or stops
(Table 13.1). -/
def opIdeKmMessage (m : IdeKm) (s : State) : State :=
  if s.spdmUp .doe && s.sec.spdmDoe.sessions.any (fun e => e.2 == 2) then
    let go (k : Nat) (on : Bool) : State :=
      if !on || tget false k s.hif.ideKeys then
        { s with hif := { s.hif with ideOn := tset false k on s.hif.ideOn } }.answer (.msg (Config.stdBody 0x101 k))
      else s.answer (.msg (Config.stdBody 0x1FF k))
    match m with
    | .keyProg k => { s with hif := { s.hif with ideKeys := tset false k.val true s.hif.ideKeys } }.answer (.msg (Config.stdBody 0x100 k.val))
    | .goLink on => go 0 on
    | .goSelective k on => go (k.val + 1) on
  else s

/-! ### Debug (R439 to R443) -/

/-- A path's level. -/
def State.dbgLevel (s : State) (dp : DPath) : Nat := tget 0 (dpIx dp) s.sec.level

/-- RESULT and REASON of a path (DBG_STAT). -/
def State.dbgResult (s : State) (dp : Nat) (res why : Nat) : State :=
  { s with sec := { s.sec with result := tset 0 dp res s.sec.result, reason := tset 0 dp why s.sec.reason } }

/-- A debug command refused. -/
def State.dbgRefuse (s : State) (dp : DPath) (why : Nat) : State := (s.dbgResult (dpIx dp) 2 why).raise pgDbg 1

/-- A command that DEBUG performs only while it is enabled (R20). -/
def State.dbgCmd (s : State) (go : State → State) : State := if s.en pgDbg then go s else s

/-- GEN_CHALLENGE: a nonce for the path, in place of any before it (R441). -/
def opGenChallenge (dp : DPath) (s : State) : State :=
  s.dbgCmd (fun s =>
    let d := s.draw
    ({ d.2 with sec := { d.2.sec with nonce := some (d.1 % 2 ^ 256), noncePath := dpIx dp } }).dbgResult (dpIx dp) 0 0)

/-- The 64 bytes the debug authority signs (R441, step 2). -/
def unlockMsg (nonce level path : Nat) : Bytes :=
  leBytes 32 nonce ++ leBytes 8 Config.serial ++ leBytes 1 level ++ leBytes 1 path ++ List.replicate 22 0

/-- The 96 bytes a path has written to RESPONSE. -/
def State.responseOf (s : State) (path : Nat) : Bytes :=
  (List.range 24).flatMap (fun i => leBytes 4 (tget 0 (128 * path + 4 * i) s.sec.response))

/-- Why an UNLOCK is refused (DBG_STAT.REASON), or none (R440, R441). -/
def State.unlockWhy (s : State) (dp : DPath) (level : Nat) : Option Nat :=
  let pol := s.reg pgProt 0x44
  if 8 ≤ s.sec.refusals then some 5
  else if !s.sec.lock then some 4
  else match s.sec.nonce with
    | none => some 2
    | some n =>
      if s.sec.noncePath ≠ dpIx dp then some 2
      else if !bitOf pol (4 + dpIx dp) then some 3
      else if decide (beNat (sha384 Config.debugKey) = Config.debugHash)
          && ecdsaOk Config.debugKey (unlockMsg n level (dpIx dp)) (s.responseOf (dpIx dp)) then none
      else some 1

/-- UNLOCK: consumes the nonce; grants the smaller of the requested level and the policy limit, or is refused and counts
towards lockout (R441). -/
def opUnlock (dp : DPath) (level : BitVec 2) (s : State) : State :=
  s.dbgCmd (fun s =>
    let why := s.unlockWhy dp level.toNat
    let s := { s with sec := { s.sec with nonce := none } }
    match why with
    | some w =>
      (({ s with sec := { s.sec with refusals := min 8 (s.sec.refusals + 1) } }).dbgRefuse dp w).count pgDbg 1
    | none =>
      let lv := min level.toNat (fld (s.reg pgProt 0x44) 1 0)
      let s := { s with sec := { s.sec with refusals := 0, level := tset 0 (dpIx dp) lv s.sec.level, highest := max lv s.sec.highest } }
      ((s.dbgResult (dpIx dp) 0 0).countRaise pgDbg 0 0))

/-- The path holds a halt. -/
def State.holdsHalt (s : State) (k : Nat) : Bool := (s.sec.halted || s.sec.haltPending) && s.sec.haltPath == k

/-- RELOCK: the path returns to level 0, once a halt it holds has been resumed (R441). -/
def opRelock (dp : DPath) (s : State) : State :=
  s.dbgCmd (fun s =>
    if s.holdsHalt (dpIx dp) then
      ({ s with sec := { s.sec with relock := tset false (dpIx dp) true s.sec.relock } }).dbgResult (dpIx dp) 1 0
    else ({ s with sec := { s.sec with level := tset 0 (dpIx dp) 0 s.sec.level } }).dbgResult (dpIx dp) 0 0)

/-- NONCE_EXPIRE: 60 s after it was drawn (R441). -/
def opNonceExpire (s : State) : State := { s with sec := { s.sec with nonce := none } }

/-- DEBUG_HALT: at level 2 or above the halt is accepted and pending (Table 16.9, step 1). -/
def opDebugHalt (dp : DPath) (s : State) : State :=
  s.dbgCmd (fun s =>
    if s.dbgLevel dp < 2 then s.dbgRefuse dp 3
    else if s.sec.halted then s.dbgResult (dpIx dp) 0 0
    else if s.sec.haltPending then s.dbgResult (dpIx dp) 1 0
    else ({ s with sec := { s.sec with haltPending := true, haltPath := dpIx dp } }).dbgResult (dpIx dp) 1 0)

/-- HALT_DONE: with no locked sequence running the core halts (Table 16.9, step 2). -/
def opHaltDone (s : State) : State :=
  if s.sec.haltPending && s.sec.seq.isNone then
    (({ s with sec := { s.sec with halted := true, haltPending := false } }).dbgResult s.sec.haltPath 0 0).raise pgDbg 2
  else s

/-- FORCED_HALT: the sequence still running is aborted, and a loader copy in progress abandoned, to be made from its start on
RESUME (Tables 16.8, 16.9, R497). -/
def opForcedHalt (s : State) : State :=
  if s.sec.haltPending && s.sec.seq.isSome then
    let s := { s with sec := { s.sec with halted := true, haltPending := false }, mg := { s.mg with copied := 0 } }
    let s := if s.sec.seq = some .cellRmw then { s with sec := { s.sec with seq := none } } else s.csFail 4
    (s.dbgResult s.sec.haltPath 0 0).countRaise pgDbg 3 3
  else s

/-- RESUME: at level 2 or above the halted core runs on; a bank write that waited is a locked sequence again; a path whose
RELOCK waited returns to level 0 (R441, R443). -/
def opResume (dp : DPath) (s : State) : State :=
  s.dbgCmd (fun s =>
    if s.dbgLevel dp < 2 then s.dbgRefuse dp 3
    else if !s.sec.halted then s.dbgRefuse dp 0
    else
      let k := s.sec.haltPath
      let lock := tget false k s.sec.relock
      let seq := if s.mg.cs < 4 then none else if s.mg.csRecs.isNone && !s.mg.csLoad then some .calCommit else some .flash
      let s := { s with sec := { s.sec with
        halted := false, seq := seq, relock := tset false k false s.sec.relock
        level := if lock then tset 0 k 0 s.sec.level else s.sec.level } }
      let s := if lock then s.dbgResult k 0 0 else s
      s.csErase.dbgResult (dpIx dp) 0 0)

/-! ### JTAG (R439) -/

/-- The TAP's instruction, with the boundary cells released. -/
def State.tap (s : State) (i : Nat) : State := { s with sec := { s.sec with jtag := i, driving := false } }

/-- BYPASS. -/
def opBypass (s : State) : State := s.tap 1

/-- The IDCODE value: bits [27:12] read 0x9360; the others are the part's (R439). -/
def idcodeWord : Nat := setFld (Config.stdBody 0x200 0 |> leNat) 27 12 0x9360 % 2 ^ 32

/-- IDCODE: the identification code is the answer. -/
def opIdcode (s : State) : State := (s.tap 0).answer (.word idcodeWord)

/-- SAMPLE_PRELOAD: at level 3 the cells are sampled and preloaded; below it the instruction is not available and the TAP
selects BYPASS (log 42). -/
def opSamplePreload (cells : List Bool) (s : State) : State :=
  if 3 ≤ s.dbgLevel .jtag then
    let out := cells.zipIdx.map (fun c => Config.pinSample c.2)
    ({ (s.tap 2) with sec := { (s.tap 2).sec with cells := cells } }).answer (.msg (out.map (fun b => BitVec.ofNat 8 (b2n b))))
  else s.tap 1

/-- EXTEST: at level 3 the boundary cells drive the pins. -/
def opExtest (s : State) : State :=
  if 3 ≤ s.dbgLevel .jtag then { s with sec := { s.sec with jtag := 3, driving := true } } else s.tap 1

/-- JTAG_RESET: TRST_N returns the TAP to IDCODE. -/
def opJtagReset (s : State) : State := s.tap 0

def execBootVerify (s : State) : Host.Outcome State Fault Refusal := done s (opBootVerify s)
def execBootLock (core : Bool) (s : State) : Host.Outcome State Fault Refusal := done s (opBootLock core s)
def execGetVersion (tr : Tr) (s : State) : Host.Outcome State Fault Refusal := done s (opGetVersion tr s)
def execGetCapabilities (tr : Tr) (s : State) : Host.Outcome State Fault Refusal := done s (opGetCapabilities tr s)
def execNegotiateAlgorithms (tr : Tr) (offers : Bool) (s : State) : Host.Outcome State Fault Refusal :=
  done s (opNegotiateAlgorithms tr offers s)
def execGetDigests (tr : Tr) (s : State) : Host.Outcome State Fault Refusal := done s (opGetDigests tr s)
def execGetCertificate (tr : Tr) (slot : BitVec 4) (s : State) : Host.Outcome State Fault Refusal :=
  done s (opGetCertificate tr slot s)
def execChallenge (tr : Tr) (slot : BitVec 4) (nonce : List (BitVec 8)) (s : State) : Host.Outcome State Fault Refusal :=
  done s (opChallenge tr slot nonce s)
def execGetMeasurements (tr : Tr) (index : BitVec 8) (s : State) : Host.Outcome State Fault Refusal :=
  done s (opGetMeasurements tr index s)
def execKeyExchange (tr : Tr) (pub : List (BitVec 8)) (s : State) : Host.Outcome State Fault Refusal :=
  done s (opKeyExchange tr pub s)
def execFinish (tr : Tr) (sid : BitVec 3) (ok : Bool) (s : State) : Host.Outcome State Fault Refusal :=
  done s (opFinish tr sid ok s)
def execKeyUpdate (tr : Tr) (sid : BitVec 3) (s : State) : Host.Outcome State Fault Refusal := done s (opKeyUpdate tr sid s)
def execEndSession (tr : Tr) (sid : BitVec 3) (s : State) : Host.Outcome State Fault Refusal := done s (opEndSession tr sid s)
def execDoeDiscovery (index : BitVec 8) (s : State) : Host.Outcome State Fault Refusal := done s (opDoeDiscovery index s)
def execIdeKmMessage (m : IdeKm) (s : State) : Host.Outcome State Fault Refusal := done s (opIdeKmMessage m s)
def execGenChallenge (dp : DPath) (s : State) : Host.Outcome State Fault Refusal := done s (opGenChallenge dp s)
def execUnlock (dp : DPath) (level : BitVec 2) (s : State) : Host.Outcome State Fault Refusal := done s (opUnlock dp level s)
def execRelock (dp : DPath) (s : State) : Host.Outcome State Fault Refusal := done s (opRelock dp s)
def execNonceExpire (s : State) : Host.Outcome State Fault Refusal := done s (opNonceExpire s)
def execDebugHalt (dp : DPath) (s : State) : Host.Outcome State Fault Refusal := done s (opDebugHalt dp s)
def execHaltDone (s : State) : Host.Outcome State Fault Refusal := done s (opHaltDone s)
def execForcedHalt (s : State) : Host.Outcome State Fault Refusal := done s (opForcedHalt s)
def execResume (dp : DPath) (s : State) : Host.Outcome State Fault Refusal := done s (opResume dp s)
def execBypass (s : State) : Host.Outcome State Fault Refusal := done s (opBypass s)
def execIdcode (s : State) : Host.Outcome State Fault Refusal := done s (opIdcode s)
def execSamplePreload (cells : List Bool) (s : State) : Host.Outcome State Fault Refusal := done s (opSamplePreload cells s)
def execExtest (s : State) : Host.Outcome State Fault Refusal := done s (opExtest s)
def execJtagReset (s : State) : Host.Outcome State Fault Refusal := done s (opJtagReset s)

end Sys2Proof.Machine
end

