-- ==== Sys2Proof/Machine/HkAdc.lean ====
section
/-!
DEFINITION. The calendar clock (R457 to R459), the housekeeping ADC with its rounds, triggered conversions and system
calibration (R460 to R465), and the image loader (R495 to R497).
-/
namespace Sys2Proof.Machine

/-! ### Calendar clock -/

/-- The alarm fires once, after a second step or a TIME write that reaches it (R459); an enabled one wakes the module
(Table 14.3). -/
def State.judgeAlarm (s : State) : State :=
  if bitOf (s.reg pgClock 0x50) 0 && !s.mg.alarmDone && decide (s.reg64 pgClock 0x48 / 2 ^ 15 ≤ s.mg.time / 2 ^ 15) then
    let s := ({ s with mg := { s.mg with alarmDone := true } }).countRaise pgClock 1 0
    if bitOf (s.reg pgPower 0x94) 1 then s.wakeEdge 5 0 else s
  else s

/-- CALENDAR_SECOND: the crystal has made `counts` periods: a TIME write takes effect at the first of them, and the alarm is
judged after a second step or that write (R457 to R459). -/
def opCalendarSecond (counts : BitVec 16) (s : State) : State :=
  let n := counts.toNat
  if n = 0 then s
  else match s.mg.timeNew with
    | some v =>
      let s := { s with mg := { s.mg with time := (v + (n - 1)) % 2 ^ 64, timeNew := none, timeValid := true } }
      (s.countRaise pgClock 0 2).judgeAlarm
    | none =>
      let t := (s.mg.time + n) % 2 ^ 64
      let step := t / 2 ^ 15 ≠ s.mg.time / 2 ^ 15
      let s := { s with mg := { s.mg with time := t } }
      if step then s.judgeAlarm else s

/-- TIME_WRITE: takes effect at the next subsecond count (R458). -/
def opTimeWrite (p : Path) (val : BitVec 64) (s : State) : State :=
  if s.mayPath p pgClock then { s with mg := { s.mg with timeNew := some val.toNat } } else s.deny p pgClock

/-- ALARM_WRITE: stores the alarm and re-arms it (R459). -/
def opAlarmWrite (p : Path) (val : BitVec 64) (s : State) : State :=
  if s.mayPath p pgClock then
    { (s.setReg64 pgClock 0x48 val.toNat) with mg := { s.mg with alarmDone := false } }
  else s.deny p pgClock

/-- VBAT_CHECK: below 2.2 V VBAT_LOW is set and raised (R458). -/
def opVbatCheck (low : Bool) (s : State) : State :=
  let s := { s with mg := { s.mg with vbatLow := low } }
  if low then s.raise pgClock 1 else s

/-! ### Slow rounds (R461 to R463) -/

/-- The length of a round in ticks under a ROUND_CFG value (R461). -/
def roundLen (cfg : Nat) : Nat := 8 * (4800 + 125 * fld cfg 27 24 * fld cfg 20 0)

/-- The system calibration coefficients in force: Z and G (R463). -/
def State.coefZ (s : State) : Int := match s.mg.coef with | some c => c.1 | none => Config.hkZero
def State.coefG (s : State) : Nat := match s.mg.coef with | some c => c.2 | none => Config.hkGain

/-- The quantity of a channel from its code, rounded once to binary32 (R463, log 44); reserved channels read 0. -/
def State.quantity (s : State) (ch code : Nat) : Nat :=
  if 60 ≤ ch then 0
  else
    let v := mulF (v32 s.coefG) (intF (sext 24 code - s.coefZ))
    r32 (addF (mulF (v32 (Config.hkK ch)) v) (v32 (Config.hkO ch)))

/-- The temperature of thermistor resistance `r`, binary32; none outside 100 Ω to 200 kΩ (R463). -/
def thermTemp (r : Nat) : Option Nat :=
  if lt32 r (int32 100) || lt32 (int32 200000) r then none
  else match v32 r with
    | .fin false m e =>
      let num := if 0 ≤ e then m * 2 ^ e.toNat else m
      let den := if 0 ≤ e then 10000 else 10000 * 2 ^ (-e).toNat
      let a : Int := 5963 * 3435 * 2 ^ 200
      let b : Int := 20 * 3435 * 2 ^ 200 + 5963 * lnFix num den
      let t := 20 * a - 5463 * b
      some (rat32 (decide (t < 0)) t.natAbs (20 * b).toNat)
    | _ => none

/-- A slow round's inlet: published and judged against INLET_MAX, or counted invalid (R463, R394). -/
def State.roundInlet (s : State) (code : Nat) : State :=
  match thermTemp (s.quantity 43 code) with
  | none => s.countRaise pgHk 3 4
  | some t =>
    let s := { s with mg := { s.mg with inletWas := s.mg.inlet, inletWasAt := s.mg.inletAt, inlet := t, inletAt := s.tb.tick } }
    s.judgeInlet (lt32 (int32 (fld (s.reg pgPower 0xA0) 15 8)) t)

/-- Input power in watts, and POWER_HIGH when the mean of the last ten rounds is above 1,750 W (R399). -/
def State.roundPower (s : State) (u i : Nat) : State :=
  let w := match toIntF (mulF (v32 u) (v32 i)) with
    | some x => (clampI 0 65535 x).toNat
    | none => 65535
  let ws := (w :: s.pw.watts).take 10
  let s := { s.setReg pgPower 0xA8 w with pw := { s.pw with watts := ws } }
  if ws.length = 10 && decide (17500 < ws.sum) then s.raise pgPower 7 else s

/-- A tap monitor reads below 50 % of the F layer's nominal (R178). -/
def tapLow (r : TapRead) : Bool := decide (2 * (r.val : Int) < fVal r.tile.val (qRowNom r.row.val))

/-- The row monitors of a round: consecutive low readings by row (R178). -/
def State.roundRows (s : State) (taps : List TapRead) : State :=
  forN 256 (fun t s =>
    let x := s.tl t
    let rows := (taps.filter (fun r => r.tile.val == t && tapLow r)).map (·.row.val)
    if x.lowRuns.isEmpty && rows.isEmpty then s
    else s.setTl t { x with lowRuns := rows.foldl (fun m r => tset 0 r (tget 0 r x.lowRuns + 1) m) [] }) s

/-- A round ends at this tick and is not yet published (R461). -/
def State.roundDue (s : State) : Bool := decide (s.mg.roundAt < s.tb.tick) && decide (s.mg.roundEnd = s.tb.tick)

/-- SLOW_ROUND_END: all results are published together; tile powers, input power and the inlet are derived and judged
(R461 to R463). -/
def opSlowRoundEnd (codes : List (BitVec 24)) (taps : List TapRead) (s : State) : State :=
  if s.en pgHk && s.powered pgHk && s.roundDue then
    let code (j : Nat) : Nat := if 60 ≤ j then 0 else (codes.getD j 0).toNat
    let q (j : Nat) : Nat := s.quantity j (code j)
    let r := s.tb.tick / roundLen s.mg.roundWas - 1
    let now := s.tb.tick
    let pw := forN 32 (fun j m => let t := 8 * j + r % 8; tset 0 t (mul32 (q (48 + t / 64)) (q j)) m) s.mg.power
    let at' := forN 32 (fun j m => tset 0 (8 * j + r % 8) now m) s.mg.powerAt
    let s := { s with mg := { s.mg with
      codes := forN 64 (fun j m => tset 0 j (code j) m) [], rounds := s.mg.rounds + 1, roundAt := now
      powerWas := s.mg.power, powerWasAt := s.mg.powerAt, power := pw, powerAt := at' } }
    let s := (s.count pgHk 0).roundPower (q 41) (q 42)
    (s.roundInlet (code 43)).roundRows taps
  else s

/-! ### Triggered conversions (R464) -/

/-- TRIGGER: the timer or the heater update starts a conversion, or is an overrun while M8 is at work. -/
def opTrigger (s : State) : State :=
  let cfg := s.reg pgHk 0x44
  let per := s.reg pgHk 0x4C
  let due := if bitOf cfg 6 then decide (s.tb.tick % 16000 = 0)
    else per != 0 && decide (s.mg.trigArmed < s.tb.tick) && decide ((s.tb.tick - s.mg.trigArmed) % per = 0)
  if s.en pgHk && s.powered pgHk && bitOf cfg 7 && due then
    if s.mg.trig.isSome || s.mg.calBusy ≠ 0 then s.countRaise pgHk 2 1
    else { s with mg := { s.mg with trig := some (fld cfg 5 0) } }
  else s

/-- TRIG_CONVERSION_DONE: the third output is stored with its tick, and TRIG_DONE is raised. -/
def opTrigConversionDone (code : BitVec 24) (s : State) : State :=
  match s.mg.trig with
  | some ch =>
    let c := if 60 ≤ ch then 0 else code.toNat
    let s := { s with mg := { s.mg with trig := none } }
    (((s.setReg pgHk 0x50 c).setReg64 pgHk 0x54 s.tb.tick).countRaise pgHk 1 0)
  | none => s

/-! ### System calibration (R465) -/

/-- A command of CAL_CMD; one that meets M8 at work is refused with CAL_REJECT (log 44). -/
def State.calCmd (s : State) (p : Path) (go : State → State) : State :=
  if s.mayPath p pgHk then
    if !s.en pgHk then s
    else if s.mg.trig.isSome || s.mg.calBusy ≠ 0 then s.raise pgHk 3
    else go s
  else s.deny p pgHk

/-- CAL_ZERO. -/
def opCalZero (p : Path) (s : State) : State := s.calCmd p (fun s => { s with mg := { s.mg with calBusy := 1 } })

/-- CAL_ZERO_DONE: Z_new is the mean of 256 outputs, rounded half to even. -/
def opCalZeroDone (sum : Int) (s : State) : State :=
  if s.mg.calBusy = 1 then { s with mg := { s.mg with calBusy := 0, zNew := some (roundHalfEven sum 256) } } else s

/-- CAL_FULL: refused without a ZERO since the last FULL. -/
def opCalFull (p : Path) (s : State) : State :=
  s.calCmd p (fun s => if s.mg.zNew.isNone then s.raise pgHk 3 else { s with mg := { s.mg with calBusy := 2 } })

/-- `|a - b| ≤ 2 % of b` over binary32 values. -/
def within2 (a b : Nat) : Bool :=
  let d := addF (v32 a) (v32 b).neg
  let lim := v32 (abs32 b)
  match d with
  | .fin _ m e => !ltF lim (.fin false (50 * m) e)
  | _ => false

/-- CAL_FULL_DONE: G_new from the mean of 256 outputs; coefficients within the limits come into force at once. -/
def opCalFullDone (sum : Int) (s : State) : State :=
  if s.mg.calBusy = 2 then
    let z := s.mg.zNew.getD 0
    let d := sum - 256 * z
    let g := rat32 (decide (d < 0)) (256 * fld (s.reg pgHk 0x6C) 21 0) d.natAbs
    let ok := decide (d ≠ 0) && within2 g Config.hkGain && decide ((z - Config.hkZero).natAbs ≤ 2000)
    let s := { s with mg := { s.mg with calBusy := 0, zNew := none } }
    if ok then { s with mg := { s.mg with coef := some (z, g) } }.raise pgHk 2 else s.raise pgHk 3
  else s

/-! ### The image loader (R495 to R497) -/

/-- The loader refuses the copy (R496). -/
def State.copyBad (s : State) (src dst len : Nat) : Bool :=
  let base := s.reg64 pgReg 0x40
  decide (src % 64 ≠ 0) || decide (dst % 64 ≠ 0) || decide (len = 0) || decide (len % 64 ≠ 0) || !rangeInTier src len || !rangeInHub dst len
    || (decide (dst < base + s.regArea) && decide (base < dst + len))

/-- The loader sets LCMD; no restore undoes it (R497). -/
def State.setLcmd (s : State) (v : Nat) : State := (s.setCell 8191 v).forget 2 8191

/-- LOADER_COPY: firmware finds LCMD = 1, reads SRC, DST and LEN, and starts the copy or sets LCMD to 3. -/
def opLoaderCopy (s : State) : State :=
  if s.sec.started.isSome && !s.sec.halted && s.mg.copy.isNone && decide (s.cell 8191 = 1) then
    let src := s.cell 8188
    let dst := s.cell 8189
    let len := s.cell 8190
    if s.copyBad src dst len then s.setLcmd 3 else { s with mg := { s.mg with copy := some (src, dst, len), copied := 0 } }
  else s

/-- The granules are copied in ascending order, each with its mark. -/
def State.copyGrans (s : State) (src dst : Nat) : Nat → List Dec → State
  | 0, _ => s
  | n + 1, dec =>
    let r := s.gRead 6 (src / 64) (dec.headD .clean)
    State.copyGrans (r.2.gWrite 6 (dst / 64) (r.1.1.map some) r.1.2 .clean) (src + 64) (dst + 64) n dec.tail

/-- The copy may go on: the core is not halted and the source's controllers are not in standby (R357, R497). -/
def State.copyRuns (s : State) (src len : Nat) : Bool := !s.sec.halted && s.rangeAwake src len

/-- The loader goes on with its copy, granule by granule in ascending order; how many it has written by a tick is free (R496,
R497, log 48). -/
def State.copyTick (s : State) : State :=
  match s.mg.copy with
  | none => s
  | some (src, dst, len) =>
    if s.copyRuns src len then
      let r := s.draw
      let n := min (r.1 % 8) (len / 64 - s.mg.copied)
      let s := r.2.copyGrans (src + 64 * r.2.mg.copied) (dst + 64 * r.2.mg.copied) n []
      { s with mg := { s.mg with copied := s.mg.copied + n } }
    else s

/-- LOADER_COPY_DONE: every granule has been written and LCMD is set to 2; it waits while the core is halted or the source's
controllers are in standby. -/
def opLoaderCopyDone (dec : List Dec) (s : State) : State :=
  match s.mg.copy with
  | none => s
  | some (src, dst, len) =>
    if s.copyRuns src len then
      let k := s.mg.copied
      let s := s.copyGrans (src + 64 * k) (dst + 64 * k) (len / 64 - k) dec
      { s with mg := { s.mg with copy := none, copied := 0 } }.setLcmd 2
    else s

def execCalendarSecond (counts : BitVec 16) (s : State) : Host.Outcome State Fault Refusal := done s (opCalendarSecond counts s)
def execTimeWrite (p : Path) (val : BitVec 64) (s : State) : Host.Outcome State Fault Refusal := done s (opTimeWrite p val s)
def execAlarmWrite (p : Path) (val : BitVec 64) (s : State) : Host.Outcome State Fault Refusal := done s (opAlarmWrite p val s)
def execVbatCheck (low : Bool) (s : State) : Host.Outcome State Fault Refusal := done s (opVbatCheck low s)
def execSlowRoundEnd (codes : List (BitVec 24)) (taps : List TapRead) (s : State) :
    Host.Outcome State Fault Refusal := done s (opSlowRoundEnd codes taps s)
def execTrigger (s : State) : Host.Outcome State Fault Refusal := done s (opTrigger s)
def execTrigConversionDone (code : BitVec 24) (s : State) : Host.Outcome State Fault Refusal :=
  done s (opTrigConversionDone code s)
def execCalZero (p : Path) (s : State) : Host.Outcome State Fault Refusal := done s (opCalZero p s)
def execCalZeroDone (sum : Int) (s : State) : Host.Outcome State Fault Refusal := done s (opCalZeroDone sum s)
def execCalFull (p : Path) (s : State) : Host.Outcome State Fault Refusal := done s (opCalFull p s)
def execCalFullDone (sum : Int) (s : State) : Host.Outcome State Fault Refusal := done s (opCalFullDone sum s)
def execLoaderCopy (s : State) : Host.Outcome State Fault Refusal := done s (opLoaderCopy s)
def execLoaderCopyDone (dec : List Dec) (s : State) : Host.Outcome State Fault Refusal := done s (opLoaderCopyDone dec s)

end Sys2Proof.Machine
end

