-- ==== Sys2Proof/Machine/RegRead.lean ====
section
/-!
DEFINITION. What the registers of BAR0 read as: the common header (R16 to R24), STAT, and the block-specific registers of
every page, by the register tables of their chapters. Registers of which the state keeps nothing else are read as stored.
-/
namespace Sys2Proof.Machine

/-- A mask of `n` bits from a test of each. -/
def maskOf (p : Nat → Bool) : Nat → Nat
  | 0 => 0
  | n + 1 => maskOf p n + b2n (p n) * 2 ^ n

/-- The code of a frame state (Table 10.2). -/
def FrameSt.code : FrameSt → Nat
  | .halted => 0
  | .free => 1
  | .acquire => 2
  | .locked => 3
  | .resync => 4

/-- The code of a controller state (Table 12.5). -/
def CtlSt.code : CtlSt → Nat
  | .untrained => 0
  | .training => 1
  | .active => 2
  | .selfRefresh => 3
  | .sleep => 4
  | .fault => 5

/-- The code of a zone state (Table 7.2). -/
def ZoneSt.code : ZoneSt → Nat
  | .off => 0
  | .warm => 1
  | .locked => 2
  | .fault => 3

/-! ### STAT -/

/-- READY, BUSY and FAULT in bits [2:0]. -/
def rbf (ready busy fault : Bool) : Nat := b2n ready + 2 * b2n busy + 4 * b2n fault

/-- TILE.STAT (R78). -/
def State.tileStat (s : State) (t : Nat) : Nat :=
  let x := s.tl t
  let h := s.health t
  let run := x.run.isSome
  rbf x.ready (run || x.loading) x.fault + 8 * b2n run + 16 * b2n x.shadow.isSome + 32 * b2n h.1 + 64 * b2n h.2.1
    + 128 * b2n h.2.2 + 256 * x.spareUsed

/-- VSU STAT (R148). -/
def State.vsuStat (s : State) (j : Nat) : Nat :=
  let x := tget {} j s.vsu
  let plan := match x.cur with | some l => l.act.isSome | none => false
  let env := match x.cur with | some l => l.act.isNone | none => false
  rbf (s.en (pgVsu j)) (plan || env) x.fault + 8 * b2n plan + 16 * b2n env + 32 * b2n x.susp.isSome

/-- LOOP STAT (R211). -/
def State.loopStat (s : State) : Nat :=
  let flt := s.lp.zone.any (fun e => e.2.st == .fault)
  rbf (s.en pgLoop) (s.lp.zone.any (fun e => e.2.runs)) flt + 8 * b2n flt + 16 * b2n s.lp.inj + 32 * b2n s.lp.capOn

/-- LINK STAT (R342). -/
def State.linkStat (s : State) (l : Nat) : Nat :=
  let x := s.lnk l
  rbf x.carries (!x.wins.isEmpty) (x.st == .fault) + 8 * b2n (x.st == .active)
    + 16 * b2n (x.spareTx.isSome || x.spareRx.isSome) + 32 * b2n x.deferred + 64 * b2n s.frozen

/-- A controller's STAT (R363). -/
def State.memStat (s : State) (k : Nat) : Nat :=
  rbf ((s.ctl k).st == .active) (0 < s.tagsAt k) ((s.ctl k).st == .fault)

/-- FRAME STAT (R310). -/
def State.frameStat (s : State) : Nat :=
  rbf (s.tb.locked && s.fr.st != .halted) s.running (!s.fr.faulted.isEmpty) + 16 * s.fr.st.code
    + 128 * b2n s.fr.switchAt.isSome + 256 * min s.fr.slipRun 3

/-- GOVERNOR STAT (R311). -/
def State.govStat (s : State) : Nat :=
  rbf (s.en pgGov) s.gov.adjusting false + 8 * b2n (s.gov.code == s.vlim.1 || s.gov.code == s.vlim.2) + 16 * b2n s.gov.adjusting

/-- REGISTRY STAT (R428). -/
def State.regStat (s : State) : Nat :=
  let n := s.rg.recs.length
  let rep := s.rg.replayTo.isSome
  rbf (n == s.fr.lag + 1) (s.rg.restoring || rep) s.rg.fault + 8 * b2n s.rg.restoring + 16 * min n 9 + 256 * b2n rep

/-- MODULE_STATE (R384). -/
def State.moduleState (s : State) : Nat :=
  if s.pw.a3 || !s.pw.powered then 3
  else if s.dom 40 = 2 then 2
  else if (List.range 32).any (fun g => s.dom g == 0) then 0
  else 1

/-- POWER STAT (R400). -/
def State.powerStat (s : State) : Nat :=
  rbf true ((List.range 41).any (fun d => decide (3 ≤ s.dom d))) s.pw.fault + 16 * b2n (decide (s.pw.vmax < s.vlim.2))
    + 32 * s.moduleState

/-- STAT of page `p` (R20; READY follows EN where a chapter gives no rule, log 45). -/
def State.stat (s : State) (p : Nat) : Nat :=
  match blkOf p with
  | .tile => s.tileStat (instOf p)
  | .vsu => s.vsuStat (instOf p)
  | .loop => s.loopStat
  | .stream => rbf (s.en p) (s.stm.ctx.any (fun e => e.2.st == 2)) s.anyCtxFault
  | .check =>
    let b := s.en p && bitOf (s.reg p 0x40) 1 || (tget none (instOf p) s.chk).isSome
    rbf (s.en p) b false + 8 * b2n b
  | .queue => rbf (s.en p) false s.q.fault + 8 * b2n s.holdHigh
  | .timebase => rbf s.tb.locked false s.tb.fault + 8 * b2n s.tb.refOk + 16 * b2n s.tb.localOsc + 32 * b2n s.tb.holdover
  | .frame => s.frameStat
  | .governor => s.govStat
  | .link => s.linkStat (instOf p)
  | .hbm => s.memStat (instOf p)
  | .lpddr => s.memStat (8 + instOf p)
  | .hostif => rbf (s.hif.width != 0) false false
  | .power => s.powerStat
  | .registry => s.regStat
  | .protect => rbf (s.en p) false false + 8 * b2n s.sec.lock
  | .debug => rbf (s.en p) s.sec.haltPending false + 8 * b2n s.sec.halted
  | .hkadc => rbf (s.en p) (s.mg.trig.isSome || s.mg.calBusy != 0) false
  | .calstore => rbf (s.en p) (decide (4 ≤ s.mg.cs) || s.mg.fwSlot.isSome) false
  | .calendar => rbf (s.en p) s.mg.timeNew.isSome false
  | .courier => rbf (s.en p) (s.link.any (fun e => !e.2.tunFor.isEmpty)) false
  | .smbus => rbf (s.en p) (!s.mg.mctpOut.isEmpty) false
  | .device => rbf (s.en p) false false
  | .directory => rbf (s.en p) false false

/-! ### Counters -/

/-- A counter's snapshot (R23). -/
def State.cntSnap (s : State) (p k : Nat) : Nat := tget 0 (32 * p + k) s.snap

/-! ### 64-bit quantities -/

/-- A drive entry as RING_DRIVE shows it: the effective value of the magnitude's own entry (R82, R180, Table 6.6). -/
def State.driveEntry (s : State) (t row col : Nat) (neg : Bool) (j : Nat) : Nat :=
  (s.eff t (qRing row col neg (j + 1))).toNat % 128

/-- RING_DRIVE of the selected ring: 0 outside the ranges of RING_SEL, and before a calibration is in force (log 41). -/
def State.ringDrive (s : State) (p : Path) (t : Nat) : Nat :=
  let sel := s.sel p (pgTile t) 0x210
  if s.mg.cs = 0 || 129 < fld sel 7 0 || 131 < fld sel 15 8 then 0
  else ((List.range 8).map (fun j => s.driveEntry t (fld sel 15 8) (fld sel 7 0) (bitOf sel 16) j * 2 ^ (8 * j))).sum

/-- The state words of the domains from `first`, in the vote layout (R400). -/
def State.stateWord (s : State) (first n : Nat) : Nat :=
  ((List.range n).map (fun j => min (s.dom (first + j)) 3 * 4 ^ j)).sum

/-- The oldest record held. -/
def State.oldest (s : State) : Nat := (s.rg.recs.head?.map (·.frame)).getD 0

/-- The window a path selects on the PROTECT page. -/
def State.pwin (s : State) (p : Path) : PWin := tget {} (s.sel p pgProt 0x48) s.sec.wins

/-- The 64-bit quantity whose low half stands at `off` of page `pg`, as path `p` reads it. -/
def State.pageQuad (s : State) (p : Path) (pg off : Nat) : Nat :=
  match cntAt pg off with
  | some (k, _) => s.cntSnap pg k
  | none =>
    match blkOf pg with
    | .device => if off = 0x48 then Config.serial % 2 ^ 64 else s.reg64 pg off
    | .timebase => s.tb.tick % 2 ^ 64
    | .frame => if off = 0x50 then s.fr.num % 2 ^ 64 else if off = 0x60 then s.fr.committed % 2 ^ 64 else s.reg64 pg off
    | .registry =>
      if off = 0x58 then s.oldest % 2 ^ 64
      else if off = 0x60 then (match s.rg.pend with | some v => v.g | none => s.rg.last) % 2 ^ 64
      else s.reg64 pg off
    | .power => s.stateWord 0 32
    | .calstore =>
      if off = 0x58 then s.mg.seq % 2 ^ 64
      else if off = 0x68 then (let l := s.sel p pg 0x60; if l < 36 then (s.lnk l).calTime else 0)
      else s.reg64 pg off
    | .calendar => if off = 0x40 then s.mg.time % 2 ^ 64 else s.reg64 pg off
    | .protect => (s.pwin p).base
    | .hostif => s.segBase ((off - 0x800) / 128) ((off - 0x800) % 128 / 8)
    | .check => if off = 0x48 && s.reg pg 0x40 % 2 == 0 then s.reg pg 0x48 else s.reg64 pg off
    | .stream =>
      let x := s.cx (s.sel p pg 0x48)
      if off = 0x50 then x.pos % 2 ^ 40 else if off = 0x58 then x.desc % 2 ^ 48 else x.stall
    | .queue =>
      if off = 0x60 then tget 0 (pathIx p) s.hif.old
      else if 0x800 ≤ off then tget 0 ((off - 0x800) / 8) s.q.profNext
      else 0
    | .tile => if off = 0x148 then (s.tl (instOf pg)).calTime else s.ringDrive p (instOf pg)
    | _ => s.reg64 pg off

/-! ### Single registers -/

/-- TILE registers (R79 to R81). COLMAP, COLROT and ROWMAP show the roles and rows as decided at the last frame boundary, also
while a running tile still works with the ones before, up to its next vector-cycle boundary (R58; DESIGN CHOICE, log 55). -/
def State.tileWord (s : State) (p : Path) (t off : Nat) : Nat :=
  let pg := pgTile t
  let x := s.tl t
  if off = 0x44 then x.codes % 128 + 128 * b2n x.run.isSome + 2 ^ 16 * x.setId
  else if off = 0x48 then
    b2n x.shadow.isSome + 2 * b2n x.loading + 2 ^ 16 * (match x.shadow with | some l => dId (setDesc l.par) | none => 0)
  else if off = 0x4C then x.wHead + 4 * ((x.wHead + x.wSrc.length) % 4) + 16 * x.wSrc.length
  else if off = 0x54 then
    x.aHead + 16 * ((x.aHead + x.aSrc.length) % max x.aSlots 1) + 256 * x.aSrc.length
      + 4096 * b2n (s.reg pg 0x50 != x.aSlots * 2 ^ 16 + x.aUnits)
  else if off = 0x5C then
    x.oHead + 16 * ((x.oHead + x.oLens.length) % max x.oSlots 1) + 256 * x.oLens.length
      + 4096 * b2n (s.reg pg 0x58 != x.oSlots * 2 ^ 16 + x.oUnits)
  else if off = 0x60 then
    x.roles.standby + 256 * x.roles.calcol + 2 ^ 16 * x.roles.lcol + 2 ^ 23 * b2n (x.rot == 4) + 2 ^ 24 * x.rotState
  else if off = 0x64 then
    x.healthy + 256 * (130 - x.healthy) + 2 ^ 16 * (if 129 ≤ x.healthy then 0 else if x.healthy = 128 then 1 else 2)
  else if 0x68 ≤ off && decide (off ≤ 0x78) then x.retired / 2 ^ (8 * (off - 0x68)) % 2 ^ 32
  else if 0x80 ≤ off && decide (off ≤ 0xFC) then
    ((List.range 4).map (fun i => tget (off - 0x80 + i) (off - 0x80 + i) x.roles.cmap * 256 ^ i)).sum
  else if off = 0x100 then x.roles.rowmap
  else if 0x104 ≤ off && decide (off ≤ 0x114) then x.rowFail / 2 ^ (8 * (off - 0x104)) % 2 ^ 32
  else if off = 0x140 then x.calCount % 2 ^ 32
  else if off = 0x204 then
    let c := s.sel p pg 0x200
    if 129 < c then 0
    else if s.mg.cs = 0 then 0x8000
    else (s.eff t (qCol c 0)).toNat % 2 ^ 16 + 2 ^ 16 * untwos 16 (s.eff t (qCol c 1))
  else if off = 0x214 then
    let sel := s.sel p pg 0x210
    if s.mg.cs = 0 || 129 < fld sel 7 0 || 131 < fld sel 15 8 then 0
    else (s.eff t (qRing (fld sel 15 8) (fld sel 7 0) (bitOf sel 16) 0)).toNat % 1024
  else s.reg pg off

/-- LOOP registers (R213). -/
def State.loopWord (s : State) (p : Path) (off : Nat) : Nat :=
  let z := s.sel p pgLoop 0x50
  let x := s.zn z
  if off = 0x54 then
    x.st.code + 16 * x.cause + 256 * b2n x.yValid + 512 * b2n x.sat + 1024 * b2n x.pilotShort + 2048 * b2n x.en
  else if off = 0x58 then x.s
  else if off = 0x5C then x.target
  else if off = 0x60 then (if x.work.isEmpty then 0 else x.power (s.zoneCode z))
  else if off = 0x64 then x.y
  else if off = 0x68 then x.r
  else if 0x6C ≤ off && decide (off ≤ 0x78) then x.x.getD ((off - 0x6C) / 4) 0
  else if off = 0x7C then s.zoneTheta z
  else if off = 0x80 then s.modelTemp
  else if 0x100 ≤ off && decide (off ≤ 0x17C) then maskOf (fun j => (s.zn (8 * (off - 0x100) + j)).st == .fault) 32
  else if 0x180 ≤ off && decide (off ≤ 0x1FC) then maskOf (fun j => (s.zn (8 * (off - 0x180) + j)).st == .locked) 32
  else s.reg pgLoop off

/-- STREAM registers (R241). -/
def State.streamWord (s : State) (p : Path) (off : Nat) : Nat :=
  let x := s.cx (s.sel p pgStream 0x48)
  if off = 0x4C then
    x.st + 8 * b2n x.det + 16 * b2n x.pois + 256 * x.kind + 2 ^ 12 * x.lastCause + 2 ^ 16 * x.cause
  else if off = 0x6C then (s.stm.ctx.filter (fun e => e.2.busy)).length
  else if 0x80 ≤ off && decide (off ≤ 0xDC) then
    let k := (off - 0x80) / 4
    s.tagsAt k + 2 ^ 16 * tget 0 k s.stm.peak
  else s.reg pgStream off

/-- BOUND of a check-value unit (R242). -/
def State.boundWord (s : State) (u : Nat) : Nat :=
  match tget none u s.chk with
  | some c => 2 ^ 31 + c
  | none =>
    if s.en (pgCheck u) && bitOf (s.reg (pgCheck u) 0x40) 1 then 2 ^ 31 + 2 ^ 30 + fld (s.reg (pgCheck u) 0x40) 31 14 else 0

/-- QUEUE registers (R279). -/
def State.queueWord (s : State) (p : Path) (off : Nat) : Nat :=
  if off = 0x58 then b2n (tget false (pathIx p) s.hif.met) + 2 * b2n (tget false (pathIx p) s.hif.refused)
  else if off = 0x68 then (match s.sy.fifo with | [] => 0 | c :: _ => 2 ^ 31 + c)
  else if off = 0x6C then s.sy.watches.length + 2 ^ 16 * s.sy.fifo.length + 2 ^ 31 * b2n s.sy.ovf
  else if off = 0x70 then s.q.hold.length
  else s.reg pgQueue off

/-- LINK registers (R342). -/
def State.linkWord (s : State) (p : Path) (l off : Nat) : Nat :=
  let x := s.lnk l
  if off = 0x48 then
    x.st.code + 16 * x.cause + 256 * x.spareTx.getD 15 + 4096 * x.spareRx.getD 15
  else if off = 0x4C then
    x.pDev + 2 ^ 16 * x.pLink + 2 ^ 30 * b2n x.pAssigned + 2 ^ 31 * b2n x.pValid
  else if off = 0x50 then x.d % 2 ^ 16 + 2 ^ 16 * (x.dTgt % 2 ^ 16)
  else if off = 0x64 && l == 0 then tget 0 (s.sel p (pgLink 0) 0x60) s.route
  else s.reg (pgLink l) off

/-- POWER registers (R400). -/
def State.powerWord (s : State) (off : Nat) : Nat :=
  if off = 0x70 then ((List.range 16).map (fun j => s.calVote j * 4 ^ j)).sum
  else if off = 0x74 then ((List.range 16).map (fun j => s.calVote (16 + j) * 4 ^ j)).sum
  else if off = 0x78 then ((List.range 9).map (fun j => s.calVote (32 + j) * 4 ^ j)).sum
  else if off = 0x88 then s.stateWord 32 9
  else if off = 0xA4 then s.pw.vmax + 256 * s.pw.level
  else s.reg pgPower off

/-- PROTECT registers (R444). -/
def State.protWord (s : State) (p : Path) (off : Nat) : Nat :=
  if off = 0x40 then b2n s.sec.lock
  else if off = 0x58 then (s.pwin p).size
  else if off = 0x5C then (s.pwin p).wr + 2 ^ 16 * (s.pwin p).rd
  else if off = 0x64 then
    ((List.range 8).map (fun j => tget 0 (8 * s.sel p pgProt 0x60 + j) s.sec.cellTag * 16 ^ j)).sum
  else if off = 0x6C then tget 0 (s.sel p pgProt 0x68) s.sec.owner
  else if 0x80 ≤ off && decide (off ≤ 0xAC) then s.sec.digest / 2 ^ (8 * (off - 0x80)) % 2 ^ 32
  else if off = 0xC4 then
    (let v := s.sel p pgProt 0xC0
     tget 0 (8 * fld v 3 0 + fld v 6 4) s.sec.violSnap)
  else if off = 0xC8 then maskOf (fun t => (List.range 8).any (fun k => tget 0 (8 * t + k) s.sec.viol != 0)) 16
  else s.reg pgProt off

/-- The debug path whose level and results an access path sees: the debug access port is that of JTAG (R439, R440). -/
def dbgOf : Path → Option DPath
  | .pf => some .pf
  | .mgmt => some .mgmt
  | .debug => some .jtag
  | _ => none

/-- DEBUG registers (R445). -/
def State.dbgWord (s : State) (p : Path) (off : Nat) : Nat :=
  let k := (dbgOf p).map dpIx
  if off = 0x44 then
    let own := match k with
      | some k => tget 0 k s.sec.result + 16 * tget 0 k s.sec.reason + 256 * tget 0 k s.sec.level
      | none => 0
    own + 2 ^ 13 * b2n s.sec.nonce.isSome + 2 ^ 14 * (if s.sec.nonce.isSome then s.sec.noncePath else 0)
      + 2 ^ 16 * b2n s.sec.halted + 2 ^ 17 * b2n s.sec.haltPending
  else if 0x80 ≤ off && decide (off ≤ 0x9C) then
    match s.sec.nonce with
    | some n => if k == some s.sec.noncePath then n / 2 ^ (8 * (off - 0x80)) % 2 ^ 32 else 0
    | none => 0
  else s.reg pgDbg off

/-- HKADC registers (R474). -/
def State.hkWord (s : State) (p : Path) (off : Nat) : Nat :=
  let c := s.sel p pgHk 0x5C
  if off = 0x60 then tget 0 c s.mg.codes
  else if off = 0x64 then s.quantity c (tget 0 c s.mg.codes)
  else if off = 0x70 then b2n (s.mg.calBusy != 0) + 2 * b2n s.mg.zNew.isSome + 4 * b2n s.mg.coef.isSome
  else if off = 0x74 then untwos 32 s.coefZ
  else if off = 0x78 then s.coefG
  else s.reg pgHk off

/-- CALSTORE registers (R474). -/
def State.csWord (s : State) (p : Path) (off : Nat) : Nat :=
  if off = 0x44 then
    s.mg.cs + 8 * b2n s.mg.noU + 16 * b2n s.mg.aValid + 32 * b2n s.mg.bValid + 256 * s.mg.result + 4096 * s.mg.reason
  else if off = 0x64 then (let l := s.sel p pgCs 0x60; if l < 36 then (s.lnk l).calCount % 2 ^ 32 else 0)
  else if off = 0x78 then
    s.mg.fwWords % 2 ^ 24 + 2 ^ 24 * b2n s.mg.fwSlot.isSome + 2 ^ 25 * b2n s.mg.fwLast + 2 ^ 26 * b2n s.mg.fwErr
  else s.reg pgCs off

/-- DIRECTORY registers (R371, Tables 13.2 and 13.3). -/
def dirWord (off : Nat) : Nat :=
  if off = 0x40 then 27
  else if 0x80 ≤ off then
    match dirRows[(off - 0x80) / 16]? with
    | none => 0
    | some r =>
      match (off - 0x80) % 16 / 4 with
      | 0 => r.ty + 2 ^ 16 * b2n r.hdr
      | 1 => r.count
      | 2 => r.off
      | _ => r.stride + 2 ^ 16 * r.first
  else 0

/-- HOSTIF registers (R381). -/
def State.hostWord (s : State) (off : Nat) : Nat :=
  if off = 0x40 then
    let sel := b2n (tget false 1 s.hif.ideOn) + b2n (tget false 2 s.hif.ideOn)
    sel + 4 * b2n (tget false 0 s.hif.ideOn) + 16 * b2n (s.hif.width != 0) + 256 * s.hif.rate + 2 ^ 16 * s.hif.width
  else if off = 0x44 then s.barLog 0 + 256 * s.barLog 1
  else s.reg pgHost off

/-- MEM_STAT and the stored registers of a controller (R363). -/
def State.memWord (s : State) (k off : Nat) : Nat :=
  if off = 0x44 then
    let c := s.ctl k
    c.st.code + 16 * b2n c.refresh2x + 2 ^ 24 * (c.scrub * 100 / granulesOf k % 256)
  else s.reg (pgMem k) off

/-- Block-specific registers that are no half of a 64-bit quantity. -/
def State.blockWord (s : State) (p : Path) (pg off : Nat) : Nat :=
  match blkOf pg with
  | .directory => dirWord off
  | .device => if off = 0x40 then 0x00019360 else if off = 0x44 then Config.stepping % 2 ^ 16 else s.reg pg off
  | .frame =>
    if off = 0x4C then untwos 16 s.fr.err + 2 ^ 16 * untwos 16 s.fr.pending
    else if off = 0x58 then s.fr.tif % 2 ^ 20
    else if off = 0xA0 then s.fr.buf.length + s.fr.applying.length
    else s.reg pg off
  | .governor =>
    if off = 0x50 then s.gov.code + 256 * untwos 4 s.gov.lastStep + 2 ^ 16 * untwos 12 s.gov.winSlack else s.reg pg off
  | .registry =>
    if off = 0x50 then (s.regUsed + 4095) / 4096 + 2 ^ 16 * ((s.rg.peak + 4095) / 4096)
    else if off = 0x68 then
      let v := s.rg.pend.getD ⟨s.rg.last, s.rg.lastOwn, s.rg.lastOrigin⟩
      v.origin + 2 ^ 16 * min (tget 0 v.g s.rg.replays) 7 + 2 ^ 30 * b2n v.own + 2 ^ 31 * b2n s.rg.pend.isSome
    else if off = 0x7C then s.rg.logHead % 2 ^ 32
    else s.reg pg off
  | .power => s.powerWord off
  | .hkadc => s.hkWord p off
  | .calstore => s.csWord p off
  | .calendar =>
    if off = 0x54 then b2n s.mg.timeValid + 2 * b2n s.mg.vbatLow + 4 * b2n s.mg.onVbat else s.reg pg off
  | .protect => s.protWord p off
  | .debug => s.dbgWord p off
  | .hostif => s.hostWord off
  | .loop => s.loopWord p off
  | .check => if off = 0x44 then s.boundWord (instOf pg) else s.reg pg off
  | .stream => s.streamWord p off
  | .queue => s.queueWord p off
  | .tile => s.tileWord p (instOf pg) off
  | .link => s.linkWord p (instOf pg) off
  | .hbm => s.memWord (instOf pg) off
  | .lpddr => s.memWord (8 + instOf pg) off
  | _ => s.reg pg off

/-- The common header (R16 to R24). -/
def State.hdrWord (s : State) (p : Nat) (off : Nat) : Nat :=
  if off = 0x00 then typeOf p * 2 ^ 16 + instOf p
  else if off = 0x04 then 0x100
  else if off = 0x08 then capOf p
  else if off = 0x0C then tget 0 p s.sec.owner + 512 * b2n s.sec.lock
  else if off = 0x10 then s.reg p 0x10 + 2 * b2n (tget false p s.soft)
  else if off = 0x14 then s.stat p
  else if off = 0x18 then s.raw p
  else if off = 0x1C then tget 0 p s.evEn
  else if off = 0x20 then s.evPend p
  else if off = 0x28 then s.reg p 0x28
  else if off = 0x2C then s.reg p 0x2C
  else 0

/-- The live value of the 64-bit quantity whose low half is at location `l`. -/
def State.quad (s : State) (p : Path) (l : Loc) : Nat :=
  match l with
  | .page pg off => s.pageQuad p pg off
  | .qdt q b => let d := s.qd q; if b = 0 then d.q0 else d.q1
  | .cell c _ => s.cell c
  | .coef _ _ => 0
  | .none => 0

/-- The 4-byte register at location `l`, its halves taken live. -/
def State.word (s : State) (p : Path) (l : Loc) : Nat :=
  match l with
  | .page pg off =>
    if isLow l then s.pageQuad p pg off % 2 ^ 32
    else if isHigh l then s.pageQuad p pg (off - 4) / 2 ^ 32 % 2 ^ 32
    else match selMask pg off with
      | some _ => s.sel p pg off
      | none => if off < 0x30 then s.hdrWord pg off else s.blockWord p pg off
  | .qdt q b => let d := s.qd q; (if b < 8 then d.q0 else d.q1) / 2 ^ (32 * (b / 4 % 2)) % 2 ^ 32
  | .cell c b => s.cell c / 2 ^ (8 * b) % 2 ^ 32
  | .coef z b => tget 0 (64 * z + b / 4) s.lp.mem
  | .none => 0

/-- The page that guards a location, and whether path `p` may read it (Table 16.4). -/
def State.mayRead (s : State) (p : Path) (l : Loc) : Bool :=
  match l with
  | .page pg _ => s.mayPathR p pg
  | .qdt q _ => s.portOpen p pgQueue 1 && s.powered pgQueue && s.mayQueue (pathTenant p) q
  | .cell c _ => s.portOpen p pgQueue 1 && s.powered pgQueue && s.mayCell (pathTenant p) c
  | .coef _ _ => s.portOpen p pgLoop 1 && s.powered pgLoop && pathTenant p == 0
  | .none => true

/-- The page whose domain and debug port a location shares. -/
def Loc.pageOf : Loc → Nat
  | .page pg _ => pg
  | .coef _ _ => pgLoop
  | .none => 0
  | _ => pgQueue

end Sys2Proof.Machine
end

