-- ==== Sys2Proof/Machine/RegWrite.lean ====
section
/-!
DEFINITION. What a write to a register of BAR0 does: access codes (Table 0.2, R11 to R14), the common header, and every
writable register of every page, by the register tables of their chapters. Registers whose write is a command of its own
call that command's operation.
-/
namespace Sys2Proof.Machine

/-! ### Access codes -/

/-- A protection-map item accepts a write from the housekeeping core until the boot lock; any other write is a violation of
source 6 (R13, R433). -/
def State.mapWrite (s : State) (p : Path) (go : State → State) : State :=
  if s.sec.lock || p ≠ .core then s.violate (pathTenant p) 6 else go s

/-- A write of another RWL register: any path until the boot lock, a violation of source 6 after it (R13, R433). -/
def State.rwlWrite (s : State) (p : Path) (go : State → State) : State :=
  if s.sec.lock then s.violate (pathTenant p) 6 else go s

/-- A write of a stored register, its other bits ignored (Table 0.2). -/
def State.putReg (s : State) (p : Path) (pg off v : Nat) : State :=
  match rowOf pg off with
  | none => s
  | some r =>
    if r.rwl ≠ 0 then s.rwlWrite p (fun s => s.setReg pg off (Nat.land v r.rwl))
    else if r.rw ≠ 0 then s.setReg pg off (Nat.land v r.rw)
    else s

/-- A write of a selection register (R82). -/
def State.setSel (s : State) (p : Path) (pg off v m : Nat) : State :=
  { s with hif := { s.hif with sel := tset 0 (selKey p pg off) (Nat.land v m) s.hif.sel } }

/-! ### The common header -/

/-- The bits of `a` that `b` does not hold. -/
def bitClear (a b : Nat) : Nat := a - Nat.land a b

/-- A W1C write of EVT_RAW; events of `hw` occur in the same step and stay set (R14). -/
def State.rawClear (s : State) (p v hw : Nat) : State :=
  let old := s.raw p
  let hw := Nat.land hw (evtMask p)
  let new := Nat.lor (bitClear old v) hw
  State.rewrite s ((s.clearRecords p (bitClear old new)).setRaw p new) p

/-- A write of EVT_EN. -/
def State.evEnWrite (s : State) (p v : Nat) : State :=
  State.rewrite s { s with evEn := tset 0 p (Nat.land v (evtMask p)) s.evEn } p

/-- A write of EVT_FORCE (R16). -/
def State.rawForce (s : State) (p v : Nat) : State := s.setRaw p (Nat.lor (s.raw p) (Nat.land v (evtMask p)))

/-- A snapshot of the page's counters, with the frame number; peaks start again from what is in use (R23, R241, R429). -/
def State.cntSnapAll (s : State) (p : Nat) : State :=
  let s := { s with snap := forN (cntPlace p).2 (fun k m => tset 0 (32 * p + k) (s.cntLive p k) m) s.snap }
  let s := (s.setReg p 0x28 4).setReg p 0x2C (s.fr.num % 2 ^ 32)
  match blkOf p with
  | .protect => { s with sec := { s.sec with violSnap := s.sec.viol } }
  | .stream => { s with stm := { s.stm with peak := forN 24 (fun k m => tset 0 k (s.tagsAt k) m) [] } }
  | .registry => { s with rg := { s.rg with peak := s.regUsed } }
  | _ => s

/-- All of the page's counters are cleared; a snapshot taken by the same write is kept (R24). -/
def State.cntClearAll (s : State) (p : Nat) (keep : Bool) : State :=
  let s := { s with cnt := tdrop (fun k => k / 32 == p) s.cnt
                    snap := if keep then s.snap else tdrop (fun k => k / 32 == p) s.snap }
  match blkOf p with
  | .protect => { s with sec := { s.sec with viol := [], violSnap := if keep then s.sec.violSnap else [] } }
  | _ => s

/-- A write of CNT_CTRL (R23, R24). -/
def State.cntCtrl (s : State) (p v : Nat) : State :=
  let s1 := if bitOf v 0 then s.cntSnapAll p else s
  if bitOf v 1 then s1.cntClearAll p (bitOf v 0) else s1

/-- CTRL.EN of a page takes a value. Binding a queue to a check-value unit clears RESULT.DONE (R242); the frame unit leaves
HALTED under Table 10.3, and enters it at a boundary; what waited for a disabled controller goes on (R20, log 45). -/
def State.enWrite (s : State) (p : Nat) (on : Bool) : State :=
  let rise := on && !s.en p
  let s := s.setReg p 0x10 (b2n on)
  match blkOf p with
  | .check => if rise && bitOf (s.reg p 0x40) 1 then s.setReg p 0x5C (s.reg p 0x5C / 2 * 2) else s
  | .frame => if on then s.tryStart else s
  | .hbm => if rise then s.flushWaits.queueWake else s
  | .lpddr => if rise then s.flushWaits.queueWake else s
  | _ => s

/-- A write of CTRL (R16, R19). -/
def State.ctrlWrite (s : State) (p v : Nat) : State :=
  let s := s.enWrite p (bitOf v 0)
  if bitOf v 1 then { s with soft := tset false p true s.soft } else s

/-- A write of a header register. -/
def State.hdrWrite (s : State) (p off v : Nat) : State :=
  if off = 0x10 then s.ctrlWrite p v
  else if off = 0x18 then s.rawClear p v 0
  else if off = 0x1C then s.evEnWrite p v
  else if off = 0x24 then s.rawForce p v
  else if off = 0x28 then s.cntCtrl p v
  else s

/-! ### Block-specific registers -/

def w32 (v : Nat) : BitVec 32 := BitVec.ofNat 32 v

/-- LOOP (R211 to R213). STOP before ARM where one write gives both (log 47). -/
def State.loopWrite (s : State) (p : Path) (off v : Nat) : State :=
  if off = 0x48 then (if bitOf v 31 then s.zoneCmdWrite p (fld v 30 28) (fld v 9 0) (bitOf v 27) else s)
  else if off = 0x84 then opTestCfgWrite p (w32 v) s
  else if off = 0x94 then
    let s := if bitOf v 1 then opCapStop p s else s
    if bitOf v 0 then opCapArm p s else s
  else s.putReg p pgLoop off v

/-- STREAM (R241). -/
def State.streamWrite (s : State) (p : Path) (off v : Nat) : State :=
  if off = 0x44 then
    let s := s.putReg p pgStream off v
    if bitOf v 1 then opShareFlush p s else s
  else if off = 0x68 then
    if !bitOf v 31 then s
    else if fld v 1 0 = 1 then opStreamStop p s
    else if fld v 1 0 = 2 then opStreamClear p s
    else s.raise pgStream 2
  else s.putReg p pgStream off v

/-- The check-value unit is bound to a stream or to a queue (R238, R239). -/
def State.unitBound (s : State) (u : Nat) : Bool :=
  (tget none u s.chk).isSome || (s.en (pgCheck u) && bitOf (s.reg (pgCheck u) 0x40) 1)

/-- CHECK (R239, R242). -/
def State.checkWrite (s : State) (p : Path) (u off v : Nat) : State :=
  if off = 0x40 then (if s.unitBound u then s.reject (pgCheck u) 3 else s.putReg p (pgCheck u) off v)
  else if off = 0x58 then
    let s := if bitOf v 1 then opCheckCompare p (Fin.ofNat 32 u) s else s
    if bitOf v 0 then opCheckInit p (Fin.ofNat 32 u) s else s
  else s.putReg p (pgCheck u) off v

/-- FRAME (R283, R286, R294, R310). -/
def State.frameWrite (s : State) (p : Path) (off v : Nat) : State :=
  if off = 0x40 then opFrameCfgWrite p (w32 v) s
  else if off = 0x44 then
    let v := Nat.land v 0x00FF3F03
    if fld v 1 0 = 3 || 35 < fld v 13 8 || fld v 23 16 = 0 then s.reject pgFrame 9
    else
      let s := s.setReg pgFrame 0x44 v
      if s.fr.st = .halted || s.fr.st = .acquire || s.fr.st = .resync then s.applyAlign else s
  else if off = 0x70 then
    let v := v % 2 ^ 13
    if v = 0 || 4096 < v then s.reject pgFrame 9
    else
      let s := s.setReg pgFrame 0x70 v
      if s.fr.st = .halted then s.applyPlan else s
  else s.putReg p pgFrame off v

/-- GOVERNOR (R311): VLIM outside VMIN ≤ VMAX ≤ 50 is discarded; the code moves into new limits (log 46). -/
def State.govWrite (s : State) (p : Path) (off v : Nat) : State :=
  if off = 0x48 then
    s.rwlWrite p (fun s =>
      let lo := fld v 5 0
      let hi := fld v 13 8
      if hi < lo || 50 < hi then s
      else
        let s := s.setReg pgGov 0x48 (lo + 256 * hi)
        let vm := if s.pw.throttling then max lo (min s.pw.vmax hi) else hi
        let s := { s with pw := { s.pw with vmax := vm, throttling := s.pw.throttling && decide (vm < hi) } }
        if s.gov.code < lo && !s.gov.adjusting then s.startAdjust lo else s.holdVmax)
  else if off = 0x4C then opVsetWrite p (w32 v) s
  else s.putReg p pgGov off v

/-- A command of LINK_CMD (R342). -/
def State.linkCmdWrite (s : State) (p : Path) (l v : Nat) : State :=
  let f := Fin.ofNat 36 l
  if !bitOf v 31 then s
  else match fld v 2 0 with
    | 1 => opLinkUp p f s
    | 2 => opLinkDown p f s
    | 3 => opLinkDoze p f s
    | 4 => opLinkWake p f s
    | 5 => if fld v 11 8 < 8 then opLinkSubst p f (Fin.ofNat 8 (fld v 11 8)) s else s.linkCmd p l false id
    | _ => s.linkCmd p l false id

/-- LINK (R328, R342): LINK_CFG in OFF only, leaving 16 entries for the tunnel; PORT and the routes until the freeze. -/
def State.linkWrite (s : State) (p : Path) (l off v : Nat) : State :=
  let pg := pgLink l
  if off = 0x40 then
    let v := Nat.land v 0x1FFF1FFF
    if (s.lnk l).st ≠ .off || 4080 < fld v 12 0 + fld v 28 16 then s.reject pg 10 else s.setReg pg 0x40 v
  else if off = 0x44 then s.linkCmdWrite p l v
  else if off = 0x58 then (if s.frozen then s.reject pg 10 else s.setReg pg 0x58 (v % 64))
  else if off = 0x5C then (if l = 0 && bitOf v 0 then opMapFreeze p s else s)
  else if off = 0x64 then
    if l ≠ 0 then s
    else if s.frozen then s.reject pg 10
    else { s with route := tset 0 (s.sel p pg 0x60) (Nat.land v 0xBF) s.route }
  else s.putReg p pg off v

/-- A memory controller's MEM_CFG: a SCRUB_HOURS of 0 leaves the field (R363). -/
def State.memCfgWrite (s : State) (p : Path) (k off v : Nat) : State :=
  if off = 0x40 then
    s.putReg p (pgMem k) off (if fld v 15 8 = 0 then setFld v 15 8 (fld (s.reg (pgMem k) 0x40) 15 8) else v)
  else s.putReg p (pgMem k) off v

/-- HOSTIF: a route to a function that the page's ownership does not allow is discarded (R374). -/
def State.hostWrite (s : State) (p : Path) (off v : Nat) : State :=
  if 0x100 ≤ off && decide (off < 0x6F8) then
    let own := tget 0 ((off - 0x100) / 4) s.sec.owner
    let f := fld v 11 8
    if (own < 256 && decide (f ≠ 0)) || (256 ≤ own && decide (f ≠ own % 16)) then s.reject pgHost 6
    else s.putReg p pgHost off v
  else s.putReg p pgHost off v

/-- T_WARN ≤ T_THROTTLE ≤ T_ALARM < T_SHUT, and T_SHUT at most 110 (R400). -/
def limitsOk (l1 l2 : Nat) : Bool :=
  decide (fld l1 7 0 ≤ fld l1 15 8) && decide (fld l1 15 8 ≤ fld l1 23 16) && decide (fld l1 23 16 < fld l2 7 0)
    && decide (fld l2 7 0 ≤ 110)

/-- POWER (R386, R393, R400). -/
def State.powerWrite (s : State) (p : Path) (off v : Nat) : State :=
  if 0x40 ≤ off && decide (off < 0x80) then
    if off % 16 < 12 then opVoteWrite p (Fin.ofNat 4 ((off - 0x40) / 16)) (Fin.ofNat 3 (off % 16 / 4)) (w32 v) s else s
  else if off = 0x98 then s.setReg pgPower 0x98 (bitClear (s.reg pgPower 0x98) (v % 64))
  else if off = 0xAC then s.setReg pgPower 0xAC (bitClear (s.reg pgPower 0xAC) (v % 4))
  else if off = 0x9C then
    if limitsOk v (s.reg pgPower 0xA0) then s.putReg p pgPower off v else s.reject pgPower 8
  else if off = 0xA0 then
    s.rwlWrite p (fun s => if limitsOk (s.reg pgPower 0x9C) v then s.setReg pgPower 0xA0 (v % 2 ^ 16) else s.reject pgPower 8)
  else if off = 0xB0 then opA3Cmd p (w32 v) s
  else s.putReg p pgPower off v

/-- The registry area lies wholly in the general store (R429). -/
def regPlaced (base units : Nat) : Bool :=
  decide (0 < units) && decide (units ≤ 1024) && rangeInHub base (65536 * units)

/-- REGISTRY (R428, R429). -/
def State.regWrite (s : State) (p : Path) (off v : Nat) : State :=
  if off = 0x48 then
    if s.fr.st = .halted && regPlaced (s.reg64 pgReg 0x40) (v % 2 ^ 11) then s.setReg pgReg 0x48 (v % 2 ^ 11)
    else s.reject pgReg 6
  else if off = 0x4C then (if v % 8 = 0 then s.reject pgReg 6 else s.setReg pgReg 0x4C (v % 8))
  else if off = 0x78 then
    let v := Nat.land v 0x8000001F
    if fld v 4 0 < 7 || 20 < fld v 4 0 || (bitOf v 31 && !logPlaced (s.reg64 pgReg 0x70) (fld v 4 0)) then s.reject pgReg 6
    else
      let s := s.setReg pgReg 0x78 v
      if s.fr.st = .halted then s.applyLog else s
  else s.putReg p pgReg off v

/-- Tenant tags of the eight cells of group `g` (R444). -/
def State.tagWrite (s : State) (g v : Nat) : State :=
  { s with sec := { s.sec with
      cellTag := forN 8 (fun j m => tset 0 (8 * g + j) (fld v (4 * j + 3) (4 * j)) m) s.sec.cellTag } }

/-- A field of the window that a path selects (R444). -/
def State.winWrite (s : State) (p : Path) (go : PWin → PWin) : State :=
  s.mapWrite p (fun s => { s with sec := { s.sec with wins := tset {} (s.sel p pgProt 0x48) (go (s.pwin p)) s.sec.wins } })

/-- PROTECT (R433, R444). -/
def State.protWrite (s : State) (p : Path) (off v : Nat) : State :=
  if off = 0x40 then
    if s.sec.lock || p ≠ .core then s.violate (pathTenant p) 6 else if bitOf v 0 then opBootLock true s else s
  else if off = 0x44 then s.mapWrite p (fun s => s.setReg pgProt 0x44 (Nat.land v 0x73))
  else if off = 0x58 then s.winWrite p (fun w => { w with size := v % 2 ^ 30 })
  else if off = 0x5C then s.winWrite p (fun w => { w with rd := v / 2 ^ 16, wr := v % 2 ^ 16 })
  else if off = 0x64 then s.mapWrite p (fun s => s.tagWrite (s.sel p pgProt 0x60) v)
  else if off = 0x6C then
    s.mapWrite p (fun s =>
      let pg := s.sel p pgProt 0x68
      if pg < 382 then { s with sec := { s.sec with owner := tset 0 pg (Nat.land v 0x10F) s.sec.owner } } else s)
  else s.putReg p pgProt off v

/-- DEBUG: DBG_CMD and RESPONSE of the writing path (R440, R441, R445). -/
def State.dbgWrite (s : State) (p : Path) (off v : Nat) : State :=
  match dbgOf p with
  | none => s
  | some dp =>
    if off = 0x40 then
      if !bitOf v 31 then s
      else match fld v 2 0 with
        | 1 => opGenChallenge dp s
        | 2 => opUnlock dp (BitVec.ofNat 2 (fld v 9 8)) s
        | 3 => opRelock dp s
        | 4 => opDebugHalt dp s
        | 5 => opResume dp s
        | _ => s.dbgCmd (fun s => s.dbgRefuse dp 0)
    else if 0xA0 ≤ off && decide (off ≤ 0xFC) then
      { s with sec := { s.sec with response := tset 0 (128 * dpIx dp + (off - 0xA0)) v s.sec.response } }
    else s

/-- HKADC (R461 to R465, R474). -/
def State.hkWrite (s : State) (p : Path) (off v : Nat) : State :=
  if off = 0x40 then
    if fld v 20 0 < 400 || 1280000 < fld v 20 0 || fld v 27 24 < 3 then s else s.putReg p pgHk off v
  else if off = 0x44 then
    let s := s.putReg p pgHk off v
    if bitOf v 7 then { s with mg := { s.mg with trigArmed := s.tb.tick } } else s
  else if off = 0x68 then
    if fld v 1 0 = 1 then opCalZero p s else if fld v 1 0 = 2 then opCalFull p s else s
  else s.putReg p pgHk off v

/-- CALSTORE (R469 to R474). -/
def State.csWrite (s : State) (p : Path) (off v : Nat) : State :=
  if off = 0x40 then
    if !bitOf v 31 then s
    else match fld v 2 0 with
      | 1 => opCsCommit p s
      | 2 => opCsLoad p s
      | 3 => opCsImport p s
      | _ => s.csCmd p (fun s => s.csRefuse 0)
  else if off = 0x70 then
    if !bitOf v 31 then s
    else match fld v 1 0 with
      | 1 => opFwErase p (bitOf v 4) s
      | 2 => opFwFinish p (bitOf v 4) s
      | _ => s.reject pgCs 4
  else if off = 0x74 then opFwData p (w32 v) s
  else s.putReg p pgCs off v

/-- A write of a 4-byte register past the header that is no half of a 64-bit quantity. -/
def State.blockWrite (s : State) (p : Path) (pg off v : Nat) : State :=
  match blkOf pg with
  | .directory => s
  | .device =>
    if off = 0x50 then opDevnumWrite p (w32 v) s else if off = 0x58 then opWarmReset p (w32 v) s else s.putReg p pg off v
  | .timebase =>
    let t := (s.putReg p pg off v).applyOsc
    if (t.tb.localOsc || t.tb.confined) && t.fr.src ≠ 0 then t else t.tryStart
  | .frame => s.frameWrite p off v
  | .governor => s.govWrite p off v
  | .registry => s.regWrite p off v
  | .power => s.powerWrite p off v
  | .hkadc => s.hkWrite p off v
  | .calstore => s.csWrite p off v
  | .protect => s.protWrite p off v
  | .debug => s.dbgWrite p off v
  | .hostif => s.hostWrite p off v
  | .loop => s.loopWrite p off v
  | .check => s.checkWrite p (instOf pg) off v
  | .stream => s.streamWrite p off v
  | .tile =>
    if off = 0x50 then opAringCfgWrite p (Fin.ofNat 256 (instOf pg)) (w32 v) s
    else if off = 0x58 then opOringCfgWrite p (Fin.ofNat 256 (instOf pg)) (w32 v) s
    else if off = 0x118 then opRowSubstReq p (Fin.ofNat 256 (instOf pg)) (w32 v) s
    else
      let t := s.putReg p pg off v
      if off = 0x40 && bitOf (s.reg pg 0x40) 0 && !bitOf v 0 then (t.rotStop (instOf pg)).a1Follow else t
  | .link => s.linkWrite p (instOf pg) off v
  | .hbm => s.memCfgWrite p (instOf pg) off v
  | .lpddr => s.memCfgWrite p (8 + instOf pg) off v
  | .calendar => s.putReg p pg off v
  | .courier => s.putReg p pg off v
  | .smbus => s.putReg p pg off v
  | .vsu => s.putReg p pg off v
  | .queue => s.putReg p pg off v

/-! ### 64-bit quantities -/

/-- 48-bit address `v` with the low bits that must be 0 read as 0 (log 46). -/
def addrOf (v unit : Nat) : Nat := v % 2 ^ 48 / unit * unit

/-- The frame number, in HALTED only (R310). -/
def State.frameQuad (s : State) (off v : Nat) : State :=
  if off = 0x50 then (if s.fr.st = .halted then { s with fr := { s.fr with num := v } } else s)
  else if off = 0x68 then
    let s := s.setReg64 pgFrame 0x68 (addrOf v 16)
    if s.fr.st = .halted then s.applyPlan else s
  else if off = 0x78 then s.armSwitch v
  else if 0x200 ≤ off then s.setReg64 pgFrame off (addrOf v 4096)
  else s

/-- The debug aperture's 8-byte read, free of side effects: two adjacent registers of BAR0, or module memory (R442,
log 47). -/
def State.apertureRead (s : State) (a : Nat) (phys : Bool) : Nat :=
  if phys then
    let v := if s.found (a / 64) .clean = .uncorrectable then 0 else leNat (((s.granBytes (a / 64)).drop (a % 64)).take 8)
    match regionOf a with
    | .ctl k => if (s.ctl k).st = .active then v else 0
    | .none => 0
    | _ => v
  else
    let rd (o : Nat) : Nat := let l := locate (o % 2 ^ 26); if s.powered l.pageOf then s.word .debug l else 0
    rd a + 2 ^ 32 * rd (a + 4)

/-- A write of the aperture's address at level 1 or above (R442, R445). -/
def State.aperture (s : State) (dp : DPath) (v : Nat) : State :=
  let a := addrOf v 8
  let s := s.setReg64 pgDbg 0x100 (a + 2 ^ 63 * b2n (bitOf v 63))
  if 1 ≤ s.dbgLevel dp && s.en pgDbg then s.setReg64 pgDbg 0x108 (s.apertureRead a (bitOf v 63)) else s

/-- Both halves of a 64-bit quantity come into force in one step (R9); `off` is the low half's offset in its page. -/
def State.pageQuadWrite (s : State) (p : Path) (pg off v : Nat) : State :=
  match blkOf pg with
  | .frame => s.frameQuad off v
  | .registry =>
    if off = 0x40 then
      let b := addrOf v 65536
      if s.fr.st = .halted && regPlaced b (s.reg pgReg 0x48) then s.setReg64 pgReg 0x40 b else s.reject pgReg 6
    else if off = 0x70 then
      let s := s.setReg64 pgReg 0x70 (addrOf v 4096)
      if s.fr.st = .halted then s.applyLog else s
    else s
  | .calstore => if off = 0x48 then s.setReg64 pgCs 0x48 (v % 2 ^ 48) else s
  | .calendar =>
    if off = 0x40 then opTimeWrite p (BitVec.ofNat 64 v) s
    else if off = 0x48 then opAlarmWrite p (BitVec.ofNat 64 v) s
    else s
  | .protect => s.winWrite p (fun w => { w with base := addrOf v 4096 })
  | .debug => (match dbgOf p with | some dp => if off = 0x100 then s.aperture dp v else s | none => s)
  | .hostif =>
    if 0x800 ≤ off then
      let f := (off - 0x800) / 128
      let base := v % 2 ^ 48
      if base % (2 ^ s.barLog f / 16) = 0 then
        { s with hif := { s.hif with seg := tset none (16 * f + (off - 0x800) % 128 / 8) (some base) s.hif.seg } }
      else s.reject pgHost 6
    else s
  | .loop => if off = 0xA0 then s.setReg64 pgLoop 0xA0 (v % 2 ^ 48) else s
  | .check =>
    if off = 0x48 || off = 0x50 then
      if s.unitBound (instOf pg) then s.reject pg 3
      else (if off = 0x48 then s.undoUnit (instOf pg) else s).setReg64 pg off v
    else s
  | .queue =>
    if off = 0x50 then s.syncReg p v
    else if 0x800 ≤ off then opProfileWrite p (Fin.ofNat 256 ((off - 0x800) / 8)) (BitVec.ofNat 64 v) s
    else s
  | _ => s

/-! ### The locations of BAR0 -/

/-- Path `p` may write at a location (Table 16.4; log 42). -/
def State.mayWrite (s : State) (p : Path) (l : Loc) : Bool :=
  match l with
  | .page pg _ => s.mayPath p pg
  | .qdt q _ => s.mayPathQ p q
  | .cell c _ => s.mayPathCell p c
  | .coef _ _ => s.portOpen p pgLoop 3 && s.powered pgLoop && pathTenant p == 0
  | .none => true

/-- The low half in force of a 64-bit quantity; SYNC_OP, which is write-only, holds none (R9, log 47). -/
def State.lowInForce (s : State) (p : Path) (l : Loc) : Nat :=
  if l = .page pgQueue 0x50 then 0 else s.quad p l % 2 ^ 32

/-- Both halves come into force (R9). -/
def State.quadWrite (s : State) (p : Path) (l : Loc) (v : Nat) : State :=
  match l with
  | .page pg off => s.pageQuadWrite p pg off v
  | .qdt q b => opQueueDescWrite p (Fin.ofNat 262144 q) (decide (8 ≤ b)) (BitVec.ofNat 64 v) s
  | .cell c _ => opSyncCellWrite p (Fin.ofNat 8192 c) (BitVec.ofNat 64 v) s
  | .coef _ _ => s
  | .none => s

/-- A write of a 4-byte register that is no half of a 64-bit quantity. -/
def State.wordWrite (s : State) (p : Path) (l : Loc) (v : Nat) : State :=
  match l with
  | .page pg off =>
    match selMask pg off with
    | some m => s.setSel p pg off v m
    | none => if off < 0x40 then s.hdrWrite pg off v else s.blockWrite p pg off v
  | .coef z b => { s with lp := { s.lp with mem := tset 0 (64 * z + b / 4) v s.lp.mem } }
  | _ => s

/-- A BAR0 access of a shape R4 does not permit, counted in HOSTIF (R4, Table 13.5). -/
def State.badAccess (s : State) : State := s.countRaise pgHost 0 0

/-- The low half of a quantity whose fields the boot lock closes, or that only the housekeeping core may write: the write is
discarded and counted (R13, R433, R444). -/
def State.lowLocked (s : State) (p : Path) (l : Loc) : Bool :=
  decide (l = .page pgProt 0x50) && (s.sec.lock || p != .core)

/-- A 4-byte write at BAR0 offset `off`: a low half is staged, a high half brings both into force (R9); what the path may
not reach is dropped (R436). -/
def State.write4 (s : State) (p : Path) (off v : Nat) : State :=
  let l := locate off
  if off % 4 ≠ 0 then s.badAccess
  else if !s.mayWrite p l then s.deny p l.pageOf
  else if s.lowLocked p l then s.violate (pathTenant p) 6
  else if isLow l then { s with hif := { s.hif with staged := tset none (halfKey p off) (some v) s.hif.staged } }
  else if isHigh l then
    let k := halfKey p (off - 4)
    let lo := (tget none k s.hif.staged).getD (s.lowInForce p (locate (off - 4)))
    let s := { s with hif := { s.hif with staged := tset none k none s.hif.staged } }
    s.quadWrite p (locate (off - 4)) (lo + 2 ^ 32 * v)
  else s.wordWrite p l v

/-- An 8-byte write (R4, R9). -/
def State.write8 (s : State) (p : Path) (off v : Nat) : State :=
  let l := locate off
  if off % 8 ≠ 0 || !isLow l then s.badAccess
  else if !s.mayWrite p l then s.deny p l.pageOf
  else s.quadWrite p l v

end Sys2Proof.Machine
end

