-- ==== Sys2Proof/Machine/Access.lean ====
section
/-!
DEFINITION. Accesses from the host and from management: 4-byte and 8-byte reads and writes of BAR0 (R4 to R9), the mutex
arbiter (R376 to R378), events and counters, MSI-X (R375), the PCIe port (R364 to R368, R478), BAR4 (R359 to R361, R369,
R370), and the debug accesses (R439, R442).
-/
namespace Sys2Proof.Machine

/-! ### Reads of BAR0 -/

/-- A 4-byte read at BAR0 offset `off`: a low half fills the path's holding register (R5), a high half empties it (R5, R7),
WATCH_POP takes its entry (R277), and what the path may not reach reads 0 (R436). -/
def State.read4 (s : State) (p : Path) (off : Nat) : State :=
  let l := locate off
  if off % 4 ≠ 0 then s.badAccess.answer (.word 0)
  else if !s.mayRead p l then (s.denyR p l.pageOf).answer (.word 0)
  else if isLow l then
    let q := s.quad p l
    ({ s with hif := { s.hif with hold := tset none (halfKey p off) (some (q / 2 ^ 32 % 2 ^ 32)) s.hif.hold } }).answer
      (.word (q % 2 ^ 32))
  else if isHigh l then
    let k := halfKey p (off - 4)
    let v := (tget none k s.hif.hold).getD (s.word p l)
    ({ s with hif := { s.hif with hold := tset none k none s.hif.hold } }).answer (.word v)
  else if l = .page pgQueue 0x68 then opWatchPop p s
  else s.answer (.word (s.word p l))

/-- An 8-byte read: both halves in one step; the holding registers stay as they are (R5, R8). -/
def State.read8 (s : State) (p : Path) (off : Nat) : State :=
  let l := locate off
  if off % 8 ≠ 0 || !isLow l then s.badAccess.answer (.word 0)
  else if !s.mayRead p l then (s.denyR p l.pageOf).answer (.dword 0)
  else s.answer (.dword (s.quad p l))

/-- MALFORMED_ACCESS (R4). -/
def opMalformedAccess (_p : Path) (_off : BitVec 26) (write : Bool) (s : State) : State :=
  s.badAccess.answer (if write then .ok else .word 0)

/-- READ_LOW_HALF: a 4-byte read of a low half, or an 8-byte read of both halves (R5, R8). -/
def opReadLowHalf (p : Path) (off : BitVec 26) (wide : Bool) (s : State) : State :=
  if wide then s.read8 p off.toNat else s.read4 p off.toNat

/-- READ_HIGH_HALF (R7). -/
def opReadHighHalf (p : Path) (off : BitVec 26) (s : State) : State := s.read4 p off.toNat

/-! ### Writes of BAR0 -/

/-- The side of the arbiter a path writes from: 0 host, 1 management, none for the housekeeping core (R376). -/
def sideOf : Path → Option Nat
  | .pf => some 0
  | .vf _ => some 0
  | .mgmt => some 1
  | .debug => some 1
  | .core => none

/-- The page of a location that has one. -/
def locPage (l : Loc) : Option Nat :=
  match l with
  | .page pg _ => some pg
  | _ => none

/-- Management's write takes effect: the register is of class Power, Reset or Link administration (Table 13.4). -/
def mgmtClass (l : Loc) : Bool :=
  match l with
  | .page pg off =>
    match blkOf pg with
    | .power => true
    | .governor => off == 0x48 || off == 0x4C
    | .device => off == 0x58 || off == 0x50
    | .link => ([0x40, 0x44, 0x54, 0x58, 0x5C, 0x60, 0x64] : List Nat).contains off
    | .frame => off == 0x44
    | _ => false
  | _ => false

/-- A write of 4 bytes, or of 8. -/
def State.put (s : State) (p : Path) (off : Nat) (wide : Bool) (v : Nat) : State :=
  if wide then s.write8 p off v else s.write4 p off (v % 2 ^ 32)

/-- The register, or the 64-bit quantity at its low half, that a write brings into force: a staged low half brings none (R9). -/
def broughtBy (off : Nat) (wide : Bool) : Option Loc :=
  let l := locate off
  if l = .none then none
  else if wide then (if isLow l && decide (off % 8 = 0) then some l else none)
  else if off % 4 ≠ 0 || isLow l then none
  else if isHigh l then some (locate (off - 4))
  else some l

/-- The write sets CTRL.SOFT_RESET of a page. -/
def setsReset (off : Nat) (wide : Bool) (v : Nat) : Bool :=
  match locate off with
  | .page _ o => !wide && o == 0x10 && bitOf v 1
  | _ => false

/-- Two writes from different sides within 20 ns contend: they bring the same register or 64-bit quantity into force, or one of
them sets SOFT_RESET of the page of the other (R376). Writes that the protection map drops do not (log 47). -/
def State.contend (s : State) (p : Path) (off : Nat) (wide : Bool) (v : Nat) (r : Rival) : Bool :=
  let l := locate off
  let m := locate r.off.toNat
  (sideOf p).isSome && (sideOf r.path).isSome && sideOf p != sideOf r.path && s.mayWrite p l && s.mayWrite r.path m
    && (((broughtBy off wide).isSome && broughtBy off wide == broughtBy r.off.toNat r.wide)
      || ((setsReset off wide v || setsReset r.off.toNat r.wide r.val.toNat) && (locPage l).isSome && locPage l == locPage m))

/-- The loss of a write is counted, raised and, when first, recorded (R378). -/
def State.overridden (s : State) (loser host : Path) (off : Nat) : State :=
  let side := (sideOf loser).getD 0
  let s := if bitOf (s.reg pgHost 0x48) 31 then s
    else s.setReg pgHost 0x48 (off % 2 ^ 26 + 2 ^ 26 * (pathIx host % 16) + 2 ^ 30 * side + 2 ^ 31)
  s.countRaise pgHost (4 + side) 3

/-- Of two contending writes, the first one takes effect: the class of the register decides, that of the write that sets
SOFT_RESET first (R377, Table 13.4). -/
def firstWins (p : Path) (off : Nat) (wide : Bool) (v : Nat) (r : Rival) : Bool :=
  let mgmt := setsReset off wide v || setsReset r.off.toNat r.wide r.val.toNat || mgmtClass (locate off)
  (sideOf p == some 1) == mgmt

/-- A write passes the mutex arbiter, beside one from the other side that arrives within 20 ns of it. Of two that contend one is
discarded (R377, R378); others take effect in their order of arrival. The Bool says that the first one was discarded. -/
def State.arbWrite (s : State) (p : Path) (off : Nat) (wide : Bool) (v : Nat) (rival : Option Rival) : State × Bool :=
  match rival with
  | none => (s.put p off wide v, false)
  | some r =>
    if s.contend p off wide v r then
      let host := if sideOf p = some 0 then p else r.path
      if firstWins p off wide v r then ((s.overridden r.path host r.off.toNat).put p off wide v, false)
      else ((s.overridden p host off).put r.path r.off.toNat r.wide r.val.toNat, true)
    else ((s.put p off wide v).put r.path r.off.toNat r.wide r.val.toNat, false)

/-- WRITE_LOW_HALF, WRITE_HIGH_HALF, WRITE_64 (R9). A staged low half is never the write that is judged (R376). -/
def opWriteLowHalf (p : Path) (off : BitVec 26) (val : BitVec 32) (s : State) : State := s.write4 p off.toNat val.toNat
def opWriteHighHalf (p : Path) (off : BitVec 26) (w : Put 32) (s : State) : State :=
  (s.arbWrite p off.toNat false w.val.toNat w.rival).1
def opWrite64 (p : Path) (off : BitVec 26) (w : Put 64) (s : State) : State :=
  (s.arbWrite p off.toNat true w.val.toNat w.rival).1

/-- REGISTER_WRITE: a 4-byte write through the arbiter (R376 to R378), to any register. -/
def opRegisterWrite (p : Path) (off : BitVec 26) (val : BitVec 32) (rival : Option Rival) (s : State) : State :=
  (s.arbWrite p off.toNat false val.toNat rival).1

/-! ### Events and counters -/

/-- EVT_RAW_CLEAR (R14). -/
def opEvtRawClear (p : Path) (page : Fin 382) (val hw : BitVec 32) (s : State) : State :=
  if s.mayPath p page.val then s.rawClear page.val val.toNat hw.toNat
  else (s.deny p page.val).rawForce page.val hw.toNat

/-- EVT_FORCE (R16). -/
def opEvtForce (p : Path) (page : Fin 382) (val : BitVec 32) (s : State) : State :=
  if s.mayPath p page.val then s.rawForce page.val val.toNat else s.deny p page.val

/-- COUNTER_SNAP: CNT_CTRL written with SNAP, and with CLEAR too where `clear` (R23, R24). -/
def opCounterSnap (p : Path) (page : Fin 382) (clear : Bool) (s : State) : State :=
  if s.mayPath p page.val then s.cntCtrl page.val (1 + 2 * b2n clear) else s.deny p page.val

/-- COUNTER_CLEAR: counters that increment in the same step read 1 after it (R24, R25). -/
def opCounterClear (p : Path) (page : Fin 382) (incs : List (Fin 17)) (s : State) : State :=
  let s := if s.mayPath p page.val then s.cntCtrl page.val 2 else s.deny p page.val
  forL (incs.filter (fun k => decide (k.val < (cntPlace page.val).2))) (fun k s => s.count page.val k.val) s

/-! ### MSI-X (R375) -/

/-- The pending messages of a function that its masks now let through. -/
def State.sendPending (s : State) (f : Nat) : State :=
  let vs := (s.irq.pend.map (·.1)).filter (fun v => v / 128 == f && s.vecReq v)
  forL vs State.sendVec s

/-- MSIX_UNMASK: a vector's mask, or Mask All, clears. -/
def opMsixUnmask (fn : Fin 16) (vec : Option (Fin 128)) (s : State) : State :=
  let s := match vec with
    | some v => { s with hif := { s.hif with mask := tset true (128 * fn.val + v.val) false s.hif.mask } }
    | none => { s with hif := { s.hif with maskAll := tset false fn.val false s.hif.maskAll } }
  s.sendPending fn.val

/-- ALERT_REPEAT: while the management request stays 1, with REPEAT not 0 and the alert enabled (R451). -/
def opAlertRepeat (s : State) : State :=
  let cfg := s.reg pgCour 0x44
  if s.mgmtReq && bitOf cfg 0 && fld cfg 15 8 ≠ 0 then s.sendAlert else s

/-! ### The PCIe port -/

/-- PERST_DEASSERT (R478). -/
def opPerstDeassert (s : State) : State := { s with hif := { s.hif with perstHigh := true } }

/-- CONFIG_REQUEST: Request Retry Status until the start-up configuration is written (R478); then the request has its
effect on the function's MSI-X capability, memory decode or power state. A read answers the identity (Table 13.1); what the
other registers of the configuration space hold the spec leaves to the standard, so their value is free (log 10). -/
def opConfigRequest (fn : Fin 16) (req : CfgReq) (s : State) : State :=
  if !s.hif.cfgReady then s.answer .retry
  else
    let f := fn.val
    match req with
    | .read reg =>
      if reg = 0 then s.answer (.word (Config.vendorId.toNat + 2 ^ 16 * 0x9360))
      else if reg = 2 then s.answer (.word (Config.revision.toNat + 2 ^ 8 * 0x120000))
      else
        let d := s.draw
        d.2.answer (.word (d.1 % 2 ^ 32))
    | .power d3 => ({ s with hif := { s.hif with d3 := tset false f d3 s.hif.d3 } }).answer .ok
    | .msixControl en all =>
      let s := { s with hif := { s.hif with msixEn := tset false f en s.hif.msixEn, maskAll := tset false f all s.hif.maskAll } }
      (s.sendPending f).answer .ok
    | .msixMask v => ({ s with hif := { s.hif with mask := tset true (128 * f + v.val) true s.hif.mask } }).answer .ok
    | .memDecode on => ({ s with hif := { s.hif with memDecode := tset false f on s.hif.memDecode } }).answer .ok

/-- A function's configuration space, MSI-X table, holding registers and staged low halves (R366). The sizes of BAR4 stand in the
PF's configuration space, the VFs' one field too; where a size changes, its segment bases start anew (R368, log 10). -/
def State.resetFn (s : State) (f : Nat) : State :=
  { s with
    hif := { s.hif with
      msixEn := tset false f false s.hif.msixEn, maskAll := tset false f false s.hif.maskAll
      mask := tdrop (fun k => k / 128 == f) s.hif.mask, memDecode := tset false f false s.hif.memDecode
      hold := tdrop (fun k => k / 2 ^ 26 == f) s.hif.hold, staged := tdrop (fun k => k / 2 ^ 26 == f) s.hif.staged
      d3 := tset false f false s.hif.d3, barWait := s.hif.barWait.filter (fun w => w.fn != f)
      bar4Log := if f = 0 then [] else s.hif.bar4Log
      seg := if f = 0 then tdrop (fun e => s.barLog (e / 16) != 36) s.hif.seg else s.hif.seg }
    irq := { s.irq with pend := tdrop (fun k => k / 128 == f) s.irq.pend } }

/-- PCIE_FLR: counted in CNT7 (R366, Table 13.6). -/
def opPcieFlr (fn : Fin 16) (s : State) : State := (s.resetFn fn.val).count pgHost 7

/-- PCIE_LINK_DOWN: the link leaves L0; through D3hot it enters L1 and keeps the functions' state, otherwise PCIE_DOWN is
raised, the functions are reset and the IDE streams end (R366, Tables 13.1, 13.5; log 10). Only a PF in D3hot enters L1. -/
def opPcieLinkDown (d3' : Bool) (s : State) : State :=
  let d3 := d3' && tget false 0 s.hif.d3
  let up := s.hif.width != 0
  let s0 := { s with hif := { s.hif with width := 0, rate := 0, inL1 := d3 && (up || s.hif.inL1) } }
  if d3 then s0
  else
    let s1 := forN 16 (fun f s => s.resetFn f) { s0 with hif := { s0.hif with ideKeys := [], ideOn := [] } }
    if up || s.hif.inL1 then s1.raise pgHost 4 else s1

/-- The rate code of PCIE_STAT (R381). -/
def rateCode : PcieRate → Nat
  | .gt16 => 4
  | .gt32 => 5
  | .gt64 => 6

/-- PCIE_LINK_UP: training completes, which needs PERST# deasserted and the PHY enabled (R381, R478). -/
def opPcieLinkUp (x8 : Bool) (rate : PcieRate) (s : State) : State :=
  if s.hif.perstHigh && s.hif.phyOn && s.hif.width == 0 then
    { s with hif := { s.hif with width := if x8 then 8 else 16, rate := rateCode rate, inL1 := false } }
  else s

/-- PCIE_RATE_CHANGE: in L0, RATE_CHANGE is raised where width or rate changes (R364, Table 13.5). -/
def opPcieRateChange (x8 : Bool) (rate : PcieRate) (s : State) : State :=
  let w := if x8 then 8 else 16
  if s.hif.width = 0 || (s.hif.width = w && s.hif.rate = rateCode rate) then s
  else ({ s with hif := { s.hif with width := w, rate := rateCode rate } }).raise pgHost 5

/-- BAR4_RESIZE: of the PF, or of the VFs, whose sizes are one field (R367, R368, R381; log 10). -/
def opBar4Resize (fn : Fin 16) (k : BitVec 6) (s : State) : State :=
  let n := k.toNat
  let fs := if fn.val = 0 then [0] else (List.range 15).map (· + 1)
  if n < 36 || (if fn.val = 0 then 41 else 38) < n || fs.any (fun f => tget false f s.hif.memDecode) then s
  else
    { s with hif := { s.hif with
        bar4Log := forL fs (fun f m => tset 36 f n m) s.hif.bar4Log
        seg := tdrop (fun e => fs.contains (e / 16)) s.hif.seg } }

/-! ### Debug accesses (R439, R442) -/

/-- The access path of a debug path. -/
def dbgPath : DPath → Path
  | .pf => .pf
  | .mgmt => .mgmt
  | .jtag => .debug

/-- DEBUG_APERTURE_READ: a write of the aperture's ADDR_HI (R442, R445). -/
def opDebugApertureRead (dp : DPath) (val : BitVec 32) (s : State) : State :=
  s.write4 (dbgPath dp) (pageBase pgDbg + 0x104) val.toNat

/-- DEBUG_ACCESS: a 4-byte access of BAR0 through the JTAG debug access instruction (R439). -/
def opDebugAccess (off : BitVec 26) (write : Option (BitVec 32)) (s : State) : State :=
  let s := s.tap 4
  match write with
  | some v => s.write4 .debug off.toNat v.toNat
  | none => s.read4 .debug off.toNat

def execMalformedAccess (p : Path) (off : BitVec 26) (write : Bool) (s : State) : Host.Outcome State Fault Refusal :=
  done s (opMalformedAccess p off write s)
def execReadLowHalf (p : Path) (off : BitVec 26) (wide : Bool) (s : State) : Host.Outcome State Fault Refusal :=
  done s (opReadLowHalf p off wide s)
def execReadHighHalf (p : Path) (off : BitVec 26) (s : State) : Host.Outcome State Fault Refusal := done s (opReadHighHalf p off s)
def execWriteLowHalf (p : Path) (off : BitVec 26) (val : BitVec 32) (s : State) : Host.Outcome State Fault Refusal :=
  done s (opWriteLowHalf p off val s)
def execWriteHighHalf (p : Path) (off : BitVec 26) (w : Put 32) (s : State) :
    Host.Outcome State Fault Refusal := done s (opWriteHighHalf p off w s)
def execWrite64 (p : Path) (off : BitVec 26) (w : Put 64) (s : State) :
    Host.Outcome State Fault Refusal := done s (opWrite64 p off w s)
def execRegisterWrite (p : Path) (off : BitVec 26) (val : BitVec 32) (rival : Option Rival) (s : State) :
    Host.Outcome State Fault Refusal := done s (opRegisterWrite p off val rival s)
def execEvtRawClear (p : Path) (page : Fin 382) (val hw : BitVec 32) (s : State) : Host.Outcome State Fault Refusal :=
  done s (opEvtRawClear p page val hw s)
def execEvtForce (p : Path) (page : Fin 382) (val : BitVec 32) (s : State) : Host.Outcome State Fault Refusal :=
  done s (opEvtForce p page val s)
def execCounterSnap (p : Path) (page : Fin 382) (clear : Bool) (s : State) : Host.Outcome State Fault Refusal :=
  done s (opCounterSnap p page clear s)
def execCounterClear (p : Path) (page : Fin 382) (incs : List (Fin 17)) (s : State) : Host.Outcome State Fault Refusal :=
  done s (opCounterClear p page incs s)
def execMsixUnmask (fn : Fin 16) (vec : Option (Fin 128)) (s : State) : Host.Outcome State Fault Refusal :=
  done s (opMsixUnmask fn vec s)
def execAlertRepeat (s : State) : Host.Outcome State Fault Refusal := done s (opAlertRepeat s)
def execPerstDeassert (s : State) : Host.Outcome State Fault Refusal := done s (opPerstDeassert s)
def execConfigRequest (fn : Fin 16) (req : CfgReq) (s : State) : Host.Outcome State Fault Refusal := done s (opConfigRequest fn req s)
def execPcieFlr (fn : Fin 16) (s : State) : Host.Outcome State Fault Refusal := done s (opPcieFlr fn s)
def execPcieLinkDown (d3 : Bool) (s : State) : Host.Outcome State Fault Refusal := done s (opPcieLinkDown d3 s)
def execPcieLinkUp (x8 : Bool) (rate : PcieRate) (s : State) : Host.Outcome State Fault Refusal := done s (opPcieLinkUp x8 rate s)
def execPcieRateChange (x8 : Bool) (rate : PcieRate) (s : State) : Host.Outcome State Fault Refusal :=
  done s (opPcieRateChange x8 rate s)
def execBar4Resize (fn : Fin 16) (k : BitVec 6) (s : State) : Host.Outcome State Fault Refusal := done s (opBar4Resize fn k s)
def execDebugApertureRead (dp : DPath) (val : BitVec 32) (s : State) : Host.Outcome State Fault Refusal :=
  done s (opDebugApertureRead dp val s)
def execDebugAccess (off : BitVec 26) (write : Option (BitVec 32)) (s : State) : Host.Outcome State Fault Refusal :=
  done s (opDebugAccess off write s)

end Sys2Proof.Machine
end

