-- ==== Sys2Proof/Machine/Chain.lean ====
section
/-!
DEFINITION. The courier chain (R446 to R452), the management tunnel (R327, R452), the lead slots that links receive (R326)
and the WAKE beacon (R333, R390), the SMBus target and MCTP (R453, R454).
-/
namespace Sys2Proof.Machine

/-! ### Packets (Tables 17.1 to 17.3) -/

/-- The chain address (R448). -/
def State.chainAddr (s : State) : Nat := fld (s.reg pgCour 0x40) 7 0

/-- The fields of a packet. -/
def pktDst (b : Bytes) : Nat := (b.getD 0 0).toNat
def pktSrc (b : Bytes) : Nat := (b.getD 1 0).toNat
def pktType (b : Bytes) : Nat := (b.getD 2 0).toNat % 16
def pktTag (b : Bytes) : Nat := (b.getD 2 0).toNat / 16
def pktLen (b : Bytes) : Nat := (b.getD 3 0).toNat
def pktBody (b : Bytes) : Bytes := (b.drop 4).take (pktLen b)

/-- The packet is whole, its length agrees with LEN, its TYPE is valid and its CHECK holds (R447). -/
def pktGood (b : Bytes) : Bool :=
  decide (pktLen b ≤ 64) && decide (b.length = 8 + pktLen b) && decide (pktType b ≤ 6)
    && decide (leNat (b.drop (4 + pktLen b)) = (crc32c (b.take (4 + pktLen b))).toNat)

/-- A bad packet is dropped and counted (R447). -/
def State.badPacket (s : State) : State := s.countRaise pgCour 2 2

/-- A packet goes on to COUR_OUT (R447). -/
def State.forwardPkt (s : State) (pkt : Bytes) : State := (s.sendCour pkt).count pgCour 1

/-- A request's response leaves: STATUS not OK counts in CNT3 (Table 17.12). -/
def State.respond (s : State) (dst tag : Nat) (payload : Bytes) : Bytes × State :=
  (mkPacket dst s.chainAddr 3 tag payload, if (payload.headD 0) = 0 then s else s.count pgCour 3)

/-- The payload of a RESPONSE (Table 17.2). -/
def respBody (status index : Nat) (data : Bytes) : Bytes := leBytes 1 status ++ leBytes 1 index ++ [0, 0] ++ data

/-! ### READ and WRITE (Tables 17.2, 17.3) -/

/-- Low halves staged by the management path are dropped: pairs follow R9 within one packet (log 48). -/
def State.dropStaged (s : State) : State :=
  { s with hif := { s.hif with staged := tdrop (fun k => k / 2 ^ 26 == pathIx .mgmt) s.hif.staged } }

/-- The location lies in a page of a domain in A2 or A3 (Table 17.3). -/
def State.unpowered (s : State) (off : Nat) : Bool := locate off != .none && !s.powered (locate off).pageOf

/-- A management write of the word is one that R13 discards: it is counted as a violation of source 6. -/
def State.r13 (s : State) (off v : Nat) : Bool :=
  let t := ({ s with sec := { s.sec with viol := [] } }).write4 .mgmt off v
  tget 0 6 t.sec.viol != 0

/-- The first status that is not OK stays (Table 17.3). -/
def firstBad (st : Nat × Nat) (now index : Nat) : Nat × Nat := if st.1 ≠ 0 || now = 0 then st else (now, index)

/-- Read `n` words in order from `off`. -/
def State.courReads (s : State) (off : Nat) : Nat → Nat → Nat × Nat → Bytes → (Nat × Nat) × Bytes × State
  | 0, _, st, acc => (st, acc, s)
  | n + 1, i, st, acc =>
    let bad := s.unpowered off
    let s := s.read4 .mgmt off
    let v := match s.resp with | .word v => v | .dword v => v | _ => 0
    s.courReads (off + 4) n (i + 1) (firstBad st (if bad then 3 else 0) i) (acc ++ leBytes 4 (if bad then 0 else v))

/-- Write words in order from `off`, each beside a write of the host that arrives within 20 ns of it. A word the arbiter
discards is STATUS 1, OVERRIDDEN (R378, Table 17.3). -/
def State.courWrites (s : State) (off : Nat) : List (Put 32) → Nat → Nat × Nat → (Nat × Nat) × State
  | [], _, st => (st, s)
  | w :: ws, i, st =>
    let r := s.arbWrite .mgmt off false w.val.toNat w.rival
    let now := if s.unpowered off then 3 else if r.2 then 1 else if s.r13 off w.val.toNat then 2 else 0
    r.1.courWrites (off + 4) ws (i + 1) (firstBad st now i)

/-- The effect of a READ and its response's payload; a malformed request is REFUSED. -/
def State.courRead (s : State) (off count : Nat) : Bytes × State :=
  if off % 4 ≠ 0 || count = 0 || 14 < count then (respBody 2 0 [], s)
  else
    let r := s.courReads off count 0 (0, 0) []
    (respBody r.1.1 r.1.2 r.2.1, r.2.2)

/-- The effect of a WRITE and its response's payload. -/
def State.courWrite (s : State) (off : Nat) (ws : List (Put 32)) : Bytes × State :=
  if off % 4 ≠ 0 || ws.isEmpty || 14 < ws.length then (respBody 2 0 [], s)
  else
    let r := s.dropStaged.courWrites off ws 0 (0, 0)
    (respBody r.1.1 r.1.2 [], r.2.dropStaged)

/-- The words of a WRITE's payload after its offset. -/
def pktWords : Nat → Bytes → List (BitVec 32)
  | 0, _ => []
  | n + 1, b => BitVec.ofNat 32 (leNat (b.take 4)) :: pktWords n (b.drop 4)

/-- The BAR0 offset of a request. -/
def pktOff (b : Bytes) : Nat := fld (leNat (b.take 4)) 25 0

/-- Words with the host's writes that arrive within 20 ns of the word of a number. -/
def withRivals (ws : List (BitVec 32)) (rs : List (Nat × Rival)) : List (Put 32) :=
  ws.zipIdx.map (fun e => ⟨e.1, (rs.find? (fun r => r.1 == e.2)).map (·.2)⟩)

/-- Perform a READ, WRITE or WAKE given by type and payload; a payload of another size or type is malformed. -/
def State.courDo (s : State) (ty : Nat) (b : Bytes) (rs : List (Nat × Rival)) : Bytes × State :=
  if ty = 1 then
    if b.length ≠ 5 then (respBody 2 0 [], s) else s.courRead (pktOff b) (b.getD 4 0).toNat
  else if ty = 2 then
    if b.length % 4 ≠ 0 || b.length < 4 then (respBody 2 0 [], s)
    else s.courWrite (pktOff b) (withRivals (pktWords (b.length / 4 - 1) (b.drop 4)) rs)
  else if ty = 4 then (respBody 0 0 [], s.mgmtWake)
  else (respBody 2 0 [], s)

/-- The chain's answer to a consumed request. -/
def State.courAnswer (s : State) (h : PktHead) (payload : Bytes) : State :=
  let r := s.respond h.src.toNat h.tag.toNat payload
  (r.2.sendCour r.1).answer (.msg r.1)

/-- The packet of a command that this module does not consume. -/
def State.passOn (s : State) (h : PktHead) (ty : Nat) (payload : Bytes) : State :=
  s.forwardPkt (mkPacket h.dst.toNat h.src.toNat ty h.tag.toNat payload)

/-- The packet is addressed to this module, or to all (R449); a module without an address acts on neither. -/
def State.toMe (s : State) (h : PktHead) : Bool := s.chainAddr != 0 && h.dst.toNat == s.chainAddr
def State.toAll (s : State) (h : PktHead) : Bool := s.chainAddr != 0 && h.dst.toNat == 255

/-- TOKEN (R448). -/
def State.takeToken (s : State) (n : Nat) : State :=
  if n = 0 then s.setReg pgCour 0x40 0
  else if n = 255 then (s.setReg pgCour 0x40 0).raise pgCour 1
  else (s.setReg pgCour 0x40 n).raise pgCour 0

/-- TOKEN: the module takes the address and sends the TOKEN on with NEXT + 1; NEXT 0 and 255 go on unchanged. -/
def opToken (next : BitVec 8) (s : State) : State :=
  let n := next.toNat
  (s.takeToken n).forwardPkt (mkPacket 255 0 0 0 (leBytes 1 (if n = 0 || n = 255 then n else n + 1)))

/-- COURIER_READ: consumed and answered with one RESPONSE; a broadcast one is dropped and counted (R449). -/
def opCourierRead (h : PktHead) (off : BitVec 32) (count : BitVec 8) (s : State) : State :=
  if s.toMe h then
    let r := s.courRead (fld off.toNat 25 0) count.toNat
    (r.2.count pgCour 0).courAnswer h r.1
  else if s.toAll h then s.badPacket
  else s.passOn h 1 (leBytes 4 off.toNat ++ leBytes 1 count.toNat)

/-- COURIER_WRITE: consumed and answered, or broadcast: acted on and forwarded without a response (R449). -/
def opCourierWrite (h : PktHead) (off : BitVec 32) (words : List (Put 32)) (s : State) : State :=
  let pay := leBytes 4 off.toNat ++ words.flatMap (fun w => leBytes 4 w.val.toNat)
  if s.toMe h then
    let r := s.courWrite (fld off.toNat 25 0) words
    (r.2.count pgCour 0).courAnswer h r.1
  else if s.toAll h then (s.courWrite (fld off.toNat 25 0) words).2.passOn h 2 pay
  else s.passOn h 2 pay

/-- COURIER_WAKE: addressed or broadcast, a management wake (R450). -/
def opCourierWake (h : PktHead) (s : State) : State :=
  if s.toMe h then (s.mgmtWake).count pgCour 0
  else if s.toAll h then s.mgmtWake.passOn h 4 []
  else s.passOn h 4 []


/-! ### The management tunnel (R327, R452) -/

/-- A MGMT message (Table 11.5). -/
def mgmtMsg (seq ack : Nat) (data : Bytes) : Bytes := leBytes 1 8 ++ leBytes 1 seq ++ leBytes 1 ack ++ [0] ++ data.take 12

/-- A MGMT message waits for a lead slot behind the others (R320). -/
def State.sendSlow (s : State) (l : Nat) (m : Bytes) : State :=
  let x := s.lnk l
  s.setLnk l { x with slow := x.slow ++ [ctlPad m] }

/-- Send the messages at positions `a` to `b - 1` of the queue: the first eight may be unacknowledged (R327). -/
def State.sendTun (s : State) (l a b : Nat) : State :=
  forL (((s.lnk l).unacked.take (min b 8)).drop a) (fun m s => s.sendSlow l (mgmtMsg m.seq (s.lnk l).tunRx m.data)) s

/-- A packet in pieces of 12 bytes, the last one filled with zeros. -/
def pieces12 : Nat → Bytes → List Bytes
  | 0, _ => []
  | n + 1, b => (b ++ List.replicate 12 0).take 12 :: pieces12 n (b.drop 12)

/-- Queue a packet on a link's tunnel and send what may go. -/
def State.tunnelSend (s : State) (l : Nat) (pkt : Bytes) : State :=
  let x := s.lnk l
  let ps := pieces12 ((pkt.length + 11) / 12) pkt
  let ms := (List.range ps.length).zip ps |>.map (fun e => (⟨(x.tunTx + e.1) % 256, e.2, 0⟩ : TunMsg))
  let s := s.setLnk l { x with unacked := x.unacked ++ ms, tunTx := (x.tunTx + ps.length) % 256 }
  s.sendTun l x.unacked.length (x.unacked.length + ps.length)

/-- A TUNNEL request fails: STATUS 4, CNT4 and TUNNEL_FAIL (R452). -/
def State.tunnelFail (s : State) (src tag : Nat) : State :=
  let r := (s.countRaise pgCour 4 3).respond src tag (respBody 4 0 [])
  r.2.sendCour r.1

/-- Every request that waits for the partner's response fails. -/
def State.tunnelFailAll (s : State) (l : Nat) : State :=
  let ws := (s.lnk l).tunFor
  let s := s.setLnk l { s.lnk l with tunFor := [], unacked := [], tunIn := [] }
  forL ws (fun w s => s.tunnelFail w.1 w.2.1) s

/-- TUNNEL: the inner packet travels to the partner on the named link; on a link in neither ACTIVE nor RESYNC it fails; an
inner TUNNEL is dropped and the request REFUSED, as is one whose inner packet cannot be one (R452, log 48). -/
def opTunnel (h : PktHead) (link : BitVec 8) (inner : Bytes) (s : State) : State :=
  let l := link.toNat % 64
  if s.toMe h then
    let s := s.count pgCour 0
    if 36 ≤ l || !(s.lnk l).carries then
      let s := s.countRaise pgCour 4 3
      s.courAnswer h (respBody 4 0 [])
    else if pktType inner = 6 || inner.length < 8 || 63 < inner.length then s.courAnswer h (respBody 2 0 [])
    else
      let s := if pktType inner = 1 || pktType inner = 2 then
        s.setLnk l { s.lnk l with tunFor := (s.lnk l).tunFor ++ [(h.src.toNat, h.tag.toNat, pktTag inner)] } else s
      s.tunnelSend l inner
  else if s.toAll h then s.badPacket
  else s.passOn h 6 (leBytes 1 link.toNat ++ inner)

/-- The head of a packet. -/
def pktHead (b : Bytes) : PktHead := ⟨.ofNat 8 (pktDst b), .ofNat 8 (pktSrc b), .ofNat 4 (pktTag b)⟩

/-- A whole packet that this module consumes (R449): a READ, a WRITE, also one whose payload is malformed, and a TUNNEL are
answered, a WAKE wakes; a RESPONSE, an ALERT and a TOKEN that is no broadcast change nothing but the count. -/
def State.consumePkt (s : State) (pkt : Bytes) : State :=
  let h := pktHead pkt
  match pktType pkt with
  | 6 => opTunnel h ((pktBody pkt).headD 0) (pktBody pkt).tail s
  | 4 => opCourierWake h s
  | 0 | 3 | 5 => s.count pgCour 0
  | ty =>
    let r := s.courDo ty (pktBody pkt) []
    (r.2.count pgCour 0).courAnswer h r.1

/-- COURIER_FORWARD: a packet that the module does not consume goes on, or is dropped when bad; one whose DST is the module's
address is consumed (R447, R449). -/
def opCourierForward (pkt : Bytes) (s : State) : State :=
  if !pktGood pkt then s.badPacket else if s.toMe (pktHead pkt) then s.consumePkt pkt else s.forwardPkt pkt

/-- The partner's RESPONSE, wrapped for the request it answers; one that does not fit a TUNNEL packet is REFUSED (log 48). -/
def State.tunnelBack (s : State) (l : Nat) (pkt : Bytes) : State :=
  let x := s.lnk l
  match x.tunFor.find? (fun w => w.2.2 == pktTag pkt) with
  | none => s
  | some w =>
    let s := s.setLnk l { x with tunFor := x.tunFor.erase w }
    if pkt.length ≤ 63 then s.sendCour (mkPacket w.1 s.chainAddr 6 w.2.1 (leBytes 1 l ++ pkt))
    else
      let r := s.respond w.1 w.2.1 (respBody 2 0 [])
      r.2.sendCour r.1

/-- An inner packet has arrived: it is treated as one received on COUR_IN and addressed to this module, and its RESPONSE goes
back over the tunnel (R452). -/
def State.tunnelled (s : State) (l : Nat) (pkt : Bytes) : State :=
  if !pktGood pkt then s.badPacket
  else
    let ty := pktType pkt
    if ty = 6 then s
    else
      let s := s.count pgCour 0
      if ty = 0 then s.takeToken ((pktBody pkt).headD 0).toNat
      else if ty = 3 then s.tunnelBack l pkt
      else if ty = 4 then s.mgmtWake
      else if ty = 5 then s
      else
        let r := s.courDo ty (pktBody pkt) []
        let q := r.2.respond (pktSrc pkt) (pktTag pkt) r.1
        q.2.tunnelSend l q.1

/-- Messages that an ACK covers leave the queue: those up to the named SEQ, among the eight that may be unacknowledged. -/
def ackDrop (ack : Nat) (ms : List TunMsg) : Nat :=
  match (ms.take 8).findIdx? (fun m => m.seq == ack) with
  | some i => i + 1
  | none => 0

/-- The inner packet in assembly: its length once its header is there. -/
def tunWhole (b : Bytes) : Bool := decide (4 ≤ b.length) && (decide (64 < pktLen b) || decide (8 + pktLen b ≤ b.length))

/-- MGMT_RX: acknowledged messages leave the queue and later ones follow; a message in order delivers its payload and is
acknowledged, any other is discarded, a repeated one being acknowledged again (R327, log 48). -/
def State.mgmtRx (s : State) (l seq ack : Nat) (data : Bytes) : State :=
  let x := s.lnk l
  if !x.carries then s
  else
    let k := ackDrop ack x.unacked
    let s := s.setLnk l { x with unacked := x.unacked.drop k }
    let s := s.sendTun l (8 - k) 8
    let x := s.lnk l
    let bare := mgmtMsg ((x.tunTx + 255) % 256)
    if seq = (x.tunRx + 1) % 256 then
      let b := x.tunIn ++ data.take 12
      let s := s.setLnk l { x with tunRx := seq, tunIn := if tunWhole b then [] else b }
      let s := s.sendSlow l (bare seq [])
      if tunWhole b then s.tunnelled l (b.take (8 + pktLen b)) else s
    else if data.all (· == 0) then s
    else s.sendSlow l (bare x.tunRx [])

/-- MGMT_RX. -/
def opMgmtRx (l : Fin 36) (seq ack : BitVec 8) (data : Bytes) (s : State) : State := s.mgmtRx l.val seq.toNat ack.toNat data

/-- TUNNEL_RESEND_TIMEOUT: what is not acknowledged within 1 µs is sent again, up to 8 times; after that the link faults with
cause 7 and the requests fail (R327, R452); they fail too on a link that no longer carries the tunnel. -/
def opTunnelResendTimeout (l : Fin 36) (s : State) : State :=
  let x := s.lnk l.val
  if !x.carries then s.tunnelFailAll l.val
  else match x.unacked with
    | [] => s
    | m :: _ =>
      if 8 ≤ m.resends then (s.tunnelFailAll l.val).linkFault l.val 7
      else
        let up (m : TunMsg) : TunMsg := { m with resends := m.resends + 1 }
        let s := s.setLnk l.val { x with unacked := (x.unacked.take 8).map up ++ x.unacked.drop 8 }
        s.sendTun l.val 0 8

/-! ### Received lead slots and beacons (R326, R333) -/

/-- A Control message is taken by its TYPE (Table 11.5). A LANE message does not say which direction moves (log 48). -/
def State.takeCtl (s : State) (l : Fin 36) (m : Bytes) : State :=
  let f (i n : Nat) : Nat := leNat ((m.drop i).take n)
  match (m.headD 0).toNat % 16 with
  | 0 => s
  | 1 => opMarkerRx l (.ofNat 64 (f 8 8)) (.ofNat 16 (f 2 2)) s
  | 2 => opVetoRx l (.ofNat 64 (f 8 8)) (.ofNat 10 (f 2 2)) (.ofNat 8 (f 4 1)) s
  | 3 => opCreditRx l (.ofNat 16 (f 2 2)) s
  | 4 => opDozeReqRx l (.ofNat 32 (f 8 4)) s
  | 5 => opDozeAckRx l (.ofNat 32 (f 8 4)) s
  | 6 => opTsyncRx l (bitOf (f 1 1) 0) (.ofNat 32 (f 2 4)) (.ofNat 32 (f 6 4)) (.ofNat 32 (f 10 4)) s
  | 7 =>
    let d := s.draw
    opLaneMsgRx l (d.1 % 2 == 1) (.ofNat 4 (f 2 1)) (.ofNat 32 (f 8 4)) d.2
  | 8 => s.mgmtRx l.val (f 1 1) (f 2 1) (m.drop 4)
  | 9 => opIdentRx l ⟨.ofNat 10 (f 2 2), bitOf (f 2 2) 15, .ofNat 6 (f 4 1), .ofNat 16 (f 6 2)⟩ s
  | _ => s.count (pgLink l.val) 5

/-- A lead slot is lost: counted, its train discarded. 16 consecutive blocks whose own lead slot, slot 0, was lost are fault
cause 3; another lead slot within a block changes nothing of that run (R316, R326, R342). -/
def State.loseLead (s : State) (l : Nat) : State :=
  let s := s.count (pgLink l) 7
  let x := s.lnk l
  let run := if x.rxSlot = 0 then x.lostRun + 1 else x.lostRun
  let s := s.setLnk l { x with rx := none, lostRun := run }
  if x.rxSlot = 0 && decide (16 ≤ run) then s.linkFault l 3 else s

/-- The check word of a lead slot holds. -/
def leadGood (b : Bytes) : Bool := decide (b.length = 260) && decide (leNat (b.drop 256) = (crc32c (b.take 256)).toNat)

/-- The FEC's findings are counted: codewords corrected, symbols corrected, and codewords uncorrectable with their event
(Tables 11.10, 11.11). A lead slot that is lost for want of a codeword is one of these at least. -/
def State.fecCount (s : State) (l : Nat) (f : Fec) (lost : Bool) : State :=
  let s := (s.countN (pgLink l) 2 f.cw.toNat).countN (pgLink l) 4 f.sy.toNat
  let n := if lost then max 1 f.bad.toNat else f.bad.toNat
  if n = 0 then s else (s.countN (pgLink l) 3 n).raise (pgLink l) 3

/-- LINK_LEAD_SLOT_RX: no slot stands for uncorrectable codewords. A good one's Control messages are taken in order, then
its train's header (R316, R326). -/
def opLinkLeadSlotRx (l : Fin 36) (fec : Fec) (slot : Option Bytes) (s : State) : State :=
  if !(s.lnk l.val).lit then s
  else
    let s := s.fecCount l.val fec slot.isNone
    let s : State := match slot with
      | none => s.loseLead l.val
      | some b =>
        if leadGood b then
          let x := s.lnk l.val
          let s := s.setLnk l.val { x with lostRun := if x.rxSlot = 0 then 0 else x.lostRun }
          let s := forL (List.range 15) (fun i s => s.takeCtl l ((b.drop (12 + 16 * i)).take 16)) s
          if (s.lnk l.val).carries then s.takeTrain l.val (b.take 12) else s
        else s.loseLead l.val
    if (s.lnk l.val).lit then s.rxAdvance l.val else s

/-- WAKE_BEACON_RX: a dozing link goes to WAKE, and the partner's wake edge votes HUB and the link's group to A0 (R333,
Table 14.3); a word that is not a WAKE beacon has no effect. -/
def opWakeBeaconRx (l : Fin 36) (b : BitVec 64) (s : State) : State :=
  let w := b.toNat
  let x := s.lnk l.val
  if x.st = .doze && decide (w % 16 = 5) && decide (fld w 63 48 = 2 ^ 16 - 1 - fld w 15 0) then
    ((s.setLnk l.val { x with ts := [] }).linkTo l.val .wake).wakeEdge 2 l.val
  else s

/-! ### SMBus and MCTP (R453, R454, log 43) -/

/-- A packet of an MCTP message is taken into assembly; the whole message when it is the last (log 43). -/
def State.mctpTake (s : State) (pkt : Bytes) : State × Option (Bytes) :=
  let fl := (pkt.getD 3 0).toNat
  let key := 8 * (pkt.getD 2 0).toNat + fl % 8
  let seq := fl / 16 % 4
  let body := pkt.drop 4
  let so : Option (Nat × Nat × Bytes) :=
    if fl / 128 = 1 then some (key, seq, body)
    else match s.mg.mctpIn with
      | some (k, n, bs) => if k = key && (n + 1) % 4 = seq then some (key, seq, bs ++ body) else none
      | none => none
  let s := { s with mg := { s.mg with mctpIn := so } }
  (s, if fl / 64 % 2 = 1 then so.map (fun x => x.2.2) else none)

/-- BLOCK_WRITE: a wrong PEC is not acknowledged and counts; a packet is acknowledged and taken into assembly. What a whole
message does is the row of its type (R453, log 43). -/
def opBlockWrite (pkt : Bytes) (pecOk : Bool) (s : State) : State :=
  if pecOk then (s.mctpTake pkt).1.answer .ok else (s.countRaise pgSmb 3 1).answer .nack

/-- BLOCK_READ: the oldest packet that waits. -/
def opBlockRead (s : State) : State :=
  match s.mg.mctpOut with
  | [] => s.answer .nack
  | p :: ps => { s with mg := { s.mg with mctpOut := ps } }.answer (.msg p)

/-- ALERT_RESPONSE: the module's address, when it asserts SMBALERT_N, which it then releases. -/
def opAlertResponse (s : State) : State :=
  if s.irq.smbAlert then
    { s with irq := { s.irq with smbAlert := false } }.answer (.msg (leBytes 1 (fld (s.reg pgSmb 0x40) 6 0)))
  else s.answer .nack

/-- SMBUS_TIMEOUT: the interface is reset and the timeout counted (R453). -/
def opSmbusTimeout (s : State) : State := { s with mg := { s.mg with mctpIn := none } }.countRaise pgSmb 2 0

/-- An MCTP message of type `ty` has arrived and is answered. -/
def State.mctpReply (s : State) (ty : Nat) (body : Bytes) : State := (s.count pgSmb 0).mctpSend ty body

/-- SET_ENDPOINT_ID: stores the endpoint ID the bus owner assigns; 0 and 255 are not IDs and leave it (log 43). -/
def opSetEndpointId (eid : BitVec 8) (s : State) : State :=
  let ok := eid != 0 && eid != 255
  let s := if ok then s.setReg pgSmb 0x44 (256 + eid.toNat) else s
  s.mctpReply 0 (Config.stdBody 0x201 (fld (s.reg pgSmb 0x44) 7 0 + 256 * b2n ok))

/-- GET_ENDPOINT_ID: the answer holds the endpoint ID. -/
def opGetEndpointId (s : State) : State :=
  s.mctpReply 0 (leBytes 1 (fld (s.reg pgSmb 0x44) 7 0) ++ Config.stdBody 0x202 0)

/-- GET_MCTP_VERSION_SUPPORT. -/
def opGetMctpVersionSupport (s : State) : State := s.mctpReply 0 (Config.stdBody 0x204 0)

/-- GET_MESSAGE_TYPE_SUPPORT: the accepted types (R454). -/
def opGetMessageTypeSupport (s : State) : State := s.mctpReply 0 ([4, 0, 5, 6, 0x7F] ++ Config.stdBody 0x205 0)

/-- GET_VENDOR_DEFINED_MESSAGE_SUPPORT: Tarnohal's enterprise number, which the spec does not state (R454). -/
def opGetVendorDefinedMessageSupport (s : State) : State := s.mctpReply 0 (Config.stdBody 0x206 0)

/-- MCTP_VENDOR_DEFINED: a courier packet of TYPE 1, 2 or 4 without its CHECK, answered with a RESPONSE in the same form; one
of another shape is REFUSED (R454, log 48). -/
def opMctpVendorDefined (m : VendorMsg) (s : State) : State :=
  let pkt := m.bytes
  let bad := decide (pkt.length ≠ 4 + pktLen pkt) || decide (64 < pktLen pkt)
  let r := s.courDo (if bad then 15 else pktType pkt) (pktBody pkt) m.rivals
  let q := r.2.respond (pktSrc pkt) (pktTag pkt) r.1
  q.2.mctpReply 0x7F (Config.stdBody 0x27F 0 ++ q.1.take (q.1.length - 4))

/-- MCTP_UNSUPPORTED_TYPE: answered with an unsupported-type error (R454). -/
def opMctpUnsupportedType (ty : BitVec 8) (s : State) : State := s.mctpReply ty.toNat (Config.stdBody 0x2FF ty.toNat)

def execLinkLeadSlotRx (l : Fin 36) (fec : Fec) (slot : Option (List (BitVec 8))) (s : State) : Host.Outcome State Fault Refusal :=
  done s (s.linkDo l.val (opLinkLeadSlotRx l fec slot))
def execWakeBeaconRx (l : Fin 36) (b : BitVec 64) (s : State) : Host.Outcome State Fault Refusal := done s (s.linkDo l.val (opWakeBeaconRx l b))
def execMgmtRx (l : Fin 36) (seq ack : BitVec 8) (data : List (BitVec 8)) (s : State) : Host.Outcome State Fault Refusal :=
  done s (s.linkDo l.val (opMgmtRx l seq ack data))
def execTunnelResendTimeout (l : Fin 36) (s : State) : Host.Outcome State Fault Refusal := done s (s.linkDo l.val (opTunnelResendTimeout l))
def execToken (next : BitVec 8) (s : State) : Host.Outcome State Fault Refusal := done s (opToken next s)
def execCourierRead (h : PktHead) (off : BitVec 32) (count : BitVec 8) (s : State) : Host.Outcome State Fault Refusal :=
  done s (opCourierRead h off count s)
def execCourierWrite (h : PktHead) (off : BitVec 32) (words : List (Put 32)) (s : State) : Host.Outcome State Fault Refusal :=
  done s (opCourierWrite h off words s)
def execCourierWake (h : PktHead) (s : State) : Host.Outcome State Fault Refusal := done s (opCourierWake h s)
def execTunnel (h : PktHead) (link : BitVec 8) (inner : List (BitVec 8)) (s : State) : Host.Outcome State Fault Refusal :=
  done s (opTunnel h link inner s)
def execCourierForward (pkt : List (BitVec 8)) (s : State) : Host.Outcome State Fault Refusal := done s (opCourierForward pkt s)
def execBlockWrite (pkt : List (BitVec 8)) (pecOk : Bool) (s : State) : Host.Outcome State Fault Refusal :=
  done s (opBlockWrite pkt pecOk s)
def execBlockRead (s : State) : Host.Outcome State Fault Refusal := done s (opBlockRead s)
def execAlertResponse (s : State) : Host.Outcome State Fault Refusal := done s (opAlertResponse s)
def execSmbusTimeout (s : State) : Host.Outcome State Fault Refusal := done s (opSmbusTimeout s)
def execSetEndpointId (eid : BitVec 8) (s : State) : Host.Outcome State Fault Refusal := done s (opSetEndpointId eid s)
def execGetEndpointId (s : State) : Host.Outcome State Fault Refusal := done s (opGetEndpointId s)
def execGetMctpVersionSupport (s : State) : Host.Outcome State Fault Refusal := done s (opGetMctpVersionSupport s)
def execGetMessageTypeSupport (s : State) : Host.Outcome State Fault Refusal := done s (opGetMessageTypeSupport s)
def execGetVendorDefinedMessageSupport (s : State) : Host.Outcome State Fault Refusal :=
  done s (opGetVendorDefinedMessageSupport s)
def execMctpVendorDefined (m : VendorMsg) (s : State) : Host.Outcome State Fault Refusal := done s (opMctpVendorDefined m s)
def execMctpUnsupportedType (ty : BitVec 8) (s : State) : Host.Outcome State Fault Refusal :=
  done s (opMctpUnsupportedType ty s)

end Sys2Proof.Machine
end

