-- ==== Sys2Proof/Machine/Dispatch.lean ====
section
/-!
DEFINITION. The dispatch of a command to its meaning: one arm per row of spec/opcode_table.json.
-/
namespace Sys2Proof.Machine

/-- The effect of a command on everything but the queue. -/
def exec (i : Instr) (s : State) : Host.Outcome State Fault Refusal :=
  match i with
  | .malformedAccess p off write => Sys2Proof.Machine.execMalformedAccess p off write s
  | .readLowHalf p off wide => Sys2Proof.Machine.execReadLowHalf p off wide s
  | .readHighHalf p off => Sys2Proof.Machine.execReadHighHalf p off s
  | .writeLowHalf p off val => Sys2Proof.Machine.execWriteLowHalf p off val s
  | .writeHighHalf p off val => Sys2Proof.Machine.execWriteHighHalf p off val s
  | .write64 p off val => Sys2Proof.Machine.execWrite64 p off val s
  | .registerWrite p off val rival => Sys2Proof.Machine.execRegisterWrite p off val rival s
  | .evtRawClear p page val hw => Sys2Proof.Machine.execEvtRawClear p page val hw s
  | .evtForce p page val => Sys2Proof.Machine.execEvtForce p page val s
  | .msixUnmask fn vec => Sys2Proof.Machine.execMsixUnmask fn vec s
  | .alertRepeat => Sys2Proof.Machine.execAlertRepeat s
  | .softReset p page => Sys2Proof.Machine.execSoftReset p page s
  | .softResetComplete page => Sys2Proof.Machine.execSoftResetComplete page s
  | .counterSnap p page clear => Sys2Proof.Machine.execCounterSnap p page clear s
  | .counterClear p page incs => Sys2Proof.Machine.execCounterClear p page incs s
  | .powerOn => Sys2Proof.Machine.execPowerOn s
  | .perstDeassert => Sys2Proof.Machine.execPerstDeassert s
  | .configRequest fn req => Sys2Proof.Machine.execConfigRequest fn req s
  | .bootVerify => Sys2Proof.Machine.execBootVerify s
  | .startupCalLoad => Sys2Proof.Machine.execStartupCalLoad s
  | .pllLock => Sys2Proof.Machine.execPllLock s
  | .refclkLost => Sys2Proof.Machine.execRefclkLost s
  | .refclkReturn => Sys2Proof.Machine.execRefclkReturn s
  | .holdoverExpire => Sys2Proof.Machine.execHoldoverExpire s
  | .frameBoundary => Sys2Proof.Machine.execFrameBoundary s
  | .commitGranuleApply => Sys2Proof.Machine.execCommitGranuleApply s
  | .dlWindowEnd => Sys2Proof.Machine.execDlWindowEnd s
  | .slewJudge => Sys2Proof.Machine.execSlewJudge s
  | .markerRx l frame late => Sys2Proof.Machine.execMarkerRx l frame late s
  | .frameSyncPulse => Sys2Proof.Machine.execFrameSyncPulse s
  | .referenceEventMissing => Sys2Proof.Machine.execReferenceEventMissing s
  | .frameEnable p => Sys2Proof.Machine.execFrameEnable p s
  | .frameCfgWrite p val => Sys2Proof.Machine.execFrameCfgWrite p val s
  | .planSwitchArm p val => Sys2Proof.Machine.execPlanSwitchArm p val s
  | .actionNop => Sys2Proof.Machine.execActionNop s
  | .actionTileRun => Sys2Proof.Machine.execActionTileRun s
  | .actionStream => Sys2Proof.Machine.execActionStream s
  | .actionLinkWin => Sys2Proof.Machine.execActionLinkWin s
  | .actionVsu => Sys2Proof.Machine.execActionVsu s
  | .actionComplete frame idx => Sys2Proof.Machine.execActionComplete frame idx s
  | .actionOverrun frame idx => Sys2Proof.Machine.execActionOverrun frame idx s
  | .governorDecision => Sys2Proof.Machine.execGovernorDecision s
  | .vcoreWriteAck bus ack => Sys2Proof.Machine.execVcoreWriteAck bus ack s
  | .vcoreSettle => Sys2Proof.Machine.execVcoreSettle s
  | .vsetWrite p val => Sys2Proof.Machine.execVsetWrite p val s
  | .shadowLoadStart t err => Sys2Proof.Machine.execShadowLoadStart t err s
  | .shadowLoadDone t => Sys2Proof.Machine.execShadowLoadDone t s
  | .weightSwitch t => Sys2Proof.Machine.execWeightSwitch t s
  | .vectorCycle t err => Sys2Proof.Machine.execVectorCycle t err s
  | .resultAccumulate t => Sys2Proof.Machine.execResultAccumulate t s
  | .outputRecordWrite t => Sys2Proof.Machine.execOutputRecordWrite t s
  | .tileRunComplete t => Sys2Proof.Machine.execTileRunComplete t s
  | .routingChange t => Sys2Proof.Machine.execRoutingChange t s
  | .rowFailure t row driver => Sys2Proof.Machine.execRowFailure t row driver s
  | .columnFailure t col => Sys2Proof.Machine.execColumnFailure t col s
  | .rowSubstReq p t val => Sys2Proof.Machine.execRowSubstReq p t val s
  | .aringCfgWrite p t val => Sys2Proof.Machine.execAringCfgWrite p t val s
  | .oringCfgWrite p t val => Sys2Proof.Machine.execOringCfgWrite p t val s
  | .tileScrubPass t errs => Sys2Proof.Machine.execTileScrubPass t errs s
  | .calOffsetMeasure t sum => Sys2Proof.Machine.execCalOffsetMeasure t sum s
  | .calGainMeasure t sum => Sys2Proof.Machine.execCalGainMeasure t sum s
  | .calDelayTrim t resp => Sys2Proof.Machine.execCalDelayTrim t resp s
  | .lockinWindowEnd t raw lit => Sys2Proof.Machine.execLockinWindowEnd t raw lit s
  | .calDriveTable t sweep => Sys2Proof.Machine.execCalDriveTable t sweep s
  | .acquisitionPassStart t => Sys2Proof.Machine.execAcquisitionPassStart t s
  | .acquisitionPassDone t cols wins tabs => Sys2Proof.Machine.execAcquisitionPassDone t cols wins tabs s
  | .loopPeriodStart => Sys2Proof.Machine.execLoopPeriodStart s
  | .zoneUpdate z q0 q1 => Sys2Proof.Machine.execZoneUpdate z q0 q1 s
  | .zoneLoad p z all => Sys2Proof.Machine.execZoneLoad p z all s
  | .zoneEnable p z all => Sys2Proof.Machine.execZoneEnable p z all s
  | .zoneDisable p z all => Sys2Proof.Machine.execZoneDisable p z all s
  | .zoneClear p z all => Sys2Proof.Machine.execZoneClear p z all s
  | .zoneReinit p z all => Sys2Proof.Machine.execZoneReinit p z all s
  | .stageShort z col => Sys2Proof.Machine.execStageShort z col s
  | .testCfgWrite p val => Sys2Proof.Machine.execTestCfgWrite p val s
  | .capArm p => Sys2Proof.Machine.execCapArm p s
  | .capStop p => Sys2Proof.Machine.execCapStop p s
  | .vsuEnvListStart lane => Sys2Proof.Machine.execVsuEnvListStart lane s
  | .vsuListComplete lane => Sys2Proof.Machine.execVsuListComplete lane s
  | .vsuAdd lane bad => Sys2Proof.Machine.execVsuAdd lane bad s
  | .vsuMul lane bad => Sys2Proof.Machine.execVsuMul lane bad s
  | .vsuFma lane bad => Sys2Proof.Machine.execVsuFma lane bad s
  | .vsuScale lane bad => Sys2Proof.Machine.execVsuScale lane bad s
  | .vsuTopk lane bad => Sys2Proof.Machine.execVsuTopk lane bad s
  | .vsuSoftmax lane bad => Sys2Proof.Machine.execVsuSoftmax lane bad s
  | .vsuNorm lane bad => Sys2Proof.Machine.execVsuNorm lane bad s
  | .vsuRope lane bad => Sys2Proof.Machine.execVsuRope lane bad s
  | .vsuSample lane bad => Sys2Proof.Machine.execVsuSample lane bad s
  | .vsuIsect lane bad => Sys2Proof.Machine.execVsuIsect lane bad s
  | .vsuUnion lane bad => Sys2Proof.Machine.execVsuUnion lane bad s
  | .vsuDiff lane bad => Sys2Proof.Machine.execVsuDiff lane bad s
  | .vsuHprobe lane bad => Sys2Proof.Machine.execVsuHprobe lane bad s
  | .vsuHinsert lane bad => Sys2Proof.Machine.execVsuHinsert lane bad s
  | .vsuCsr lane bad => Sys2Proof.Machine.execVsuCsr lane bad s
  | .vsuGather lane bad => Sys2Proof.Machine.execVsuGather lane bad s
  | .vsuScatterAdd lane bad => Sys2Proof.Machine.execVsuScatterAdd lane bad s
  | .vsuSegred lane bad => Sys2Proof.Machine.execVsuSegred lane bad s
  | .vsuConvert lane bad => Sys2Proof.Machine.execVsuConvert lane bad s
  | .vsuStats lane bad => Sys2Proof.Machine.execVsuStats lane bad s
  | .vsuQuant lane bad => Sys2Proof.Machine.execVsuQuant lane bad s
  | .vsuPost lane bad => Sys2Proof.Machine.execVsuPost lane bad s
  | .streamEnvStart => Sys2Proof.Machine.execStreamEnvStart s
  | .streamDescCheck c => Sys2Proof.Machine.execStreamDescCheck c s
  | .streamReadIssue c => Sys2Proof.Machine.execStreamReadIssue c s
  | .streamReadData c dec => Sys2Proof.Machine.execStreamReadData c dec s
  | .streamStop p => Sys2Proof.Machine.execStreamStop p s
  | .streamClear p => Sys2Proof.Machine.execStreamClear p s
  | .shareFlush p => Sys2Proof.Machine.execShareFlush p s
  | .checkCompare p u => Sys2Proof.Machine.execCheckCompare p u s
  | .checkInit p u => Sys2Proof.Machine.execCheckInit p u s
  | .queueDescWrite p q half val => Sys2Proof.Machine.execQueueDescWrite p q half val s
  | .profileWrite p pr val => Sys2Proof.Machine.execProfileWrite p pr val s
  | .doorbell fn q val => Sys2Proof.Machine.execDoorbell fn q val s
  | .bar2BadAccess fn write => Sys2Proof.Machine.execBar2BadAccess fn write s
  | .syncAdd src => Sys2Proof.Machine.execSyncAdd src s
  | .syncSet src => Sys2Proof.Machine.execSyncSet src s
  | .syncCas src => Sys2Proof.Machine.execSyncCas src s
  | .syncWaitGe src => Sys2Proof.Machine.execSyncWaitGe src s
  | .syncArm src => Sys2Proof.Machine.execSyncArm src s
  | .syncAdmit src => Sys2Proof.Machine.execSyncAdmit src s
  | .syncRelease src => Sys2Proof.Machine.execSyncRelease src s
  | .syncCellWrite p cell val => Sys2Proof.Machine.execSyncCellWrite p cell val s
  | .watchPop p => Sys2Proof.Machine.execWatchPop p s
  | .linkUp p l => Sys2Proof.Machine.execLinkUp p l s
  | .linkDown p l => Sys2Proof.Machine.execLinkDown p l s
  | .linkDoze p l => Sys2Proof.Machine.execLinkDoze p l s
  | .linkWake p l => Sys2Proof.Machine.execLinkWake p l s
  | .linkSubst p l ln => Sys2Proof.Machine.execLinkSubst p l ln s
  | .darkCaptureDone l light base => Sys2Proof.Machine.execDarkCaptureDone l light base s
  | .linkTrainingDone l ident ts => Sys2Proof.Machine.execLinkTrainingDone l ident ts s
  | .linkTrainTimeout l => Sys2Proof.Machine.execLinkTrainTimeout l s
  | .linkSlot l => Sys2Proof.Machine.execLinkSlot l s
  | .linkLeadSlotRx l fec slot => Sys2Proof.Machine.execLinkLeadSlotRx l fec slot s
  | .linkFlitRx l payload trailer => Sys2Proof.Machine.execLinkFlitRx l payload trailer s
  | .vetoRx l frame origin hops => Sys2Proof.Machine.execVetoRx l frame origin hops s
  | .vetoHoldExpire frame => Sys2Proof.Machine.execVetoHoldExpire frame s
  | .creditRx l freed => Sys2Proof.Machine.execCreditRx l freed s
  | .dozeReqRx l blk => Sys2Proof.Machine.execDozeReqRx l blk s
  | .dozeAckRx l blk => Sys2Proof.Machine.execDozeAckRx l blk s
  | .dozeEnter l => Sys2Proof.Machine.execDozeEnter l s
  | .dozeBeacon l => Sys2Proof.Machine.execDozeBeacon l s
  | .wakeBeaconRx l b => Sys2Proof.Machine.execWakeBeaconRx l b s
  | .linkWakeDone l pframe ts => Sys2Proof.Machine.execLinkWakeDone l pframe ts s
  | .tsyncRx l reply ta tb tc => Sys2Proof.Machine.execTsyncRx l reply ta tb tc s
  | .laneMsgRx l tx ln blk => Sys2Proof.Machine.execLaneMsgRx l tx ln blk s
  | .laneFail l ln tx => Sys2Proof.Machine.execLaneFail l ln tx s
  | .laneMove l tx => Sys2Proof.Machine.execLaneMove l tx s
  | .mgmtRx l seq ack data => Sys2Proof.Machine.execMgmtRx l seq ack data s
  | .tunnelResendTimeout l => Sys2Proof.Machine.execTunnelResendTimeout l s
  | .identRx l ident => Sys2Proof.Machine.execIdentRx l ident s
  | .baselineUpdate l base => Sys2Proof.Machine.execBaselineUpdate l base s
  | .mapFreeze p => Sys2Proof.Machine.execMapFreeze p s
  | .devnumWrite p val => Sys2Proof.Machine.execDevnumWrite p val s
  | .memoryRead src addr dec => Sys2Proof.Machine.execMemoryRead src addr dec s
  | .memoryWrite src addr data en poison dec => Sys2Proof.Machine.execMemoryWrite src addr data en poison dec s
  | .memoryScrub k dec => Sys2Proof.Machine.execMemoryScrub k dec s
  | .ceRateWindow k => Sys2Proof.Machine.execCeRateWindow k s
  | .memTrainingDone k ok => Sys2Proof.Machine.execMemTrainingDone k ok s
  | .memPhyLockLost k => Sys2Proof.Machine.execMemPhyLockLost k s
  | .bar4Read fn off len dec => Sys2Proof.Machine.execBar4Read fn off len dec s
  | .bar4Write fn off data dec => Sys2Proof.Machine.execBar4Write fn off data dec s
  | .pcieFlr fn => Sys2Proof.Machine.execPcieFlr fn s
  | .pcieLinkDown d3 => Sys2Proof.Machine.execPcieLinkDown d3 s
  | .bar4Resize fn k => Sys2Proof.Machine.execBar4Resize fn k s
  | .warmReset p val => Sys2Proof.Machine.execWarmReset p val s
  | .voteWrite p client word val => Sys2Proof.Machine.execVoteWrite p client word val s
  | .domainEntry d => Sys2Proof.Machine.execDomainEntry d s
  | .domainEntryComplete d => Sys2Proof.Machine.execDomainEntryComplete d s
  | .domainWake d => Sys2Proof.Machine.execDomainWake d s
  | .domainWakeComplete d => Sys2Proof.Machine.execDomainWakeComplete d s
  | .pcieWakeEvent => Sys2Proof.Machine.execPcieWakeEvent s
  | .a3Cmd p val => Sys2Proof.Machine.execA3Cmd p val s
  | .aonInletCheck above => Sys2Proof.Machine.execAonInletCheck above s
  | .vinFault => Sys2Proof.Machine.execVinFault s
  | .auxLoss vbat => Sys2Proof.Machine.execAuxLoss vbat s
  | .restore => Sys2Proof.Machine.execRestore s
  | .restoreComplete => Sys2Proof.Machine.execRestoreComplete s
  | .restoreLate => Sys2Proof.Machine.execRestoreLate s
  | .bootLock core => Sys2Proof.Machine.execBootLock core s
  | .getVersion tr => Sys2Proof.Machine.execGetVersion tr s
  | .getCapabilities tr => Sys2Proof.Machine.execGetCapabilities tr s
  | .negotiateAlgorithms tr offers => Sys2Proof.Machine.execNegotiateAlgorithms tr offers s
  | .getDigests tr => Sys2Proof.Machine.execGetDigests tr s
  | .getCertificate tr slot => Sys2Proof.Machine.execGetCertificate tr slot s
  | .challenge tr slot nonce => Sys2Proof.Machine.execChallenge tr slot nonce s
  | .getMeasurements tr index => Sys2Proof.Machine.execGetMeasurements tr index s
  | .keyExchange tr pub => Sys2Proof.Machine.execKeyExchange tr pub s
  | .finish tr sid ok => Sys2Proof.Machine.execFinish tr sid ok s
  | .keyUpdate tr sid => Sys2Proof.Machine.execKeyUpdate tr sid s
  | .endSession tr sid => Sys2Proof.Machine.execEndSession tr sid s
  | .genChallenge dp => Sys2Proof.Machine.execGenChallenge dp s
  | .unlock dp level => Sys2Proof.Machine.execUnlock dp level s
  | .relock dp => Sys2Proof.Machine.execRelock dp s
  | .nonceExpire => Sys2Proof.Machine.execNonceExpire s
  | .debugHalt dp => Sys2Proof.Machine.execDebugHalt dp s
  | .haltDone => Sys2Proof.Machine.execHaltDone s
  | .forcedHalt => Sys2Proof.Machine.execForcedHalt s
  | .resume dp => Sys2Proof.Machine.execResume dp s
  | .debugApertureRead dp val => Sys2Proof.Machine.execDebugApertureRead dp val s
  | .bypass => Sys2Proof.Machine.execBypass s
  | .idcode => Sys2Proof.Machine.execIdcode s
  | .samplePreload cells => Sys2Proof.Machine.execSamplePreload cells s
  | .extest => Sys2Proof.Machine.execExtest s
  | .debugAccess off write => Sys2Proof.Machine.execDebugAccess off write s
  | .jtagReset => Sys2Proof.Machine.execJtagReset s
  | .token next => Sys2Proof.Machine.execToken next s
  | .courierRead h off count => Sys2Proof.Machine.execCourierRead h off count s
  | .courierWrite h off words => Sys2Proof.Machine.execCourierWrite h off words s
  | .courierWake h => Sys2Proof.Machine.execCourierWake h s
  | .tunnel h link inner => Sys2Proof.Machine.execTunnel h link inner s
  | .courierForward pkt => Sys2Proof.Machine.execCourierForward pkt s
  | .blockWrite pkt pecOk => Sys2Proof.Machine.execBlockWrite pkt pecOk s
  | .blockRead => Sys2Proof.Machine.execBlockRead s
  | .alertResponse => Sys2Proof.Machine.execAlertResponse s
  | .smbusTimeout => Sys2Proof.Machine.execSmbusTimeout s
  | .setEndpointId eid => Sys2Proof.Machine.execSetEndpointId eid s
  | .getEndpointId => Sys2Proof.Machine.execGetEndpointId s
  | .getMctpVersionSupport => Sys2Proof.Machine.execGetMctpVersionSupport s
  | .getMessageTypeSupport => Sys2Proof.Machine.execGetMessageTypeSupport s
  | .getVendorDefinedMessageSupport => Sys2Proof.Machine.execGetVendorDefinedMessageSupport s
  | .mctpVendorDefined pkt => Sys2Proof.Machine.execMctpVendorDefined pkt s
  | .mctpUnsupportedType ty => Sys2Proof.Machine.execMctpUnsupportedType ty s
  | .calendarSecond counts => Sys2Proof.Machine.execCalendarSecond counts s
  | .timeWrite p val => Sys2Proof.Machine.execTimeWrite p val s
  | .alarmWrite p val => Sys2Proof.Machine.execAlarmWrite p val s
  | .vbatCheck low => Sys2Proof.Machine.execVbatCheck low s
  | .slowRoundEnd codes taps => Sys2Proof.Machine.execSlowRoundEnd codes taps s
  | .trigger => Sys2Proof.Machine.execTrigger s
  | .trigConversionDone code => Sys2Proof.Machine.execTrigConversionDone code s
  | .calZero p => Sys2Proof.Machine.execCalZero p s
  | .calZeroDone sum => Sys2Proof.Machine.execCalZeroDone sum s
  | .calFull p => Sys2Proof.Machine.execCalFull p s
  | .calFullDone sum => Sys2Proof.Machine.execCalFullDone sum s
  | .csCommit p => Sys2Proof.Machine.execCsCommit p s
  | .csLoad p => Sys2Proof.Machine.execCsLoad p s
  | .csImport p => Sys2Proof.Machine.execCsImport p s
  | .bankWriteDone outcome => Sys2Proof.Machine.execBankWriteDone outcome s
  | .laneInterpolate l => Sys2Proof.Machine.execLaneInterpolate l s
  | .fwErase p slot => Sys2Proof.Machine.execFwErase p slot s
  | .fwData p val => Sys2Proof.Machine.execFwData p val s
  | .fwFinish p slot => Sys2Proof.Machine.execFwFinish p slot s
  | .loaderCopy => Sys2Proof.Machine.execLoaderCopy s
  | .loaderCopyDone dec => Sys2Proof.Machine.execLoaderCopyDone dec s
  | .pllUnlock => Sys2Proof.Machine.execPllUnlock s
  | .allLanesLoseSignal l => Sys2Proof.Machine.execAllLanesLoseSignal l s
  | .deferredCaptureTaken l base => Sys2Proof.Machine.execDeferredCaptureTaken l base s
  | .doubledRefresh k on => Sys2Proof.Machine.execDoubledRefresh k on s
  | .pcieLinkUp x8 rate => Sys2Proof.Machine.execPcieLinkUp x8 rate s
  | .pcieRateChange x8 rate => Sys2Proof.Machine.execPcieRateChange x8 rate s
  | .doeDiscovery index => Sys2Proof.Machine.execDoeDiscovery index s
  | .ideKmMessage m => Sys2Proof.Machine.execIdeKmMessage m s
  | .fullLaserPowerRestored g => Sys2Proof.Machine.execFullLaserPowerRestored g s

end Sys2Proof.Machine
end

