-- ==== Sys2Proof/Machine/Tick.lean ====
section
/-!
DEFINITION. One tick of the time base: what an empty queue does in place of idling (log 1). Counters, buckets, the place
in the frame and the round clock move, and what the block does at a moment the module alone knows: data that lands, loader
copies, stored errors, and what waited for a memory in standby. Every other effect of the block is a command.
-/
namespace Sys2Proof.Machine

/-- The tick counter, the place in the frame and the ticks of holdover (R280, R282, Table 10.5). -/
def State.tickTime (s : State) : State :=
  let s := { s with
    tb := { s.tb with tick := (s.tb.tick + 1) % 2 ^ 64, lostFor := if s.tb.holdover then s.tb.lostFor + 1 else s.tb.lostFor }
    fr := { s.fr with tif := if s.fr.st = FrameSt.halted then s.fr.tif else s.fr.tif + 1 } }
  if s.tb.holdover then s.count pgTb 1 else s

/-- A tile's run that waits is counted in one stall counter of the tile, and under its root cause in the STREAM page (R76,
R231, R232). -/
def State.tickTile (s : State) (t : Nat) : State :=
  if !s.tileOn t then s
  else match s.tileWait t with
    | none => s
    | some k =>
      let s := (s.count (pgTile t) k).count pgStream (stallCnt (s.tileRoot t k))
      if k = 4 then s.raise (pgTile t) 11 else s

/-- A Posted flit that waits for a credit (Table 11.11). -/
def State.tickLink (s : State) (l : Nat) : State :=
  let x := s.lnk l
  if s.en (pgLink l) && x.carries && decide (x.credits = 0) && x.nextPosted.isSome then s.count (pgLink l) 9 else s

/-- At a round start the round before has ended; ROUND_CFG comes into force at one that is a multiple of the new length
(R461). -/
def State.tickRound (s : State) : State :=
  if s.tb.tick % roundLen s.mg.roundCfg = 0 then
    let v := s.reg pgHk 0x40
    { s with mg := { s.mg with
        roundEnd := s.tb.tick, roundWas := s.mg.roundCfg, roundCfg := if s.tb.tick % roundLen v = 0 then v else s.mg.roundCfg } }
  else s

/-- A wrong symbol or bit that comes up in memory or in the commit buffer, which the spec gives no cause or time for: a free
choice of place (R350, R351, R515, log 63). -/
def State.strike (s : State) : State :=
  let v := s.draw.1
  let s := s.draw.2
  let g := v / 4
  if v % 4 = 1 then
    { s with mem := { s.mem with err := tset 0 g (min (tget 0 g s.mem.err + 1) 4) s.mem.err } }
  else if v % 4 = 2 then
    let hit (w : Staged × Nat) : Staged := if w.2 = g then { w.1 with err := min (w.1.err + 1) 2 } else w.1
    { s with fr := { s.fr with buf := s.fr.buf.zipIdx.map hit } }
  else s

/-- One tick; the time base stands still until the PLL has locked (R280). -/
def State.tick (s : State) : State :=
  if !s.tb.locked then s
  else
    let s := forL (s.stm.ctx.map (·.1)) (fun c s => (s.streamTick c).landTick c) s
    let s := forL (s.tile.map (·.1)) (fun t s => s.tickTile t) s
    let s := forL (s.vsu.map (·.1)) (fun j s => s.laneTick j) s
    let s := forL (s.link.map (·.1)) (fun l s => s.tickLink l) s
    s.tickTime.tickRound.copyTick.csRetry.strike

end Sys2Proof.Machine
end

