-- ==== Sys2Proof/Safety.lean ====
section
/-!
DEFINITION. What counts as a completed command and as a safe state, in the terms the statements use.
-/
namespace Sys2Proof.Machine

/-- The command answers a next state, and `P` holds of it. -/
def Answers (o : Host.Outcome State Fault Refusal) (P : State → Prop) : Prop := ∃ t, o = .next t ∧ P t

/-- No counter is past its largest value: 64 bits, and 32 bits for the violation counters (R10, R23, R444). -/
def State.countersOk (s : State) : Bool :=
  s.cnt.all (fun e => decide (e.2 < 2 ^ 64)) && s.snap.all (fun e => decide (e.2 < 2 ^ 64))
    && s.sec.viol.all (fun e => decide (e.2 < 2 ^ 32)) && s.sec.violSnap.all (fun e => decide (e.2 < 2 ^ 32))

end Sys2Proof.Machine
end

