-- ==== Sys2Proof/Certificates/Slice0/Obligations.lean ====
section
/-!
DEFINITION. The statements for the provers: one `def Obligations.<Name> : Prop` for each entry of OBLIGATIONS.json. Each
docstring names the rules of spec/ it formalises, or says what of the model it rests on.
-/
open Sys2Proof Sys2Proof.Machine

/-- A step runs the command at the front of the queue. When c is at the front of the queue, a step is exec of c on the
state whose queue is the rest; on an empty queue the step is one tick of the time base, after which the interrupt
outputs follow the requests. The queue and the tick on an empty queue are the model's own (DESIGN CHOICE, log 1). -/
def Obligations.StepRunsFrontCommandWithQueueRest : Prop :=
  (∀ (c : Instr) (cs : List Instr) (s : State), s.pending = c :: cs → step s = exec c { s with pending := cs }) ∧
  (∀ s : State, s.pending = [] → step s = .next (settle s s.tick))

/-- Every command answers a next state. No command stops the block: for every command, with whatever operands, and every
state there is a next state. (That the model has no fault and no refusal on any command is its reading of the manual,
log 5: a command that the block does not act on completes without effect.) -/
def Obligations.EveryCommandAnswersNextState : Prop :=
  ∀ (c : Instr) (s : State), ∃ t : State, exec c s = .next t

/-- Every step keeps memory in its canonical form. In every state whose memory lists its bytes and its poison marks at
strictly rising keys, and lists no byte or mark that equals what an unlisted one reads as (a byte 0; a mark set in the
tiers and the general store, R480), every step gives such a state again, whichever command stands at the front and
whatever else the state holds. The canonical form is the model's own. -/
def Obligations.EveryStepKeepsMemoryCanonical : Prop :=
  ∀ s t : State, s.mem.wf = true → step s = .next t → t.mem.wf = true

/-- No step lets a counter pass its largest value. In every state whose counters and their snapshots are at most 2^64 - 1
and whose violation counters and their snapshots are at most 2^32 - 1, every step gives such a state again: counters
saturate at their largest value. (Their width is that of R23 and R444; that they never pass it is R10.) -/
def Obligations.EveryStepKeepsCountersSaturated : Prop :=
  ∀ s t : State, s.countersOk = true → step s = .next t → t.countersOk = true

/-- The state after reset meets the invariants. Right after reset memory is in its canonical form, no counter is past its
largest value, and no command waits. -/
def Obligations.ResetStateMeetsInvariants : Prop :=
  State.reset.mem.wf = true ∧ State.reset.countersOk = true ∧ State.reset.pending = []

/-- 4-byte reads of a 64-bit quantity go through the path's holding register. For READ_LOW_HALF and READ_HIGH_HALF on a
location the path may read. A 4-byte read of the low half answers the low half and leaves the high half of the same
step in the path's holding register for that quantity. A read of the high half answers the held value and empties that
register; with the register empty it answers the live high half. An aligned 8-byte read answers both halves of one
step and neither fills nor empties a holding register. Every other holding register, of the path and of every other
path, stays as it was, and nothing else of the state changes, but for what the interrupt outputs send (settle). -/
def Obligations.HalfReadsUseHoldingRegisterOfTheirPath : Prop :=
  ∀ (s : State) (p : Path) (off : BitVec 26), off.toNat % 4 = 0 → s.mayRead p (locate off.toNat) = true →
    (isLow (locate off.toNat) = true →
      Answers (exec (.readLowHalf p off false) s) (fun t =>
        t.resp = .word (s.quad p (locate off.toNat) % 2 ^ 32) ∧
        tget none (halfKey p off.toNat) t.hif.hold = some (s.quad p (locate off.toNat) / 2 ^ 32 % 2 ^ 32) ∧
        (∀ k, k ≠ halfKey p off.toNat → tget none k t.hif.hold = tget none k s.hif.hold) ∧
        t = settle s { s with resp := t.resp, hif := { s.hif with hold := t.hif.hold } }) ∧
      (off.toNat % 8 = 0 → exec (.readLowHalf p off true) s =
        .next (settle s (s.answer (.dword (s.quad p (locate off.toNat))))))) ∧
    (isHigh (locate off.toNat) = true → isLow (locate off.toNat) = false →
      Answers (exec (.readHighHalf p off) s) (fun t =>
        t.resp = .word ((tget none (halfKey p (off.toNat - 4)) s.hif.hold).getD (s.word p (locate off.toNat))) ∧
        tget none (halfKey p (off.toNat - 4)) t.hif.hold = none ∧
        (∀ k, k ≠ halfKey p (off.toNat - 4) → tget none k t.hif.hold = tget none k s.hif.hold) ∧
        t = settle s { s with resp := t.resp, hif := { s.hif with hold := t.hif.hold } }))

/-- 4-byte writes of a 64-bit quantity: the low half is staged, the high half brings both into force. For WRITE_LOW_HALF,
WRITE_HIGH_HALF and WRITE_64 without a rival, on a location the path may write. A 4-byte write of the low half only
stages it for the path, replacing what was staged; where the access code closes the low half it is discarded as a
violation of source 6 (R13, R433). A write of the high half brings into force, in one step, the written high half with
the staged low half, or with the low half in force where none is staged, and empties the path's staged low half. An
aligned 8-byte write brings both halves into force in one step. Bringing a value into force is the same operation of
the quantity's register (quadWrite) in both cases. -/
def Obligations.HalfWritesStageLowHalfAndApplyBoth : Prop :=
  ∀ (s : State) (p : Path) (off : BitVec 26) (v : BitVec 32) (w : BitVec 64),
    (off.toNat % 4 = 0 → isLow (locate off.toNat) = true → s.mayWrite p (locate off.toNat) = true →
      (s.lowLocked p (locate off.toNat) = false → Answers (exec (.writeLowHalf p off v) s) (fun t =>
        tget none (halfKey p off.toNat) t.hif.staged = some v.toNat ∧
        (∀ k, k ≠ halfKey p off.toNat → tget none k t.hif.staged = tget none k s.hif.staged) ∧
        t = settle s { s with hif := { s.hif with staged := t.hif.staged } })) ∧
      (s.lowLocked p (locate off.toNat) = true →
        exec (.writeLowHalf p off v) s = .next (settle s (s.violate (pathTenant p) 6)))) ∧
    (off.toNat % 8 = 0 → isLow (locate off.toNat) = true → s.mayWrite p (locate off.toNat) = true →
      exec (.write64 p off ⟨w, none⟩) s = .next (settle s (s.quadWrite p (locate off.toNat) w.toNat))) ∧
    (off.toNat % 4 = 0 → isHigh (locate off.toNat) = true → isLow (locate off.toNat) = false →
      s.mayWrite p (locate off.toNat) = true →
      ∃ (lo : Nat) (u : State),
        (∀ x, tget none (halfKey p (off.toNat - 4)) s.hif.staged = some x → lo = x) ∧
        (tget none (halfKey p (off.toNat - 4)) s.hif.staged = none → lo = s.lowInForce p (locate (off.toNat - 4))) ∧
        tget none (halfKey p (off.toNat - 4)) u.hif.staged = none ∧
        u = { s with hif := { s.hif with staged := u.hif.staged } } ∧
        (∀ k, k ≠ halfKey p (off.toNat - 4) → tget none k u.hif.staged = tget none k s.hif.staged) ∧
        exec (.writeHighHalf p off ⟨v, none⟩) s =
          .next (settle s (u.quadWrite p (locate (off.toNat - 4)) (lo + 2 ^ 32 * v.toNat))))

/-- A malformed access completes without effect and is counted. MALFORMED_ACCESS: a read returns 0, a write is discarded,
the access is counted in HOSTIF CNT0 with its event, and nothing else changes. -/
def Obligations.MalformedAccessHasNoEffectButItsCount : Prop :=
  ∀ (s : State) (p : Path) (off : BitVec 26) (write : Bool),
    exec (.malformedAccess p off write) s =
      .next (settle s ((s.countRaise pgHost 0 0).answer (if write then .ok else .word 0)))

/-- Of two contending register writes the class decides, and the loss is recorded. REGISTER_WRITE, WRITE_HIGH_HALF and
WRITE_64. Without a rival the write is made. With a rival that does not contend (R376) both take effect in order. With
a contending rival, the management write takes effect when the register is of class Power, Reset or Link
administration or one of the writes sets SOFT_RESET of the page, otherwise the host write; the other is discarded,
counted in HOSTIF CNT4 (host) or CNT5 (management), OVERRIDDEN is raised, and OVR_INFO holds the first loss since
OVERRIDDEN was cleared. What a write does is the register's own operation (put). That a contending write is judged by
what it brings into force is the model's reading (log 47). -/
def Obligations.ContendingWritesAreDecidedByClass : Prop :=
  ∀ (s : State) (p : Path) (off : BitVec 26) (v : BitVec 32) (w : BitVec 64) (r : Rival)
    (c : Option Rival → Instr) (wide : Bool) (x : Nat),
    (c, wide, x) ∈ [(Instr.registerWrite p off v, false, v.toNat), (fun o => Instr.writeHighHalf p off ⟨v, o⟩, false, v.toNat),
      (fun o => Instr.write64 p off ⟨w, o⟩, true, w.toNat)] →
    exec (c none) s = .next (settle s (s.put p off.toNat wide x)) ∧
    (s.contend p off.toNat wide x r = false →
      exec (c (some r)) s =
        .next (settle s ((s.put p off.toNat wide x).put r.path r.off.toNat r.wide r.val.toNat))) ∧
    (s.contend p off.toNat wide x r = true → ∀ toMgmt : Bool,
      toMgmt = (setsReset off.toNat wide x || setsReset r.off.toNat r.wide r.val.toNat || mgmtClass (locate off.toNat)) →
      ∃ u : State,
        u.cntLive pgHost (if toMgmt then 4 else 5) = min (s.cntLive pgHost (if toMgmt then 4 else 5) + 1) (2 ^ 64 - 1) ∧
        (∀ k, k ≠ 32 * pgHost + (if toMgmt then 4 else 5) → tget 0 k u.cnt = tget 0 k s.cnt) ∧
        u.raw pgHost = Nat.lor (s.raw pgHost) (2 ^ 3) ∧ (∀ q, q ≠ pgHost → u.raw q = s.raw q) ∧
        (bitOf (s.reg pgHost 0x48) 31 = true → u.reg pgHost 0x48 = s.reg pgHost 0x48) ∧
        (∀ q o, rkey q o ≠ rkey pgHost 0x48 → u.reg q o = s.reg q o) ∧
        u = { s with regs := u.regs, cnt := u.cnt, evRaw := u.evRaw } ∧
        ((sideOf p = some 1 ∧ toMgmt = true) ∨ (sideOf p = some 0 ∧ toMgmt = false) →
          (bitOf (s.reg pgHost 0x48) 31 = false → bitOf (u.reg pgHost 0x48) 31 = true ∧
            fld (u.reg pgHost 0x48) 25 0 = r.off.toNat ∧ bitOf (u.reg pgHost 0x48) 30 = !toMgmt) ∧
          exec (c (some r)) s = .next (settle s (u.put p off.toNat wide x))) ∧
        ((sideOf p = some 0 ∧ toMgmt = true) ∨ (sideOf p = some 1 ∧ toMgmt = false) →
          (bitOf (s.reg pgHost 0x48) 31 = false → bitOf (u.reg pgHost 0x48) 31 = true ∧
            fld (u.reg pgHost 0x48) 25 0 = off.toNat ∧ bitOf (u.reg pgHost 0x48) 30 = !toMgmt) ∧
          exec (c (some r)) s =
            .next (settle s (u.put r.path r.off.toNat r.wide r.val.toNat))))

/-- EVT_RAW clears where 1 is written, an event of the same step stays, EVT_FORCE sets. EVT_RAW_CLEAR and EVT_FORCE on a
page the path may write, for every bit but the two ALERT_SENT bits, which the interrupt outputs of the same command
may raise (R451): after the clear a bit is set exactly when it was set and not written 1, or when its event occurs in
the same step; after EVT_FORCE a bit is set exactly when it was set or a defined bit was written 1. Every other page's
bits stay as they were. -/
def Obligations.EventBitsClearForceAndStaySet : Prop :=
  ∀ (s : State) (p : Path) (page : Fin 382) (v hw : BitVec 32), s.mayPath p page.val = true →
    Answers (exec (.evtRawClear p page v hw) s) (fun t =>
      ∀ q i, i < 32 → ¬ (q = pgCour ∧ i = 4) → ¬ (q = pgSmb ∧ i = 3) →
        bitOf (t.raw q) i = (if q = page.val
          then (bitOf (s.raw q) i && !v.getLsbD i) || (hw.getLsbD i && decide (i < evtCount q))
          else bitOf (s.raw q) i)) ∧
    Answers (exec (.evtForce p page v) s) (fun t =>
      ∀ q i, i < 32 → ¬ (q = pgCour ∧ i = 4) → ¬ (q = pgSmb ∧ i = 3) →
        bitOf (t.raw q) i = (if q = page.val
          then bitOf (s.raw q) i || (v.getLsbD i && decide (i < evtCount q))
          else bitOf (s.raw q) i))

/-- SNAP takes every counter of the page, CLEAR zeroes them, an increment of the same step counts after. COUNTER_SNAP and
COUNTER_CLEAR on a page the path may write, for every counter but HOSTIF CNT6, in which a message that the same
command sends counts too: after SNAP each snapshot holds the counter's value of before; with CLEAR written too the
snapshot is taken first and then the counters are 0; after CLEAR a counter that increments in the same step reads 1
and every other one 0. Counters of other pages stay as they were. -/
def Obligations.CountersSnapThenClearTogether : Prop :=
  ∀ (s : State) (p : Path) (page : Fin 382), s.mayPath p page.val = true →
    (∀ clear : Bool, Answers (exec (.counterSnap p page clear) s) (fun t =>
      (∀ k, k < (cntPlace page.val).2 → t.cntSnap page.val k = s.cntLive page.val k) ∧
      (∀ q k, k < 32 → ¬ (q = pgHost ∧ k = 6) →
        t.cntLive q k = (if q = page.val ∧ clear = true then 0 else s.cntLive q k)))) ∧
    (∀ incs : List (Fin 17), incs.Nodup → Answers (exec (.counterClear p page incs) s) (fun t =>
      ∀ q k, k < 32 → ¬ (q = pgHost ∧ k = 6) →
        t.cntLive q k = (if q = page.val
          then (if k ∈ incs.map Fin.val ∧ k < (cntPlace q).2 then 1 else 0) else s.cntLive q k)))

/-- A pending MSI-X message leaves when its mask clears; the alert repeats while it is requested. MSIX_UNMASK of a vector:
with MSI-X enabled on the function, its Mask All clear and a pending bit of that vector alone, whose request is still
1, the message is sent, counts in CNT6, and its pending bit clears; unmasking a function likewise. ALERT_REPEAT: while
the OR of the requests routed to management is 1, with ALERT_CFG.EN = 1 and REPEAT not 0, one ALERT packet leaves on
COUR_OUT and SMBALERT_N is asserted. -/
def Obligations.MessagesAndAlertsLeaveWhenUnmasked : Prop :=
  ∀ (s : State) (fn : Fin 16) (vec : Fin 128),
    (s.irq.pend = [(128 * fn.val + vec.val, true)] → tget false fn.val s.hif.msixEn = true →
      s.vecReq (128 * fn.val + vec.val) = true →
      (tget false fn.val s.hif.maskAll = false →
        Answers (exec (.msixUnmask fn (some vec)) s) (fun t =>
          t.irq.msix = s.irq.msix ++ [128 * fn.val + vec.val] ∧ t.irq.pend = [] ∧
          t.cntLive pgHost 6 = min (s.cntLive pgHost 6 + 1) (2 ^ 64 - 1) ∧
          tget true (128 * fn.val + vec.val) t.hif.mask = false)) ∧
      (tget true (128 * fn.val + vec.val) s.hif.mask = false →
        Answers (exec (.msixUnmask fn none) s) (fun t =>
          t.irq.msix = s.irq.msix ++ [128 * fn.val + vec.val] ∧ t.irq.pend = [] ∧
          t.cntLive pgHost 6 = min (s.cntLive pgHost 6 + 1) (2 ^ 64 - 1) ∧
          tget false fn.val t.hif.maskAll = false))) ∧
    (s.mgmtReq = true → bitOf (s.reg pgCour 0x44) 0 = true → fld (s.reg pgCour 0x44) 15 8 ≠ 0 →
      Answers (exec .alertRepeat s) (fun t =>
        t.irq.cour = s.irq.cour ++ [mkPacket 0 (s.reg pgCour 0x40) 5 0 (leBytes 2 s.alertPage)] ∧
        t.irq.smbAlert = true ∧ t.link = s.link ∧ t.regs = s.regs ∧ t.mem = s.mem))

/-- A soft reset is requested, and completes with the page's RW fields at their reset values. SOFT_RESET on a page the
path may write makes CTRL.SOFT_RESET read 1 and changes nothing else; on any other page it does nothing but what a
denied write does. SOFT_RESET_COMPLETE without a requested reset does nothing; of a requested reset of a block that
Table 0.3 resets at a frame boundary (tile, lane, stream, queue, link; FRAME and REGISTRY outside HALTED) it waits.
Otherwise it completes: SOFT_RESET reads 0, and no counter but those of a message sent moves. On the DIRECTORY,
GOVERNOR, DEBUG, HOSTIF and memory pages EVT_RAW is clear and the writable bits of CTRL and of every stored register
are back at their reset values; no other page's register changes, nor a bit of the page's that is not RW (its records
apart); the governor's adjustment is abandoned at the code in force. On the HKADC, CALSTORE, CALENDAR, COURIER and
SMBUS pages EVT_RAW alone is cleared of the registers. On PROTECT the violation counters of each tenant and source are
0 and no register changes; that its CNT0 and CNT1 stay is the model's reading (log 40). -/
def Obligations.SoftResetReturnsRwFieldsToReset : Prop :=
  ∀ (s : State) (p : Path) (page : Fin 382),
    (s.mayPath p page.val = true → Answers (exec (.softReset p page) s) (fun t => t.softDue page.val = true ∧
      (∀ q, q ≠ page.val → t.softDue q = s.softDue q) ∧ t = settle s { s with soft := t.soft })) ∧
    (s.mayPath p page.val = false → exec (.softReset p page) s = .next (settle s (s.deny p page.val))) ∧
    (s.softDue page.val = false → exec (.softResetComplete page) s = .next (settle s s)) ∧
    (s.softDue page.val = true →
      (blkOf page.val ∈ [Blk.tile, .vsu, .stream, .queue, .link] ∨
        (blkOf page.val ∈ [Blk.frame, .registry] ∧ s.fr.st ≠ .halted) →
        exec (.softResetComplete page) s = .next (settle s s)) ∧
      (blkOf page.val ∈ [Blk.directory, .governor, .debug, .hostif, .hbm, .lpddr] →
        Answers (exec (.softResetComplete page) s) (fun t =>
          t.softDue page.val = false ∧ (∀ q, q ≠ page.val → t.softDue q = s.softDue q) ∧ t.raw page.val = 0 ∧
          (∀ r ∈ ctrlRow :: regRows (blkOf page.val), ∀ i, i < r.n →
            Nat.land (t.reg page.val (r.off + r.stride * i)) r.rw =
              Nat.land (regReset page.val (r.off + r.stride * i)).toNat r.rw ∧
            t.reg page.val (r.off + r.stride * i) - Nat.land (t.reg page.val (r.off + r.stride * i)) r.rw =
              s.reg page.val (r.off + r.stride * i) - Nat.land (s.reg page.val (r.off + r.stride * i)) r.rw) ∧
          (∀ q o, o < 4096 → q ≠ page.val → t.reg q o = s.reg q o) ∧
          (∀ q k, k < 32 → ¬ (q = pgHost ∧ k = 6) → t.cntLive q k = s.cntLive q k) ∧
          (page.val = pgGov → t.gov.adjusting = false ∧ t.gov.want = s.gov.code ∧ t.gov.code = s.gov.code ∧
            t.gov.least = none ∧ t.gov.above = 0) ∧
          (page.val ≠ pgGov → t.gov = s.gov) ∧ t.mem.bytes = s.mem.bytes ∧ t.mem.poison = s.mem.poison ∧
          t.tile = s.tile ∧ t.link = s.link ∧ t.q = s.q ∧ t.sy = s.sy ∧ t.fr = s.fr ∧ t.stm = s.stm)) ∧
      (blkOf page.val ∈ [Blk.hkadc, .calstore, .calendar, .courier, .smbus] →
        Answers (exec (.softResetComplete page) s) (fun t =>
          t.softDue page.val = false ∧ t.raw page.val = 0 ∧ t.regs = s.regs ∧ t.evEn = s.evEn ∧
          (∀ q k, k < 32 → ¬ (q = pgHost ∧ k = 6) → t.cntLive q k = s.cntLive q k) ∧
          t.mg.time = s.mg.time ∧ t.mg.flash = s.mg.flash ∧ t.mem = s.mem ∧ t.tile = s.tile ∧ t.q = s.q ∧ t.fr = s.fr)) ∧
      (page.val = pgProt → Answers (exec (.softResetComplete page) s) (fun t =>
        t.softDue page.val = false ∧ t.sec = { s.sec with viol := [], violSnap := [] } ∧ t.regs = s.regs ∧
        t.evRaw = s.evRaw ∧ (∀ q k, k < 32 → ¬ (q = pgHost ∧ k = 6) → t.cntLive q k = s.cntLive q k) ∧
        t.mem = s.mem ∧ t.tile = s.tile ∧ t.link = s.link ∧ t.q = s.q ∧ t.fr = s.fr)))

/-- A register write keeps only RW bits, RWL only before the boot lock, and nothing where it may not reach. REGISTER_WRITE
without a rival on the calendar, courier, SMBus, VSU and queue pages, past the header, on a register that is no half
of a 64-bit quantity and no selection register. An RW register takes the written value's RW bits. An RWL register
takes its RWL bits before the boot lock and afterwards the write is discarded and counted as a violation of source 6
of the path's tenant. A write at an offset that no page or window holds changes nothing. A write to a powered page
that the path may not reach is dropped and counted as a violation of source 0. Nothing else changes. -/
def Obligations.RegisterWritesObeyAccessCodes : Prop :=
  ∀ (s : State) (p : Path) (off : BitVec 26) (v : BitVec 32), off.toNat % 4 = 0 →
    (∀ (pg o : Nat) (r : RegRow), locate off.toNat = .page pg o → 0x40 ≤ o → rowOf pg o = some r →
      blkOf pg ∈ [Blk.calendar, Blk.courier, Blk.smbus, Blk.vsu, Blk.queue] →
      isLow (.page pg o) = false → isHigh (.page pg o) = false → selMask pg o = none → s.mayPath p pg = true →
      (r.rwl = 0 → r.rw ≠ 0 →
        exec (.registerWrite p off v none) s = .next (settle s (s.setReg pg o (Nat.land v.toNat r.rw)))) ∧
      (r.rwl ≠ 0 → s.sec.lock = false →
        exec (.registerWrite p off v none) s = .next (settle s (s.setReg pg o (Nat.land v.toNat r.rwl)))) ∧
      (r.rwl ≠ 0 → s.sec.lock = true →
        exec (.registerWrite p off v none) s = .next (settle s (s.violate (pathTenant p) 6)))) ∧
    (locate off.toNat = .none → exec (.registerWrite p off v none) s = .next (settle s s)) ∧
    (∀ pg o, locate off.toNat = .page pg o → s.mayPage (pathTenant p) pg = false → s.portOpen p pg 3 = true →
      s.powered pg = true →
      exec (.registerWrite p off v none) s = .next (settle s (s.violate (pathTenant p) 0)))

/-- The PCIe port: configuration requests wait for start-up, the link trains, changes rate and goes down. CONFIG_REQUEST
answers Request Retry Status until the start-up configuration is written (R478) and then has its effect: a read of the
first register answers device 0x9360 and one of the third class code 0x12_0000; it changes the function's MSI-X
capability, memory decode or power state. PERST_DEASSERT, PCIE_LINK_UP (with PERST# deasserted and the PHY enabled),
PCIE_RATE_CHANGE in L0 and BAR4_RESIZE (a size of Table 13.1 of a function whose memory decode is off) each set what
they name and leave every other function's and block's state; a rate change raises RATE_CHANGE. That a resize moves the
segment bases to their reset values, that the fifteen VF sizes are one field, and where the identity stands in the
configuration space, are the model's reading (log 10). -/
def Obligations.PciePortFollowsLinkAndConfiguration : Prop :=
  ∀ (s : State) (fn : Fin 16),
    (∀ req, s.hif.cfgReady = false → exec (.configRequest fn req) s = .next (settle s (s.answer .retry))) ∧
    (s.hif.cfgReady = true → Answers (exec (.configRequest fn (.read 0)) s) (fun t => ∃ w, t = settle s (s.answer (.word w)) ∧
        fld w 31 16 = 0x9360) ∧
      Answers (exec (.configRequest fn (.read 2)) s) (fun t => ∃ w, t = settle s (s.answer (.word w)) ∧ fld w 31 8 = 0x120000)) ∧
    (∀ d3, s.hif.cfgReady = true → exec (.configRequest fn (.power d3)) s =
      .next (settle s ({ s with hif := { s.hif with d3 := tset false fn.val d3 s.hif.d3 } }.answer .ok))) ∧
    (∀ on, s.hif.cfgReady = true → exec (.configRequest fn (.memDecode on)) s =
      .next (settle s ({ s with hif := { s.hif with memDecode := tset false fn.val on s.hif.memDecode } }.answer .ok))) ∧
    (∀ v : Fin 128, s.hif.cfgReady = true → exec (.configRequest fn (.msixMask v)) s =
      .next (settle s ({ s with hif := { s.hif with mask := tset true (128 * fn.val + v.val) true s.hif.mask } }.answer .ok))) ∧
    (exec .perstDeassert s = .next (settle s { s with hif := { s.hif with perstHigh := true } })) ∧
    (∀ x8 rate, s.hif.perstHigh = true → s.hif.phyOn = true → s.hif.width = 0 →
      exec (.pcieLinkUp x8 rate) s = .next (settle s
        { s with hif := { s.hif with width := (if x8 then 8 else 16), rate := rateCode rate, inL1 := false } })) ∧
    (∀ x8 rate, s.hif.width ≠ 0 → (s.hif.width ≠ (if x8 then 8 else 16) ∨ s.hif.rate ≠ rateCode rate) →
      exec (.pcieRateChange x8 rate) s = .next (settle s (State.raise
        { s with hif := { s.hif with width := (if x8 then 8 else 16), rate := rateCode rate } } pgHost 5))) ∧
    (∀ k : BitVec 6, fn.val = 0 → 36 ≤ k.toNat → k.toNat ≤ 41 → tget false 0 s.hif.memDecode = false →
      Answers (exec (.bar4Resize fn k) s) (fun t => t.barLog 0 = k.toNat ∧
        (∀ i, i < 16 → t.segBase 0 i = i * 2 ^ k.toNat / 16) ∧
        (∀ f, 0 < f → f < 16 → t.barLog f = s.barLog f ∧ ∀ i, i < 16 → t.segBase f i = s.segBase f i) ∧
        t = settle s { s with hif := t.hif })) ∧
    (∀ k : BitVec 6, fn.val ≠ 0 → 36 ≤ k.toNat → k.toNat ≤ 38 → (∀ f, 0 < f → f < 16 → tget false f s.hif.memDecode = false) →
      Answers (exec (.bar4Resize fn k) s) (fun t => (∀ f, 0 < f → f < 16 → t.barLog f = k.toNat) ∧
        t.barLog 0 = s.barLog 0 ∧ t = settle s { s with hif := t.hif }))

/-- An FLR or a lost PCIe link resets the port's functions and no block. PCIE_FLR resets the function's MSI-X enable and
mask, memory decode, power state, MSI-X table, holding registers and staged low halves, abandons its waiting BAR4
reads, counts in HOSTIF CNT7, and changes no block state, queue, sync cell, stream or frame, nor another function's
port state; the PF's also returns the BAR4 sizes, whose fields stand in its configuration space, to 2^36 (log 10).
PCIE_LINK_DOWN of a link that was up does the same for every function and raises PCIE_DOWN; through D3hot of the PF it
keeps them. -/
def Obligations.FunctionResetAndLinkLossLeaveTheBlock : Prop :=
  ∀ (s : State),
    (∀ fn : Fin 16, Answers (exec (.pcieFlr fn) s) (fun t =>
      (tget false fn.val t.hif.msixEn = false ∧ tget false fn.val t.hif.maskAll = false ∧
        tget false fn.val t.hif.memDecode = false ∧ tget false fn.val t.hif.d3 = false ∧
        (∀ o, o < 2 ^ 26 → tget none (fn.val * 2 ^ 26 + o) t.hif.hold = none ∧ tget none (fn.val * 2 ^ 26 + o) t.hif.staged = none) ∧
        (∀ v, v < 128 → tget true (128 * fn.val + v) t.hif.mask = true) ∧
        t.hif.barWait = s.hif.barWait.filter (fun w => w.fn != fn.val)) ∧
      (∀ k o, k ≠ fn.val → o < 2 ^ 26 → tget none (k * 2 ^ 26 + o) t.hif.hold = tget none (k * 2 ^ 26 + o) s.hif.hold) ∧
      (∀ f i, f < 16 → i < 16 → (fn.val ≠ 0 ∨ s.barLog f = 36 → t.barLog f = s.barLog f ∧ t.segBase f i = s.segBase f i) ∧
        (fn.val = 0 → t.barLog f = 36 ∧ (s.barLog f ≠ 36 → t.segBase f i = i * 2 ^ 32))) ∧
      t = settle s { s with hif := t.hif, cnt := (s.count pgHost 7).cnt, irq := { s.irq with pend := tdrop (fun k => k / 128 == fn.val) s.irq.pend } })) ∧
    (s.hif.width ≠ 0 → Answers (exec (.pcieLinkDown false) s) (fun t =>
      t.hif.width = 0 ∧ t.hif.inL1 = false ∧ bitOf (t.raw pgHost) 4 = true ∧
      (∀ f, f < 16 → tget false f t.hif.msixEn = false ∧ tget false f t.hif.memDecode = false ∧ tget false f t.hif.d3 = false ∧
        t.barLog f = 36 ∧ ∀ o, o < 2 ^ 26 → tget none (f * 2 ^ 26 + o) t.hif.hold = none ∧
          tget none (f * 2 ^ 26 + o) t.hif.staged = none) ∧
      (t.tb, t.fr, t.q, t.sy, t.mem, t.stm, t.tile, t.link, t.vsu, t.regs) =
        (s.tb, s.fr, s.q, s.sy, s.mem, s.stm, s.tile, s.link, s.vsu, s.regs))) ∧
    (tget false 0 s.hif.d3 = true → s.hif.width ≠ 0 →
      exec (.pcieLinkDown true) s = .next (settle s { s with hif := { s.hif with width := 0, rate := 0, inL1 := true } })) ∧
    (tget false 0 s.hif.d3 = false → exec (.pcieLinkDown true) s = exec (.pcieLinkDown false) s)

/-- BAR4 reads and writes reach module memory through the function's segments. For an access of one granule, wholly inside
BAR4 of the function, whose address the protection map lets the function's tenant access, whose controller is enabled
and ACTIVE, and which holds no error. With no committed staged write of that granule waiting, BAR4_READ answers one
completion with the bytes of memory there and EP clear when the granule is not poisoned; a poisoned granule's has EP
set and counts in HOSTIF CNT3 (R369). With one waiting the read is kept and answered later (R307). BAR4_WRITE of the
granule makes each byte whose enable is set read back as written and leaves every other byte of memory as it was; a
whole write leaves the granule unpoisoned, a part keeps its mark. -/
def Obligations.Bar4AccessesReachModuleMemory : Prop :=
  ∀ (s : State) (fn : Fin 16) (off : BitVec 41) (k a : Nat), a = s.barAddr fn.val off.toNat →
    off.toNat % 64 = 0 → off.toNat + 64 ≤ 2 ^ s.barLog fn.val → a % 64 = 0 →
    s.mayPhys fn.val a false = true → s.mayPhys fn.val a true = true →
    regionOf a = .ctl k → (s.ctl k).st = .active → s.en (pgMem k) = true → tget 0 (a / 64) s.mem.err = 0 →
    (∀ len : BitVec 13, 0 < len.toNat → len.toNat ≤ 64 →
      ((∀ w ∈ s.fr.applying, w.addr ≠ a / 64) → Answers (exec (.bar4Read fn off len []) s) (fun t =>
        t.resp = .cpl [((s.mem.read a 64).take len.toNat, s.mem.mark (a / 64))] ∧
        t.cntLive pgHost 3 = (if s.mem.mark (a / 64) then min (s.cntLive pgHost 3 + 1) (2 ^ 64 - 1) else s.cntLive pgHost 3) ∧
        (s.mem.mark (a / 64) = true → bitOf (t.raw pgHost) 1 = true) ∧ t.mem.bytes = s.mem.bytes ∧
        t.mem.poison = s.mem.poison ∧ t.tile = s.tile ∧ t.fr = s.fr ∧ t.q = s.q ∧ t.link = s.link ∧ t.hif = s.hif)) ∧
      (∀ w ∈ s.fr.applying, w.addr = a / 64 → Answers (exec (.bar4Read fn off len []) s) (fun t =>
        t.resp = .waits ∧ (∃ b : BarRead, t.hif = { s.hif with barWait := s.hif.barWait ++ [b] } ∧ b.fn = fn.val ∧
          b.ps.map (·.1) = [a]) ∧ t.mem = s.mem ∧ t.fr = s.fr))) ∧
    (∀ data : List (Option (BitVec 8)), data.length = 64 →
      Answers (exec (.bar4Write fn off data []) s) (fun t =>
        (∀ i, i < 64 → t.mem.byte (a + i) = (data.getD i none).getD (s.mem.byte (a + i))) ∧
        t.mem.mark (a / 64) = (decide (none ∈ data) && s.mem.mark (a / 64)) ∧
        (∀ b, (b < a ∨ a + 64 ≤ b) → t.mem.byte b = s.mem.byte b) ∧ (∀ g, g ≠ a / 64 → t.mem.mark g = s.mem.mark g) ∧
        t.fr = s.fr ∧ t.q = s.q ∧ t.link = s.link ∧ t.regs = s.regs))

/-- Warm reset, supply loss and power-on: what they clear and what stays. POWER_ON of an unpowered module: every domain
wakes with the votes at their reset values. WARM_RESET with the key: every block outside the always-on domain is at
its power-on state, the boot lock and the freeze of the port map are clear, memory content is lost, the PCIe link is
down (PERST# is an input and keeps its level), the frame unit HALTED, the links OFF, and every domain is off or waking; the calendar, the fuses and the flash
stay. A wrong key is refused: RESET_REFUSED, CNT1. VIN_FAULT: every domain but AON is off, the module in A3,
SHUT_CAUSE.REGULATOR set. AUX_LOSS: the always-on blocks are reset too, the chain address restarts at 0, and the
calendar runs on VBAT or restarts with VALID clear. The queue of waiting commands is kept. (That flash and fuses keep
their content through these is the model's reading, log 40.) -/
def Obligations.ResetsReturnEverythingOutsideAon : Prop :=
  ∀ (s : State) (p : Path) (v : BitVec 32),
    (s.pw.powered = false → Answers (exec .powerOn s) (fun t =>
      t.pw.powered = true ∧ t.pw.a3 = false ∧ t.pw.held = true ∧ (∀ d, d < 41 → t.dom d = 4) ∧
      (∀ d, d < 41 → t.vote 0 d = 0 ∧ t.vote 1 d = 0 ∧ t.vote 2 d = 2) ∧
      (t.mem, t.fr, t.link, t.tile, t.q, t.sec) = (s.mem, s.fr, s.link, s.tile, s.q, s.sec))) ∧
    (s.mayPath p pgDev = true → fld v.toNat 31 16 = 0x5AA5 → fld v.toNat 3 0 = 1 →
      Answers (exec (.warmReset p v) s) (fun t =>
        t.sec.lock = false ∧ t.frozen = false ∧ t.route = [] ∧ t.mem = {} ∧ t.hif = { perstHigh := s.hif.perstHigh } ∧ t.tb = {} ∧ t.fr = {} ∧ t.gov = {} ∧
        t.rg = {} ∧ t.q = {} ∧ t.sy = {} ∧ t.link = [] ∧ t.tile = [] ∧ t.vsu = [] ∧ t.stm = {} ∧ t.lp = {} ∧ t.chk = [] ∧
        (∀ q o, aonPage q = false → o < 4096 → t.reg q o = (regReset q o).toNat) ∧ t.pw.a3 = false ∧ t.pw.held = true ∧
        (∀ d, d < 41 → t.dom d = 2 ∨ t.dom d = 4) ∧
        t.mg.time = s.mg.time ∧ t.mg.flash = s.mg.flash ∧ t.sec.svnFuse = s.sec.svnFuse ∧ t.pending = s.pending)) ∧
    (s.mayPath p pgDev = true → ¬ (fld v.toNat 31 16 = 0x5AA5 ∧ fld v.toNat 3 0 = 1) →
      exec (.warmReset p v) s = .next (settle s (s.countRaise pgDev 1 1))) ∧
    (Answers (exec .vinFault s) (fun t =>
      t.pw.a3 = true ∧ (∀ d, d < 41 → t.dom d = 2) ∧ bitOf (t.reg pgPower 0xAC) 1 = true ∧ t.mem = {} ∧ t.link = [] ∧
      t.fr = {} ∧ t.mg.time = s.mg.time ∧ t.pending = s.pending)) ∧
    (∀ vbat, Answers (exec (.auxLoss vbat) s) (fun t =>
      (∀ d, d < 41 → t.dom d = 2) ∧ t.reg pgCour 0x40 = 0 ∧ t.mg.time = (if vbat then s.mg.time else 0) ∧
      t.mg.timeValid = (vbat && s.mg.timeValid) ∧ t.mg.onVbat = vbat ∧ t.mem = {} ∧ t.pending = s.pending))

/-- A domain whose target is A2 enters A2, and one whose target has risen wakes. DOMAIN_ENTRY of T1, T2 or a link group in
A0 whose target is A2 starts its entry; of a tile group once its runs have completed, at a frame boundary: its tiles
clear READY, and the image of each valid one is written, or stays due while tier-1 cannot take it; no byte of memory
outside the calibration image area changes. DOMAIN_ENTRY_COMPLETE of a link group in entry: it is in A2 and its links
are OFF; counted in POWER CNT0; of T1 with no request outstanding, its ACTIVE stacks are in SELF_REFRESH and keep their
content; of a domain whose earlier steps are not done, nothing. DOMAIN_WAKE of a domain in A2 whose target has risen
starts the wake (while HUB itself is in entry, HUB turns back with it, or it waits for HUB: which, the module knows),
and DOMAIN_WAKE_COMPLETE of a link group or HUB ends it in A0. FULL_LASER_POWER_RESTORED: a group voted from A1 to A0 is in A0. Only the domain's own state
changes, but for what is named. -/
def Obligations.DomainsEnterAndLeaveA2 : Prop :=
  ∀ (s : State) (d : Dom),
    ((d = .t1 ∨ d = .t2 ∨ ∃ k, d = .lg k) → s.dom (domIx d) < 2 → s.target (domIx d) = 2 →
      exec (.domainEntry d) s = .next (settle s (s.setDom (domIx d) 3))) ∧
    (∀ g : Fin 32, d = .tg g → s.dom g.val < 2 → s.target g.val = 2 → s.fr.tif = 0 →
      (∀ i, i < 8 → (s.tl (8 * g.val + i)).busyRun = false) →
      Answers (exec (.domainEntry d) s) (fun t => t.dom g.val = 3 ∧ (∀ i, i < 8 → (t.tl (8 * g.val + i)).ready = false) ∧
        (∀ i, i < 8 → (t.tl (8 * g.val + i)).imgDue = ((s.tl (8 * g.val + i)).valid && !s.tier1Active)) ∧
        (∀ k, k ≠ g.val → t.dom k = s.dom k) ∧ t.link = s.link ∧
        (∀ a, (a < 0x7FF0000000 ∨ 0x8000000000 ≤ a) → t.mem.byte a = s.mem.byte a))) ∧
    (∀ k : Fin 6, d = .lg k → s.dom (domIx d) = 3 → s.pw.latched = 0 →
      Answers (exec (.domainEntryComplete d) s) (fun t => t.dom (domIx d) = 2 ∧
        (∀ i, i < 6 → (t.lnk (6 * k.val + i)).st = .off) ∧ (∀ l, ¬ (6 * k.val ≤ l ∧ l < 6 * k.val + 6) → t.lnk l = s.lnk l) ∧
        t.cntLive pgPower 0 = min (s.cntLive pgPower 0 + 1) (2 ^ 64 - 1) ∧ t.mem = s.mem ∧ t.tile = s.tile)) ∧
    (s.dom (domIx d) = 3 → s.entryDone d = false → exec (.domainEntryComplete d) s = .next (settle s s)) ∧
    (d = .t1 → s.dom 38 = 3 → s.entryDone .t1 = true → s.pw.latched = 0 →
      Answers (exec (.domainEntryComplete d) s) (fun t => t.dom 38 = 2 ∧ t.mem.bytes = s.mem.bytes ∧ t.mem.poison = s.mem.poison ∧
        (∀ k, k < 8 → (s.ctl k).st = .active → (t.ctl k).st = .selfRefresh) ∧ (∀ k, 8 ≤ k → t.ctl k = s.ctl k) ∧
        t.tile = s.tile ∧ t.link = s.link)) ∧
    (s.dom (domIx d) = 2 → s.target (domIx d) < 2 → s.pw.a3 = false →
      (s.dom 40 ≠ 3 → exec (.domainWake d) s = .next (settle s (s.setDom (domIx d) 4))) ∧
      (s.dom 40 = 3 → Answers (exec (.domainWake d) s) (fun t => (t.dom (domIx d) = 4 ∧ t.dom 40 = 4) ∨
        (t.dom (domIx d) = 2 ∧ t.dom 40 = 3)))) ∧
    ((d = .hub ∨ ∃ k, d = .lg k) → s.dom (domIx d) = 4 → s.target (domIx d) ≠ 1 →
      exec (.domainWakeComplete d) s = .next (settle s ((s.setDom (domIx d) 0).countRaise pgPower 1 0))) ∧
    (∀ g : Fin 32, s.dom g.val = 1 → s.target g.val = 0 →
      exec (.fullLaserPowerRestored g) s = .next (settle s (s.setDom g.val 0)))

/-- Who may vote, what wakes a module, and how it enters A3. VOTE_WRITE from a path that may write that client's votes,
with no field of 3, writes the vote word; from any other path, or with a field of 3, it is discarded with CFG_REJECT.
PCIE_WAKE_EVENT with WAKE_CFG.PCIE set and HUB, T1 and T2 in no entry puts the MGMT votes of the three at 2 and names
the source in WAKE_PEND. A3_CMD with the key from the management side, while no domain holds a HOST, SCHED or MGMT
vote, removes every rail but AON: the module is in A3 and memory content is lost; any other A3_CMD is refused with
CFG_REJECT. AON_INLET_CHECK with HUB in A2 and no alarm standing judges the inlet: above the threshold INLET_HIGH and
ALARM are raised, CNT5 counts, and VMAX in force is VMIN; below it nothing is raised, and THROTTLE_STAT.LEVEL follows
what still stands. -/
def Obligations.VotesWakesAndA3Command : Prop :=
  ∀ (s : State) (p : Path) (client : Fin 4) (word : Fin 3) (v : BitVec 32),
    (s.mayPath p pgPower = true →
      (((client.val = 0 ∧ p = .pf) ∨ (client.val = 1 ∧ (p = .pf ∨ p = .mgmt ∨ p = .debug ∨ p = .core)) ∨
          (client.val = 2 ∧ (p = .mgmt ∨ p = .debug))) →
        (∀ i, i < 16 → fld (if word.val = 2 then v.toNat % 2 ^ 18 else v.toNat) (2 * i + 1) (2 * i) ≠ 3) →
        Answers (exec (.voteWrite p client word v) s) (fun t =>
          t.reg pgPower (0x40 + 16 * client.val + 4 * word.val) = (if word.val = 2 then v.toNat % 2 ^ 18 else v.toNat) ∧
          t.mem = s.mem ∧ t.tile = s.tile ∧ t.link = s.link)) ∧
      ((¬ ((client.val = 0 ∧ p = .pf) ∨ (client.val = 1 ∧ (p = .pf ∨ p = .mgmt ∨ p = .debug ∨ p = .core)) ∨
          (client.val = 2 ∧ (p = .mgmt ∨ p = .debug))) ∨
        (∃ i, i < 16 ∧ fld (if word.val = 2 then v.toNat % 2 ^ 18 else v.toNat) (2 * i + 1) (2 * i) = 3)) →
        exec (.voteWrite p client word v) s = .next (settle s (s.raise pgPower 8)))) ∧
    (bitOf (s.reg pgPower 0x94) 0 = true → s.pw.a3 = false → s.dom 38 ≠ 3 → s.dom 39 ≠ 3 → s.dom 40 ≠ 3 →
      Answers (exec .pcieWakeEvent s) (fun t => t.vote 2 38 = 2 ∧ t.vote 2 39 = 2 ∧ t.vote 2 40 = 2 ∧
        bitOf (t.reg pgPower 0x98) 4 = true ∧ t.mem = s.mem ∧ t.tile = s.tile ∧ t.link = s.link)) ∧
    (s.mayPath p pgPower = true → bitOf v.toNat 0 = true →
      ((p = .mgmt ∨ p = .debug) → fld v.toNat 31 16 = 0xA3A3 →
        (∀ d, d < 41 → s.vote 0 d = 0 ∧ s.vote 1 d = 0 ∧ s.vote 2 d = 0) →
        Answers (exec (.a3Cmd p v) s) (fun t => t.pw.a3 = true ∧ (∀ d, d < 41 → t.dom d = 2) ∧ t.mem = {} ∧ t.link = [])) ∧
      ((¬ (p = .mgmt ∨ p = .debug) ∨ fld v.toNat 31 16 ≠ 0xA3A3 ∨ ∃ d, d < 41 ∧ (s.vote 0 d ≠ 0 ∨ s.vote 1 d ≠ 0 ∨ s.vote 2 d ≠ 0)) →
        exec (.a3Cmd p v) s = .next (settle s (s.raise pgPower 8)))) ∧
    (s.dom 40 = 2 → s.pw.a3 = false → s.alarmed = false →
      Answers (exec (.aonInletCheck true) s) (fun t => bitOf (t.raw pgPower) 6 = true ∧ bitOf (t.raw pgPower) 5 = true ∧
        t.cntLive pgPower 5 = min (s.cntLive pgPower 5 + 1) (2 ^ 64 - 1) ∧ t.pw.vmax = s.vlim.1 ∧ t.pw.inletHigh = true) ∧
      exec (.aonInletCheck false) s = .next (settle s (State.setLevel { s with pw := { s.pw with inletHigh := false } })))

/-- The governor's decision, and the adjustment that carries it out. GOVERNOR_DECISION after the boundary that ended a
window in which no temperature limit is reached and nothing is being adjusted, with the governor enabled and
automatic: it counts a decision, and where the window's least slack v is below EMERG the code wanted is the code plus
4, within VMIN and the VMAX in force; the window's record starts again. VCORE_WRITE_ACK of an acknowledged write waits
for VCORE to settle; one that is not acknowledged is retried once, and after the retry counts in CNT4, raises
PMBUS_FAIL and keeps the code. VCORE_SETTLE brings the new code into force. VSET_WRITE with AUTO = 0 starts an
adjustment to the code written, within the limits; one written during an adjustment is kept to be carried out after it
(its end, with the limits, is the model's goVset), and with AUTO = 1 or the governor disabled only the register is
written. -/
def Obligations.GovernorDecidesAndAdjusts : Prop :=
  ∀ (s : State),
    (∀ v : Int, s.fr.govDue = true → s.en pgGov = true → bitOf (s.reg pgGov 0x40) 0 = true → s.gov.adjusting = false →
      s.pw.a3 = false → s.gov.least = some v → s.gov.overran = false → v < (fld (s.reg pgGov 0x44) 31 24 : Int) →
      s.pw.throttling = false → s.pw.alarm = false → s.pw.inletHigh = false → s.pw.vmax = s.vlim.2 →
      s.vlim.1 ≤ s.vlim.2 → s.gov.code ≤ s.vlim.2 → s.vlim.1 ≤ s.gov.code → s.gov.code + 4 ≤ s.vlim.2 →
      s.atLeast (fld (s.reg pgPower 0xA0) 7 0) = false → s.atLeast (fld (s.reg pgPower 0x9C) 15 8) = false →
      s.atLeast (fld (s.reg pgPower 0x9C) 23 16) = false →
      Answers (exec .governorDecision s) (fun t =>
        t.cntLive pgGov 0 = min (s.cntLive pgGov 0 + 1) (2 ^ 64 - 1) ∧ t.gov.want = s.gov.code + 4 ∧ t.gov.adjusting = true ∧
        t.gov.code = s.gov.code ∧ t.gov.least = none ∧ t.gov.above = 0 ∧ bitOf (t.raw pgGov) 0 = true ∧
        t.fr.govDue = false ∧ t.mem = s.mem ∧ t.tile = s.tile ∧ t.link = s.link)) ∧
    (s.gov.adjusting = true → s.gov.acked = false →
      Answers (exec (.vcoreWriteAck .free true) s) (fun t => t.gov = { s.gov with acked := true }) ∧
      (s.gov.tries = 0 → Answers (exec (.vcoreWriteAck .free false) s) (fun t => t.gov = { s.gov with tries := 1 })) ∧
      (s.gov.tries ≠ 0 → s.gov.vsetDue = none → s.gov.code ≤ s.pw.vmax → Answers (exec (.vcoreWriteAck .free false) s) (fun t =>
        t.gov = { s.gov with adjusting := false, want := s.gov.code, tries := 0 } ∧
        t.cntLive pgGov 4 = min (s.cntLive pgGov 4 + 1) (2 ^ 64 - 1) ∧ bitOf (t.raw pgGov) 2 = true))) ∧
    (s.gov.adjusting = true → s.gov.acked = true → s.gov.vsetDue = none → s.gov.want ≤ s.pw.vmax → s.gov.want ≠ s.gov.code →
      exec .vcoreSettle s = .next (settle s (State.raise
        { s with gov := { s.gov with code := s.gov.want, adjusting := false, acked := false } } pgGov 3))) ∧
    (∀ (p : Path) (w : BitVec 32), s.mayPath p pgGov = true → bitOf (s.reg pgGov 0x40) 0 = false → s.en pgGov = true →
      (s.gov.adjusting = false → s.vlim.1 ≤ w.toNat % 64 → w.toNat % 64 ≤ s.pw.vmax → w.toNat % 64 ≠ s.gov.code →
        exec (.vsetWrite p w) s = .next (settle s
          ((s.setReg pgGov 0x4C (w.toNat % 64)).startAdjust (w.toNat % 64)))) ∧
      (s.gov.adjusting = true → exec (.vsetWrite p w) s = .next (settle s
        { s.setReg pgGov 0x4C (w.toNat % 64) with gov := { s.gov with vsetDue := some (w.toNat % 64) } }))) ∧
    (∀ (p : Path) (w : BitVec 32), s.mayPath p pgGov = true → (bitOf (s.reg pgGov 0x40) 0 = true ∨ s.en pgGov = false) →
      exec (.vsetWrite p w) s = .next (settle s (s.setReg pgGov 0x4C (w.toNat % 64))))

/-- The boot ROM starts the valid slot of higher SVN; the boot lock protects the map. BOOT_VERIFY with HUB up and the
slots not yet judged: with both slots valid it starts slot B exactly when B's SVN is higher, with one valid slot that
one, with none no firmware and the PCIe PHY stays disabled; COMMIT_SVN makes every bit of the fuse below the image's
SVN 1 and clears none; FW_VER is copied, and the digest of the header and image started is kept for the measurements. (slotValid is the judgement of R432.) BOOT_LOCK by the housekeeping core sets
the lock, raises the event, and lets configuration requests be answered; any other write of it is discarded and
counted as a violation of source 6 (R13, R433). -/
def Obligations.BootRomStartsValidSlotAndLockHolds : Prop :=
  ∀ (s : State),
    (s.pw.powered = true → s.dom 40 < 2 → s.sec.judged = false →
      Answers (exec .bootVerify s) (fun t => t.sec.judged = true ∧ t.tile = s.tile ∧ t.link = s.link ∧ t.q = s.q ∧ t.fr = s.fr ∧
        (∀ b v, s.slotValid b = some v → (∀ w, s.slotValid (!b) = some w → if b then w.1 < v.1 else w.1 ≤ v.1) →
          t.sec.started = some (b2n b) ∧ (∀ h img, s.slotImage b = some (h, img) → t.sec.image = sha384 (h ++ img)) ∧
          t.hif.phyOn = true ∧ t.reg pgDev 0x54 = v.2.2 % 2 ^ 32 ∧
          (∀ i, i < 64 → bitOf t.sec.svnFuse i = (bitOf s.sec.svnFuse i || (bitOf v.2.1 0 && decide (i < v.1)))))) ∧
      (s.slotValid false = none → s.slotValid true = none →
        exec .bootVerify s = .next (settle s { s with sec := { s.sec with judged := true }, hif := { s.hif with phyOn := false } }))) ∧
    (s.sec.lock = false → Answers (exec (.bootLock true) s) (fun t => t.sec.lock = true ∧ t.hif.cfgReady = true ∧
      bitOf (t.raw pgProt) 0 = true ∧ t.sec.wins = s.sec.wins ∧ t.sec.owner = s.sec.owner ∧ t.sec.cellTag = s.sec.cellTag ∧
      t.mem = s.mem ∧ t.regs = s.regs)) ∧
    (∀ core : Bool, (core = false ∨ s.sec.lock = true) →
      Answers (exec (.bootLock core) s) (fun t => t.sec.lock = s.sec.lock ∧
        tget 0 6 t.sec.viol = min (tget 0 6 s.sec.viol + 1) (2 ^ 32 - 1) ∧ t.sec.wins = s.sec.wins ∧ t.sec.owner = s.sec.owner))

/-- SPDM requests advance a connection and its sessions. For each of the eleven supported SPDM requests on either
transport, with firmware started and, for the mailbox, the PCIe port answering: in the state of the connection that
the standard's order asks for, the request has its effect on that transport's connection and sends an answer; the
other transport's connection stays. A connection is at its version, capabilities and algorithms in that order;
KEY_EXCHANGE opens a session in handshake while the transport has room (4 over DOE, 1 over SMBus), FINISH establishes
it, END_SESSION ends it. The order is that of SPDM 1.3, which the manual cites and does not restate (PRESUMED, log
43); the answers' bodies that the standard lays out are free values (log 2). -/
def Obligations.SpdmRequestsAdvanceConnection : Prop :=
  ∀ (s : State) (tr tr' : Tr), s.spdmUp tr = true → tr' ≠ tr →
    Answers (exec (.getVersion tr) s) (fun t => t.spdm tr = { version := true } ∧ t.spdm tr' = s.spdm tr' ∧ ∃ b, t.resp = .msg b) ∧
    ((s.spdm tr).version = true → Answers (exec (.getCapabilities tr) s) (fun t =>
      t.spdm tr = { s.spdm tr with caps := true } ∧ t.spdm tr' = s.spdm tr' ∧ ∃ b, t.resp = .msg b)) ∧
    ((s.spdm tr).caps = true → Answers (exec (.negotiateAlgorithms tr true) s) (fun t =>
      t.spdm tr = { s.spdm tr with algs := true } ∧ t.spdm tr' = s.spdm tr' ∧ ∃ b, t.resp = .msg b)) ∧
    ((s.spdm tr).algs = true →
      Answers (exec (.getDigests tr) s) (fun t => t.sec = s.sec ∧ ∃ b, t.resp = .msg b) ∧
      Answers (exec (.getCertificate tr 0) s) (fun t => t.sec = s.sec ∧ ∃ b, t.resp = .msg b) ∧
      (∀ nonce, Answers (exec (.challenge tr 0 nonce) s) (fun t => t.sec = s.sec ∧ ∃ b, t.resp = .msg b)) ∧
      (∀ i : BitVec 8, 1 ≤ i.toNat → i.toNat ≤ 5 → Answers (exec (.getMeasurements tr i) s) (fun t => t.sec = s.sec ∧
        ∃ a b, t.resp = .msg (a ++ b ++ s.measurement i.toNat))) ∧
      (∀ pub, (s.spdm tr).sessions.length < spdmMax tr → Answers (exec (.keyExchange tr pub) s) (fun t =>
        tget 0 (freeSid (s.spdm tr).sessions) (t.spdm tr).sessions = 1 ∧
        (∀ k, k ≠ freeSid (s.spdm tr).sessions → tget 0 k (t.spdm tr).sessions = tget 0 k (s.spdm tr).sessions) ∧
        t.spdm tr' = s.spdm tr' ∧ ∃ b, t.resp = .msg b))) ∧
    (∀ sid : BitVec 3,
      (tget 0 sid.toNat (s.spdm tr).sessions = 1 →
        Answers (exec (.finish tr sid true) s) (fun t => tget 0 sid.toNat (t.spdm tr).sessions = 2 ∧ t.spdm tr' = s.spdm tr') ∧
        Answers (exec (.finish tr sid false) s) (fun t => tget 0 sid.toNat (t.spdm tr).sessions = 0 ∧ t.spdm tr' = s.spdm tr')) ∧
      (tget 0 sid.toNat (s.spdm tr).sessions = 2 →
        Answers (exec (.keyUpdate tr sid) s) (fun t => t.sec = s.sec ∧ ∃ b, t.resp = .msg b) ∧
        Answers (exec (.endSession tr sid) s) (fun t => tget 0 sid.toNat (t.spdm tr).sessions = 0 ∧ t.spdm tr' = s.spdm tr')))

/-- The DOE mailbox lists its objects; IDE keys are programmed only in a secured session. DOE_DISCOVERY with the link up
and configuration requests answered answers the object of the index and the next index. IDE_KM_MESSAGE in an
established session of the mailbox programs the keys of a stream, or starts or stops a stream that has keys, and
changes nothing else but its answer. The objects' list and the bodies of IDE answers follow standards outside the
manual (PRESUMED, log 43). -/
def Obligations.DoeDiscoveryAndIdeKeys : Prop :=
  ∀ (s : State), s.hif.cfgReady = true → s.hif.width ≠ 0 →
    (∀ i : BitVec 8, i.toNat < 3 → exec (.doeDiscovery i) s = .next (settle s
      (s.answer (.msg (leBytes 2 1 ++ leBytes 1 i.toNat ++ leBytes 1 (if i.toNat = 2 then 0 else i.toNat + 1)))))) ∧
    (s.sec.started.isSome = true → (∃ k, (k, 2) ∈ s.sec.spdmDoe.sessions) →
      (∀ k : Fin 3, Answers (exec (.ideKmMessage (.keyProg k)) s) (fun t => tget false k.val t.hif.ideKeys = true ∧
        t = settle s { s with resp := t.resp, hif := { s.hif with ideKeys := t.hif.ideKeys } })) ∧
      (∀ on, tget false 0 s.hif.ideKeys = true → Answers (exec (.ideKmMessage (.goLink on)) s) (fun t =>
        tget false 0 t.hif.ideOn = on ∧ t = settle s { s with resp := t.resp, hif := { s.hif with ideOn := t.hif.ideOn } })) ∧
      (∀ (k : Fin 2) on, tget false (k.val + 1) s.hif.ideKeys = true →
        Answers (exec (.ideKmMessage (.goSelective k on)) s) (fun t =>
          tget false (k.val + 1) t.hif.ideOn = on ∧ t = settle s { s with resp := t.resp, hif := { s.hif with ideOn := t.hif.ideOn } })))

/-- GEN_CHALLENGE draws a nonce, every UNLOCK consumes it, a grant stays within the policy. With DEBUG enabled.
GEN_CHALLENGE binds a nonce of 32 bytes, a free value, to the path in place of any before it. UNLOCK consumes the
nonce whatever its outcome; judged good (unlockWhy: lockout, boot lock, nonce of the path, policy, signature) the path
gets the smaller of the requested level and DEBUG_POLICY.MAX_LEVEL; otherwise every level stays, the refusal counts
towards the lockout of 8 and UNLOCK_REFUSED is raised. RELOCK of a path that holds no halt returns it to level 0;
NONCE_EXPIRE drops the nonce. No other path's level changes. -/
def Obligations.DebugUnlockConsumesNonceAndGrantsPolicy : Prop :=
  ∀ (s : State) (dp : DPath), s.en pgDbg = true →
    Answers (exec (.genChallenge dp) s) (fun t => (∃ n, n < 2 ^ 256 ∧ t.sec.nonce = some n) ∧ t.sec.noncePath = dpIx dp ∧
      t.sec.level = s.sec.level ∧ t.freeCtr = s.freeCtr + 1) ∧
    (∀ lv : BitVec 2, Answers (exec (.unlock dp lv) s) (fun t => t.sec.nonce = none ∧
      (∀ d, d ≠ dp → t.dbgLevel d = s.dbgLevel d) ∧
      (s.unlockWhy dp lv.toNat = none → t.dbgLevel dp = min lv.toNat (fld (s.reg pgProt 0x44) 1 0) ∧ t.sec.refusals = 0 ∧
        t.sec.highest = max (min lv.toNat (fld (s.reg pgProt 0x44) 1 0)) s.sec.highest) ∧
      (s.unlockWhy dp lv.toNat ≠ none → t.dbgLevel dp = s.dbgLevel dp ∧ t.sec.refusals = min 8 (s.sec.refusals + 1) ∧
        bitOf (t.raw pgDbg) 1 = true))) ∧
    (8 ≤ s.sec.refusals → ∀ lv, s.unlockWhy dp lv = some 5) ∧
    (s.sec.refusals < 8 → s.sec.lock = true → s.sec.nonce = none → ∀ lv, s.unlockWhy dp lv = some 2) ∧
    (s.holdsHalt (dpIx dp) = false → Answers (exec (.relock dp) s) (fun t => t.dbgLevel dp = 0 ∧
      (∀ d, d ≠ dp → t.dbgLevel d = s.dbgLevel d) ∧ t.sec.nonce = s.sec.nonce)) ∧
    (exec .nonceExpire s = .next (settle s { s with sec := { s.sec with nonce := none } }))

/-- A halt waits for the end of a locked sequence, or is forced, and RESUME ends it. With DEBUG enabled and the path at
level 2 or above. DEBUG_HALT of a running core is accepted and pending. HALT_DONE with no locked sequence running
halts the core and raises the event. FORCED_HALT of a pending halt with a sync-cell read-modify-write running aborts
the sequence, changes no cell, halts the core and counts in CNT3; with a bank write running the write fails with
REASON 4 and the previous state, and the flash stays as it is; an image copy in progress is abandoned, to be made from
its start. RESUME lets the halted core run on, and a path whose
RELOCK waited for it returns to level 0. -/
def Obligations.DebugHaltsAtSequenceEnd : Prop :=
  ∀ (s : State) (dp : DPath), s.en pgDbg = true → 2 ≤ s.dbgLevel dp →
    (s.sec.halted = false → s.sec.haltPending = false → Answers (exec (.debugHalt dp) s) (fun t =>
      t.sec.haltPending = true ∧ t.sec.halted = false ∧ t.sec.haltPath = dpIx dp ∧ t.sec.level = s.sec.level ∧ t.sy = s.sy)) ∧
    (s.sec.haltPending = true → s.sec.seq = none → Answers (exec .haltDone s) (fun t =>
      t.sec.halted = true ∧ t.sec.haltPending = false ∧ bitOf (t.raw pgDbg) 2 = true ∧ t.sy = s.sy ∧ t.mg = s.mg)) ∧
    (s.sec.haltPending = true → s.sec.seq = some .cellRmw → Answers (exec .forcedHalt s) (fun t =>
      t.sec.halted = true ∧ t.sec.haltPending = false ∧ t.sec.seq = none ∧ t.sy = s.sy ∧ t.mg = { s.mg with copied := 0 } ∧
      t.cntLive pgDbg 3 = min (s.cntLive pgDbg 3 + 1) (2 ^ 64 - 1) ∧ bitOf (t.raw pgDbg) 3 = true)) ∧
    (∀ q, q ≠ Seq.cellRmw → s.sec.haltPending = true → s.sec.seq = some q → Answers (exec .forcedHalt s) (fun t =>
      t.sec.halted = true ∧ t.sec.haltPending = false ∧ t.sec.seq = none ∧ t.sy = s.sy ∧ t.mg.cs = s.mg.csPrev ∧
      t.mg.result = 3 ∧ t.mg.reason = 4 ∧ t.mg.csRecs = none ∧ t.mg.flash = s.mg.flash ∧ t.mg.copied = 0 ∧
      t.cntLive pgCs 1 = min (s.cntLive pgCs 1 + 1) (2 ^ 64 - 1) ∧ bitOf (t.raw pgCs) 1 = true ∧
      t.cntLive pgDbg 3 = min (s.cntLive pgDbg 3 + 1) (2 ^ 64 - 1) ∧ bitOf (t.raw pgDbg) 3 = true)) ∧
    (s.sec.halted = true → Answers (exec (.resume dp) s) (fun t => t.sec.halted = false ∧
      (tget false s.sec.haltPath s.sec.relock = true → tget 0 s.sec.haltPath t.sec.level = 0) ∧
      (tget false s.sec.haltPath s.sec.relock = false → t.sec.level = s.sec.level)))

/-- The JTAG instructions of the TAP. BYPASS and JTAG_RESET select their instruction; IDCODE answers an identification
whose bits [27:12] read 0x9360; at debug level 3 of the JTAG path SAMPLE_PRELOAD takes the cells shifted in and EXTEST
drives the pins, and below it the TAP selects BYPASS (the last is the model's reading, log 42). DEBUG_ACCESS makes the
4-byte access of BAR0 on the debug path, and DEBUG_APERTURE_READ the write of the aperture's address on the path that
asks. -/
def Obligations.JtagInstructionsSelectAndAccess : Prop :=
  ∀ (s : State),
    exec .bypass s = .next (settle s { s with sec := { s.sec with jtag := 1, driving := false } }) ∧
    exec .jtagReset s = .next (settle s { s with sec := { s.sec with jtag := 0, driving := false } }) ∧
    Answers (exec .idcode s) (fun t => ∃ w, t.resp = .word w ∧ fld w 27 12 = 0x9360 ∧
      t = settle s { s with resp := .word w, sec := { s.sec with jtag := 0, driving := false } }) ∧
    (3 ≤ s.dbgLevel .jtag →
      (∀ cells, Answers (exec (.samplePreload cells) s) (fun t => t.sec = { s.sec with jtag := 2, driving := false, cells := cells })) ∧
      exec .extest s = .next (settle s { s with sec := { s.sec with jtag := 3, driving := true } })) ∧
    (s.dbgLevel .jtag < 3 → (∀ cells, exec (.samplePreload cells) s = exec .bypass s) ∧ exec .extest s = exec .bypass s) ∧
    (∀ (off : BitVec 26) (v : BitVec 32),
      exec (.debugAccess off (some v)) s = .next (settle s ((s.tap 4).write4 .debug off.toNat v.toNat)) ∧
      exec (.debugAccess off none) s = .next (settle s ((s.tap 4).read4 .debug off.toNat))) ∧
    (∀ (dp : DPath) (v : BitVec 32), 1 ≤ s.dbgLevel dp → s.mayPath (dbgPath dp) pgDbg = true → s.en pgDbg = true →
      tget none (halfKey (dbgPath dp) (pageBase pgDbg + 0x100)) s.hif.staged = some 0x1000 → bitOf v.toNat 31 = true →
      v.toNat % 2 ^ 16 = 0x400 → tget 0 (0x40000001000 / 64) s.mem.err = 0 →
      Answers (exec (.debugApertureRead dp v) s) (fun t => t.reg64 pgDbg 0x108 = leNat (s.mem.read 0x40000001000 8) ∧ t.mem = s.mem))

/-- The PLL locks and unlocks; a lost reference puts it in holdover and faults the frame. PLL_LOCK: the tick counter
starts at 0 on the first lock and goes on later. PLL_UNLOCK of a locked PLL: STAT.FAULT and PLL_UNLOCK. REFCLK_LOST:
holdover of a PLL locked to REFCLK, REF_LOST, CNT0, a frame fault of the current frame unless HALTED, and the frame
state is kept. REFCLK_RETURN: holdover ends and REF_BACK is raised, and an enabled frame unit in HALTED with the PLL
locked starts (FREE with SRC = 0). HOLDOVER_EXPIRE after 1 s of
holdover makes the module enter HALTED at the next frame boundary. -/
def Obligations.TimeBaseLocksAndHoldsOver : Prop :=
  ∀ (s : State),
    (s.tb.locked = false → Answers (exec .pllLock s) (fun t => t.tb.locked = true ∧ t.tb.ever = true ∧ t.tb.fault = false ∧
      t.tb.tick = (if s.tb.ever then s.tb.tick else 0) ∧ (s.en pgFrame = false → t.fr = s.fr) ∧
      t.tile = s.tile ∧ t.link = s.link ∧ t.regs = s.regs)) ∧
    (s.tb.locked = true → Answers (exec .pllUnlock s) (fun t => t.tb.locked = false ∧ t.tb.holdover = false ∧ t.tb.fault = true ∧
      t.tb.tick = s.tb.tick ∧ bitOf (t.raw pgTb) 2 = true ∧ t.fr = s.fr)) ∧
    (s.tb.refOk = true → Answers (exec .refclkLost s) (fun t =>
      t.tb.refOk = false ∧ t.tb.holdover = (s.tb.locked && !s.tb.localOsc) ∧ bitOf (t.raw pgTb) 0 = true ∧
      t.cntLive pgTb 0 = min (s.cntLive pgTb 0 + 1) (2 ^ 64 - 1) ∧ t.fr.st = s.fr.st ∧
      (s.fr.st ≠ .halted → bitOf (t.raw pgFrame) 1 = true) ∧ (s.fr.st = .halted → t.fr = s.fr ∧ t.mem = s.mem))) ∧
    (s.tb.refOk = false →
      ((s.fr.st ≠ .halted ∨ s.en pgFrame = false ∨ s.tb.locked = false) →
        exec .refclkReturn s = .next (settle s (State.raise
          { s with tb := { s.tb with refOk := true, holdover := false, lostFor := 0 } } pgTb 1))) ∧
      (s.fr.st = .halted → s.en pgFrame = true → s.tb.locked = true → s.fr.src = 0 → Answers (exec .refclkReturn s) (fun t =>
        t.tb = { s.tb with refOk := true, holdover := false, lostFor := 0 } ∧ bitOf (t.raw pgTb) 1 = true ∧ t.fr.st = .free ∧
        t.fr.num = s.fr.num ∧ t.mem = s.mem))) ∧
    (s.tb.holdover = true → 1600000000 ≤ s.tb.lostFor → s.fr.st ≠ .halted →
      exec .holdoverExpire s = .next (settle s { s with fr := { s.fr with haltDue := true } }))

/-- A reference event within GUARD becomes the pending slew, one beyond it is a slip, the third leads to RESYNC. MARKER_RX
on the reference link, FRAME_SYNC_PULSE under SRC = 2 and REFERENCE_EVENT_MISSING, in LOCKED, with e formed as R287
says. Within GUARD: PENDING := e, SLIP_RUN := 0, and the counter does not move. Beyond GUARD, or missing for
FRAME_LEN / 4 ticks after its expected tick: CNT4, SLIP, SLIP_RUN one more, and PENDING, the tick and the frame number
stay; an event that comes outside that window for a frame already judged missing is no second slip (log 21); when that makes three, a frame fault is raised and
the state goes to RESYNC, counted in CNT6. The first event in ACQUIRE sets the phase and counts as the first of three
(that it counts is the model's reading, log 21). SLEW_JUDGE at tick FRAME_LEN - 2 makes the frame one tick longer or
shorter in the direction of PENDING and counts it in CNT5. -/
def Obligations.ReferenceEventsSlewOrSlip : Prop :=
  ∀ (s : State),
    (∀ (l : Fin 36) (f : BitVec 64) (late : BitVec 16) (e : Int),
      s.en (pgLink l.val) = true → (s.lnk l.val).carries = true → s.fr.src = 1 → s.fr.refLink = l.val →
      e = (s.fr.tif : Int) - late.toNat - (s.lnk l.val).d - s.boundaryTick f.toNat →
      (s.fr.st = .locked → e.natAbs ≤ s.guardT → 4 * e.natAbs ≤ s.frameLen → Answers (exec (.markerRx l f late) s) (fun t =>
        t.fr = { s.fr with err := satErr e, pending := e, slipRun := 0, goodRun := min 3 (s.fr.goodRun + 1)
                           refNext := max s.fr.refNext (f.toNat + 1) } ∧
        (t.lnk l.val).marker = some f.toNat ∧ t.mem = s.mem ∧ t.tile = s.tile)) ∧
      (s.fr.st = .locked → s.guardT < e.natAbs → 4 * e.natAbs ≤ s.frameLen → s.fr.slipRun < 2 →
        Answers (exec (.markerRx l f late) s) (fun t =>
        t.fr = { s.fr with err := satErr e, slipRun := s.fr.slipRun + 1, refNext := max s.fr.refNext (f.toNat + 1) } ∧
        bitOf (t.raw pgFrame) 0 = true ∧
        t.cntLive pgFrame 4 = min (s.cntLive pgFrame 4 + 1) (2 ^ 64 - 1))) ∧
      (s.fr.st = .locked → s.guardT < e.natAbs → 4 * e.natAbs ≤ s.frameLen → s.fr.slipRun = 2 → Answers (exec (.markerRx l f late) s) (fun t =>
        t.fr.st = .resync ∧ bitOf (t.raw pgFrame) 1 = true ∧ bitOf (t.raw pgFrame) 3 = true ∧ t.fr.num = s.fr.num ∧
        t.fr.tif = s.fr.tif ∧ t.cntLive pgFrame 6 = min (s.cntLive pgFrame 6 + 1) (2 ^ 64 - 1))) ∧
      (s.fr.st = .locked → s.frameLen < 4 * e.natAbs → f.toNat < s.fr.refNext →
        Answers (exec (.markerRx l f late) s) (fun t => t.fr = s.fr ∧ (t.lnk l.val).marker = some f.toNat ∧ t.mem = s.mem)) ∧
      (s.fr.st = .acquire → s.fr.aligned = false → Answers (exec (.markerRx l f late) s) (fun t =>
        t.fr.st = .acquire ∧ t.fr.aligned = true ∧ t.fr.goodRun = 1 ∧ t.fr.err = 0 ∧ t.fr.refNext = f.toNat + 1 ∧
        t.fr.num = f.toNat + (late.toNat + (s.lnk l.val).d) / max s.frameLen 1 ∧
        t.fr.tif = late.toNat + (s.lnk l.val).d - (late.toNat + (s.lnk l.val).d) / max s.frameLen 1 * s.frameLen))) ∧
    (∀ (f : Nat) (e : Int), s.fr.src = 2 → s.fr.st = .locked →
      f = ((s.fr.num : Int) + nearest ((s.fr.tif : Int) - s.fsOffset) s.frameLen).toNat →
      e = (s.fr.tif : Int) - s.fsOffset - s.boundaryTick f →
      e.natAbs ≤ s.guardT → 4 * e.natAbs ≤ s.frameLen → Answers (exec .frameSyncPulse s) (fun t =>
        t = settle s { s with fr := { s.fr with err := satErr e, pending := e, slipRun := 0, goodRun := min 3 (s.fr.goodRun + 1)
                                                refNext := max s.fr.refNext (f + 1) } })) ∧
    (s.fr.src ≠ 0 → s.fr.st = .locked →
      (s.refExpected * 4 + s.frameLen < (s.fr.tif : Int) * 4 → s.fr.slipRun < 2 → Answers (exec .referenceEventMissing s) (fun t =>
        t.fr = { s.fr with slipRun := s.fr.slipRun + 1, refNext := s.fr.refNext + 1 } ∧ bitOf (t.raw pgFrame) 0 = true ∧
        t.cntLive pgFrame 4 = min (s.cntLive pgFrame 4 + 1) (2 ^ 64 - 1))) ∧
      ((s.fr.tif : Int) * 4 ≤ s.refExpected * 4 + s.frameLen → exec .referenceEventMissing s = .next (settle s s))) ∧
    (s.fr.st ≠ .halted → s.fr.judged = false → s.fr.tif + 2 = s.frameLen → Answers (exec .slewJudge s) (fun t =>
      t.fr = { s.fr with judged := true, slew := (if 0 < s.fr.pending then 1 else if s.fr.pending < 0 then -1 else 0) } ∧
      t.cntLive pgFrame 5 = (if s.fr.pending = 0 then s.cntLive pgFrame 5 else min (s.cntLive pgFrame 5 + 1) (2 ^ 64 - 1)) ∧
      t.mem = s.mem ∧ t.tile = s.tile ∧ t.link = s.link ∧ t.q = s.q))

/-- The frame unit is enabled and configured, and a plan switch is armed. FRAME_ENABLE in HALTED with the PLL locked: FREE
with SRC = 0, ACQUIRE with SRC not 0 and the PLL on REFCLK; with SRC not 0 on the local oscillator, or in a module that
was started on it, it stays HALTED with CFG_REJECT (the event is the model's reading of R281, log 46); with the PLL not
locked or in holdover only CTRL.EN is set. FRAME_CFG_WRITE of values in range is held, in
force at once in HALTED; out of range it is discarded with CFG_REJECT. PLAN_SWITCH_ARM: in HALTED the staged directory
and CYCLE come into force and PLAN_SWITCH is raised; otherwise the switch is armed for the frame written, or refused
with CFG_REJECT when that is fewer than 2 frames ahead. -/
def Obligations.FrameConfigurationComesIntoForce : Prop :=
  ∀ (s : State) (p : Path) (v : BitVec 32), s.mayPath p pgFrame = true →
    (s.fr.st = .halted → s.tb.locked = true → s.tb.holdover = false →
      (s.fr.src = 0 → Answers (exec (.frameEnable p) s) (fun t => t.fr.st = .free ∧ t.en pgFrame = true ∧ t.fr.num = s.fr.num ∧
        t.fr.started = false ∧ t.fr.tif = 0 ∧ t.mem = s.mem ∧ t.tile = s.tile ∧ t.link = s.link)) ∧
      (s.fr.src ≠ 0 → s.tb.localOsc = false → s.tb.confined = false → Answers (exec (.frameEnable p) s) (fun t => t.fr.st = .acquire ∧
        t.fr.aligned = false ∧ t.fr.num = s.fr.num)) ∧
      (s.fr.src ≠ 0 → (s.tb.localOsc = true ∨ s.tb.confined = true) →
        Answers (exec (.frameEnable p) s) (fun t => t.fr = s.fr ∧ bitOf (t.raw pgFrame) 9 = true))) ∧
    (s.fr.st = .halted → (s.tb.locked = false ∨ s.tb.holdover = true) →
      exec (.frameEnable p) s = .next (settle s (s.setReg pgFrame 0x10 1))) ∧
    (cfgValid v.toNat = true → Answers (exec (.frameCfgWrite p v) s) (fun t =>
      t.reg pgFrame 0x40 = Nat.land v.toNat 0x0F0F1FFF ∧
      t.fr = (if s.fr.st = .halted then
        { s.fr with len := fld v.toNat 12 0, lag := fld v.toNat 19 16, reLog := fld v.toNat 27 24 } else s.fr))) ∧
    (cfgValid v.toNat = false → exec (.frameCfgWrite p v) s = .next (settle s (s.raise pgFrame 9))) ∧
    (∀ f, f = (tget none (halfKey p (pageBase pgFrame + 0x78)) s.hif.staged).getD (s.reg pgFrame 0x78) + 2 ^ 32 * v.toNat →
      (s.fr.st = .halted → Answers (exec (.planSwitchArm p v) s) (fun t => t.fr.dir = s.reg64 pgFrame 0x68 % 2 ^ 48 ∧
        t.fr.cycle = fld (s.reg pgFrame 0x70) 12 0 ∧ bitOf (t.raw pgFrame) 5 = true)) ∧
      (s.fr.st ≠ .halted → s.fr.num + 2 ≤ f → Answers (exec (.planSwitchArm p v) s) (fun t => t.fr = { s.fr with switchAt := some f })) ∧
      (s.fr.st ≠ .halted → f < s.fr.num + 2 → Answers (exec (.planSwitchArm p v) s) (fun t => t.fr = s.fr ∧
        bitOf (t.raw pgFrame) 9 = true)))

/-- A frame boundary advances the frame number and commits the frame whose LAG has passed. FRAME_BOUNDARY in FREE or
LOCKED when the frame's ticks have passed, with no action outstanding, no soft reset, halt, veto or restore due: the
frame number advances by 1, the tick within the frame is 0, and the frame LAG before the one that ends commits:
FRAME.COMMITTED shows it and its staged writes are released in issue order behind those already released.
COMMIT_GRANULE_APPLY makes the oldest released granule to memory, or waits while its controller is disabled or in
standby. A whole granule that the commit buffer holds without error, of an enabled ACTIVE controller, stands there with
its poison mark, and no other byte changes where no read and no admission waits for it. -/
def Obligations.FrameBoundaryAdvancesAndCommits : Prop :=
  ∀ (s : State),
    ((s.fr.st = .free ∨ s.fr.st = .locked) → s.fr.started = true → (s.frameLen : Int) + s.fr.slew ≤ s.fr.tif → s.fr.acts = [] →
      s.soft = [] → s.fr.haltDue = false → s.en pgFrame = true → s.rg.restoring = false → s.rg.pend = none →
      s.fr.num + 1 < 2 ^ 64 → s.fr.comNext + s.fr.lag = s.fr.num → s.fr.disc = [] →
      Answers (exec .frameBoundary s) (fun t => t.fr.num = s.fr.num + 1 ∧ t.fr.tif = 0 ∧ t.fr.nextRec = 0 ∧
        t.fr.committed = s.fr.comNext ∧ t.fr.comNext = s.fr.comNext + 1 ∧
        t.fr.applying = s.fr.applying ++ s.fr.buf.filter (fun (w : Staged) => w.frame == s.fr.comNext))) ∧
    (∀ (w : Staged) (ws : List Staged), s.fr.applying = w :: ws →
      (s.asleep w.addr = false → Answers (exec .commitGranuleApply s) (fun t => t.fr.applying = ws)) ∧
      (s.asleep w.addr = true → exec .commitGranuleApply s = .next (settle s s))) ∧
    (∀ (w : Staged) (ws : List Staged) (k : Nat), s.fr.applying = w :: ws → wholeGran w.data = true → w.err = 0 →
      s.hif.barWait = [] → s.q.admDue = [] → regionOf (64 * w.addr) = .ctl k → (s.ctl k).st = .active → s.en (pgMem k) = true →
      Answers (exec .commitGranuleApply s) (fun t => t.fr = { s.fr with applying := ws } ∧
        (∀ i, i < 64 → some (t.mem.byte (64 * w.addr + i)) = w.data.getD i none) ∧ t.mem.mark w.addr = w.poison ∧
        (∀ a, (a < 64 * w.addr ∨ 64 * w.addr + 64 ≤ a) → t.mem.byte a = s.mem.byte a) ∧
        (∀ g, g ≠ w.addr → t.mem.mark g = s.mem.mark g)))

/-- A due record is launched in order, an invalid one is a frame fault, completion forms the slack, a missed bound an
overrun. ACTION_NOP with a due valid NOP record only takes it off the plan. A due invalid record is not started: CNT9,
PLAN_INVALID and a frame fault. ACTION_COMPLETE of an action of the current frame, all of whose parts are complete,
within its bound: the action is gone and, where it is counted, the frame's slack is the least relative slack, 1,000 x
(BOUND - C) / (BOUND - START) rounded down. ACTION_OVERRUN past the bound: CNT3, OVERRUN, a frame fault, the frame's
slack is -1, and the action carries on, marked late. -/
def Obligations.PlanActionsLaunchCompleteAndOverrun : Prop :=
  ∀ (s : State),
    (∀ r, s.nextRecord = some r → s.recDue r = true → s.recValid r = true → r.ty = 0 →
      exec .actionNop s = .next (settle s { s with fr := { s.fr with nextRec := s.fr.nextRec + 1, starts := r.start :: s.fr.starts } })) ∧
    (∀ r, s.nextRecord = some r → s.recDue r = true → s.recValid r = false →
      ∀ c ∈ [Instr.actionNop, .actionTileRun, .actionStream, .actionLinkWin, .actionVsu], Answers (exec c s) (fun t =>
        t.cntLive pgFrame 9 = min (s.cntLive pgFrame 9 + 1) (2 ^ 64 - 1) ∧ bitOf (t.raw pgFrame) 6 = true ∧
        bitOf (t.raw pgFrame) 1 = true ∧ t.fr.nextRec = s.fr.nextRec + 1)) ∧
    (∀ (frame : BitVec 64) (idx : BitVec 16) (a : Act), s.actOf frame.toNat idx.toNat = some a →
      (a.never = false → a.parts = [] → a.frame = s.fr.num → s.fr.tif ≤ a.bound → a.late = false →
        Answers (exec (.actionComplete frame idx) s) (fun t => t.actOf frame.toNat idx.toNat = none ∧
          (∀ f i, (f ≠ frame.toNat ∨ i ≠ idx.toNat) → t.actOf f i = s.actOf f i) ∧
          t.fr.slack = (if a.counted then
            some (match s.fr.slack with | none => a.relSlack s.fr.tif | some w => min w (a.relSlack s.fr.tif)) else s.fr.slack) ∧
          t.mem = s.mem ∧ t.tile = s.tile ∧ t.link = s.link ∧ t.q = s.q)) ∧
      (s.pastBound a = true → a.late = false → a.frame = s.fr.num → s.fr.overrun = false →
        Answers (exec (.actionOverrun frame idx) s) (fun t => bitOf (t.raw pgFrame) 2 = true ∧ bitOf (t.raw pgFrame) 1 = true ∧
          t.cntLive pgFrame 3 = min (s.cntLive pgFrame 3 + 1) (2 ^ 64 - 1) ∧ t.frameSlack = -1 ∧
          t.actOf frame.toNat idx.toNat = some { a with late := true })))

/-- A due TILE_RUN starts its tile's run; shadow loads take sets in ring order; a switch brings a sound set into force.
ACTION_TILE_RUN with a due valid TILE_RUN record that names one enabled, READY, healthy tile in A0 with no run: the
tile's run has the record's codes and the action waits for that tile. A refused one faults the tile (RUN_FAULT) and
the frame, and its action never completes. SHADOW_LOAD_START and SHADOW_LOAD_DONE: with the shadow latches free and
the next slot complete, the load of that slot is made, bytes 0 to 0x21FF; the standby's logical column is the one at
the load's start (the model's reading, log 64). WEIGHT_SWITCH at a due switch: a sound set becomes the active one, the
shadow latches are free, SET_ID is the set's, CNT1 counts and the run owes the set's vectors; a set with a lost word is
not brought into force: the tile faults and the frame too. No other tile changes. -/
def Obligations.TilesTakeRunsAndWeightSets : Prop :=
  ∀ (s : State) (t : Fin 256),
    (∀ r, s.nextRecord = some r → s.recDue r = true → s.recValid r = true → r.ty = 1 → r.w2 = 0 → fld r.w1 7 0 = t.val →
      s.en (pgTile t.val) = true → s.actOf s.fr.num s.fr.nextRec = none →
      (s.runRefused t.val (fld r.w1 10 8) = false → (s.tl t.val).run = none → Answers (exec .actionTileRun s) (fun u =>
        u.tl t.val = (s.tl t.val).begin
          ⟨s.fr.num, s.fr.nextRec, fld r.w1 10 8, fld r.w1 12 11, fld r.w1 14 13, fld r.w1 21 16, fld r.w1 47 32, 0⟩ ∧
        u.actOf s.fr.num s.fr.nextRec = some ⟨s.fr.num, s.fr.nextRec, 1, r.noslack, r.start, r.bound, r.tag, [t.val], false, false⟩ ∧
        (∀ k, k ≠ t.val → u.tl k = s.tl k) ∧ u.mem = s.mem ∧ u.link = s.link ∧ u.q = s.q)) ∧
      (s.runRefused t.val (fld r.w1 10 8) = true → Answers (exec .actionTileRun s) (fun u =>
        { u.tl t.val with img := (s.tl t.val).img } = { s.tl t.val with fault := true } ∧ bitOf (u.raw (pgTile t.val)) 0 = true ∧ bitOf (u.raw pgFrame) 1 = true ∧
        u.actOf s.fr.num s.fr.nextRec = some ⟨s.fr.num, s.fr.nextRec, 1, r.noslack, r.start, r.bound, r.tag, [], true, false⟩))) ∧
    (s.tileOn t.val = true → (s.tl t.val).loading = false → (s.tl t.val).shadow = none → (s.tl t.val).nextSlotReady = true →
      exec (.shadowLoadStart t none) s = .next (settle s (s.setTl t.val
        { s.tl t.val with loading := true, loadCol := (s.tl t.val).used.lcol }))) ∧
    (s.en (pgTile t.val) = true → (s.tl t.val).loading = true →
      exec (.shadowLoadDone t) s = .next (settle s (s.setTl t.val { s.tl t.val with
        loading := false
        shadow := some ⟨(s.tl t.val).read (s.tl t.val).nextSlotAt 0x2200, (s.tl t.val).loadCol,
          (s.tl t.val).anyMark (s.tl t.val).nextSlotAt 0x2200⟩ }))) ∧
    (∀ (r : TRun) (l : Latch), (s.tl t.val).run = some r → (s.tl t.val).shadow = some l → s.en (pgTile t.val) = true →
      r.vec = 0 → r.left ≠ 0 →
      (l.bad = false → dAcc (setDesc l.par) + dVectors (setDesc l.par) ≤ 256 → dVectors (setDesc l.par) ≠ 0 →
        (dLast (setDesc l.par) = true → recSize (dFmt (setDesc l.par)) ≤ (s.tl t.val).oSize) →
        Answers (exec (.weightSwitch t) s) (fun u => (u.tl t.val).active = some l ∧ (u.tl t.val).shadow = none ∧
          (u.tl t.val).setId = dId (setDesc l.par) ∧
          (u.tl t.val).run = some { r with left := r.left - 1, vec := dVectors (setDesc l.par) } ∧
          u.cntLive (pgTile t.val) 1 = min (s.cntLive (pgTile t.val) 1 + 1) (2 ^ 64 - 1) ∧
          (u.tl t.val).sram = (s.tl t.val).sram ∧ (u.tl t.val).acc = (s.tl t.val).acc ∧ (∀ k, k ≠ t.val → u.tl k = s.tl k) ∧
          u.mem = s.mem ∧ u.fr = s.fr ∧ u.link = s.link)) ∧
      (l.bad = true → Answers (exec (.weightSwitch t) s) (fun u => (u.tl t.val).active = (s.tl t.val).active ∧
        (u.tl t.val).fault = true ∧ bitOf (u.raw (pgTile t.val)) 0 = true ∧ bitOf (u.raw pgFrame) 1 = true ∧
        (u.tl t.val).acc = (s.tl t.val).acc)))

/-- A vector cycle converts the dot products of its activation vector with the set in force. VECTOR_CYCLE of an enabled
tile with a set in force, vectors owed, its routing acknowledged, an empty result FIFO and, behind the slots of zero
records that the ring releases on the way (aAdvance), a sound slot with an unpoisoned activation record: one result
joins the FIFO. Its code for logical column c is the converter code of D_c at the range step, with the conversion's
free error, where D_c is the sum over the 128 rows of the row's activation (its bits of the P planes, bit-plane j with
weight 2^j) times the signed 4-bit cell of row and column; every code lies from -512 to 511. The standby's code is the
one of the logical column it shadows. Its accumulator index is the set's base plus the vector's number in the set.
CNT0 counts the cycle and CNT6 each saturated code, the standby's too; the run owes one vector less; no accumulator
changes. -/
def Obligations.VectorCycleFormsDotProducts : Prop :=
  ∀ (s : State) (t : Fin 256) (r : TRun) (l : Latch) (y : Tile) (src : Nat) (srcs : List Nat),
    (s.tl t.val).run = some r → (s.tl t.val).active = some l → s.en (pgTile t.val) = true → r.vec ≠ 0 →
    (s.tl t.val).used = (s.tl t.val).roles → (s.tl t.val).fifo = [] → l.slot.length = 0x2200 →
    (s.tl t.val).aAdvance r.pc 9 = (y, 0) → y.aSrc = src :: srcs → y.recPoison r.pc = false →
    Answers (exec (.vectorCycle t none) s) (fun u => ∃ x : TRes, (u.tl t.val).fifo = [x] ∧
      x.codes.length = 128 ∧ x.sh = pOf r.pc - 2 + r.rc ∧
      x.acc = dAcc (setDesc l.par) + (dVectors (setDesc l.par) - r.vec) ∧ x.par = l.par ∧
      x.zp = fld (leNat (y.read y.aSlotAt 5)) 11 0 ∧
      (∀ c, c < 128 →
        (x.codes.getD c (0, 0)).1 = convert ((List.range 128).map (fun i =>
            ((((List.range (pOf r.pc)).map (fun j =>
              leNat (y.read (y.aSlotAt + 64 + 16 * pOf r.pc * y.aRec + 16 * j) 16) / 2 ^ i % 2 * 2 ^ j)).sum : Nat) : Int)
              * sext 4 ((l.slot.getD (64 * i + c / 2) 0).toNat / 16 ^ (c % 2)))).sum
          (2 ^ (pOf r.pc - 2 + r.rc)) (Config.convError (s.freeCtr + c)) ∧
        -512 ≤ (x.codes.getD c (0, 0)).1 ∧ (x.codes.getD c (0, 0)).1 ≤ 511 ∧
        (x.codes.getD c (0, 0)).2 = tget c c (s.tl t.val).used.cmap) ∧
      ((s.tl t.val).used.standby = 0xFF → x.shadow = none) ∧
      ((s.tl t.val).used.standby ≠ 0xFF → ∃ c, x.shadow = some (c, (s.tl t.val).used.standby, l.lcol) ∧ -512 ≤ c ∧ c ≤ 511) ∧
      (u.tl t.val).run = some { r with vec := r.vec - 1 } ∧
      u.cntLive (pgTile t.val) 0 = min (s.cntLive (pgTile t.val) 0 + 1) (2 ^ 64 - 1) ∧
      u.cntLive (pgTile t.val) 6 = min (s.cntLive (pgTile t.val) 6 + ((x.codes.filter (fun c => satCode c.1)).length +
        (match x.shadow with | some c => if satCode c.1 then 1 else 0 | none => 0))) (2 ^ 64 - 1) ∧
      (u.tl t.val).acc = (s.tl t.val).acc ∧ (u.tl t.val).sram = (s.tl t.val).sram ∧ (∀ k, k ≠ t.val → u.tl k = s.tl k) ∧
      u.mem = s.mem ∧ u.fr = s.fr ∧ u.link = s.link)

/-- Results are corrected and accumulated with saturation, closed out into records, and the run completes. Of an enabled
tile. RESULT_ACCUMULATE of the oldest result, no record waiting: for each logical column c, with gain G and offset O of
its physical column, y = (c x G / 0x8000 - O / 64) in units of 1/16 rounded half to even, and the accumulator takes
(y x 2^sh - 16 x zp x w) x 2^e on top of its value (or alone when the set is FIRST), clamped to 48 bits; its flag is
set when the clamp acted, and stays set until a FIRST; the poison flag of the index likewise. Of a LAST result an
output record of the size of OUT_FMT waits. OUTPUT_RECORD_WRITE: a record that fits stands in the open output slot and
no other byte of tile SRAM changes, the slot closing when it was the last of a run that has ended; one that does not
fit closes the open slot and opens the next; with no free slot it waits. TILE_RUN_COMPLETE of a run that owes nothing:
the tile's part of the action is complete, with no result still to come the open slot closes, and the next waiting run
starts; one that is refused by then raises RUN_FAULT and faults its frame. -/
def Obligations.ResultsAccumulateAndCloseOut : Prop :=
  ∀ (s : State) (t : Fin 256), s.en (pgTile t.val) = true →
    (∀ (r : TRes) (rs : List TRes), (s.tl t.val).fifo = r :: rs → (s.tl t.val).outRec = none →
      r.codes.length = 128 → r.acc < 256 → r.fmt < 4 →
      Answers (exec (.resultAccumulate t) s) (fun u => (u.tl t.val).fifo = rs ∧
        (∀ c code pcol, c < 128 → r.codes.getD c (0, 0) = (code, pcol) →
          ∃ y v : Int, y = roundHalfEven (code * s.eff t.val (qCol pcol 0) - s.eff t.val (qCol pcol 1) * 512) 2048 ∧
            v = (if r.first then 0 else tget 0 (256 * c + r.acc) (s.tl t.val).acc) +
              (y * 2 ^ r.sh - 16 * r.zp * sext 16 (leNat ((r.par.drop (2 * c)).take 2)))
                * 2 ^ fld (leNat ((r.par.drop (0x100 + c / 2)).take 1)) (4 * (c % 2) + 3) (4 * (c % 2)) ∧
            tget 0 (256 * c + r.acc) (u.tl t.val).acc = clampI (-(2 : Int) ^ 47) (2 ^ 47 - 1) v ∧
            (tget false (256 * c + r.acc) (u.tl t.val).sat = true ↔
              (clampI (-(2 : Int) ^ 47) (2 ^ 47 - 1) v ≠ v ∨
                (r.first = false ∧ tget false (256 * c + r.acc) (s.tl t.val).sat = true)))) ∧
        (∀ k, k % 256 ≠ r.acc → tget 0 k (u.tl t.val).acc = tget 0 k (s.tl t.val).acc) ∧
        tget false r.acc (u.tl t.val).pflag = (r.pois || (!r.first && tget false r.acc (s.tl t.val).pflag)) ∧
        (r.last = false → (u.tl t.val).outRec = none) ∧
        (r.last = true → ∃ bs p, (u.tl t.val).outRec = some (bs, p, r.final) ∧ bs.length = recSize r.fmt) ∧
        (u.tl t.val).sram = (s.tl t.val).sram ∧ (∀ k, k ≠ t.val → u.tl k = s.tl k) ∧ u.mem = s.mem ∧ u.fr = s.fr)) ∧
    (∀ (bs : Bytes) (p final : Bool), (s.tl t.val).outRec = some (bs, p, final) → 0 < bs.length →
      ((s.tl t.val).oFill + bs.length ≤ (s.tl t.val).oSize → (s.tl t.val).oLens.length < (s.tl t.val).oSlots → ∀ a,
        a = 0x21000 + ((s.tl t.val).oHead + (s.tl t.val).oLens.length) % (s.tl t.val).oSlots * (s.tl t.val).oSize + (s.tl t.val).oFill →
        Answers (exec (.outputRecordWrite t) s) (fun u => (u.tl t.val).read a bs.length = bs ∧ (u.tl t.val).outRec = none ∧
          (∀ b, (b < a ∨ a + bs.length ≤ b) → tget 0 b (u.tl t.val).sram = tget 0 b (s.tl t.val).sram) ∧
          ((final = false ∨ (s.tl t.val).closing = 0) →
            (u.tl t.val).oFill = (s.tl t.val).oFill + bs.length ∧ (u.tl t.val).oLens = (s.tl t.val).oLens) ∧
          (final = true → 0 < (s.tl t.val).closing → (u.tl t.val).oFill = 0 ∧
            (u.tl t.val).oLens = (s.tl t.val).oLens ++ [(s.tl t.val).oFill + bs.length] ∧
            (u.tl t.val).closing = (s.tl t.val).closing - 1) ∧
          (u.tl t.val).acc = (s.tl t.val).acc ∧ (∀ k, k ≠ t.val → u.tl k = s.tl k) ∧ u.mem = s.mem ∧ u.fr = s.fr)) ∧
      ((s.tl t.val).oSize < (s.tl t.val).oFill + bs.length → 0 < (s.tl t.val).oFill → final = false →
        (s.tl t.val).oLens.length + 1 < (s.tl t.val).oSlots → ∀ a,
        a = 0x21000 + ((s.tl t.val).oHead + (s.tl t.val).oLens.length + 1) % (s.tl t.val).oSlots * (s.tl t.val).oSize →
        Answers (exec (.outputRecordWrite t) s) (fun u => (u.tl t.val).read a bs.length = bs ∧ (u.tl t.val).outRec = none ∧
          (u.tl t.val).oFill = bs.length ∧ (u.tl t.val).oLens = (s.tl t.val).oLens ++ [(s.tl t.val).oFill] ∧
          (∀ b, (b < a ∨ a + bs.length ≤ b) → tget 0 b (u.tl t.val).sram = tget 0 b (s.tl t.val).sram))) ∧
      ((s.tl t.val).oFill + bs.length ≤ (s.tl t.val).oSize → (s.tl t.val).oSlots ≤ (s.tl t.val).oLens.length →
        Answers (exec (.outputRecordWrite t) s) (fun u => u.tl t.val = s.tl t.val))) ∧
    (∀ r : TRun, (s.tl t.val).run = some r → r.left = 0 → r.vec = 0 →
      ((∀ w ws, (s.tl t.val).waiting = w :: ws → s.runRefused t.val w.pc = false) →
        Answers (exec (.tileRunComplete t) s) (fun u => (u.tl t.val).run = (s.tl t.val).waiting.head? ∧
          (u.tl t.val).waiting = (s.tl t.val).waiting.tail ∧
          (∀ a, s.actOf r.frame r.idx = some a → u.actOf r.frame r.idx = some { a with parts := a.parts.filter (· != t.val) }) ∧
          ((s.tl t.val).fifo = [] → (s.tl t.val).outRec = none → (u.tl t.val).oFill = 0 ∧
            ((s.tl t.val).oFill ≠ 0 → (u.tl t.val).oLens = (s.tl t.val).oLens ++ [(s.tl t.val).oFill])) ∧
          (u.tl t.val).acc = (s.tl t.val).acc ∧ (u.tl t.val).sram = (s.tl t.val).sram ∧ (∀ k, k ≠ t.val → u.tl k = s.tl k) ∧
          u.mem = s.mem)) ∧
      (∀ w, (s.tl t.val).waiting = [w] → s.runRefused t.val w.pc = true →
        Answers (exec (.tileRunComplete t) s) (fun u => (u.tl t.val).run = none ∧ (u.tl t.val).waiting = [] ∧
          (u.tl t.val).fault = true ∧ bitOf (u.raw (pgTile t.val)) 0 = true ∧ bitOf (u.raw pgFrame) 1 = true)))

/-- Routing changes, row and column failures, substitution requests, ring configuration and scrub. ROUTING_CHANGE of a
working tile with a decided change: the tile uses the decided routing, SPARE_USED follows ROWMAP, and ROW_SUBST is
raised where a group has a substitution it had not. ROW_FAILURE of a row not yet failed, by its driver or over three
rounds: the row is marked failed, a driver fault also raises DRIVER_FAULT and STAT.FAULT; a row that carries a logical
row, of a READY tile, faults the frame; its substitution falls due with AUTO_SPARE and a spare that is free and not yet
claimed, and ROW_NO_SPARE is raised without one (that a claimed spare is not free is the model's reading, log 55).
COLUMN_FAILURE of a column not retired: DRIVER_FAULT, STAT.FAULT and its failover due; a frame fault where it is in
service of a READY tile. ROW_SUBST_REQ with GO: due at the next boundary, HEALTH_CHANGE where DEGRADED changes, or
refused with CFG_REJECT. ARING_CFG_WRITE and ORING_CFG_WRITE: held, or out of range discarded with CFG_REJECT.
TILE_SCRUB_PASS: a corrected error is counted and raised (CNT10, SRAM_CE), an uncorrectable one leaves its granule as
poisoned zeros (CNT11, SRAM_UE), and in the calibration area the step in progress starts again; no other granule
changes. Each of them, where its condition does not hold, changes nothing, and from a path that may not write the page
is denied. -/
def Obligations.TilesChangeRoutingRowsAndRings : Prop :=
  ∀ (s : State) (t : Fin 256) (p : Path) (v : BitVec 32) (x : Tile), s.tl t.val = x →
    ((s.tileOn t.val = false ∨ x.used = x.roles) → exec (.routingChange t) s = .next (settle s s)) ∧
    (s.tileOn t.val = true → x.used ≠ x.roles → ∀ y : State,
      y = s.setTl t.val { x with used := x.roles, spareUsed := spareMask x.roles.rowmap } →
      exec (.routingChange t) s = .next (settle s
        (if (List.range 4).any (newSubst x.used.rowmap x.roles.rowmap) then y.raise (pgTile t.val) 5 else y))) ∧
    (∀ (row : Fin 132) (driver : Bool),
      ((s.tileOn t.val = false ∨ bitOf x.rowFail row.val = true ∨ (driver = false ∧ tget 0 row.val x.lowRuns < 3)) →
        exec (.rowFailure t row driver) s = .next (settle s s)) ∧
      (s.tileOn t.val = true → bitOf x.rowFail row.val = false → (driver = true ∨ 3 ≤ tget 0 row.val x.lowRuns) →
        Answers (exec (.rowFailure t row driver) s) (fun u =>
          u.tl t.val = { x with rowFail := x.rowFail + 2 ^ row.val, rowDue := (u.tl t.val).rowDue
                                fault := x.fault || driver, img := (u.tl t.val).img } ∧
          (driver = true → bitOf (u.raw (pgTile t.val)) 9 = true) ∧
          (x.rowCarried row.val = none → (u.tl t.val).rowDue = x.rowDue ∧ u.fr = s.fr) ∧
          (∀ r, x.rowCarried row.val = some r →
            (x.substDue r = true → (u.tl t.val).rowDue = x.rowDue) ∧
            (x.substDue r = false → ∀ free : Bool,
              free = (x.spareFree (row.val / 33) && !x.spareClaimed (row.val / 33) && decide (row.val % 33 ≠ 32)) →
              (free = true → bitOf (s.reg (pgTile t.val) 0x40) 1 = true → (u.tl t.val).rowDue = x.rowDue ++ [(r, false)]) ∧
              (free = true → bitOf (s.reg (pgTile t.val) 0x40) 1 = false → (u.tl t.val).rowDue = x.rowDue ∧
                bitOf (u.raw (pgTile t.val)) 6 = bitOf (s.raw (pgTile t.val)) 6) ∧
              (free = false → (u.tl t.val).rowDue = x.rowDue ∧ bitOf (u.raw (pgTile t.val)) 6 = true)) ∧
            (x.ready = true → bitOf (u.raw pgFrame) 1 = true) ∧
            (x.ready = false → u.fr = s.fr ∧ (driver = false → u.mem = s.mem))) ∧
          (∀ k, k ≠ t.val → { u.tl k with img := (s.tl k).img } = s.tl k)))) ∧
    (∀ col : Fin 130,
      ((s.tileOn t.val = false ∨ bitOf x.retired col.val = true ∨ col.val ∈ x.colDue) →
        exec (.columnFailure t col) s = .next (settle s s)) ∧
      (s.tileOn t.val = true → bitOf x.retired col.val = false → col.val ∉ x.colDue →
        Answers (exec (.columnFailure t col) s) (fun u =>
          { u.tl t.val with img := x.img } = { x with fault := true, colDue := x.colDue ++ [col.val] } ∧
          bitOf (u.raw (pgTile t.val)) 9 = true ∧
          (x.inService col.val = true → x.ready = true → bitOf (u.raw pgFrame) 1 = true) ∧
          ((x.inService col.val = false ∨ x.ready = false) → u.fr = s.fr) ∧
          (∀ k, k ≠ t.val → { u.tl k with img := (s.tl k).img } = s.tl k)))) ∧
    (s.mayPath p (pgTile t.val) = false → ∀ c ∈ [Instr.rowSubstReq p t v, Instr.aringCfgWrite p t v, Instr.oringCfgWrite p t v],
      exec c s = .next (settle s (s.deny p (pgTile t.val)))) ∧
    (s.mayPath p (pgTile t.val) = true →
      (bitOf v.toNat 31 = false → exec (.rowSubstReq p t v) s = .next (settle s s)) ∧
      (bitOf v.toNat 31 = true → x.spareFree (fld v.toNat 9 8) = true → ∀ y : State,
        y = s.setTl t.val { x with rowDue := x.rowDue ++ [(32 * fld v.toNat 9 8 + fld v.toNat 4 0, true)] } →
        exec (.rowSubstReq p t v) s =
          .next (settle s (if y.degraded t.val = s.degraded t.val then y else y.raise (pgTile t.val) 4))) ∧
      (bitOf v.toNat 31 = true → x.spareFree (fld v.toNat 9 8) = false →
        exec (.rowSubstReq p t v) s = .next (settle s (s.raise (pgTile t.val) 10))) ∧
      (∀ (c : Instr) (off lim : Nat) (y : Tile),
        (c, off, lim, y) ∈ [(Instr.aringCfgWrite p t v, 0x50, 98304, { x with aPend := true }),
          (Instr.oringCfgWrite p t v, 0x58, 65536, { x with oPend := true })] →
        (3 ≤ fld v.toNat 19 16 ∧ fld v.toNat 19 16 ≤ 8 ∧ fld v.toNat 8 0 ≠ 0 ∧ fld v.toNat 19 16 * fld v.toNat 8 0 * 256 ≤ lim →
          exec c s = .next (settle s ((s.setReg (pgTile t.val) off (Nat.land v.toNat 0xF01FF)).setTl t.val y))) ∧
        (¬ (3 ≤ fld v.toNat 19 16 ∧ fld v.toNat 19 16 ≤ 8 ∧ fld v.toNat 8 0 ≠ 0 ∧ fld v.toNat 19 16 * fld v.toNat 8 0 * 256 ≤ lim) →
          exec c s = .next (settle s (s.raise (pgTile t.val) 10))))) ∧
    ((s.tileOn t.val = false ∨ bitOf (s.reg (pgTile t.val) 0x40) 2 = false) →
      ∀ errs, exec (.tileScrubPass t errs) s = .next (settle s s)) ∧
    (s.tileOn t.val = true → bitOf (s.reg (pgTile t.val) 0x40) 2 = true →
      exec (.tileScrubPass t []) s = .next (settle s s) ∧
      (∀ o : Fin 262144,
        exec (.tileScrubPass t [⟨o, false⟩]) s = .next (settle s (s.countRaise (pgTile t.val) 10 7)) ∧
        Answers (exec (.tileScrubPass t [⟨o, true⟩]) s) (fun u => (u.tl t.val).mark (o.val / 64) = true ∧
          (∀ a, a / 64 = o.val / 64 → tget 0 a (u.tl t.val).sram = 0) ∧
          (∀ a, a / 64 ≠ o.val / 64 → tget 0 a (u.tl t.val).sram = tget 0 a x.sram) ∧
          (∀ g, g ≠ o.val / 64 → (u.tl t.val).mark g = x.mark g) ∧
          u.tl t.val = { x with sram := (u.tl t.val).sram, pois := (u.tl t.val).pois, cal := (u.tl t.val).cal
                                cmp := (u.tl t.val).cmp } ∧
          (o.val < 0x31000 → (u.tl t.val).cal = x.cal ∧ (u.tl t.val).cmp = x.cmp) ∧
          (0x31000 ≤ o.val → (u.tl t.val).cmp = {} ∧ (u.tl t.val).cal.locked = [] ∧ (u.tl t.val).cal.windows = [] ∧
            (u.tl t.val).cal.val = x.cal.val ∧ (u.tl t.val).cal.phase = x.cal.phase) ∧
          u.cntLive (pgTile t.val) 11 = min (s.cntLive (pgTile t.val) 11 + 1) (2 ^ 64 - 1) ∧
          bitOf (u.raw (pgTile t.val)) 8 = true ∧ (∀ k, k ≠ t.val → u.tl k = s.tl k) ∧ u.mem = s.mem ∧ u.fr = s.fr)))

/-- The calibration engine measures a column step by step, and an acquisition pass makes a tile's values valid. In
CALIBRATE, at the step of Table 6.3 the command belongs to (calAt), each codes' sum corrected with the column's working
gain and offset (ySum): CAL_OFFSET_MEASURE keeps the sum and goes to the gain step. CAL_GAIN_MEASURE forms G = 0x8000 x
384 x 4,096 / (sum - offset sum) and O, within their limits, as working values and goes to the delay step; otherwise
the column's retirement falls due. CAL_DELAY_TRIM of a whole sweep, of 16 codes and those within 3 of their best, sets
the code of greatest response per lit slot, or fails at 0 and 63. LOCKIN_WINDOW_END of a whole window that is void for
no ring of the group, none of which leaves its range or its window limit: each ring's trim moves by its step of Table
6.2 and a ring within tolerance is locked; while one is not locked the engine stays at the group, and with all of them
locked it leaves it. CAL_DRIVE_TABLE with a good sweep takes the ring's 8 entries and goes to the next ring; after the
last one the column's values are staged and the tile goes to VERIFY, or to PROMOTE without a standby; a table that
fails makes the column's retirement due. ACQUISITION_PASS_START of a tile without valid values and none to be restored:
the tile is in ACQUIRE and none of its column stages is switched off; ACQUISITION_PASS_DONE of whole measurements keeps
the results for the next frame boundary, and marks spare rows whose rings failed. Outside its step a command changes
nothing, and of the tile only what is named changes. -/
def Obligations.ColumnCalibrationAdvancesStepByStep : Prop :=
  ∀ (s : State) (t : Fin 256) (x : Tile) (c : Nat), s.tl t.val = x → x.roles.calcol = c →
    (∀ (i : Instr) (ph : Nat), ((∃ n, (i, ph) = (.calOffsetMeasure t n, 2)) ∨ (∃ n, (i, ph) = (.calGainMeasure t n, 3)) ∨
        (∃ l, (i, ph) = (.calDelayTrim t l, 4)) ∨ (∃ a b, (i, ph) = (.lockinWindowEnd t a b, 5)) ∨
        (∃ w, (i, ph) = (.calDriveTable t w, 6))) →
      s.calAt t.val ph = false → exec i s = .next (settle s s)) ∧
    (∀ sum, s.calAt t.val 2 = true → exec (.calOffsetMeasure t sum) s = .next (settle s (s.setTl t.val
      { x with ranCal := x.run.isSome, cal := { x.cal with offSum := sum, phase := 3 } }))) ∧
    (∀ sum d g o : Int, s.calAt t.val 3 = true → d = sum - x.cal.offSum →
      g = roundHalfEven (32768 * 384 * 4096) d → o = roundHalfEven (64 * x.cal.offSum * g) (32768 * 4096) →
      ((0 < d ∧ 0x6000 ≤ g ∧ g ≤ 0xA000 ∧ o.natAbs ≤ 2048) → Answers (exec (.calGainMeasure t sum) s) (fun u =>
        u.tl t.val = { x with ranCal := x.run.isSome, cal := { x.cal with phase := 4, val := (u.tl t.val).cal.val } } ∧
        tget 0 (qCol c 0) (u.tl t.val).cal.val = g ∧ tget 0 (qCol c 1) (u.tl t.val).cal.val = o ∧
        (∀ q, q ≠ qCol c 0 → q ≠ qCol c 1 → s.work t.val (u.tl t.val).cal q = s.work t.val x.cal q) ∧
        (∀ k, k ≠ t.val → u.tl k = s.tl k) ∧ u.mem = s.mem ∧ u.fr = s.fr)) ∧
      (¬ (0 < d ∧ 0x6000 ≤ g ∧ g ≤ 0xA000 ∧ o.natAbs ≤ 2048) → exec (.calGainMeasure t sum) s = .next (settle s (s.setTl t.val
        { x with ranCal := x.run.isSome, cal := {}, colDue := x.colDue ++ [c] })))) ∧
    (∀ (resp : List Samples) (row : Nat) (ps qs : List SweepPt) (b p : SweepPt) (pt : Nat × Samples → SweepPt),
      s.calAt t.val 4 = true → lowRow x.rowFail = some row → (∀ m ∈ resp, m.raw.length = 1024) →
      (∀ e, pt e = ⟨e.1, s.litOf t.val x.rowFail row 1024 e.2.lit, s.ySum t.val c x.cal e.2.raw⟩) →
      ps = (trimCodes.zip (resp.take 16)).map pt → bestTrim ps = some b →
      resp.length = 16 + (trimNear b.code).length → qs = ((trimNear b.code).zip (resp.drop 16)).map pt →
      bestTrim (ps ++ qs) = some p →
      (p.code ≠ 0 → p.code ≠ 63 → Answers (exec (.calDelayTrim t resp) s) (fun u =>
        p ∈ ps ++ qs ∧ (∀ q ∈ ps ++ qs, q.lit ≠ 0 → q.sum * p.lit ≤ p.sum * q.lit) ∧
        u.tl t.val = { x with ranCal := x.run.isSome, cal := { x.cal with phase := 5, group := 0, val := (u.tl t.val).cal.val } } ∧
        tget 0 (qCol c 2) (u.tl t.val).cal.val = p.code ∧
        (∀ q, q ≠ qCol c 2 → s.work t.val (u.tl t.val).cal q = s.work t.val x.cal q) ∧
        (∀ k, k ≠ t.val → u.tl k = s.tl k) ∧ u.mem = s.mem ∧ u.fr = s.fr)) ∧
      ((p.code = 0 ∨ p.code = 63) → exec (.calDelayTrim t resp) s = .next (settle s (s.setTl t.val
        { x with ranCal := x.run.isSome, cal := {}, colDue := x.colDue ++ [c] })))) ∧
    (∀ w : LockWin, s.calAt t.val 5 = true → wholeWin w = false → exec (.lockinWindowEnd t w.raw w.lit) s = .next (settle s s)) ∧
    (∀ (w : LockWin) (ys : List Int) (out : Nat × Bool → Bool × Int), s.calAt t.val 5 = true → wholeWin w = true →
      x.cal.group < 22 → ys = w.raw.map (s.ySum t.val c x.cal) →
      (∀ r ∈ groupRings x.rowFail x.cal.group, tget false (2 * r.1 + b2n r.2) x.cal.locked = false ∧
        tget 0 (2 * r.1 + b2n r.2) x.cal.windows < 7 ∧
        windowOutcome r.2 (2 * (r.1 % 6) + b2n r.2) (Config.fLayer t.val (qRing r.1 c r.2 9))
          (Config.fLayer t.val (qRing r.1 c r.2 10)) (Config.fLayer t.val (qRing r.1 c r.2 11))
          (s.litOf t.val x.rowFail r.1 (8192 * 40 * 32) (w.lit.getD (r.1 % 6) 0)) ys = some (out r) ∧
        0 ≤ s.work t.val x.cal (qRing r.1 c r.2 0) + (out r).2 ∧
        s.work t.val x.cal (qRing r.1 c r.2 0) + (out r).2 ≤ 1023) →
      Answers (exec (.lockinWindowEnd t w.raw w.lit) s) (fun u =>
        (∀ r ∈ groupRings x.rowFail x.cal.group, tget false (2 * r.1 + b2n r.2) (u.tl t.val).cal.locked = (out r).1 ∧
          tget 0 (2 * r.1 + b2n r.2) (u.tl t.val).cal.windows = tget 0 (2 * r.1 + b2n r.2) x.cal.windows + 1 ∧
          s.work t.val (u.tl t.val).cal (qRing r.1 c r.2 0) = s.work t.val x.cal (qRing r.1 c r.2 0) + (out r).2) ∧
        ((∃ r ∈ groupRings x.rowFail x.cal.group, (out r).1 = false) →
          (u.tl t.val).cal.phase = 5 ∧ (u.tl t.val).cal.group = x.cal.group) ∧
        ((∀ r ∈ groupRings x.rowFail x.cal.group, (out r).1 = true) →
          (u.tl t.val).cal.phase = 6 ∨ x.cal.group < (u.tl t.val).cal.group) ∧
        u.tl t.val = { x with ranCal := x.run.isSome, cal := (u.tl t.val).cal } ∧ (∀ k, k ≠ t.val → u.tl k = s.tl k) ∧
        u.mem = s.mem ∧ u.fr = s.fr)) ∧
    (∀ (sweep : Sweep) (ps : List SweepPt), s.calAt t.val 6 = true → x.cal.ring < 264 → bitOf x.rowFail (x.cal.ring / 2) = false →
      s.sweepPoints t.val c x.colRun (x.cal.ring / 2) sweepCodes sweep = some ps →
      (∀ es, driveTable (decide (x.cal.ring % 2 = 1)) ps = some es →
        (ringFrom x.rowFail (x.cal.ring + 1) 264 = 264 → Answers (exec (.calDriveTable t ⟨sweep, none⟩) s) (fun u =>
          ∃ w, u.tl t.val = { x with ranCal := x.run.isSome, staged := some w, cal := {}, cmp := {}
                                     rot := if x.roles.standby = 0xFF then 3 else 4 } ∧ es.length = 8 ∧
            (∀ j, j < 8 → tget 0 (qRing (x.cal.ring / 2) c (decide (x.cal.ring % 2 = 1)) (j + 1)) w.val = es.getD j 0) ∧
            (∀ k, k ≠ t.val → u.tl k = s.tl k) ∧ u.mem = s.mem ∧ u.fr = s.fr)) ∧
        (ringFrom x.rowFail (x.cal.ring + 1) 264 < 264 → Answers (exec (.calDriveTable t ⟨sweep, none⟩) s) (fun u =>
          u.tl t.val = { x with ranCal := x.run.isSome, cal := (u.tl t.val).cal } ∧ (u.tl t.val).cal.phase = 6 ∧
          (u.tl t.val).cal.ring = ringFrom x.rowFail (x.cal.ring + 1) 264 ∧
          (∀ j, j < 8 → tget 0 (qRing (x.cal.ring / 2) c (decide (x.cal.ring % 2 = 1)) (j + 1)) (u.tl t.val).cal.val = es.getD j 0) ∧
          (∀ k, k ≠ t.val → u.tl k = s.tl k) ∧ u.mem = s.mem ∧ u.fr = s.fr))) ∧
      (driveTable (decide (x.cal.ring % 2 = 1)) ps = none → x.cal.ring / 2 % 33 ≠ 32 →
        exec (.calDriveTable t ⟨sweep, none⟩) s = .next (settle s (s.setTl t.val
          { x with ranCal := x.run.isSome, cal := {}, colDue := x.colDue ++ [c] })))) ∧
    (x.backDue = false →
      (x.valid = false → (x.rot = 0 ∨ x.rot = 6 ∨ x.rot = 7) → s.mayRotate t.val = true →
        Answers (exec (.acquisitionPassStart t) s) (fun u =>
          u.tl t.val = { x with rot := 1, cal := {}, staged := none, ranCal := x.run.isSome } ∧
          (∀ k, k / 520 = t.val → tget false k u.lp.stageOff = false) ∧
          (∀ k, k / 520 ≠ t.val → tget false k u.lp.stageOff = tget false k s.lp.stageOff) ∧
          (∀ k, k ≠ t.val → u.tl k = s.tl k) ∧ u.mem = s.mem ∧ u.fr = s.fr)) ∧
      ((x.valid = true ∨ ¬ (x.rot = 0 ∨ x.rot = 6 ∨ x.rot = 7) ∨ s.mayRotate t.val = false) →
        exec (.acquisitionPassStart t) s = .next (settle s s))) ∧
    (∀ (cols : List ColMeas) (wins : List (List LockWin)) (tabs : List (List Sweep)),
      ((x.rot ≠ 1 ∨ s.mayRotate t.val = false ∨ s.passRuns t.val 0 cols wins tabs = none) →
        exec (.acquisitionPassDone t cols wins tabs) s = .next (settle s s)) ∧
      (∀ (rs : List ColRun) (bad : List Nat), x.rot = 1 → s.mayRotate t.val = true → s.passRuns t.val 0 cols wins tabs = some rs →
        bad = (List.range 130).filter (fun i => (rs[i]?.map (·.bad)).getD true) →
        exec (.acquisitionPassDone t cols wins tabs) s = .next (settle s (s.setTl t.val
          { x with acqEnd := some ((rs.filter (fun r => !r.bad)).flatMap (·.work.val), bad)
                   rowFail := rs.foldl (fun m r => Nat.lor m r.rowFail) x.rowFail }))))

/-- A zone command waits for the next zone update, completes there with its result, and one at a time. ZONE_LOAD,
ZONE_ENABLE, ZONE_DISABLE, ZONE_CLEAR and ZONE_REINIT from a path that may write the page: with none pending the
command is kept and ZONE_STAT shows it BUSY; while one is pending the write is discarded. At the next ZONE_UPDATE
(here of a zone that is OFF) it completes: a LOAD whose words carry a good CRC and are in range becomes the working
set of that OFF zone, one that is not is rejected with its reason and LOAD_REJECT, and changes no zone; ENABLE and
DISABLE set and clear the zone's enable, ENABLE with ALL that of every zone, and a running zone that is disabled goes
to OFF at the next period; CLEAR of a zone in FAULT and REINIT of a LOCKED one fall due at the next period, a fault
already found or the way to OFF staying due, and are rejected with reason 3 in any other state. -/
def Obligations.ZoneCommandsWaitForNextUpdate : Prop :=
  ∀ (s : State) (p : Path) (z zz : Fin 1024) (all : Bool) (q0 q1 : List (BitVec 12)),
    (∀ (c : Instr) (k : Nat),
      (c, k) ∈ [(Instr.zoneLoad p z all, 1), (Instr.zoneEnable p z all, 2), (Instr.zoneDisable p z all, 3),
        (Instr.zoneClear p z all, 4), (Instr.zoneReinit p z all, 5)] →
      (s.mayPath p pgLoop = true → s.lp.cmd = none → exec c s = .next (settle s
        { s.setReg pgLoop 0x4C (z.val * 2 ^ 16 + 1) with lp := { s.lp with cmd := some (k, z.val, all) } })) ∧
      (s.mayPath p pgLoop = true → s.lp.cmd.isSome = true → exec c s = .next (settle s s)) ∧
      (s.mayPath p pgLoop = false → exec c s = .next (settle s (s.deny p pgLoop)))) ∧
    ((s.zn zz.val).st = .off →
      (s.lp.cmd = some (1, zz.val, false) →
        (s.loadReason zz.val = 0 → Answers (exec (.zoneUpdate zz q0 q1) s) (fun u =>
          u.zn zz.val = { s.zn zz.val with work := s.coefWords zz.val 63, load := none } ∧
          u.reg pgLoop 0x4C = zz.val * 2 ^ 16 ∧ u.lp.cmd = none ∧
          (∀ k, k ≠ zz.val → u.zn k = s.zn k) ∧ u.tile = s.tile ∧ u.mem = s.mem ∧ u.fr = s.fr)) ∧
        (s.loadReason zz.val ≠ 0 → (s.zn zz.val).load = none → Answers (exec (.zoneUpdate zz q0 q1) s) (fun u =>
          (∀ k, u.zn k = s.zn k) ∧ u.reg pgLoop 0x4C = zz.val * 2 ^ 16 + s.loadReason zz.val * 2 ^ 4 + 2 ∧
          bitOf (u.raw pgLoop) 4 = true ∧ u.lp.cmd = none ∧ u.tile = s.tile ∧ u.mem = s.mem))) ∧
      ((s.zn zz.val).load = none → s.lp.cmd = some (2, z.val, true) → Answers (exec (.zoneUpdate zz q0 q1) s) (fun u =>
        (∀ k, k < 1024 → u.zn k = { s.zn k with en := true }) ∧ u.reg pgLoop 0x4C = z.val * 2 ^ 16 ∧ u.lp.cmd = none)) ∧
      (∀ (k : Nat) (y : Zone), (s.zn zz.val).load = none → z ≠ zz → s.lp.cmd = some (k, z.val, false) →
        (k = 2 ∧ y = { s.zn z.val with en := true } ∨
          k = 3 ∧ (s.zn z.val).runs = false ∧ y = { s.zn z.val with en := false } ∨
          k = 3 ∧ (s.zn z.val).runs = true ∧
            y = { s.zn z.val with en := false, due := if 4 ≤ (s.zn z.val).due then (s.zn z.val).due else 1 } ∨
          k = 4 ∧ (s.zn z.val).st = .fault ∧ y = { s.zn z.val with due := 1 } ∨
          k = 5 ∧ (s.zn z.val).st = .locked ∧ y = { s.zn z.val with
            due := if 4 ≤ (s.zn z.val).due ∨ (s.zn z.val).due = 1 then (s.zn z.val).due else 2 }) →
        Answers (exec (.zoneUpdate zz q0 q1) s) (fun u => u.zn z.val = y ∧ u.reg pgLoop 0x4C = z.val * 2 ^ 16 ∧
          u.lp.cmd = none ∧ (∀ k, k ≠ z.val → u.zn k = s.zn k) ∧ u.tile = s.tile ∧ u.mem = s.mem ∧ u.fr = s.fr)) ∧
      (∀ k, (k = 4 ∧ (s.zn z.val).st ≠ .fault ∨ k = 5 ∧ (s.zn z.val).st ≠ .locked) → (s.zn zz.val).load = none →
        s.lp.cmd = some (k, z.val, false) → Answers (exec (.zoneUpdate zz q0 q1) s) (fun u =>
          (∀ i, u.zn i = s.zn i) ∧ u.reg pgLoop 0x4C = z.val * 2 ^ 16 + 3 * 2 ^ 4 + 2 ∧ u.lp.cmd = none)))

/-- The zone update of a period, the start of a period, stage shorts, test signal and capture. ZONE_UPDATE of a running
zone, once in a period (a WARM zone's set-point is its target): the zone is what the control law and the supervision
give of the measurement of its pilots (none: the innovation is 0 and CNT3 counts) and of the injected value; CNT5
counts an acting clamp; its next output is at most 65,535. LOOP_PERIOD_START at a multiple of 16,000 ticks, once there,
with one zone: a running zone inside its warm-up limit outputs the code its update left, or keeps its code, counted in
CNT2, where there is none; a zone due for lock is LOCKED with its event; a zone due for a fault is in FAULT with its
cause, CNT6 and its event; a disabled zone, or one whose group leaves A0 and A1, is OFF with output 0; an enabled OFF
zone with coefficients and light enters WARM at its target; a second LOOP_PERIOD_START at the boundary changes nothing.
STAGE_SHORT is latched, counted and raised and faults a column or marks the pilot. TEST_CFG_WRITE starts or stops the
injection at the next period; CAP_ARM arms a capture or is refused; CAP_STOP ends one. -/
def Obligations.LoopPeriodsUpdateAndSuperviseZones : Prop :=
  ∀ (s : State) (p : Path) (z : Fin 1024) (x : Zone), s.zn z.val = x →
    (∀ (q0 q1 : List (BitVec 12)) (w : Zone), x.runs = true → x.fresh = false → x.load = none → s.en pgLoop = true →
      s.lp.cmd = none → (s.lp.capOn = false ∨ fld (s.reg pgLoop 0x90) 9 0 ≠ z.val) →
      w = (if x.st = .warm then { x with s := x.target } else x) → ∀ n a,
      w.update (w.measure q0 q1) (s.loopInputs (z.val / 4)).1 (s.loopInputs (z.val / 4)).2.1 (s.injOf z.val)
        (bitOf (s.reg pgLoop 0x84) 30) = (n, a) →
      (n.yValid = (w.measure q0 q1).isSome ∧ (w.measure q0 q1 = none → n.r = 0) ∧ ∃ c, n.next = some c ∧ c ≤ 65535) ∧
      Answers (exec (.zoneUpdate z q0 q1) s) (fun u =>
        u.zn z.val = Zone.supervise { n with theta := add32 (x.c 55) (n.dot 28), fresh := true } (fld (s.reg pgLoop 0x40) 23 16) ∧
        u.cntLive pgLoop 3 = (if w.measure q0 q1 = none then min (s.cntLive pgLoop 3 + 1) (2 ^ 64 - 1) else s.cntLive pgLoop 3) ∧
        u.cntLive pgLoop 5 = (if a then min (s.cntLive pgLoop 5 + 1) (2 ^ 64 - 1) else s.cntLive pgLoop 5) ∧
        (∀ k, k ≠ z.val → u.zn k = s.zn k) ∧ u.tile = s.tile ∧ u.mem = s.mem ∧ u.fr = s.fr)) ∧
    (s.tb.tick % 16000 = 0 → s.lp.began = s.tb.tick / 16000 + 1 → exec .loopPeriodStart s = .next (settle s s)) ∧
    (s.tb.tick % 16000 = 0 → s.lp.began ≠ s.tb.tick / 16000 + 1 → s.lp.zone = [(z.val, x)] → s.lp.cmd = none →
      s.lp.capArmed = false → s.lp.capOn = false → s.lp.inj = false → s.lp.injDue = false → s.lp.period % 16 ≠ 15 →
      s.en pgLoop = true → ∀ inTime : Prop,
      inTime = (x.st = .warm → s.tb.tick < x.warmAt + 256000 * fld (s.reg pgLoop 0x40) 15 0) →
      (∀ c, x.runs = true → inTime → x.en = true → s.groupStays z.val = true → x.next = some c → x.due = 0 →
        Answers (exec .loopPeriodStart s) (fun u =>
          u.zn z.val = { x with code := c, next := none, fresh := false, pilotOff := x.pilotOff || x.pilotShort } ∧
          u.lp.period = s.tb.tick / 16000 ∧ u.cntLive pgLoop 0 = min (s.cntLive pgLoop 0 + 1) (2 ^ 64 - 1) ∧
          u.tile = s.tile ∧ u.mem = s.mem ∧ u.fr = s.fr)) ∧
      (x.runs = true → inTime → x.en = true → s.groupStays z.val = true → x.next = none → x.due = 0 →
        Answers (exec .loopPeriodStart s) (fun u => (u.zn z.val).code = x.code ∧ (u.zn z.val).st = x.st ∧
          bitOf (u.raw pgLoop) 2 = true ∧ u.cntLive pgLoop 2 = min (s.cntLive pgLoop 2 + 1) (2 ^ 64 - 1))) ∧
      (x.st = .warm → x.en = true → s.groupStays z.val = true → x.due = 3 →
        Answers (exec .loopPeriodStart s) (fun u => (u.zn z.val).st = .locked ∧ bitOf (u.raw pgLoop) 1 = true)) ∧
      (∀ c, c < 4 → x.runs = true → x.due = 4 + c → Answers (exec .loopPeriodStart s) (fun u => (u.zn z.val).st = .fault ∧
        (u.zn z.val).cause = c ∧ bitOf (u.raw pgLoop) 0 = true ∧ (u.tl (z.val / 4)).ready = false ∧
        u.cntLive pgLoop 6 = min (s.cntLive pgLoop 6 + 1) (2 ^ 64 - 1))) ∧
      (x.st = .warm → ¬ inTime → x.due = 0 → Answers (exec .loopPeriodStart s) (fun u => (u.zn z.val).st = .fault ∧
        (u.zn z.val).cause = 3 ∧ bitOf (u.raw pgLoop) 0 = true)) ∧
      (x.runs = true → inTime → x.due < 4 → (x.en = false ∨ s.groupStays z.val = false) →
        Answers (exec .loopPeriodStart s) (fun u => (u.zn z.val).st = .off ∧ (u.zn z.val).code = 0)) ∧
      (x.st = .off → x.en = true → s.groupLit z.val = true → x.due = 0 → x.load = none → x.work ≠ [] →
        Answers (exec .loopPeriodStart s) (fun u => (u.zn z.val).st = .warm ∧ (u.zn z.val).s = x.target ∧
          (u.zn z.val).warmAt = s.tb.tick ∧ (u.zn z.val).x = [0, 0, 0, 0] ∧ (u.zn z.val).work = x.work))) ∧
    (∀ c : Fin 130, tget false (130 * z.val + c.val) s.lp.stageOff = false → tget false (130 * z.val + c.val) s.lp.stageDue = false →
      bitOf (s.tl (z.val / 4)).retired c.val = false → c.val ∉ (s.tl (z.val / 4)).colDue →
      Answers (exec (.stageShort z (some c)) s) (fun u => tget false (130 * z.val + c.val) u.lp.stageDue = true ∧
        u.cntLive pgLoop 7 = min (s.cntLive pgLoop 7 + 1) (2 ^ 64 - 1) ∧ bitOf (u.raw pgLoop) 6 = true ∧
        (u.tl (z.val / 4)).colDue = (s.tl (z.val / 4)).colDue ++ [c.val] ∧ (∀ k, u.zn k = s.zn k))) ∧
    (x.pilotShort = false → exec (.stageShort z none) s =
      .next (settle s ((s.countRaise pgLoop 7 6).setZn z.val { x with pilotShort := true }))) ∧
    (∀ v : BitVec 32, s.mayPath p pgLoop = true → bitOf (s.reg pgLoop 0x84) 31 = false → s.lp.inj = false →
      Answers (exec (.testCfgWrite p v) s) (fun u => u.reg pgLoop 0x84 = Nat.land v.toNat 0xE0FF03FF ∧
        u.lp = { s.lp with injDue := bitOf v.toNat 31 } ∧ u.tile = s.tile ∧ u.mem = s.mem)) ∧
    (s.mayPath p pgLoop = true →
      (rangeInHub s.capAddr 131072 = true → s.capAddr % 4096 = 0 → exec (.capArm p) s = .next (settle s
        { s.setReg pgLoop 0x98 0 with lp := { s.lp with capArmed := true, capOn := false } })) ∧
      ((rangeInHub s.capAddr 131072 = false ∨ s.capAddr % 4096 ≠ 0) → Answers (exec (.capArm p) s) (fun u =>
        u.lp = s.lp ∧ bitOf (u.reg pgLoop 0x98) 18 = true ∧ fld (u.reg pgLoop 0x98) 17 0 = fld (s.reg pgLoop 0x98) 17 16 * 2 ^ 16 +
          fld (s.reg pgLoop 0x98) 12 0)) ∧
      ((s.lp.capOn = true ∨ s.lp.capArmed = true) → Answers (exec (.capStop p) s) (fun u => u.lp.capOn = false ∧
        u.lp.capArmed = false ∧ bitOf (u.reg pgLoop 0x98) 17 = true ∧ bitOf (u.reg pgLoop 0x98) 16 = false ∧
        bitOf (u.raw pgLoop) 5 = true ∧ u.mem = s.mem)))

/-- Operation lists start on lanes from plans and envelopes, suspend one another and end. ACTION_VSU with a due valid VSU
record naming one enabled lane: a free lane begins the list at LIST; a running envelope list is suspended, counted and
raised (PREEMPT); behind an earlier frame-plan list it waits; the action waits for the lane. VSU_ENV_LIST_START with
ENV_EN and no list on the lane consumes the next admitted envelope and begins its list under the envelope's tenant; an
envelope of another kind or a poisoned one is consumed and counted invalid. VSU_LIST_COMPLETE of a list that has
ended: the lane's part of its action is complete, and the next waiting list, or the suspended one, goes on. A list
that has run 256 blocks without LAST ends with fault cause 2, one at an opcode that is none with cause 1, and one at a
block that is misplaced, poisoned or lost with cause 3, 7 or 8: OP_FAULT, FAULT_INFO where it holds no fault, CNT8; a
frame fault for a frame-plan list. What FAULT_INFO holds beside the cause where no block faults, and the causes of a
block that cannot be read, are the model's choice (log 32). -/
def Obligations.ListsStartSuspendAndEndOnLanes : Prop :=
  ∀ (s : State) (lane : Fin 16),
    (∀ r, s.nextRecord = some r → s.recDue r = true → s.recValid r = true → r.ty = 4 → fld r.w1 15 0 = 2 ^ lane.val →
      s.en (pgVsu lane.val) = true → s.actOf s.fr.num s.fr.nextRec = none →
      ∀ l, l = VList.mk (fld r.w2 47 0) 0 0 s.fr.num (some (s.fr.num, s.fr.nextRec)) none false →
      ((s.lane lane.val).cur = none → Answers (exec .actionVsu s) (fun u =>
        u.lane lane.val = { s.lane lane.val with cur := some l } ∧ (∀ k, k ≠ lane.val → u.lane k = s.lane k) ∧
        u.actOf s.fr.num s.fr.nextRec = some ⟨s.fr.num, s.fr.nextRec, 4, r.noslack, r.start, r.bound, r.tag, [lane.val], false, false⟩ ∧
        u.mem = s.mem ∧ u.tile = s.tile ∧ u.q = s.q)) ∧
      (∀ c, (s.lane lane.val).cur = some c → c.act = none → c.ended = false → Answers (exec .actionVsu s) (fun u =>
        u.lane lane.val = { s.lane lane.val with cur := some l, susp := some c } ∧ bitOf (u.raw (pgVsu lane.val)) 6 = true ∧
        u.cntLive (pgVsu lane.val) 9 = min (s.cntLive (pgVsu lane.val) 9 + 1) (2 ^ 64 - 1))) ∧
      (∀ c a, (s.lane lane.val).cur = some c → c.act = some a → Answers (exec .actionVsu s) (fun u =>
        u.lane lane.val = { s.lane lane.val with waiting := (s.lane lane.val).waiting ++ [l] }))) ∧
    (∀ q, s.en (pgVsu lane.val) = true → bitOf (s.reg (pgVsu lane.val) 0x40) 31 = true → (s.lane lane.val).cur = none →
      (s.lane lane.val).susp = none → q = fld (s.reg (pgVsu lane.val) 0x40) 17 0 → ∀ e pois, (s.consume q).1 = some (e, pois) →
      (pois = false → fld (envW0 e) 3 0 = 1 → Answers (exec (.vsuEnvListStart lane) s) (fun u =>
        (u.lane lane.val).cur = some ⟨fld (leNat ((e.drop 16).take 8)) 47 0, 0, fld (envW0 e) 7 4, s.admFrame q (s.qd q).head,
          none, some (q, (s.qd q).head), false⟩ ∧ (u.qd q).head = ((s.qd q).head + 1) % 2 ^ 21)) ∧
      ((pois = true ∨ fld (envW0 e) 3 0 ≠ 1) → Answers (exec (.vsuEnvListStart lane) s) (fun u =>
        (u.lane lane.val).cur = none ∧ bitOf (u.raw (pgVsu lane.val)) 5 = true ∧
        (u.qd q).head = ((s.qd q).head + 1) % 2 ^ 21))) ∧
    (∀ l, (s.lane lane.val).cur = some l → s.en (pgVsu lane.val) = true →
      (l.ended = true → Answers (exec (.vsuListComplete lane) s) (fun u =>
        (∀ w ws, (s.lane lane.val).waiting = w :: ws → (u.lane lane.val).cur = some w ∧ (u.lane lane.val).waiting = ws ∧
          (u.lane lane.val).susp = (s.lane lane.val).susp) ∧
        ((s.lane lane.val).waiting = [] → (u.lane lane.val).cur = (s.lane lane.val).susp ∧ (u.lane lane.val).susp = none) ∧
        (∀ f i a, l.act = some (f, i) → s.actOf f i = some a →
          u.actOf f i = some { a with parts := a.parts.filter (· != lane.val) }) ∧
        (∀ k, k ≠ lane.val → u.lane k = s.lane k) ∧ u.mem = s.mem ∧ u.tile = s.tile ∧ u.q = s.q)) ∧
      (∀ (op cause : Nat), l.ended = false →
        ((256 ≤ l.blk ∧ op = fld (s.reg (pgVsu lane.val) 0x44) 31 24 ∧ cause = 2) ∨
          (l.blk < 256 ∧ cause = 1 ∧ ∃ b, s.peekBlk l = .inl b ∧ b.op = op ∧ op ∉ opcodes) ∨
          (l.blk < 256 ∧ op = 0 ∧ s.peekBlk l = .inr cause)) →
        Answers (exec (.vsuListComplete lane) s) (fun u => (u.lane lane.val).fault = true ∧ bitOf (u.raw (pgVsu lane.val)) 0 = true ∧
          u.cntLive (pgVsu lane.val) 8 = min (s.cntLive (pgVsu lane.val) 8 + 1) (2 ^ 64 - 1) ∧
          (s.reg (pgVsu lane.val) 0x48 = 0 →
            u.reg (pgVsu lane.val) 0x48 = op * 2 ^ 24 + l.blk % 256 * 2 ^ 8 + cause) ∧
          (l.act ≠ none → bitOf (u.raw pgFrame) 1 = true)) ∧
      (∀ b, l.ended = false → l.blk < 256 → s.peekBlk l = .inl b → b.op ∈ opcodes →
        exec (.vsuListComplete lane) s = .next (settle s s))))

/-- Each operation of Table 5.3 at the block its list has come to commits whole, or stops the list with its fault cause.
For each of the 22 operations, on an enabled lane whose list has come to a block of that operation's opcode: the block
names its writes and posts; when the operation finds no fault these are made with its result word and sync-cell add,
it counts in CNT0 and its steps in CNT1, and the list goes on to the next block or ends with LAST. When it finds a
fault none of its writes is made: the list ends, the lane is in fault with OP_FAULT, CNT8 counts, and a frame-plan
list's frame is faulted. An operation with an operand or a ring in memory that is in standby waits. A block of another
operation is left alone. -/
def Obligations.OperationsRunWholeOrFault : Prop :=
  ∀ (s : State) (lane : Fin 16) (bad : List Nat) (c : Instr) (op : Nat) (sem : VBlk → VEnv → VEnv) (l : VList) (b : VBlk),
    (c, op, sem) ∈ [(Instr.vsuAdd lane bad, 0x01, vAdd), (Instr.vsuMul lane bad, 0x02, vMul), (Instr.vsuFma lane bad, 0x03, vFma),
        (Instr.vsuScale lane bad, 0x04, vScale), (Instr.vsuTopk lane bad, 0x10, vTopk), (Instr.vsuSoftmax lane bad, 0x11, vSoftmax),
        (Instr.vsuNorm lane bad, 0x12, vNorm), (Instr.vsuRope lane bad, 0x13, vRope), (Instr.vsuSample lane bad, 0x14, vSample),
        (Instr.vsuIsect lane bad, 0x20, vIsect), (Instr.vsuUnion lane bad, 0x21, vUnion), (Instr.vsuDiff lane bad, 0x22, vDiff),
        (Instr.vsuHprobe lane bad, 0x28, vHprobe), (Instr.vsuHinsert lane bad, 0x29, vHinsert), (Instr.vsuCsr lane bad, 0x30, vCsr),
        (Instr.vsuGather lane bad, 0x38, vGather), (Instr.vsuScatterAdd lane bad, 0x39, vScatterAdd), (Instr.vsuSegred lane bad, 0x3A, vSegred),
        (Instr.vsuConvert lane bad, 0x40, vConvert), (Instr.vsuStats lane bad, 0x41, vStats), (Instr.vsuQuant lane bad, 0x42, vQuant),
        (Instr.vsuPost lane bad, 0x48, vPost)] →
    (s.lane lane.val).cur = some l → s.en (pgVsu lane.val) = true → l.ended = false → l.blk < 256 → s.peekBlk l = .inl b →
    (b.op ≠ op → exec c s = .next (settle s s)) ∧
    (b.op = op → ∀ (s1 : State) (v : VEnv),
      s1 = (s.setReg (pgVsu lane.val) 0x44 (op * 2 ^ 24 + l.blk * 2 ^ 8)).fetchBlk l
        (if bad.contains (l.at / 64) then .uncorrectable else .clean) →
      v = sem b (VEnv.need (VEnv.need
        { s := s1, agent := 4096 + lane.val, tenant := l.tenant, bad := bad, exact := !b.tolerant, frame := l.frame } (!bad.contains (l.at / 64)) 8)
           (decide (b.res = 0) || (decide (b.res % 8 = 0) && rangeInHub b.res 8)) 3) →
      ((v.wait = true ∨ (v.posts ≠ [] ∧ s1.qmemAwake = false)) → exec c s = .next (settle s s)) ∧
      (v.wait = false → (v.posts = [] ∨ s1.qmemAwake = true) → v.cause = 0 →
        exec c s = .next (settle s (v.s.commitOp lane.val l b v)) ∧ Answers (exec c s) (fun u =>
        (u.lane lane.val).cur = some { l with blk := l.blk + 1, ended := b.last } ∧
        u.cntLive (pgVsu lane.val) 0 = min (v.s.cntLive (pgVsu lane.val) 0 + 1) (2 ^ 64 - 1) ∧
        u.cntLive (pgVsu lane.val) 1 = min (v.s.cntLive (pgVsu lane.val) 1 + vsuSteps b v.count) (2 ^ 64 - 1) ∧
        (v.outs = [] → v.posts = [] → b.res = 0 → b.syncEn = false → u.mem = v.s.mem))) ∧
      (v.wait = false → (v.posts = [] ∨ s1.qmemAwake = true) → v.cause ≠ 0 → Answers (exec c s) (fun u => (u.lane lane.val).cur = some { l with ended := true } ∧
        (u.lane lane.val).fault = true ∧ bitOf (u.raw (pgVsu lane.val)) 0 = true ∧
        (l.act = none → v.s.rg.logOn = false → u.mem = v.s.mem ∧ u.q = v.s.q) ∧
        (l.act ≠ none → bitOf (u.raw pgFrame) 1 = true))))

/-- What ADD, MUL, FMA, CONVERT and the set operations write. For arrays placed and aligned as R144 asks, read without
fault: ADD of two sources, MUL, FMA and CONVERT write, in order, N elements, each the binary32 (one rounding per step,
FMA with one rounding in all) or exact integer result of its own position narrowed to OTYPE, a result being poisoned
when one of its inputs is; COUNT is N. ISECT, UNION and DIFF of strictly rising key lists give the strictly rising
list of exactly the keys that are in both, in either, or in A and not in B, up to the capacity; COUNT is its full
length and TRUNCATED says that it was cut. -/
def Obligations.ElementwiseAndSetOperationsCompute : Prop :=
  ∀ (b : VBlk) (v : VEnv) (xs ys : List El), v.cause = 0 → v.outs = [] →
    (∀ (sem : VBlk → VEnv → VEnv) (srcs : List Nat) (fn : List VNum → VNum) (cols : List (List El)),
      (sem, srcs, fn) ∈ [(vAdd, [b.a, (b.a + b.imm) % 2 ^ 48], fun q => if tyFloat b.ity
            then .fl (fadd (q.getD 0 (.int 0)).f (q.getD 1 (.int 0)).f) else .int ((q.getD 0 (.int 0)).i + (q.getD 1 (.int 0)).i)),
        (vMul, [b.a, b.b], fun q => if tyFloat b.ity
            then .fl (fmul (q.getD 0 (.int 0)).f (q.getD 1 (.int 0)).f) else .int ((q.getD 0 (.int 0)).i * (q.getD 1 (.int 0)).i)),
        (vFma, [b.a, b.b, b.aux], fun q => if tyFloat b.ity
            then .fl (ffma (q.getD 0 (.int 0)).f (q.getD 1 (.int 0)).f (q.getD 2 (.int 0)).f)
            else .int ((q.getD 0 (.int 0)).i * (q.getD 1 (.int 0)).i + (q.getD 2 (.int 0)).i)),
        (vConvert, [b.a], fun q => q.getD 0 (.int 0))] →
      b.ity < 9 → b.oty < 9 → (sem = vAdd → fld b.param 1 0 = 0) → cols.length = srcs.length →
      (∀ j, j < srcs.length → v.arr (srcs.getD j 0) b.n (tySize b.ity) false = v ∧
        v.load (srcs.getD j 0) b.n b.ity = (cols.getD j [], v)) →
      v.arr b.dst b.n (tySize b.oty) false = v →
      ∀ row : Nat → List El, (∀ i, row i = cols.map (fun c => c.getD i ⟨.int 0, false⟩)) →
      (∀ i, i < b.n → (narrow b.oty (fn ((row i).map (·.v)))).2.2 = false) →
      (sem b v).cause = 0 ∧ (sem b v).count = b.n ∧ (sem b v).s = v.s ∧
      ∃ bs, (sem b v).outs = [(b.dst, bs)] ∧ bs.length = b.n * tySize b.oty ∧ ∀ i, i < b.n →
        (bs.drop (i * tySize b.oty)).take (tySize b.oty) =
          (leBytes (tySize b.oty) (narrow b.oty (fn ((row i).map (·.v)))).1).map (fun x => (x, anyP (row i)))) ∧
    (∀ (sem : VBlk → VEnv → VEnv) (keep : Nat → Prop) (ka kb : List Nat),
      (sem, keep) ∈ [(vIsect, fun k => k ∈ ka ∧ k ∈ kb), (vUnion, fun k => k ∈ ka ∨ k ∈ kb), (vDiff, fun k => k ∈ ka ∧ k ∉ kb)] →
      7 ≤ b.ity → b.ity < 9 → 7 ≤ b.oty → b.oty < 9 → v.arr b.a b.n (tySize b.ity) false = v → v.arr b.b b.l (tySize b.ity) false = v →
      (∀ n, n ≤ b.param → v.arr b.dst n (tySize b.oty) false = v) →
      v.load b.a b.n b.ity = (xs, v) → v.load b.b b.l b.ity = (ys, v) →
      ka = xs.map (fun e => e.v.i.toNat) → kb = ys.map (fun e => e.v.i.toNat) → ka.Pairwise (· < ·) → kb.Pairwise (· < ·) →
      ∃ ks : List Nat, ks.Pairwise (· < ·) ∧ (∀ k, k ∈ ks ↔ keep k) ∧ (sem b v).count = ks.length ∧
        (sem b v).trunc = decide (b.param < ks.length) ∧ (sem b v).s = v.s ∧
        ∃ bs, (sem b v).outs = [(b.dst, bs)] ∧ ((∀ k ∈ ks, k < 2 ^ (8 * tySize b.oty)) →
          bs.map (·.1) = (ks.take b.param).flatMap (leBytes (tySize b.oty))))

/-- A stream starts from an action or an envelope, is checked, stopped and cleared; the check units compare and begin.
ACTION_STREAM with a due valid STREAM record: a context that is not LOADING, ACTIVE or in FAULT enters LOADING with the
record's descriptor address; a start that names one LOADING or ACTIVE is fault cause 2 of it: FAULT, CNT13, STREAM_FAULT
and a frame fault; one that names a context in FAULT starts nothing (the model's reading, log 31). STREAM_ENV_START
takes the next admitted envelope of the start pigeonhole and starts its context under the envelope's tenant, with the
same outcomes; an envelope of another kind only leaves the queue. STREAM_DESC_CHECK of a LOADING context: a good
descriptor, of a WEIGHT stream with a good header, whose check unit is free, makes it ACTIVE, binds the unit and counts
in CNT0; one that cannot be read or is bad is fault cause 1, a unit that cannot be bound 3, a bad header 4, a lost one
6 and a poisoned one 7. STREAM_STOP of an ACTIVE detached context stops it, at once at a request boundary with nothing
outstanding; STREAM_CLEAR takes a faulted one to IDLE; both are refused otherwise. SHARE_FLUSH empties the weight share cache. CHECK_COMPARE of a queue-bound unit shows and counts
its verdict, of another is ignored; CHECK_INIT gives RUNNING its initial value, and is rejected while stream-bound. -/
def Obligations.StreamsStartCheckStopAndClear : Prop :=
  ∀ (s : State) (c : Fin 4096) (p : Path) (n : Fin 32),
    (∀ r, s.nextRecord = some r → s.recDue r = true → s.recValid r = true → r.ty = 2 → fld r.w1 11 0 = c.val →
      s.en pgStream = true → s.actOf s.fr.num s.fr.nextRec = none →
      ((s.cx c.val).busy = false → (s.cx c.val).st ≠ 5 → Answers (exec .actionStream s) (fun u =>
        u.cx c.val = { st := 1, desc := fld r.w2 47 0, act := some (s.fr.num, s.fr.nextRec), kind := (s.cx c.val).kind } ∧
        (∀ k, k ≠ c.val → u.cx k = s.cx k) ∧
        u.actOf s.fr.num s.fr.nextRec = some ⟨s.fr.num, s.fr.nextRec, 2, r.noslack, r.start, r.bound, r.tag, [0], false, false⟩ ∧
        (s.curRec = none → u.mem = s.mem ∧ u.tile = s.tile ∧ u.q = s.q))) ∧
      ((s.cx c.val).busy = true → Answers (exec .actionStream s) (fun u => (u.cx c.val).st = 5 ∧ (u.cx c.val).cause = 2 ∧
        (u.cx c.val).reqs = [] ∧ u.unitOf c.val = none ∧ (∀ k, k ≠ c.val → u.cx k = s.cx k) ∧ bitOf (u.raw pgStream) 0 = true ∧
        u.cntLive pgStream 13 = min (s.cntLive pgStream 13 + 1) (2 ^ 64 - 1) ∧ bitOf (u.raw pgFrame) 1 = true)) ∧
      ((s.cx c.val).st = 5 → Answers (exec .actionStream s) (fun u => (∀ k, u.cx k = s.cx k) ∧
        u.actOf s.fr.num s.fr.nextRec = some ⟨s.fr.num, s.fr.nextRec, 2, r.noslack, r.start, r.bound, r.tag, [], true, false⟩ ∧
        u.mem = s.mem ∧ u.tile = s.tile ∧ u.q = s.q ∧ u.cnt = s.cnt))) ∧
    (∀ q e pois, s.en pgStream = true → bitOf (s.reg pgStream 0x40) 31 = true → q = fld (s.reg pgStream 0x40) 17 0 →
      (s.consume q).1 = some (e, pois) →
      (pois = false → fld (envW0 e) 3 0 = 2 → fld (leNat ((e.drop 16).take 2)) 11 0 = c.val → Answers (exec .streamEnvStart s) (fun u =>
        ((s.cx c.val).busy = false → (s.cx c.val).st ≠ 5 → u.cx c.val =
            { st := 1, desc := fld (leNat ((e.drop 24).take 8)) 47 0, tenant := fld (envW0 e) 7 4, env := some (q, (s.qd q).head),
              kind := (s.cx c.val).kind }) ∧
        ((s.cx c.val).busy = true → (u.cx c.val).st = 5 ∧ (u.cx c.val).cause = 2) ∧
        ((s.cx c.val).st = 5 → u.cx c.val = s.cx c.val) ∧
        (∀ k, k ≠ c.val → u.cx k = s.cx k) ∧ (u.qd q).head = ((s.qd q).head + 1) % 2 ^ 21)) ∧
      ((pois = true ∨ fld (envW0 e) 3 0 ≠ 2) → Answers (exec .streamEnvStart s) (fun u => (∀ k, u.cx k = s.cx k) ∧
        (u.qd q).head = ((s.qd q).head + 1) % 2 ^ 21))) ∧
    (∀ (w : List Nat) (s1 : State) (x : Ctx), s.en pgStream = true → (s.cx c.val).st = 1 →
      s.readDesc 0 (s.cx c.val).tenant 4 (s.cx c.val).desc = (some w, s1) → x = { s.cx c.val with w := w } →
      ∀ y, y = { x with kind := x.kindOf % 16, det := x.detached || x.env.isSome, bucket := x.burst * 4096 } →
      ((s1.setCx c.val y).descBad y = false → ∀ (h : Bytes) (pois : Bool) (s2 : State) (z : Ctx) (n : Nat), n = fld (y.dw 0) 12 8 →
        ((y.kind ≠ 1 ∧ pois = false ∧ s2 = s1.setCx c.val y ∧ z = y) ∨
          (y.kind = 1 ∧ s.headerAwake c.val = true ∧ s.mayPhys y.tenant y.srcBase false = true ∧
            (((s1.setCx c.val y).headerLook y.srcBase).gRead 0 (y.srcBase / 64) .clean) = ((h, pois), s2) ∧
            z = { y with w := w ++ [leNat (h.take 8), leNat ((h.drop 8).take 8)] })) →
        (pois = false → (y.kind = 1 → headerOk z h = true) → (bitOf (y.dw 0) 6 = true → s2.unitBusy n = false) →
          Answers (exec (.streamDescCheck c) s) (fun u => u.cx c.val = { z with st := 2, env := none } ∧
            (∀ k, k ≠ c.val → u.cx k = s2.cx k) ∧ u.cntLive pgStream 0 = min (s2.cntLive pgStream 0 + 1) (2 ^ 64 - 1) ∧
            (bitOf (y.dw 0) 6 = true → tget none n u.chk = some c.val ∧ u.reg64 (pgCheck n) 0x50 = y.dw 7 % 2 ^ 64) ∧
            (bitOf (y.dw 0) 6 = false → u.chk = s2.chk) ∧ u.mem = s2.mem ∧ u.tile = s2.tile ∧ u.link = s2.link ∧ u.q = s2.q)) ∧
        (∀ cause : Nat, ((pois = true ∧ cause = (if (s1.setCx c.val y).granLost (y.srcBase / 64) .clean then 6 else 7)) ∨
            (pois = false ∧ y.kind = 1 ∧ headerOk z h = false ∧ cause = 4) ∨
            (pois = false ∧ (y.kind = 1 → headerOk z h = true) ∧ bitOf (y.dw 0) 6 = true ∧ s2.unitBusy n = true ∧ cause = 3)) →
          Answers (exec (.streamDescCheck c) s) (fun u => (u.cx c.val).st = 5 ∧ (u.cx c.val).cause = cause ∧
            bitOf (u.raw pgStream) 0 = true ∧ bitOf (u.raw pgFrame) 1 = true))) ∧
      ((s1.setCx c.val y).descBad y = true → s.headerAwake c.val = true → Answers (exec (.streamDescCheck c) s) (fun u =>
        (u.cx c.val).st = 5 ∧ (u.cx c.val).cause = 1 ∧ bitOf (u.raw pgStream) 0 = true ∧ bitOf (u.raw pgFrame) 1 = true))) ∧
    (s.en pgStream = true → (s.cx c.val).st = 1 → (s.readDesc 0 (s.cx c.val).tenant 4 (s.cx c.val).desc).1 = none →
      Answers (exec (.streamDescCheck c) s) (fun u => (u.cx c.val).st = 5 ∧ (u.cx c.val).cause = 1 ∧
        bitOf (u.raw pgStream) 0 = true ∧ bitOf (u.raw pgFrame) 1 = true)) ∧
    (s.mayPath p pgStream = true → fld (s.sel p pgStream 0x48) 11 0 = c.val →
      ((s.cx c.val).st = 2 → (s.cx c.val).det = true → s.stopHere c.val = true → (s.cx c.val).reqs = [] →
        s.flitsOf c.val (s.cx c.val).linkOf = 0 → Answers (exec (.streamStop p) s) (fun u => (u.cx c.val).st = 4 ∧ u.unitOf c.val = none ∧
          (∀ k, k ≠ c.val → u.cx k = s.cx k))) ∧
      ((s.cx c.val).st = 2 → (s.cx c.val).det = true → (s.stopHere c.val = false ∨ (s.cx c.val).reqs ≠ [] ∨
        s.flitsOf c.val (s.cx c.val).linkOf ≠ 0) → exec (.streamStop p) s = .next (settle s (s.setCx c.val { s.cx c.val with stop := true }))) ∧
      (((s.cx c.val).st ≠ 2 ∨ (s.cx c.val).det = false) → exec (.streamStop p) s = .next (settle s (s.raise pgStream 2))) ∧
      ((s.cx c.val).st = 5 → Answers (exec (.streamClear p) s) (fun u => u.cx c.val = { s.cx c.val with st := 0, cause := 0 } ∧
        (∀ k, k ≠ c.val → u.cx k = s.cx k))) ∧
      ((s.cx c.val).st ≠ 5 → exec (.streamClear p) s = .next (settle s (s.raise pgStream 2)))) ∧
    (s.mayPath p pgStream = true → exec (.shareFlush p) s = .next (settle s { s with share := { s.share with sets := [] } })) ∧
    (s.mayPath p (pgCheck n.val) = true →
      (s.en (pgCheck n.val) = true → bitOf (s.reg (pgCheck n.val) 0x40) 1 = true → tget none n.val s.chk = none →
        Answers (exec (.checkCompare p n) s) (fun u =>
          u.reg (pgCheck n.val) 0x5C = (if s.unitMatches n.val then 3 else 1) ∧
          u.cntLive (pgCheck n.val) 1 = min (s.cntLive (pgCheck n.val) 1 + 1) (2 ^ 64 - 1) ∧
          u.cntLive (pgCheck n.val) 2 = (if s.unitMatches n.val then s.cntLive (pgCheck n.val) 2
            else min (s.cntLive (pgCheck n.val) 2 + 1) (2 ^ 64 - 1)) ∧
          (s.unitMatches n.val = false → bitOf (u.raw (pgCheck n.val)) 0 = true) ∧
          u.reg64 (pgCheck n.val) 0x48 = s.reg64 (pgCheck n.val) 0x48 ∧ u.mem = s.mem ∧ u.stm = s.stm)) ∧
      ((s.en (pgCheck n.val) = false ∨ bitOf (s.reg (pgCheck n.val) 0x40) 1 = false ∨ tget none n.val s.chk ≠ none) →
        exec (.checkCompare p n) s = .next (settle s s)) ∧
      (tget none n.val s.chk = none → Answers (exec (.checkInit p n) s) (fun u =>
        u.reg64 (pgCheck n.val) 0x48 = (if s.reg (pgCheck n.val) 0x40 % 2 = 0 then 2 ^ 32 - 1 else 0) ∧
        bitOf (u.reg (pgCheck n.val) 0x5C) 0 = false ∧ u.stm = s.stm)) ∧
      (∀ k, tget none n.val s.chk = some k → exec (.checkInit p n) s = .next (settle s (s.raise (pgCheck n.val) 3))))

/-- A stream issues its next read when it may, and its data lands in order with its poison mark. STREAM_READ_ISSUE of a
context that wants a read and is granted it: the context is ACTIVE and not stopping, its bucket covers the length
where it has a rate, the request joins its outstanding ones and the bytes count as requested; a context that wants
none, or is not granted, is unchanged. STREAM_READ_DATA for a stream of a memory array to a memory array, its oldest
request one clean granule of hub SRAM, outside commit windows: the destination's 64 bytes become the source's, but for
one that another stream or a lane has written in this frame (a source granule that another agent has written since the
last sync-cell operation is not one of these), with the mark of the source (an exact stream is given
none poisoned: there it is fault cause 7), no other byte or mark of memory changes, the position advances by 64 and
CNT1 counts 64 bytes; the stream is DONE with its last byte. For the duration no undo record is open. -/
def Obligations.StreamReadsAreGrantedAndDelivered : Prop :=
  ∀ (s : State) (c : Fin 4096),
    (∀ a len hit pt, s.en pgStream = true → s.wants c.val = some (a, len, hit, pt) → s.granted c.val pt = true →
      (s.cx c.val).st = 2 ∧ s.stopping c.val = false ∧ ((s.cx c.val).rate ≠ 0 → 16 * len ≤ (s.cx c.val).bucket) ∧ len ≤ 256 ∧
      Answers (exec (.streamReadIssue c) s) (fun u =>
        u.cx c.val = { s.cx c.val with
          issued := (s.cx c.val).issued + len
          reqs := (s.cx c.val).reqs ++ [⟨a, len, hit, false⟩]
          bucket := if (s.cx c.val).rate = 0 then (s.cx c.val).bucket else (s.cx c.val).bucket - 16 * len } ∧
        (∀ k, k ≠ c.val → u.cx k = s.cx k) ∧ u.mem = s.mem ∧ u.tile = s.tile ∧ u.fr = s.fr ∧ u.link = s.link)) ∧
    ((s.en pgStream = false ∨ s.wants c.val = none ∨ ∃ a len hit pt, s.wants c.val = some (a, len, hit, pt) ∧ s.granted c.val pt = false) →
      exec (.streamReadIssue c) s = .next (settle s s)) ∧
    (∀ (x : Ctx) (r : SReq) (rs : List SReq) (d b b' : Nat) (tol : Bool), s.cx c.val = x → x.reqs = r :: rs →
      s.en pgStream = true → x.st = 2 → x.stop = false → x.kind = 0 → x.srcG.ring = false → x.dstG.ring = false → x.tolerant = tol →
      r.len = 64 → r.hit = false → r.addr % 64 = 0 → regionOf r.addr = .hub b → d = x.dstBase + x.pos → d % 64 = 0 →
      regionOf d = .hub b' → s.mayPhys x.tenant r.addr false = true → s.mayPhys x.tenant d true = true → s.fr.wins = [] →
      s.unitOf c.val = none → s.curRec = none → tget 0 (r.addr / 64) s.mem.err = 0 →
      (∀ bs, s.unsynced c.val (r.addr / 64) bs = (bs, s)) →
      ((s.mem.mark (r.addr / 64) = false ∨ tol = true) → Answers (exec (.streamReadData c []) s) (fun u =>
        (∀ i, i < 64 → s.clash c.val (d + i) = false → u.mem.byte (d + i) = s.mem.byte (r.addr + i)) ∧ u.mem.mark (d / 64) = s.mem.mark (r.addr / 64) ∧
        (∀ a, (a < d ∨ d + 64 ≤ a) → u.mem.byte a = s.mem.byte a) ∧ (∀ g, g ≠ d / 64 → u.mem.mark g = s.mem.mark g) ∧
        (u.cx c.val).pos = x.pos + 64 ∧ u.cntLive pgStream 1 = min (s.cntLive pgStream 1 + 64) (2 ^ 64 - 1) ∧
        u.cntLive pgStream 12 = (if s.mem.mark (r.addr / 64) then min (s.cntLive pgStream 12 + 1) (2 ^ 64 - 1) else s.cntLive pgStream 12) ∧
        (x.pos + 64 < x.length → (u.cx c.val).reqs = rs ∧ (u.cx c.val).st = 2) ∧
        (x.length ≤ x.pos + 64 → (u.cx c.val).st = 3) ∧ (∀ k, k ≠ c.val → u.cx k = s.cx k) ∧ u.tile = s.tile ∧ u.link = s.link)) ∧
      (s.mem.mark (r.addr / 64) = true → tol = false → Answers (exec (.streamReadData c []) s) (fun u => (u.cx c.val).st = 5 ∧
        (u.cx c.val).cause = 7 ∧ (u.cx c.val).pos = x.pos ∧ bitOf (u.raw pgStream) 0 = true ∧ bitOf (u.raw pgFrame) 1 = true)))

/-- A doorbell is accepted, found full or invalid; descriptor and profile writes are held; the diversion window ends.
DOORBELL of a queue the function may access: a value with a bit above 20 is invalid. For KIND 2, n the distance from
TAIL: within the free slots it is accepted, TAIL becomes the value and the n envelopes wait to become pending; within
the ring but not the free slots it overflows with its event; beyond the ring it is invalid. For KIND 3 it moves HEAD
at the next boundary, no further than ADMIT, else it is invalid; for any other kind it is invalid. The outcome is kept
and counted (CNT2, CNT3, CNT4). Another tenant's queue is a violation of source 1 and nothing else. QUEUE_DESC_WRITE
holds its half until the boundary, the descriptor in force staying; PROFILE_WRITE likewise, or is rejected above DEPTH
2^20. BAR2_BAD_ACCESS completes and is counted. DL_WINDOW_END moves the count of the diversions of the window that has
ended to DL_STAT and raises DL_RATE above THRESH. -/
def Obligations.DoorbellsAreJudgedAndDescriptorsHeld : Prop :=
  ∀ (s : State) (fn : Fin 16) (q : Fin 262144) (v : BitVec 64) (p : Path),
    (s.mayQueue fn.val q.val = false → exec (.doorbell fn q v) s = .next (settle s (s.violate fn.val 1))) ∧
    (s.mayQueue fn.val q.val = true → ∀ d n, s.qd q.val = d → n = posDiff (v.toNat % 2 ^ 21) d.tail →
      ((2 ^ 21 ≤ v.toNat ∨ (d.kind ≠ 2 ∧ d.kind ≠ 3) ∨ (d.kind = 2 ∧ 2 ^ d.log2sz - posDiff d.tail d.head < n ∧ 2 ^ d.log2sz < n) ∨
          (d.kind = 3 ∧ posDiff d.admPos ((tget none q.val s.q.headDue).getD d.head) <
            posDiff (v.toNat % 2 ^ 21) ((tget none q.val s.q.headDue).getD d.head))) →
        Answers (exec (.doorbell fn q v) s) (fun u => tget 0 q.val u.q.lastDb = 2 ∧
          u.cntLive pgQueue 4 = min (s.cntLive pgQueue 4 + 1) (2 ^ 64 - 1) ∧ u.q.desc = s.q.desc ∧ u.q.headDue = s.q.headDue ∧
          u.q.fresh = s.q.fresh ∧ u.mem = s.mem)) ∧
      (v.toNat < 2 ^ 21 → d.kind = 2 → n ≤ 2 ^ d.log2sz - posDiff d.tail d.head → Answers (exec (.doorbell fn q v) s) (fun u =>
        u.qd q.val = { d with tail := v.toNat } ∧ tget 0 q.val u.q.fresh = tget 0 q.val s.q.fresh + n ∧
        tget 0 q.val u.q.lastDb = 0 ∧ u.cntLive pgQueue 2 = min (s.cntLive pgQueue 2 + 1) (2 ^ 64 - 1) ∧
        (∀ k, k ≠ q.val → u.qd k = s.qd k ∧ tget 0 k u.q.fresh = tget 0 k s.q.fresh) ∧ u.mem = s.mem ∧ u.sy = s.sy)) ∧
      (v.toNat < 2 ^ 21 → d.kind = 2 → 2 ^ d.log2sz - posDiff d.tail d.head < n → n ≤ 2 ^ d.log2sz →
        Answers (exec (.doorbell fn q v) s) (fun u => tget 0 q.val u.q.lastDb = 1 ∧ bitOf (u.raw pgQueue) 0 = true ∧
          u.cntLive pgQueue 3 = min (s.cntLive pgQueue 3 + 1) (2 ^ 64 - 1) ∧ u.q.desc = s.q.desc ∧ u.q.fresh = s.q.fresh)) ∧
      (v.toNat < 2 ^ 21 → d.kind = 3 → posDiff v.toNat ((tget none q.val s.q.headDue).getD d.head) ≤
          posDiff d.admPos ((tget none q.val s.q.headDue).getD d.head) → Answers (exec (.doorbell fn q v) s) (fun u =>
        tget none q.val u.q.headDue = some v.toNat ∧ tget 0 q.val u.q.lastDb = 0 ∧ u.q.desc = s.q.desc ∧
        u.cntLive pgQueue 2 = min (s.cntLive pgQueue 2 + 1) (2 ^ 64 - 1)))) ∧
    (∀ half : Bool, s.mayPathQ p q.val = true → Answers (exec (.queueDescWrite p q half v) s) (fun u =>
      tget none (2 * q.val + b2n half) u.q.descHeld = some (v.toNat, pathTenant p, decide (p = .core) && !s.sec.lock) ∧
      (∀ k, k ≠ 2 * q.val + b2n half → tget none k u.q.descHeld = tget none k s.q.descHeld) ∧ u.q.desc = s.q.desc ∧ u.mem = s.mem)) ∧
    (∀ k : Fin 256, s.mayPath p pgQueue = true →
      (profDepth v.toNat ≤ 2 ^ 20 → Answers (exec (.profileWrite p k v) s) (fun u => u.q.prof = s.q.prof ∧
        ∃ w, tget 0 k.val u.q.profNext = w ∧ profLimit w = profLimit v.toNat ∧ profOrder w = profOrder v.toNat ∧
          profDlEn w = profDlEn v.toNat ∧ profDepth w = profDepth v.toNat ∧ profDlq w = profDlq v.toNat)) ∧
      (2 ^ 20 < profDepth v.toNat → exec (.profileWrite p k v) s = .next (settle s (s.raise pgQueue 8)))) ∧
    (∀ wr : Bool, Answers (exec (.bar2BadAccess fn wr) s) (fun u => u.resp = (if wr then .ok else .word 0) ∧
      u.cntLive pgHost 1 = min (s.cntLive pgHost 1 + 1) (2 ^ 64 - 1) ∧ bitOf (u.raw pgHost) 0 = true ∧ u.q = s.q ∧ u.mem = s.mem)) ∧
    (s.fr.dlDue = false → exec .dlWindowEnd s = .next (settle s s)) ∧
    (s.fr.dlDue = true → Answers (exec .dlWindowEnd s) (fun u => u.q.dlEnded = 0 ∧ u.q.dlCount = s.q.dlCount ∧ u.fr.dlDue = false ∧
      fld (u.reg pgQueue 0x4C) 23 0 = min s.q.dlEnded (2 ^ 24 - 1) ∧
      bitOf (u.reg pgQueue 0x4C) 31 = decide (fld (s.reg pgQueue 0x48) 31 8 < s.q.dlEnded) ∧
      (fld (s.reg pgQueue 0x48) 31 8 < s.q.dlEnded → bitOf (u.raw pgQueue) 2 = true) ∧ u.q.desc = s.q.desc ∧ u.mem = s.mem))

/-- The sync-cell operations, from a register path and from a plan, the cell write and the watch FIFO. On a register path
whose cell is allowed: ADD adds the signed 40-bit immediate modulo 2^64, SET sets it, CAS sets the new value when the
cell equals the compared one and says so, WAIT_GE says whether the cell has reached the immediate, ARM arms a watch or
fires it at once, and is refused when 1,024 are armed; each keeps the cell's former value where it answers it, counts
in CNT8, and changes no other cell; ADMIT and RELEASE are refused. No armed watch that the new value meets stays
armed. A cell of another tenant is left alone and its results read 0. From a plan ADD, SET and CAS change the cell
likewise and complete, WAIT_GE waits until it is met, and an ARM that finds no free watch never completes.
SYNC_CELL_WRITE sets the whole value. WATCH_POP answers and removes the head of the FIFO (a debug read removes
nothing), and clears OVERFLOW when it finds it empty. -/
def Obligations.SyncOperationsChangeTheirCell : Prop :=
  ∀ (s : State) (p : Path) (w : BitVec 64) (c : Fin 8192) (imm old : Nat), opCell w.toNat = c.val → opImm w.toNat = imm →
    s.cell c.val = old →
    (s.mayPath p pgQueue = true → s.mayPathCell p c.val = true →
      (∀ (i : Instr) (k new : Nat) (met : Bool), (i, k, new, met) ∈
        [(Instr.syncAdd (.reg p w), 0, untwos 64 (old + sext 40 imm), false), (Instr.syncSet (.reg p w), 1, imm % 2 ^ 64, false),
         (Instr.syncCas (.reg p w), 2, if old = fld imm 19 0 then fld imm 39 20 else old, decide (old = fld imm 19 0)),
         (Instr.syncWaitGe (.reg p w), 3, old, decide (imm ≤ old))] → opCode w.toNat = k →
        Answers (exec i s) (fun u => u.cell c.val = new ∧ (∀ d, d ≠ c.val → u.cell d = s.cell d) ∧
          tget false (pathIx p) u.hif.met = met ∧ tget false (pathIx p) u.hif.refused = false ∧
          tget 0 (pathIx p) u.hif.old = old ∧
          (k < 2 → ∀ x ∈ u.sy.watches, x ∈ s.sy.watches ∧ (x.1 = c.val → new < x.2)) ∧
          u.cntLive pgQueue 8 = min (s.cntLive pgQueue 8 + 1) (2 ^ 64 - 1) ∧ u.stm = s.stm)) ∧
      (opCode w.toNat = 4 → s.sy.watches.length < 1024 →
        (imm ≤ old → s.sy.fifo.length < 1024 → Answers (exec (.syncArm (.reg p w)) s) (fun u => u.sy.fifo = s.sy.fifo ++ [c.val] ∧
          u.sy.watches = s.sy.watches ∧ bitOf (u.raw pgQueue) 5 = true ∧ u.sy.cells = s.sy.cells ∧
          u.cntLive pgQueue 9 = min (s.cntLive pgQueue 9 + 1) (2 ^ 64 - 1))) ∧
        (old < imm → Answers (exec (.syncArm (.reg p w)) s) (fun u => u.sy = { s.sy with watches := s.sy.watches ++ [(c.val, imm)] } ∧
          tget false (pathIx p) u.hif.refused = false))) ∧
      (opCode w.toNat = 4 → 1024 ≤ s.sy.watches.length → Answers (exec (.syncArm (.reg p w)) s) (fun u => u.sy = s.sy ∧
        bitOf (u.raw pgQueue) 6 = true ∧ tget false (pathIx p) u.hif.refused = true)) ∧
      (∀ (i : Instr) (k : Nat), (i, k) ∈ [(Instr.syncAdmit (.reg p w), 5), (Instr.syncRelease (.reg p w), 6)] → opCode w.toNat = k →
        Answers (exec i s) (fun u => tget false (pathIx p) u.hif.refused = true ∧ u.sy = s.sy ∧ u.q = s.q ∧ u.mem = s.mem))) ∧
    (s.mayPathCell p c.val = true → Answers (exec (.syncCellWrite p c w) s) (fun u => u.cell c.val = w.toNat ∧
      (∀ d, d ≠ c.val → u.cell d = s.cell d) ∧ u.cntLive pgQueue 8 = min (s.cntLive pgQueue 8 + 1) (2 ^ 64 - 1))) ∧
    (s.mayPathCell p c.val = false → exec (.syncCellWrite p c w) s = .next (settle s (s.deny p pgQueue))) ∧
    (s.mayPath p pgQueue = true → s.mayPathCell p c.val = false → ∀ (i : Instr) (k : Nat), (i, k) ∈ [(Instr.syncAdd (.reg p w), 0),
        (Instr.syncSet (.reg p w), 1), (Instr.syncCas (.reg p w), 2), (Instr.syncWaitGe (.reg p w), 3), (Instr.syncArm (.reg p w), 4)] →
      opCode w.toNat = k → Answers (exec i s) (fun u => u.sy = s.sy ∧ u.mem = s.mem ∧ tget false (pathIx p) u.hif.met = false ∧
        tget false (pathIx p) u.hif.refused = false ∧ tget 0 (pathIx p) u.hif.old = 0)) ∧
    (s.mayPathR p pgQueue = true →
      (∀ h hs, s.sy.fifo = h :: hs → exec (.watchPop p) s = .next (settle s (State.answer
        { s with sy := { s.sy with fifo := if p = .debug then h :: hs else hs } } (.word (2 ^ 31 + h))))) ∧
      (s.sy.fifo = [] → exec (.watchPop p) s = .next (settle s (State.answer
        { s with sy := { s.sy with ovf := if p = .debug then s.sy.ovf else false } } (.word 0))))) ∧
    (∀ r, s.nextRecord = some r → s.recDue r = true → s.recValid r = true → r.ty = 5 → r.w1 = w.toNat →
      s.actOf s.fr.num s.fr.nextRec = none →
      (∀ (i : Instr) (k new : Nat), (i, k, new) ∈ [(Instr.syncAdd .plan, 0, untwos 64 (old + sext 40 imm)),
          (Instr.syncSet .plan, 1, imm % 2 ^ 64), (Instr.syncCas .plan, 2, if old = fld imm 19 0 then fld imm 39 20 else old)] →
        opCode w.toNat = k → Answers (exec i s) (fun u => u.cell c.val = new ∧ (∀ d, d ≠ c.val → u.cell d = s.cell d) ∧
          u.cntLive pgQueue 8 = min (s.cntLive pgQueue 8 + 1) (2 ^ 64 - 1) ∧
          u.actOf s.fr.num s.fr.nextRec = some ⟨s.fr.num, s.fr.nextRec, 5, r.noslack, r.start, r.bound, r.tag, [], false, false⟩)) ∧
      (opCode w.toNat = 3 → Answers (exec (.syncWaitGe .plan) s) (fun u => u.sy.cells = s.sy.cells ∧
        u.actOf s.fr.num s.fr.nextRec = some ⟨s.fr.num, s.fr.nextRec, 5, r.noslack, r.start, r.bound, r.tag,
          if imm ≤ old then [] else [0], false, false⟩ ∧
        u.sy.waits = (if imm ≤ old then s.sy.waits else s.sy.waits ++ [⟨s.fr.num, s.fr.nextRec, c.val, imm⟩]))) ∧
      (opCode w.toNat = 4 → s.sy.watches.length < 1024 → old < imm → Answers (exec (.syncArm .plan) s) (fun u =>
        u.sy = { s.sy with watches := s.sy.watches ++ [(c.val, imm)] } ∧
        u.actOf s.fr.num s.fr.nextRec = some ⟨s.fr.num, s.fr.nextRec, 5, r.noslack, r.start, r.bound, r.tag, [], false, false⟩)) ∧
      (opCode w.toNat = 4 → 1024 ≤ s.sy.watches.length → Answers (exec (.syncArm .plan) s) (fun u => u.sy = s.sy ∧
        bitOf (u.raw pgQueue) 6 = true ∧
        u.actOf s.fr.num s.fr.nextRec = some ⟨s.fr.num, s.fr.nextRec, 5, r.noslack, r.start, r.bound, r.tag, [], true, false⟩)))

/-- A plan's ADMIT makes every pending envelope of a queue admitted, its RELEASE consumes them. SYNC_ADMIT from a plan,
the queue engine enabled and queue memory out of standby, over a range whose one configured queue is of KIND 1 or 2, with no limit, posting order, no
diversion and no cell of its own: ADMIT becomes TAIL, CNT1 counts the envelopes, HEAD and TAIL stay, and CELL (when
not 0) gains 1. SYNC_RELEASE from a plan: HEAD of every KIND 1 queue of the range becomes its ADMIT, and no ADMIT or
TAIL moves. With the engine disabled neither is applied and the action never completes; with queue memory in standby
the operation waits, and its action with it. -/
def Obligations.AdmissionAndReleaseMovePositions : Prop :=
  ∀ (s : State) (r : ARec), s.nextRecord = some r → s.recDue r = true → s.recValid r = true → r.ty = 5 →
    s.actOf s.fr.num s.fr.nextRec = none →
    (∀ (q : Nat) (d : QDesc), opCode r.w1 = 5 → s.en pgQueue = true → s.qmemAwake = true → s.mem.err = [] → s.queuesIn (opFirst r.w1) (opCount r.w1) = [q] → s.qd q = d →
      (d.kind = 1 ∨ d.kind = 2) → d.sync = 0 → d.tail < 2 ^ 21 → d.admPos < 2 ^ 21 → tget 0 q s.q.fresh = 0 →
      profLimit (tget 0 d.profile s.q.prof) = 0 → profOrder (tget 0 d.profile s.q.prof) = false →
      profDlEn (tget 0 d.profile s.q.prof) = false →
      Answers (exec (.syncAdmit .plan) s) (fun u => (u.qd q).admPos = d.tail ∧ (u.qd q).head = d.head ∧ (u.qd q).tail = d.tail ∧
        u.cntLive pgQueue 1 = min (s.cntLive pgQueue 1 + posDiff d.tail d.admPos) (2 ^ 64 - 1) ∧
        (∀ k, k ≠ q → u.qd k = s.qd k) ∧
        (opCell r.w1 ≠ 0 → u.cell (opCell r.w1) = (s.cell (opCell r.w1) + 1) % 2 ^ 64) ∧
        (∀ k, k ≠ opCell r.w1 ∨ k = 0 → u.cell k = s.cell k) ∧
        u.cntLive pgQueue 8 = min (s.cntLive pgQueue 8 + 1) (2 ^ 64 - 1) ∧
        u.actOf s.fr.num s.fr.nextRec = some ⟨s.fr.num, s.fr.nextRec, 5, r.noslack, r.start, r.bound, r.tag, [], false, false⟩)) ∧
    (opCode r.w1 = 6 → s.en pgQueue = true → s.qmemAwake = true → s.mem.err = [] → Answers (exec (.syncRelease .plan) s) (fun u =>
      (∀ q, opFirst r.w1 ≤ q → q < opFirst r.w1 + opCount r.w1 → (s.qd q).kind = 1 → (s.qd q).admPos < 2 ^ 21 → (s.qd q).head < 2 ^ 21 →
        (u.qd q).head = (s.qd q).admPos) ∧
      (∀ q, (u.qd q).admPos = (s.qd q).admPos ∧ (u.qd q).tail = (s.qd q).tail ∧ (u.qd q).kind = (s.qd q).kind) ∧
      u.sy = s.sy ∧ u.cntLive pgQueue 8 = min (s.cntLive pgQueue 8 + 1) (2 ^ 64 - 1))) ∧
    (s.en pgQueue = true → s.qmemAwake = false → ∀ (i : Instr) (k : Nat), (i, k) ∈ [(Instr.syncAdmit .plan, 5), (Instr.syncRelease .plan, 6)] →
      opCode r.w1 = k → Answers (exec i s) (fun u => u.q = { s.q with opDue := s.q.opDue ++ [(s.fr.num, s.fr.nextRec, r.w1)] } ∧
        u.sy = s.sy ∧ u.mem = s.mem ∧
        u.actOf s.fr.num s.fr.nextRec = some ⟨s.fr.num, s.fr.nextRec, 5, r.noslack, r.start, r.bound, r.tag, [0], false, false⟩)) ∧
    (s.en pgQueue = false → ∀ (i : Instr) (k : Nat), (i, k) ∈ [(Instr.syncAdmit .plan, 5), (Instr.syncRelease .plan, 6)] →
      opCode r.w1 = k → Answers (exec i s) (fun u => u.q = s.q ∧ u.sy = s.sy ∧ u.mem = s.mem ∧
        u.actOf s.fr.num s.fr.nextRec = some ⟨s.fr.num, s.fr.nextRec, 5, r.noslack, r.start, r.bound, r.tag, [], true, false⟩))

/-- The states of a link: commands, capture, training, Doze, wake and faults. On a link of a powered, enabled group:
LINK_UP takes OFF to DARK; DARK_CAPTURE_DONE takes DARK to TRAIN with SEQs at 0, empty buffers and the IDENT to send,
deferring the capture under light; LINK_TRAINING_DONE with 64 exchanges sets D to their mean delay, takes the
partner's IDENT and enters RESYNC, or faults with cause 5 on a partner that is not the recorded one;
LINK_TRAIN_TIMEOUT is fault cause 1; ALL_LANES_LOSE_SIGNAL cause 6; LINK_DOWN takes any state to OFF. LINK_DOZE asks
for a later block the module chooses, DOZE_REQ_RX answers with DOZE_ACK, DOZE_ACK_RX fixes the block, DOZE_ENTER
enters DOZE there; DOZE_BEACON sends its word. LINK_WAKE and WAKE_BEACON_RX take DOZE to WAKE; LINK_WAKE_DONE with 16
exchanges enters ACTIVE within GUARD and with the frame numbers agreeing, RESYNC with D to jump otherwise. A command
in a state that does not permit it is refused with CFG_REJECT. A link whose EN is 0 does nothing on any of these events. -/
def Obligations.LinkStatesFollowTheirEvents : Prop :=
  ∀ (s : State) (p : Path) (l : Fin 36) (x : LinkS), s.lnk l.val = x →
    (s.mayPath p (pgLink l.val) = true →
      (x.st ≠ .off → Answers (exec (.linkDown p l) s) (fun u => u.lnk l.val = { x.darken with st := .off } ∧
        bitOf (u.raw (pgLink l.val)) 0 = true ∧ (∀ k, k ≠ l.val → u.lnk k = s.lnk k) ∧ u.mem = s.mem ∧ u.fr = s.fr)) ∧
      (x.st = .off → exec (.linkDown p l) s = .next (settle s (s.setLnk l.val x.darken))) ∧
      (s.linkOn l.val = true → s.en (pgLink l.val) = true →
        (x.st = .off → x.noF = false → Answers (exec (.linkUp p l) s) (fun u => u.lnk l.val = { x with st := .dark } ∧
          bitOf (u.raw (pgLink l.val)) 0 = true ∧ (∀ k, k ≠ l.val → u.lnk k = s.lnk k) ∧ u.mem = s.mem ∧ u.fr = s.fr)) ∧
        (x.st = .active → s.dozeRefused l.val = false → Answers (exec (.linkDoze p l) s) (fun u => ∃ b, b < 2 ^ 32 ∧
          u.lnk l.val = { x with dozeReq := some b, ctl := x.ctl ++ [ctlPad (leBytes 1 4 ++ List.replicate 7 0 ++ leBytes 4 b)] } ∧
          (∀ k, k ≠ l.val → u.lnk k = s.lnk k))) ∧
        (x.st = .doze → Answers (exec (.linkWake p l) s) (fun u =>
          u.lnk l.val = { x with st := .wake, ts := [], lastSlot := leBytes 8 (beaconWord 5 s.fr.num) } ∧
          bitOf (u.raw (pgLink l.val)) 0 = true ∧ (∀ k, k ≠ l.val → u.lnk k = s.lnk k) ∧ u.mem = s.mem ∧ u.fr = s.fr))) ∧
      ((x.st ≠ .off ∨ x.noF = true ∨ s.linkOn l.val = false) →
        exec (.linkUp p l) s = .next (settle s (s.raise (pgLink l.val) 10))) ∧
      ((x.st ≠ .active ∨ s.dozeRefused l.val = true ∨ s.linkOn l.val = false) →
        exec (.linkDoze p l) s = .next (settle s (s.raise (pgLink l.val) 10))) ∧
      ((x.st ≠ .doze ∨ s.linkOn l.val = false) → exec (.linkWake p l) s = .next (settle s (s.raise (pgLink l.val) 10)))) ∧
    (s.mayPath p (pgLink l.val) = false → ∀ c ∈ [Instr.linkUp p l, .linkDown p l, .linkDoze p l, .linkWake p l],
      exec c s = .next (settle s (s.deny p (pgLink l.val)))) ∧
    (s.en (pgLink l.val) = false → ∀ light base i ts f b w, ∀ c ∈ [Instr.darkCaptureDone l light base, .deferredCaptureTaken l base,
        .linkTrainingDone l i ts, .linkTrainTimeout l, .allLanesLoseSignal l, .linkWakeDone l f ts, .dozeReqRx l b, .dozeAckRx l b,
        .dozeEnter l, .dozeBeacon l, .wakeBeaconRx l w], exec c s = .next (settle s s)) ∧
    (s.en (pgLink l.val) = true →
    (∀ light base, x.st = .dark → Answers (exec (.darkCaptureDone l light base) s) (fun u =>
      u.lnk l.val = { x.fresh with st := .train, deferred := light, base := if light then [] else base, ctl := [ctlPad (s.identMsg l.val)] } ∧
      (light = true → bitOf (u.raw (pgLink l.val)) 9 = true) ∧ (∀ k, k ≠ l.val → u.lnk k = s.lnk k) ∧ u.mem = s.mem)) ∧
    (∀ base, x.deferred = true → (x.st = .off ∨ x.st = .dark) → exec (.deferredCaptureTaken l base) s =
      .next (settle s (s.setLnk l.val { x with deferred := false, base := base }))) ∧
    (∀ (i : Ident) (ts : List TsEx), x.st = .train → x.ts.length + ts.length = 64 →
      (s.frozen = false → Answers (exec (.linkTrainingDone l i ts) s) (fun u => u.lnk l.val = LinkS.withIdent
          { x with st := .resync, d := (meanDelay (x.ts ++ ts)).toNat, dTgt := (meanDelay (x.ts ++ ts)).toNat, ts := [] } i ∧
        bitOf (u.raw (pgLink l.val)) 0 = true ∧ (∀ k, k ≠ l.val → u.lnk k = s.lnk k) ∧ u.mem = s.mem)) ∧
      (∀ r, s.frozen = true → i.assigned = true → x.recorded = some r → r ≠ (i.dev.toNat, i.link.toNat) →
        Answers (exec (.linkTrainingDone l i ts) s) (fun u => (u.lnk l.val).st = .fault ∧ (u.lnk l.val).cause = 5 ∧
          bitOf (u.raw (pgLink l.val)) 2 = true))) ∧
    (∀ (c : Instr) (cause : Nat), ((c = .linkTrainTimeout l ∧ cause = 1 ∧ (x.st = .train ∨ x.st = .wake)) ∨
        (c = .allLanesLoseSignal l ∧ cause = 6 ∧ x.lit = true)) → Answers (exec c s) (fun u => u.lnk l.val = { x.darken with st := .fault, cause := cause } ∧
        bitOf (u.raw (pgLink l.val)) 2 = true ∧ (∀ k, k ≠ l.val → u.lnk k = s.lnk k) ∧ u.fr = s.fr)) ∧
    (∀ (f : BitVec 32) (ts : List TsEx) (d : Nat), x.st = .wake → x.ts.length + ts.length = 16 → d = (meanDelay (x.ts ++ ts)).toNat →
      (((d : Int) - x.d).natAbs ≤ s.reg (pgLink l.val) 0x54 → f.toNat = s.fr.num % 2 ^ 32 →
        Answers (exec (.linkWakeDone l f ts) s) (fun u => u.lnk l.val = { x with st := .active, dTgt := d, dJump := false, ts := [] })) ∧
      ((s.reg (pgLink l.val) 0x54 < ((d : Int) - x.d).natAbs ∨ f.toNat ≠ s.fr.num % 2 ^ 32) →
        Answers (exec (.linkWakeDone l f ts) s) (fun u => u.lnk l.val = { x with st := .resync, dTgt := d, dJump := true, ts := [] } ∧
          u.cntLive (pgLink l.val) 12 = min (s.cntLive (pgLink l.val) 12 + 1) (2 ^ 64 - 1) ∧ bitOf (u.raw (pgLink l.val)) 8 = true))) ∧
    (∀ b : BitVec 32, x.st = .active →
      (s.dozeRefused l.val = false → Answers (exec (.dozeReqRx l b) s) (fun u => u.lnk l.val =
        { x with dozeAt := some b.toNat, ctl := x.ctl ++ [ctlPad (leBytes 1 5 ++ List.replicate 7 0 ++ leBytes 4 b.toNat)] })) ∧
      (x.dozeReq = some b.toNat → exec (.dozeAckRx l b) s =
        .next (settle s (s.setLnk l.val { x with dozeReq := none, dozeAt := some b.toNat })))) ∧
    (∀ b, x.st = .active → x.dozeAt = some b → blkReached x.blk b = true → Answers (exec (.dozeEnter l) s) (fun u =>
      u.lnk l.val = { x.darken with st := .doze } ∧ u.cntLive (pgLink l.val) 11 = min (s.cntLive (pgLink l.val) 11 + 1) (2 ^ 64 - 1) ∧
      (∀ k, k ≠ l.val → u.lnk k = s.lnk k) ∧ u.mem = s.mem)) ∧
    (x.st = .doze → s.tb.tick % 1024 = 0 → exec (.dozeBeacon l) s =
      .next (settle s (s.setLnk l.val { x with lastSlot := leBytes 8 (beaconWord 10 s.fr.num) }))) ∧
    (∀ b : BitVec 64, x.st = .doze → b.toNat % 16 = 5 → fld b.toNat 63 48 = 2 ^ 16 - 1 - fld b.toNat 15 0 →
      Answers (exec (.wakeBeaconRx l b) s) (fun u => u.lnk l.val = { x with st := .wake, ts := [] } ∧ u.mem = s.mem ∧
        u.fr = s.fr)))

/-- Line slots: what is sent, what is received, windows and credits. LINK_SLOT of an ACTIVE link: when a lead slot is due
it holds 260 bytes with a good check word and the first 15 waiting Control messages in order, which leave the queue;
when a train is under way and the next flit fits it, the slot holds the flit's 256 bytes and the check word over its
effective header, its class's SEQ moves on by 1 and CNT0 counts; the line slot and block move on. LINK_FLIT_RX of a
Posted train with room: a flit with a good trailer joins the receive buffer as sent, one with a bad trailer as 256
zero bytes, all poisoned, counted in CNT5; the expected SEQ moves on. LINK_LEAD_SLOT_RX counts the codewords and
symbols that the FEC corrected (CNT2, CNT4); without a slot it counts in CNT3 and CNT7 and, as the 16th in a row that
was lost at slot 0 of its block, is fault cause 3; a good slot without Control messages whose header names a train in sequence begins that train.
CREDIT_RX takes FREED, TSYNC_RX answers a request and keeps a reply's exchange; ACTION_LINK_WIN opens a window on an
ACTIVE link, or faults the frame. -/
def Obligations.LinkSlotsCarryTrainsAndCredits : Prop :=
  ∀ (s : State) (l : Fin 36) (x : LinkS), s.lnk l.val = x → s.en (pgLink l.val) = true →
    (x.st = .active → x.leadDue = true → x.frameSlot = false → Answers (exec (.linkSlot l) s) (fun u =>
      (u.lnk l.val).lastSlot.length = 260 ∧
      leNat ((u.lnk l.val).lastSlot.drop 256) = (crc32c ((u.lnk l.val).lastSlot.take 256)).toNat ∧
      (∀ i m, i < 15 → x.ctl[i]? = some m →
        ((u.lnk l.val).lastSlot.drop (12 + 16 * i)).take 16 = stampMsg s.tb.tick (ctlPad m)) ∧
      (u.lnk l.val).ctl = x.ctl.drop 15 ∧ (u.lnk l.val).slot = (x.slot + 1) % 257 ∧ (u.lnk l.val).tx0 = x.tx0 ∧
      (u.lnk l.val).tx1 = x.tx1 ∧ (u.lnk l.val).txq = x.txq ∧
      (u.lnk l.val).blk = (if x.slot = 256 then (x.blk + 1) % 2 ^ 32 else x.blk) ∧ (∀ k, k ≠ l.val → u.lnk k = s.lnk k) ∧
      u.mem = s.mem ∧ u.fr = s.fr)) ∧
    (∀ f g, x.st = .active → x.leadDue = false → s.nextFlit x = some f → g = s.leaving f → 0 < x.run →
      x.runHdr = some (shareKey g) → g.data.length = 256 → Answers (exec (.linkSlot l) s) (fun u =>
        (u.lnk l.val).lastSlot = g.data ++ leBytes 4 (crc32c (flitHdr g.cls g.ngran g.pois 0 g.hops
          (if f.cls = 0 then x.tx0 else x.tx1) g.src g.dst g.postmark ++ g.data)).toNat ∧
        (u.lnk l.val).tx0 = (if f.cls = 0 then (x.tx0 + 1) % 2 ^ 16 else x.tx0) ∧
        (u.lnk l.val).tx1 = (if f.cls = 0 then x.tx1 else (x.tx1 + 1) % 2 ^ 16) ∧
        u.cntLive (pgLink l.val) 0 = min (s.cntLive (pgLink l.val) 0 + 1) (2 ^ 64 - 1) ∧ (u.lnk l.val).slot = (x.slot + 1) % 257 ∧
        (u.lnk l.val).run = x.run - 1)) ∧
    (∀ (t : Train) (data : Bytes) (tr : BitVec 32) (w : Nat), x.carries = true → x.rx = some t → t.cls = 1 → 0 < t.left →
      s.usedEnt l.val 1 < s.postEnt l.val → data.length = 256 → w = leNat t.hdr →
      ∀ good, good = decide (crc32c (leBytes 12 (setFld (setFld w 39 24 t.seq) 16 8 0) ++ data) = tr) →
      Answers (exec (.linkFlitRx l data tr) s) (fun u =>
        (∃ f, (u.lnk l.val).rx1 = x.rx1 ++ [f] ∧ f.cls = 1 ∧ f.data = (if good then data else List.replicate 256 0) ∧
          f.pois = (if good then fld w 7 4 else 15) ∧ f.src = fld w 49 40 ∧ f.dst = fld w 59 50 ∧ f.postmark = fld w 95 64) ∧
        (u.lnk l.val).ex1 = (t.seq + 1) % 2 ^ 16 ∧ (u.lnk l.val).rx0 = x.rx0 ∧ (u.lnk l.val).wr1 = (x.wr1 + 1) % 4096 ∧
        u.cntLive (pgLink l.val) 1 = min (s.cntLive (pgLink l.val) 1 + 1) (2 ^ 64 - 1) ∧
        u.cntLive (pgLink l.val) 5 = (if good then s.cntLive (pgLink l.val) 5 else min (s.cntLive (pgLink l.val) 5 + 1) (2 ^ 64 - 1)))) ∧
    (∀ fec : Fec, x.lit = true → Answers (exec (.linkLeadSlotRx l fec none) s) (fun u => bitOf (u.raw (pgLink l.val)) 3 = true ∧
      u.cntLive (pgLink l.val) 2 = min (s.cntLive (pgLink l.val) 2 + fec.cw.toNat) (2 ^ 64 - 1) ∧
      u.cntLive (pgLink l.val) 3 = min (s.cntLive (pgLink l.val) 3 + max 1 fec.bad.toNat) (2 ^ 64 - 1) ∧
      u.cntLive (pgLink l.val) 4 = min (s.cntLive (pgLink l.val) 4 + fec.sy.toNat) (2 ^ 64 - 1) ∧
      u.cntLive (pgLink l.val) 7 = min (s.cntLive (pgLink l.val) 7 + 1) (2 ^ 64 - 1) ∧
      (x.rxSlot ≠ 0 → (u.lnk l.val).lostRun = x.lostRun ∧ (u.lnk l.val).rx = none ∧ (u.lnk l.val).st = x.st) ∧
      (x.rxSlot = 0 → x.lostRun + 1 < 16 → (u.lnk l.val).lostRun = x.lostRun + 1 ∧ (u.lnk l.val).rx = none ∧
        (u.lnk l.val).st = x.st) ∧
      (x.rxSlot = 0 → 16 ≤ x.lostRun + 1 → (u.lnk l.val).st = .fault ∧ (u.lnk l.val).cause = 3))) ∧
    (∀ (fec : Fec) b w, x.carries = true → leadGood b = true → (∀ i, i < 15 → (b.getD (12 + 16 * i) 0).toNat % 16 = 0) → w = leNat (b.take 12) →
      fld w 1 0 < 2 → fld w 16 8 ≠ 0 → x.stale = none → fld w 39 24 = (if fld w 1 0 = 0 then x.ex0 else x.ex1) →
      Answers (exec (.linkLeadSlotRx l fec (some b)) s) (fun u =>
        u.cntLive (pgLink l.val) 2 = min (s.cntLive (pgLink l.val) 2 + fec.cw.toNat) (2 ^ 64 - 1) ∧
        u.cntLive (pgLink l.val) 4 = min (s.cntLive (pgLink l.val) 4 + fec.sy.toNat) (2 ^ 64 - 1) ∧
        (fec.bad ≠ 0 → bitOf (u.raw (pgLink l.val)) 3 = true) ∧
        (u.lnk l.val).rx = some ⟨b.take 12, fld w 1 0, fld w 16 8, fld w 39 24⟩ ∧ (u.lnk l.val).lostRun = (if x.rxSlot = 0 then 0 else x.lostRun) ∧
        (u.lnk l.val).rx0 = x.rx0 ∧ (u.lnk l.val).rx1 = x.rx1 ∧ (u.lnk l.val).rxSlot = (x.rxSlot + 1) % 257)) ∧
    (∀ v : BitVec 16, x.carries = true → exec (.creditRx l v) s = .next (settle s (s.setLnk l.val { x with pFreed := v.toNat }))) ∧
    (∀ ta tb tc : BitVec 32, x.lit = true →
      exec (.tsyncRx l true ta tb tc) s = .next (settle s (s.setLnk l.val { x with ts := x.ts ++ [⟨ta, tb, tc, BitVec.ofNat 32 s.tb.tick⟩] })) ∧
      exec (.tsyncRx l false ta tb tc) s = .next (settle s (s.setLnk l.val { x with ctl := x.ctl ++ [ctlPad (leBytes 1 6 ++ leBytes 1 1 ++
        leBytes 4 ta.toNat ++ leBytes 4 (s.tb.tick % 2 ^ 32) ++ leBytes 4 (s.tb.tick % 2 ^ 32))] }))) ∧
    (∀ r, s.nextRecord = some r → s.recDue r = true → s.recValid r = true → r.ty = 3 → fld r.w1 5 0 = l.val →
      s.actOf s.fr.num s.fr.nextRec = none →
      (x.st = .active → Answers (exec .actionLinkWin s) (fun u =>
        u.lnk l.val = { x with wins := x.wins ++ [⟨s.fr.num, s.fr.nextRec, fld r.w1 31 16⟩] } ∧
        u.actOf s.fr.num s.fr.nextRec = some ⟨s.fr.num, s.fr.nextRec, 3, r.noslack, r.start, r.bound, r.tag, [0], false, false⟩)) ∧
      (x.st ≠ .active → Answers (exec .actionLinkWin s) (fun u => (u.lnk l.val).wins = x.wins ∧ bitOf (u.raw pgFrame) 1 = true ∧
        u.cntLive pgFrame 9 = min (s.cntLive pgFrame 9 + 1) (2 ^ 64 - 1) ∧
        u.actOf s.fr.num s.fr.nextRec = some ⟨s.fr.num, s.fr.nextRec, 3, r.noslack, r.start, r.bound, r.tag, [], true, false⟩)))

/-- The spare lane, partners and the port map, the device number, vetoes received. LINK_SUBST moves a data lane to the
free spare at the current block + 16 and says so; LANE_FAIL does it in service, at once in training, and is fault
cause 2 with the spare in use; LANE_MSG_RX takes the partner's announcement, LANE_MOVE makes a move that has come due,
counted in CNT10. IDENT_RX keeps the partner, and against a frozen map records the first assigned one and faults the
link with cause 5 on another. BASELINE_UPDATE
takes the estimate of a deferred capture every 2^16 blocks. MAP_FREEZE freezes map and routes and records every
assigned partner, or is rejected when two links name one fibre port. DEVNUM_WRITE assigns the number and sends a new
IDENT on every link that carries or trains; after the freeze it is rejected. VETO_RX of a frame not held and not
committed keeps it, sends it on with one hop more on every other carrying link, and makes it pending in FREE and
LOCKED; a held one only counts; a committed frame's is late; one for a frame of the restore frame's echo counts as such.
VETO_HOLD_EXPIRE releases a number held 64 frames. -/
def Obligations.LanesPartnersAndVetoesOnLinks : Prop :=
  ∀ (s : State) (p : Path) (l : Fin 36) (x : LinkS), s.lnk l.val = x →
    (∀ ln : Fin 8, s.mayPath p (pgLink l.val) = true →
      (x.carries = true → x.spareBusy true = false → s.linkOn l.val = true → s.en (pgLink l.val) = true → ∀ b, b = (x.blk + 16) % 2 ^ 32 →
        Answers (exec (.linkSubst p l ln) s) (fun u => u.lnk l.val = { x with moveTx := some (ln.val, b), ctl := x.ctl ++
          [ctlPad (leBytes 1 7 ++ [0] ++ leBytes 1 ln.val ++ List.replicate 5 0 ++ leBytes 4 b)] } ∧
          (∀ k, k ≠ l.val → u.lnk k = s.lnk k) ∧ u.mem = s.mem)) ∧
      ((x.carries = false ∨ x.spareBusy true = true ∨ s.linkOn l.val = false) →
        exec (.linkSubst p l ln) s = .next (settle s (s.raise (pgLink l.val) 10)))) ∧
    (s.en (pgLink l.val) = true →
    (∀ (ln : Fin 8) (tx : Bool) (b : BitVec 32), x.lit = true →
      (x.spareBusy tx = true → ∀ c ∈ [Instr.laneFail l ln tx, Instr.laneMsgRx l tx (BitVec.ofNat 4 ln.val) b],
        Answers (exec c s) (fun u => (u.lnk l.val).st = .fault ∧ (u.lnk l.val).cause = 2 ∧ bitOf (u.raw (pgLink l.val)) 2 = true)) ∧
      (x.spareBusy tx = false →
        exec (.laneMsgRx l tx (BitVec.ofNat 4 ln.val) b) s = .next (settle s (s.setLnk l.val
          (if tx then { x with moveTx := some (ln.val, b.toNat) } else { x with moveRx := some (ln.val, b.toNat) }))) ∧
        (x.carries = false → Answers (exec (.laneFail l ln tx) s) (fun u => u.lnk l.val =
            (if tx then { x with spareTx := some ln.val, moveTx := none } else { x with spareRx := some ln.val, moveRx := none }) ∧
          u.cntLive (pgLink l.val) 10 = min (s.cntLive (pgLink l.val) 10 + 1) (2 ^ 64 - 1) ∧ bitOf (u.raw (pgLink l.val)) 1 = true)) ∧
        (x.carries = true → Answers (exec (.laneFail l ln tx) s) (fun u =>
          (if tx then (u.lnk l.val).moveTx else (u.lnk l.val).moveRx) = some (ln.val, ((if tx then x.blk else x.rxBlk) + 16) % 2 ^ 32) ∧
          (u.lnk l.val).ctl.length = x.ctl.length + 1)))) ∧
    (∀ (tx : Bool) (ln b : Nat), (if tx then x.moveTx else x.moveRx) = some (ln, b) →
      blkReached (if tx then x.blk else x.rxBlk) b = true → Answers (exec (.laneMove l tx) s) (fun u => u.lnk l.val =
          (if tx then { x with spareTx := some ln, moveTx := none } else { x with spareRx := some ln, moveRx := none }) ∧
        u.cntLive (pgLink l.val) 10 = min (s.cntLive (pgLink l.val) 10 + 1) (2 ^ 64 - 1) ∧ bitOf (u.raw (pgLink l.val)) 1 = true)) ∧
    (∀ i : Ident, x.lit = true →
      (s.frozen = false ∨ i.assigned = false → exec (.identRx l i) s = .next (settle s (s.setLnk l.val (x.withIdent i)))) ∧
      (s.frozen = true → i.assigned = true → x.recorded = none → exec (.identRx l i) s =
        .next (settle s (s.setLnk l.val { x.withIdent i with recorded := some (i.dev.toNat, i.link.toNat) }))) ∧
      (∀ r, s.frozen = true → i.assigned = true → x.recorded = some r →
        (r = (i.dev.toNat, i.link.toNat) → exec (.identRx l i) s = .next (settle s (s.setLnk l.val (x.withIdent i)))) ∧
        (r ≠ (i.dev.toNat, i.link.toNat) → Answers (exec (.identRx l i) s) (fun u => (u.lnk l.val).st = .fault ∧
          (u.lnk l.val).cause = 5 ∧ bitOf (u.raw (pgLink l.val)) 2 = true)))) ∧
    (∀ base, x.deferred = true → x.carries = true → x.rxBlk % 2 ^ 16 = 0 →
      exec (.baselineUpdate l base) s = .next (settle s (s.setLnk l.val { x with base := base }))) ∧
    (∀ (f : BitVec 64) (o : BitVec 10) (h : BitVec 8), x.carries = true →
      (∀ a b, s.rg.echo = some (a, b) → a ≤ f.toNat → f.toNat ≤ b → exec (.vetoRx l f o h) s = .next (settle s (s.count pgReg 4))) ∧
      (s.rg.echo = none → s.vetoKnown f.toNat = true → exec (.vetoRx l f o h) s = .next (settle s (s.count (pgLink l.val) 14))) ∧
      (s.rg.echo = none → s.vetoKnown f.toNat = false → Answers (exec (.vetoRx l f o h) s) (fun u =>
        u.vetoKnown f.toNat = true ∧ bitOf (u.raw (pgLink l.val)) 6 = true ∧ u.lnk l.val = x ∧
        (∀ k, k < 36 → k ≠ l.val → (s.lnk k).carries = true →
          u.lnk k = { s.lnk k with ctl := (s.lnk k).ctl ++ [ctlPad (vetoMsg o.toNat ((h.toNat + 1) % 256) f.toNat)] }) ∧
        (s.isCommitted f.toNat = false → s.running = true → s.rg.pend = none → u.rg.pend = some ⟨f.toNat, false, o.toNat⟩) ∧
        (s.isCommitted f.toNat = true → u.rg.pend = s.rg.pend ∧ bitOf (u.raw (pgLink l.val)) 7 = true ∧ bitOf (u.raw pgReg) 5 = true ∧
          u.cntLive (pgLink l.val) 15 = min (s.cntLive (pgLink l.val) 15 + 1) (2 ^ 64 - 1)))))) ∧
    (s.mayPath p (pgLink 0) = true → s.frozen = false →
      (s.portClash = false → Answers (exec (.mapFreeze p) s) (fun u => u.frozen = true ∧ (∀ k, k < 36 → u.lnk k =
        (if (s.lnk k).pValid && (s.lnk k).pAssigned then { s.lnk k with recorded := some ((s.lnk k).pDev, (s.lnk k).pLink) } else s.lnk k)) ∧
        u.route = s.route ∧ u.regs = s.regs)) ∧
      (s.portClash = true → exec (.mapFreeze p) s = .next (settle s (s.raise (pgLink 0) 10)))) ∧
    (∀ v : BitVec 32, s.mayPath p pgDev = true →
      (s.frozen = false → Answers (exec (.devnumWrite p v) s) (fun u => u.devNum = v.toNat % 1024 ∧ bitOf (u.raw pgDev) 0 = true ∧
        (∀ k, k < 36 → u.lnk k = (if (s.lnk k).carries || decide ((s.lnk k).st = .train) then
          { s.lnk k with ctl := (s.lnk k).ctl ++ [ctlPad (u.identMsg k)] } else s.lnk k)) ∧ u.mem = s.mem ∧ u.fr = s.fr)) ∧
      (s.frozen = true → exec (.devnumWrite p v) s = .next (settle s (s.raise pgDev 2)))) ∧
    (∀ f : BitVec 64, exec (.vetoHoldExpire f) s = .next (settle s { s with rg := { s.rg with
      held := s.rg.held.filter (fun e => !(e.1 == f.toNat && decide (e.2 + 64 ≤ s.fr.num))) } }))

/-- Granule reads and writes, their decode outcomes, scrub, training and faults of a controller. MEMORY_WRITE of a granule
in an ACTIVE, enabled controller or the general store: the enabled bytes take the data, no other byte changes; a whole write
sets the mark to its own poison, a part keeps a poisoned granule poisoned; no other mark changes. MEMORY_READ of a
clean granule answers its bytes and mark and changes no byte and no mark; a corrected error is counted and raised
(CNT2, CE) and delivers the bytes; an uncorrectable one delivers poisoned zeros, leaves the granule so, and is counted
and raised (CNT3, UE). An address that nothing backs reads as poisoned zeros, counted and raised in the H0 page, and a
write to it is dropped. While the controller is disabled or in standby a read and a write wait. MEMORY_SCRUB decodes its
granule with the same effects, moves to the next one and ends its pass with SCRUB_PASS. CE_RATE_WINDOW
judges and restarts the window. MEM_TRAINING_DONE leaves the device poisoned zeros and ACTIVE, or FAULT with
TRAIN_FAIL; MEM_PHY_LOCK_LOST is FAULT with TRAIN_FAIL; DOUBLED_REFRESH is shown. -/
def Obligations.MemoryAccessesDecodeAndKeepPoison : Prop :=
  ∀ (s : State) (src : Fin 8) (addr : BitVec 48) (g : Nat), g = addr.toNat / 64 →
    (∀ (data : Bytes) (en : BitVec 64) (poison : Bool),
      ((∃ k, regionOf (64 * g) = .ctl k ∧ (s.ctl k).st = .active ∧ s.en (pgMem k) = true) ∨ ∃ b, regionOf (64 * g) = .hub b) →
      tget 0 g s.mem.err = 0 →
      Answers (exec (.memoryWrite src addr data en poison .clean) s) (fun u => u.resp = .ok ∧
        (∀ i, i < 64 → u.mem.byte (64 * g + i) = (if en.getLsbD i then data.getD i 0 else s.mem.byte (64 * g + i))) ∧
        (∀ a, (a < 64 * g ∨ 64 * g + 64 ≤ a) → u.mem.byte a = s.mem.byte a) ∧
        u.mem.mark g = (poison || (decide (en ≠ BitVec.allOnes 64) && s.mem.mark g)) ∧
        (∀ j, j ≠ g → u.mem.mark j = s.mem.mark j) ∧ u.fr = s.fr ∧ u.q = s.q ∧ u.link = s.link)) ∧
    (s.rangeAwake (64 * g) 64 = false → ∀ dec data en poison, ∀ c ∈ [Instr.memoryRead src addr dec, .memoryWrite src addr data en poison dec],
      exec c s = .next (settle s s)) ∧
    (∀ b, regionOf (64 * g) = .hub b → tget 0 g s.mem.err = 0 → exec (.memoryRead src addr .clean) s =
      .next (settle s (s.answer (.mem (s.mem.read (64 * g) 64) (s.mem.mark g))))) ∧
    (∀ k, regionOf (64 * g) = .ctl k → (s.ctl k).st = .active → s.en (pgMem k) = true → tget 0 g s.mem.err = 0 →
      Answers (exec (.memoryRead src addr .clean) s) (fun u => u.resp = .mem (s.mem.read (64 * g) 64) (s.mem.mark g) ∧
        u.mem.bytes = s.mem.bytes ∧ u.mem.poison = s.mem.poison ∧
        u.cntLive (pgMem k) 0 = min (s.cntLive (pgMem k) 0 + 1) (2 ^ 64 - 1) ∧ u.tile = s.tile ∧ u.fr = s.fr) ∧
      (s.mem.mark g = false → Answers (exec (.memoryRead src addr .corrected) s) (fun u =>
        u.resp = .mem (s.mem.read (64 * g) 64) false ∧ u.mem.bytes = s.mem.bytes ∧ u.mem.poison = s.mem.poison ∧
        u.cntLive (pgMem k) 2 = min (s.cntLive (pgMem k) 2 + 1) (2 ^ 64 - 1) ∧ bitOf (u.raw (pgMem k)) 0 = true)) ∧
      Answers (exec (.memoryRead src addr .uncorrectable) s) (fun u => u.resp = .mem (List.replicate 64 0) true ∧
        (∀ i, i < 64 → u.mem.byte (64 * g + i) = 0) ∧ u.mem.mark g = true ∧
        (∀ a, (a < 64 * g ∨ 64 * g + 64 ≤ a) → u.mem.byte a = s.mem.byte a) ∧ (∀ j, j ≠ g → u.mem.mark j = s.mem.mark j) ∧
        u.cntLive (pgMem k) 3 = min (s.cntLive (pgMem k) 3 + 1) (2 ^ 64 - 1) ∧ bitOf (u.raw (pgMem k)) 1 = true)) ∧
    (regionOf (64 * g) = .none →
      Answers (exec (.memoryRead src addr .clean) s) (fun u => u.resp = .mem (List.replicate 64 0) true ∧ u.mem = s.mem ∧
        bitOf (u.raw (pgMem 0)) 1 = true ∧ bitOf (u.raw (pgMem 0)) 5 = true ∧
        u.cntLive (pgMem 0) 7 = min (s.cntLive (pgMem 0) 7 + 1) (2 ^ 64 - 1)) ∧
      ∀ data en poison, Answers (exec (.memoryWrite src addr data en poison .clean) s) (fun u => u.mem = s.mem ∧
        bitOf (u.raw (pgMem 0)) 1 = true)) ∧
    (∀ (k : Fin 24) (c : Ctl), s.ctl k.val = c →
      (c.st = .active → s.en (pgMem k.val) = true → bitOf (s.reg (pgMem k.val) 0x40) 0 = true →
        ∀ (dec : Dec) (j : Nat), j = granAddr k.val c.scrub / 64 → tget 0 j s.mem.err = 0 →
        Answers (exec (.memoryScrub k dec) s) (fun u => (u.ctl k.val).scrub = (if c.scrub + 1 < granulesOf k.val then c.scrub + 1 else 0) ∧
          (u.ctl k.val).st = .active ∧
          (granulesOf k.val ≤ c.scrub + 1 → bitOf (u.raw (pgMem k.val)) 4 = true) ∧
          (dec ≠ .uncorrectable → u.mem.bytes = s.mem.bytes ∧ u.mem.poison = s.mem.poison ∧
            u.cntLive (pgMem k.val) 3 = s.cntLive (pgMem k.val) 3) ∧
          (dec = .corrected → s.mem.mark j = false → u.cntLive (pgMem k.val) 2 = min (s.cntLive (pgMem k.val) 2 + 1) (2 ^ 64 - 1) ∧
            bitOf (u.raw (pgMem k.val)) 0 = true) ∧
          (dec = .uncorrectable → u.mem.mark j = true ∧ (∀ i, i < 64 → u.mem.byte (64 * j + i) = 0) ∧
            (∀ a, (a < 64 * j ∨ 64 * j + 64 ≤ a) → u.mem.byte a = s.mem.byte a) ∧ (∀ i, i ≠ j → u.mem.mark i = s.mem.mark i) ∧
            u.cntLive (pgMem k.val) 3 = min (s.cntLive (pgMem k.val) 3 + 1) (2 ^ 64 - 1) ∧ bitOf (u.raw (pgMem k.val)) 1 = true))) ∧
      ((c.st ≠ .active ∨ s.en (pgMem k.val) = false ∨ bitOf (s.reg (pgMem k.val) 0x40) 0 = false) → ∀ dec : Dec,
        exec (.memoryScrub k dec) s = .next (settle s s)) ∧
      (s.tb.tick % 2 ^ 31 ≠ 0 → exec (.ceRateWindow k) s = .next (settle s s)) ∧
      (c.st ≠ .training → ∀ ok, exec (.memTrainingDone k ok) s = .next (settle s s)) ∧
      ((c.st = .untrained ∨ c.st = .fault) → exec (.memPhyLockLost k) s = .next (settle s s)) ∧
      (s.tb.tick % 2 ^ 31 = 0 → Answers (exec (.ceRateWindow k) s) (fun u => u.ctl k.val = { c with ceWin := 0 } ∧
        (fld (s.reg (pgMem k.val) 0x40) 31 24 < c.ceWin → bitOf (u.raw (pgMem k.val)) 2 = true) ∧ u.mem.bytes = s.mem.bytes)) ∧
      (c.st = .training →
        Answers (exec (.memTrainingDone k true) s) (fun u => u.ctl k.val = { c with st := .active } ∧
          (∀ j, granOfCtl k.val j = true → u.mem.mark j = true ∧ ∀ i, i < 64 → u.mem.byte (64 * j + i) = 0) ∧
          (∀ j, granOfCtl k.val j = false → u.mem.mark j = s.mem.mark j ∧ ∀ i, i < 64 → u.mem.byte (64 * j + i) = s.mem.byte (64 * j + i))) ∧
        Answers (exec (.memTrainingDone k false) s) (fun u => u.ctl k.val = { c with st := .fault } ∧
          bitOf (u.raw (pgMem k.val)) 3 = true ∧ u.mem.bytes = s.mem.bytes)) ∧
      (c.st ≠ .untrained → c.st ≠ .fault → exec (.memPhyLockLost k) s =
        .next (settle s ((s.setCtl k.val { c with st := .fault }).raise (pgMem k.val) 3))) ∧
      (∀ on, exec (.doubledRefresh k on) s = .next (settle s (s.setCtl k.val { c with refresh2x := on }))))

/-- A restore abandons running work, applies the undo entries newest first, and completes in time or halts the module.
RESTORE, when its boundary has come, with no stream context: actions, waits, lists, windows and waiting flits are
abandoned, every tile is empty, and each sync cell holds the value of the oldest of its live undo entries in the
records of frame g and later, a cell without one its present value; the entries are counted in CNT8. RESTORE_COMPLETE
by tick FRAME_LEN - 16: directory, CYCLE, FRAME_LEN, LAG and RE_LOG2 are those of g's record, RESTORING clears,
RESTORED is raised, CNT1 counts, and the records of g and later are gone. RESTORE_LATE past that tick halts the
module: EN is cleared, the transition to HALTED waits for the boundary, HALT is raised and CNT6 counts. -/
def Obligations.RestoreAppliesUndoAndCompletes : Prop :=
  ∀ s : State,
    (s.rg.restoreDue = true → s.stm.ctx = [] → (∀ e ∈ s.undoList s.rg.last, e.kind ≠ 3) →
      Answers (exec .restore s) (fun u => u.rg.restoreDue = false ∧ u.rg.applied = (s.undoList s.rg.last).length ∧
        u.fr.acts = [] ∧ u.sy.waits = [] ∧ (∀ j, (u.lane j).cur = none ∧ (u.lane j).susp = none ∧ (u.lane j).waiting = []) ∧
        (∀ t, (u.tl t).run = none ∧ (u.tl t).acc = [] ∧ (u.tl t).fifo = [] ∧ (u.tl t).active = none) ∧
        (∀ l, l < 36 → (u.lnk l).wins = [] ∧ (u.lnk l).txq = []) ∧
        (∀ c, u.cell c = (match ((s.undoList s.rg.last).filter (fun e => e.kind == 2 && e.id == c)).getLast? with
          | some e => e.val
          | none => s.cell c)) ∧
        u.cntLive pgReg 8 = min (s.cntLive pgReg 8 + (s.undoList s.rg.last).length) (2 ^ 64 - 1))) ∧
    (∀ r, s.rg.restoring = true → s.rg.restoreDue = false → s.fr.tif + 16 ≤ s.frameLen → s.recOf s.rg.last = some r →
      Answers (exec .restoreComplete s) (fun u => u.rg.restoring = false ∧ bitOf (u.raw pgReg) 2 = true ∧
        u.cntLive pgReg 1 = min (s.cntLive pgReg 1 + 1) (2 ^ 64 - 1) ∧ u.fr.dir = r.dir ∧ u.fr.cycle = r.cycle ∧ u.fr.len = r.len ∧
        u.fr.lag = r.lag ∧ u.fr.reLog = r.reLog ∧ u.fr.num = s.fr.num ∧ (∀ q ∈ u.rg.recs, q.frame < s.rg.last) ∧
        u.sy = s.sy ∧ u.q = s.q ∧ u.stm = s.stm)) ∧
    ((s.rg.restoring = true ∨ s.rg.restoreDue = true) → s.frameLen < s.fr.tif + 16 →
      Answers (exec .restoreLate s) (fun u => u.rg.restoring = false ∧ u.rg.restoreDue = false ∧ u.en pgFrame = false ∧
        u.fr.haltDue = true ∧ u.rg.fault = true ∧ bitOf (u.raw pgReg) 3 = true ∧
        u.cntLive pgReg 6 = min (s.cntLive pgReg 6 + 1) (2 ^ 64 - 1) ∧ u.sy = s.sy ∧ u.q = s.q))

/-- Courier packets take the address, are answered with one RESPONSE when addressed here, and go on otherwise. TOKEN with
NEXT 1 to 254 makes the address NEXT and goes on with NEXT + 1, raising ADDR_SET; 255 makes it 0, goes on unchanged
and raises TOKEN_FULL; 0 (a value R448 does not name) makes it 0 and goes on unchanged (log 48). A READ or WRITE
addressed to the module is answered by one RESPONSE to its source with its TAG: REFUSED, without effect, when the
offset or the count is wrong; else a READ's holds four bytes a word, for one word in a powered page what a management
read of it answers, and a WRITE of one word leaves the registers as that management write does, or answers OVERRIDDEN
when the arbiter discards it for the host's. A broadcast READ is
dropped and counted, a broadcast WRITE acts and goes on. A WAKE wakes as a management wake does, and a broadcast one
goes on. Any other packet that is not addressed to the module goes on unchanged and counts in CNT1, a RESPONSE or an ALERT
addressed to it is consumed and counts in CNT0; one that is not whole, of a wrong length or type, or
with a wrong CHECK is dropped and counts in CNT2. -/
def Obligations.CourierPacketsActAnswerAndForward : Prop :=
  ∀ s : State,
    (∀ n : BitVec 8, Answers (exec (.token n) s) (fun t =>
      (s.irq.cour ++ [mkPacket 255 0 0 0 [if n = 0 ∨ n = 255 then n else n + 1]]) <+: t.irq.cour ∧
      t.chainAddr = (if n = 255 then 0 else n.toNat) ∧ (n ≠ 0 → n ≠ 255 → bitOf (t.raw pgCour) 0 = true) ∧
      (n = 255 → bitOf (t.raw pgCour) 1 = true) ∧ t.cntLive pgCour 1 = min (s.cntLive pgCour 1 + 1) (2 ^ 64 - 1) ∧
      t.mem = s.mem ∧ t.tile = s.tile ∧ t.link = s.link ∧ t.q = s.q ∧ t.fr = s.fr)) ∧
    (∀ (h : PktHead) (off : BitVec 32) (n : BitVec 8), s.toMe h = true →
      ((fld off.toNat 25 0 % 4 ≠ 0 ∨ n = 0 ∨ 14 < n.toNat) → Answers (exec (.courierRead h off n) s) (fun t =>
        t.resp = .msg (mkPacket h.src.toNat s.chainAddr 3 h.tag.toNat [2, 0, 0, 0]) ∧ t.regs = s.regs ∧ t.mem = s.mem ∧
        t.cntLive pgCour 3 = min (s.cntLive pgCour 3 + 1) (2 ^ 64 - 1))) ∧
      (fld off.toNat 25 0 % 4 = 0 → 1 ≤ n.toNat → n.toNat ≤ 14 → Answers (exec (.courierRead h off n) s) (fun t =>
        ∃ (st i : Nat) (d : Bytes), (st = 0 ∨ st = 3) ∧ d.length = 4 * n.toNat ∧
          t.resp = .msg (mkPacket h.src.toNat t.chainAddr 3 h.tag.toNat (respBody st i d)) ∧
          mkPacket h.src.toNat t.chainAddr 3 h.tag.toNat (respBody st i d) ∈ t.irq.cour ∧
          (∀ v, n = 1 → s.unpowered (fld off.toNat 25 0) = false →
            (s.read4 .mgmt (fld off.toNat 25 0)).resp = .word v → st = 0 ∧ d = leBytes 4 v)))) ∧
    (∀ (h : PktHead) (off : BitVec 32) (n : BitVec 8), s.toMe h = false →
      (s.toAll h = true → Answers (exec (.courierRead h off n) s) (fun t => t.resp = s.resp ∧ t.regs = s.regs ∧ t.mem = s.mem ∧
        t.cntLive pgCour 2 = min (s.cntLive pgCour 2 + 1) (2 ^ 64 - 1) ∧ bitOf (t.raw pgCour) 2 = true)) ∧
      (s.toAll h = false → Answers (exec (.courierRead h off n) s) (fun t => t.resp = s.resp ∧ t.regs = s.regs ∧ t.mem = s.mem ∧
        (s.irq.cour ++ [mkPacket h.dst.toNat h.src.toNat 1 h.tag.toNat (leBytes 4 off.toNat ++ leBytes 1 n.toNat)]) <+: t.irq.cour ∧
        t.cntLive pgCour 1 = min (s.cntLive pgCour 1 + 1) (2 ^ 64 - 1)))) ∧
    (∀ (h : PktHead) (off : BitVec 32) (ws : List (Put 32)),
      (s.toMe h = true → (fld off.toNat 25 0 % 4 ≠ 0 ∨ ws = [] ∨ 14 < ws.length) → Answers (exec (.courierWrite h off ws) s)
        (fun t => t.resp = .msg (mkPacket h.src.toNat s.chainAddr 3 h.tag.toNat [2, 0, 0, 0]) ∧ t.regs = s.regs ∧ t.mem = s.mem)) ∧
      (s.toMe h = true → fld off.toNat 25 0 % 4 = 0 → ws ≠ [] → ws.length ≤ 14 → Answers (exec (.courierWrite h off ws) s) (fun t =>
        (∃ st i, t.resp = .msg (mkPacket h.src.toNat t.chainAddr 3 h.tag.toNat (respBody st i [])) ∧
          (∀ w, ws = [w] → s.unpowered (fld off.toNat 25 0) = true → st = 3) ∧
          (∀ w r, ws = [⟨w, some r⟩] → s.unpowered (fld off.toNat 25 0) = false →
            s.dropStaged.contend .mgmt (fld off.toNat 25 0) false w.toNat r = true →
            firstWins .mgmt (fld off.toNat 25 0) false w.toNat r = false → st = 1)) ∧
        (∀ w, ws = [⟨w, none⟩] → t.regs = (s.dropStaged.write4 .mgmt (fld off.toNat 25 0) w.toNat).regs))) ∧
      (s.toMe h = false → s.toAll h = true → Answers (exec (.courierWrite h off ws) s) (fun t =>
        t.regs = (s.courWrite (fld off.toNat 25 0) ws).2.regs ∧
        mkPacket h.dst.toNat h.src.toNat 2 h.tag.toNat (leBytes 4 off.toNat ++ ws.flatMap (fun w => leBytes 4 w.val.toNat)) ∈ t.irq.cour)) ∧
      (s.toMe h = false → s.toAll h = false → Answers (exec (.courierWrite h off ws) s) (fun t => t.resp = s.resp ∧
        t.regs = s.regs ∧ t.mem = s.mem ∧ (s.irq.cour ++ [mkPacket h.dst.toNat h.src.toNat 2 h.tag.toNat
          (leBytes 4 off.toNat ++ ws.flatMap (fun w => leBytes 4 w.val.toNat))]) <+: t.irq.cour))) ∧
    (∀ h : PktHead,
      ((s.toMe h = true ∨ s.toAll h = true) → Answers (exec (.courierWake h) s) (fun t => t.pw = s.mgmtWake.pw ∧
        t.regs = s.mgmtWake.regs ∧ (s.toMe h = false → mkPacket h.dst.toNat h.src.toNat 4 h.tag.toNat [] ∈ t.irq.cour))) ∧
      (s.toMe h = false → s.toAll h = false → Answers (exec (.courierWake h) s) (fun t => t.pw = s.pw ∧ t.regs = s.regs ∧
        (s.irq.cour ++ [mkPacket h.dst.toNat h.src.toNat 4 h.tag.toNat []]) <+: t.irq.cour))) ∧
    (∀ pkt : Bytes,
      (pktGood pkt = true → s.toMe (pktHead pkt) = false → Answers (exec (.courierForward pkt) s) (fun t =>
        (s.irq.cour ++ [pkt]) <+: t.irq.cour ∧ t.regs = s.regs ∧ t.cntLive pgCour 1 = min (s.cntLive pgCour 1 + 1) (2 ^ 64 - 1))) ∧
      (pktGood pkt = true → s.toMe (pktHead pkt) = true → (pktType pkt = 3 ∨ pktType pkt = 5) →
        Answers (exec (.courierForward pkt) s) (fun t => t.irq.cour.length ≤ s.irq.cour.length + 1 ∧ t.resp = s.resp ∧
          t.regs = s.regs ∧ t.mem = s.mem ∧ t.cntLive pgCour 0 = min (s.cntLive pgCour 0 + 1) (2 ^ 64 - 1))) ∧
      (pktGood pkt = false → Answers (exec (.courierForward pkt) s) (fun t => t.irq.cour.length ≤ s.irq.cour.length + 1 ∧
        t.regs = s.regs ∧ bitOf (t.raw pgCour) 2 = true ∧ t.cntLive pgCour 2 = min (s.cntLive pgCour 2 + 1) (2 ^ 64 - 1))))

/-- The tunnel carries a packet in MGMT messages, retransmits them, and fails with STATUS 4. TUNNEL addressed here fails
with STATUS 4, counted in CNT4, on a link that is not ACTIVE or RESYNC, and is refused for an inner TUNNEL or an inner
packet of under 8 or over 63 bytes (log 48); otherwise the inner packet is queued in messages of 12 bytes with successive SEQs. MGMT_RX drops the messages that its
ACK covers, takes a message in order, acknowledging it, and keeps any other out; an inner packet that is whole and bad
is counted and dropped. TUNNEL_RESEND_TIMEOUT sends what is not acknowledged again, up to 8 times; then the link
faults with cause 7 and the requests fail. On a link that no longer carries the tunnel the requests that wait fail. A
link whose EN is 0 does neither. -/
def Obligations.TunnelCarriesPacketsOverLinks : Prop :=
  ∀ (s : State),
    (∀ (h : PktHead) (k : BitVec 8) (inner : Bytes), s.toMe h = true →
      let l := k.toNat % 64
      let x := s.lnk l
      ((36 ≤ l ∨ x.carries = false) → Answers (exec (.tunnel h k inner) s) (fun t => t.link = s.link ∧ t.regs = s.regs ∧
        t.resp = .msg (mkPacket h.src.toNat s.chainAddr 3 h.tag.toNat [4, 0, 0, 0]) ∧ bitOf (t.raw pgCour) 3 = true ∧
        t.cntLive pgCour 4 = min (s.cntLive pgCour 4 + 1) (2 ^ 64 - 1))) ∧
      (l < 36 → x.carries = true → (pktType inner = 6 ∨ inner.length < 8 ∨ 63 < inner.length) → Answers (exec (.tunnel h k inner) s) (fun t => t.link = s.link ∧
        t.regs = s.regs ∧ t.resp = .msg (mkPacket h.src.toNat s.chainAddr 3 h.tag.toNat [2, 0, 0, 0]))) ∧
      (l < 36 → x.carries = true → pktType inner ≠ 6 → 8 ≤ inner.length → inner.length ≤ 63 → Answers (exec (.tunnel h k inner) s) (fun t =>
        ∃ ms : List TunMsg, (t.lnk l).unacked = x.unacked ++ ms ∧ ms.length = (inner.length + 11) / 12 ∧
          ((ms.flatMap (·.data)).take inner.length = inner) ∧ (∀ i m, ms[i]? = some m → m.seq = (x.tunTx + i) % 256 ∧ m.resends = 0) ∧
          (t.lnk l).tunTx = (x.tunTx + ms.length) % 256 ∧ x.slow <+: (t.lnk l).slow ∧
          ((pktType inner = 1 ∨ pktType inner = 2) → (h.src.toNat, h.tag.toNat, pktTag inner) ∈ (t.lnk l).tunFor) ∧
          (∀ j, j ≠ l → t.lnk j = s.lnk j) ∧ t.regs = s.regs ∧ t.mem = s.mem))) ∧
    (∀ (h : PktHead) (k : BitVec 8) (inner : Bytes), s.toMe h = false →
      (s.toAll h = true → Answers (exec (.tunnel h k inner) s) (fun t => t.link = s.link ∧ t.resp = s.resp ∧
        t.cntLive pgCour 2 = min (s.cntLive pgCour 2 + 1) (2 ^ 64 - 1))) ∧
      (s.toAll h = false → Answers (exec (.tunnel h k inner) s) (fun t => t.link = s.link ∧ t.resp = s.resp ∧
        (s.irq.cour ++ [mkPacket h.dst.toNat h.src.toNat 6 h.tag.toNat (leBytes 1 k.toNat ++ inner)]) <+: t.irq.cour))) ∧
    (∀ (l : Fin 36) (seq ack : BitVec 8) (data : Bytes), s.en (pgLink l.val) = false →
      ∀ c ∈ [Instr.mgmtRx l seq ack data, .tunnelResendTimeout l], exec c s = .next (settle s s)) ∧
    (∀ (l : Fin 36) (seq ack : BitVec 8) (data : Bytes), s.en (pgLink l.val) = true →
      let x := s.lnk l.val
      (x.carries = true → seq.toNat = (x.tunRx + 1) % 256 →
        (tunWhole (x.tunIn ++ data.take 12) = false → Answers (exec (.mgmtRx l seq ack data) s) (fun t =>
          (t.lnk l.val).tunRx = seq.toNat ∧ (t.lnk l.val).tunIn = x.tunIn ++ data.take 12 ∧
          (t.lnk l.val).unacked = x.unacked.drop (ackDrop ack.toNat x.unacked) ∧
          (t.lnk l.val).slow.getLast? = some (ctlPad (mgmtMsg ((x.tunTx + 255) % 256) seq.toNat [])) ∧
          (∀ j, j ≠ l.val → t.lnk j = s.lnk j) ∧ t.regs = s.regs)) ∧
        (∀ b, b = x.tunIn ++ data.take 12 → tunWhole b = true → pktGood (b.take (8 + pktLen b)) = false →
          Answers (exec (.mgmtRx l seq ack data) s) (fun t => (t.lnk l.val).tunRx = seq.toNat ∧ (t.lnk l.val).tunIn = [] ∧
            t.cntLive pgCour 2 = min (s.cntLive pgCour 2 + 1) (2 ^ 64 - 1) ∧ t.regs = s.regs))) ∧
      (x.carries = true → seq.toNat ≠ (x.tunRx + 1) % 256 → Answers (exec (.mgmtRx l seq ack data) s) (fun t =>
        (t.lnk l.val).tunRx = x.tunRx ∧ (t.lnk l.val).tunIn = x.tunIn ∧ t.cnt = s.cnt ∧
        (t.lnk l.val).unacked = x.unacked.drop (ackDrop ack.toNat x.unacked) ∧ t.regs = s.regs)) ∧
      (x.carries = true → ∀ m ms, x.unacked = m :: ms →
        (m.resends < 8 → Answers (exec (.tunnelResendTimeout l) s) (fun t =>
          (t.lnk l.val).unacked = (x.unacked.take 8).map (fun m => { m with resends := m.resends + 1 }) ++ x.unacked.drop 8 ∧
          (t.lnk l.val).slow = x.slow ++ (x.unacked.take 8).map (fun m => ctlPad (mgmtMsg m.seq x.tunRx m.data)) ∧
          (∀ j, j ≠ l.val → t.lnk j = s.lnk j) ∧ t.cnt = s.cnt ∧ t.regs = s.regs)) ∧
        (8 ≤ m.resends → Answers (exec (.tunnelResendTimeout l) s) (fun t => (t.lnk l.val).st = .fault ∧
          (t.lnk l.val).cause = 7 ∧ (t.lnk l.val).tunFor = [] ∧ bitOf (t.raw (pgLink l.val)) 2 = true ∧
          (x.tunFor ≠ [] → t.cntLive pgCour 4 = min (s.cntLive pgCour 4 + x.tunFor.length) (2 ^ 64 - 1))))) ∧
      (x.carries = false → Answers (exec (.tunnelResendTimeout l) s) (fun t =>
        t.lnk l.val = { x with tunFor := [], unacked := [], tunIn := [] } ∧
        (x.tunFor ≠ [] → t.cntLive pgCour 4 = min (s.cntLive pgCour 4 + x.tunFor.length) (2 ^ 64 - 1) ∧ bitOf (t.raw pgCour) 3 = true))))

/-- The SMBus target checks the PEC and hands out what waits; MCTP requests are counted and answered in their type. A
Block Write with a wrong PEC is not acknowledged, counts in CNT3 and raises its event; a correct one is acknowledged,
and a first packet opens a message. A Block Read hands out the oldest packet that waits; an Alert Response answers
with the module's address and releases SMBALERT_N; a timeout resets the interface and counts in CNT2. SET_ENDPOINT_ID
stores the endpoint ID (0 and 255 are not stored); GET_ENDPOINT_ID answers it; GET_MESSAGE_TYPE_SUPPORT answers the
accepted types of R454; an unaccepted type is answered in that type; each counts in CNT0 and its answer in CNT1.
MCTP_VENDOR_DEFINED is answered with a message of type 0x7F that ends with the RESPONSE without its CHECK. What
DSP0236 says and the manual cites (the codes around these fields, and the IDs not stored) is the model's reading (log
43). -/
def Obligations.SmbusTargetAndMctpAnswer : Prop :=
  ∀ s : State,
    (∀ pkt : Bytes,
      Answers (exec (.blockWrite pkt false) s) (fun t => t.resp = .nack ∧ t.mg = s.mg ∧ bitOf (t.raw pgSmb) 1 = true ∧
        t.cntLive pgSmb 3 = min (s.cntLive pgSmb 3 + 1) (2 ^ 64 - 1) ∧ t.regs = s.regs) ∧
      Answers (exec (.blockWrite pkt true) s) (fun t => t.resp = .ok ∧ t.mg.mctpOut = s.mg.mctpOut ∧ t.cnt = s.cnt ∧ t.regs = s.regs ∧
        (128 ≤ (pkt.getD 3 0).toNat → ∃ k n, t.mg.mctpIn = some (k, n, pkt.drop 4)))) ∧
    (∀ p ps, s.mg.mctpOut = p :: ps → Answers (exec .blockRead s) (fun t => t.resp = .msg p ∧ t.mg = { s.mg with mctpOut := ps } ∧
      t.regs = s.regs ∧ t.cnt = s.cnt)) ∧
    (s.mg.mctpOut = [] → Answers (exec .blockRead s) (fun t => t.resp = .nack ∧ t.mg = s.mg)) ∧
    (s.irq.smbAlert = true → Answers (exec .alertResponse s) (fun t => t.irq.smbAlert = false ∧
      t.resp = .msg (leBytes 1 (fld (s.reg pgSmb 0x40) 6 0)) ∧ t.regs = s.regs)) ∧
    (s.irq.smbAlert = false → Answers (exec .alertResponse s) (fun t => t.irq.smbAlert = false ∧ t.resp = .nack)) ∧
    Answers (exec .smbusTimeout s) (fun t => t.mg = { s.mg with mctpIn := none } ∧ bitOf (t.raw pgSmb) 0 = true ∧
      t.cntLive pgSmb 2 = min (s.cntLive pgSmb 2 + 1) (2 ^ 64 - 1) ∧ t.regs = s.regs) ∧
    (∀ eid : BitVec 8, Answers (exec (.setEndpointId eid) s) (fun t =>
      t.reg pgSmb 0x44 = (if eid = 0 ∨ eid = 255 then s.reg pgSmb 0x44 else 256 + eid.toNat) ∧
      ∀ p o, (p, o) ≠ (pgSmb, 0x44) → rkey p o ≠ rkey pgSmb 0x44 → t.reg p o = s.reg p o)) ∧
    (∀ ty : BitVec 8, Answers (exec .getEndpointId s) (fun t => ∃ b, t.resp = .msg ([0, BitVec.ofNat 8 (fld (s.reg pgSmb 0x44) 7 0)] ++ b)) ∧
      Answers (exec .getMessageTypeSupport s) (fun t => ∃ b, t.resp = .msg ([0, 4, 0, 5, 6, 0x7F] ++ b)) ∧
      Answers (exec (.mctpUnsupportedType ty) s) (fun t => ∃ b, t.resp = .msg (ty :: b))) ∧
    (∀ (c : Instr) (eid ty : BitVec 8), c ∈ [Instr.setEndpointId eid, .getEndpointId, .getMctpVersionSupport, .getMessageTypeSupport,
        .getVendorDefinedMessageSupport, .mctpUnsupportedType ty] →
      Answers (exec c s) (fun t => (∃ m ms, t.resp = .msg m ∧ t.mg.mctpOut = s.mg.mctpOut ++ ms ∧ ms ≠ []) ∧
        t.cntLive pgSmb 0 = min (s.cntLive pgSmb 0 + 1) (2 ^ 64 - 1) ∧ t.cntLive pgSmb 1 = min (s.cntLive pgSmb 1 + 1) (2 ^ 64 - 1) ∧
        t.mem = s.mem ∧ t.fr = s.fr ∧ t.q = s.q ∧ t.link = s.link ∧ t.tile = s.tile)) ∧
    (∀ (pkt : Bytes) (rs : List (Nat × Rival)), Answers (exec (.mctpVendorDefined ⟨pkt, rs⟩) s) (fun t => ∃ st i d b,
      t.resp = .msg (0x7F :: (b ++ (mkPacket (pktSrc pkt) t.chainAddr 3 (pktTag pkt) (respBody st i d)).take (8 + d.length))) ∧
      (pkt.length ≠ 4 + pktLen pkt → st = 2 ∧ i = 0 ∧ d = [] ∧ t.regs = s.regs ∧ t.mem = s.mem)))

/-- The calendar counts crystal periods, takes a written time at the next one, and fires its alarm once. CALENDAR_SECOND
of n periods advances TIME by n; with a written TIME pending, the first period brings it into force, sets VALID and
raises TIME_SET, and counts in CNT0. TIME_WRITE leaves the value pending, ALARM_WRITE stores the alarm and re-arms it;
a tenant that may not reach the page changes neither. With ALARM_EN the alarm fires at a second step or TIME write
that reaches it and only once; it counts in CNT1 and raises ALARM where it makes no wake from A3. VBAT_CHECK below 2.2
V sets VBAT_LOW and raises it. -/
def Obligations.CalendarKeepsTimeAndAlarms : Prop :=
  ∀ s : State,
    (∀ n : BitVec 16, n ≠ 0 →
      let v : Nat := match s.mg.timeNew with
        | some v => (v + (n.toNat - 1)) % 2 ^ 64
        | none => (s.mg.time + n.toNat) % 2 ^ 64
      let stepped : Prop := s.mg.timeNew ≠ none ∨ v / 2 ^ 15 ≠ s.mg.time / 2 ^ 15
      let due : Prop := stepped ∧ bitOf (s.reg pgClock 0x50) 0 = true ∧ s.mg.alarmDone = false ∧ s.reg64 pgClock 0x48 / 2 ^ 15 ≤ v / 2 ^ 15
      Answers (exec (.calendarSecond n) s) (fun t => t.mg.time = v ∧ t.mg.timeNew = none ∧
        t.mg.timeValid = (s.mg.timeNew.isSome || s.mg.timeValid) ∧ (due → t.mg.alarmDone = true) ∧
        (¬ due → t.mg.alarmDone = s.mg.alarmDone ∧ t.regs = s.regs ∧ t.mem = s.mem ∧ t.pw = s.pw) ∧
        ((s.pw.a3 = false ∨ bitOf (s.reg pgPower 0x94) 1 = false) →
          t.cntLive pgClock 1 = (if bitOf (s.reg pgClock 0x50) 0 = true ∧ s.mg.alarmDone = false ∧ s.reg64 pgClock 0x48 / 2 ^ 15 ≤ v / 2 ^ 15 ∧
              (s.mg.timeNew ≠ none ∨ v / 2 ^ 15 ≠ s.mg.time / 2 ^ 15) then min (s.cntLive pgClock 1 + 1) (2 ^ 64 - 1) else s.cntLive pgClock 1) ∧
          (due → bitOf (t.raw pgClock) 0 = true) ∧
          (s.mg.timeNew ≠ none → bitOf (t.raw pgClock) 2 = true ∧ t.cntLive pgClock 0 = min (s.cntLive pgClock 0 + 1) (2 ^ 64 - 1))))) ∧
    (∀ (p : Path) (v : BitVec 64),
      (s.mayPath p pgClock = true →
        Answers (exec (.timeWrite p v) s) (fun t => t.mg = { s.mg with timeNew := some v.toNat } ∧ t.regs = s.regs ∧ t.cnt = s.cnt) ∧
        Answers (exec (.alarmWrite p v) s) (fun t => t.reg64 pgClock 0x48 = v.toNat ∧ t.mg = { s.mg with alarmDone := false } ∧
          t.cnt = s.cnt ∧ ∀ q o, rkey q o ≠ rkey pgClock 0x48 → rkey q o ≠ rkey pgClock 0x4C → t.reg q o = s.reg q o)) ∧
      (s.mayPath p pgClock = false → ∀ c ∈ [Instr.timeWrite p v, Instr.alarmWrite p v],
        Answers (exec c s) (fun t => t.mg = s.mg ∧ t.regs = s.regs ∧ t.mem = s.mem))) ∧
    (∀ low : Bool, Answers (exec (.vbatCheck low) s) (fun t => t.mg = { s.mg with vbatLow := low } ∧ t.regs = s.regs ∧
      t.mem = s.mem ∧ bitOf (t.raw pgClock) 1 = (low || bitOf (s.raw pgClock) 1)))

/-- A slow round publishes its codes and tile powers; M8 takes one conversion or calibration at a time. SLOW_ROUND_END
with the ADC enabled, at the end of a round, publishes the code of each channel 0 to 59 (60 to 63 read 0), counts the
round, and refreshes the power of the tiles the round measured as voltage times current, rounded once to binary32; a row
whose monitor read below half its nominal counts one more round in a row. TRIGGER starts a conversion of the channel
configured, or counts an overrun while M8 is at work; its completion stores code and tick and raises TRIG_DONE. CAL_ZERO and CAL_FULL take M8, a command that meets M8 at work raises
CAL_REJECT, as does a FULL without a ZERO; the ZERO's result is the rounded mean of its outputs; a FULL whose
coefficients pass brings them into force, else the old ones stay. What meets M8 at work is the model's reading (log
44). -/
def Obligations.AdcRoundsTriggersAndCalibration : Prop :=
  ∀ s : State,
    (s.en pgHk = true → s.powered pgHk = true → s.roundDue = true → ∀ (codes : List (BitVec 24)) (taps : List TapRead),
      Answers (exec (.slowRoundEnd codes taps) s) (fun t => t.mg.rounds = s.mg.rounds + 1 ∧ t.mg.roundAt = s.tb.tick ∧
        t.cntLive pgHk 0 = min (s.cntLive pgHk 0 + 1) (2 ^ 64 - 1) ∧
        (∀ j, j < 60 → tget 0 j t.mg.codes = (codes.getD j 0).toNat) ∧ (∀ j, 60 ≤ j → tget 0 j t.mg.codes = 0) ∧
        (∀ j, j < 32 → ∀ n, n = 8 * j + (s.tb.tick / roundLen s.mg.roundWas - 1) % 8 →
          tget 0 n t.mg.power = mul32 (s.quantity (48 + n / 64) (codes.getD (48 + n / 64) 0).toNat) (s.quantity j (codes.getD j 0).toNat) ∧
          tget 0 n t.mg.powerAt = s.tb.tick) ∧
        (∀ n, n % 8 ≠ (s.tb.tick / roundLen s.mg.roundWas - 1) % 8 → tget 0 n t.mg.power = tget 0 n s.mg.power) ∧
        (∀ (n : Fin 256) (r : Fin 132), (∃ e ∈ taps, e.tile = n ∧ e.row = r ∧ tapLow e = true) →
          tget 0 r.val (t.tl n.val).lowRuns = tget 0 r.val (s.tl n.val).lowRuns + 1) ∧
        (∀ (n : Fin 256) (r : Fin 132), (¬ ∃ e ∈ taps, e.tile = n ∧ e.row = r ∧ tapLow e = true) → tget 0 r.val (t.tl n.val).lowRuns = 0) ∧ t.mem = s.mem ∧ t.q = s.q)) ∧
    ((s.en pgHk = false ∨ s.powered pgHk = false ∨ s.roundDue = false) → ∀ codes taps,
      exec (.slowRoundEnd codes taps) s = .next (settle s s)) ∧
    (∀ cfg, cfg = s.reg pgHk 0x44 → s.en pgHk = true → s.powered pgHk = true → bitOf cfg 7 = true →
      ((bitOf cfg 6 = true ∧ s.tb.tick % 16000 = 0) ∨ (bitOf cfg 6 = false ∧ s.reg pgHk 0x4C ≠ 0 ∧ s.mg.trigArmed < s.tb.tick ∧
        (s.tb.tick - s.mg.trigArmed) % s.reg pgHk 0x4C = 0)) →
      ((s.mg.trig = none ∧ s.mg.calBusy = 0) → Answers (exec .trigger s) (fun t => t.mg = { s.mg with trig := some (fld cfg 5 0) } ∧
        t.cnt = s.cnt)) ∧
      ((s.mg.trig ≠ none ∨ s.mg.calBusy ≠ 0) → Answers (exec .trigger s) (fun t => t.mg = s.mg ∧ bitOf (t.raw pgHk) 1 = true ∧
        t.cntLive pgHk 2 = min (s.cntLive pgHk 2 + 1) (2 ^ 64 - 1)))) ∧
    (∀ code : BitVec 24, s.mg.trig = none → exec (.trigConversionDone code) s = .next (settle s s)) ∧
    (∀ (code : BitVec 24) (ch : Nat), s.mg.trig = some ch → Answers (exec (.trigConversionDone code) s) (fun t => t.mg.trig = none ∧
      t.reg pgHk 0x50 = (if 60 ≤ ch then 0 else code.toNat) ∧ t.reg64 pgHk 0x54 = s.tb.tick % 2 ^ 64 ∧
      bitOf (t.raw pgHk) 0 = true ∧ t.cntLive pgHk 1 = min (s.cntLive pgHk 1 + 1) (2 ^ 64 - 1) ∧ t.tile = s.tile ∧ t.mem = s.mem)) ∧
    (∀ p : Path, ∀ c ∈ [Instr.calZero p, Instr.calFull p],
      (s.mayPath p pgHk = false → exec c s = .next (settle s (s.deny p pgHk))) ∧
      (s.mayPath p pgHk = true → s.en pgHk = false → exec c s = .next (settle s s))) ∧
    (∀ p : Path, s.mayPath p pgHk = true → s.en pgHk = true →
      ((s.mg.trig ≠ none ∨ s.mg.calBusy ≠ 0) → ∀ c ∈ [Instr.calZero p, Instr.calFull p],
        Answers (exec c s) (fun t => t.mg = s.mg ∧ bitOf (t.raw pgHk) 3 = true)) ∧
      (s.mg.trig = none → s.mg.calBusy = 0 →
        Answers (exec (.calZero p) s) (fun t => t.mg = { s.mg with calBusy := 1 } ∧ t.evRaw = s.evRaw) ∧
        (s.mg.zNew ≠ none → Answers (exec (.calFull p) s) (fun t => t.mg = { s.mg with calBusy := 2 })) ∧
        (s.mg.zNew = none → Answers (exec (.calFull p) s) (fun t => t.mg = s.mg ∧ bitOf (t.raw pgHk) 3 = true)))) ∧
    (∀ sum : Int, s.mg.calBusy = 1 → Answers (exec (.calZeroDone sum) s) (fun t =>
      t.mg = { s.mg with calBusy := 0, zNew := some (roundHalfEven sum 256) } ∧ t.regs = s.regs ∧ t.cnt = s.cnt)) ∧
    (∀ (sum z : Int) (g : Nat), s.mg.calBusy = 2 → s.mg.zNew = some z →
      g = rat32 (decide (sum - 256 * z < 0)) (256 * fld (s.reg pgHk 0x6C) 21 0) (sum - 256 * z).natAbs →
      ((sum ≠ 256 * z ∧ within2 g Config.hkGain = true ∧ (z - Config.hkZero).natAbs ≤ 2000) →
        Answers (exec (.calFullDone sum) s) (fun t => t.mg = { s.mg with calBusy := 0, zNew := none, coef := some (z, g) } ∧
          bitOf (t.raw pgHk) 2 = true)) ∧
      (¬ (sum ≠ 256 * z ∧ within2 g Config.hkGain = true ∧ (z - Config.hkZero).natAbs ≤ 2000) →
        Answers (exec (.calFullDone sum) s) (fun t => t.mg = { s.mg with calBusy := 0, zNew := none } ∧ bitOf (t.raw pgHk) 3 = true)))

/-- The calibration store writes only the inactive bank; firmware slots are written in pages; start-up loads calibration.
CS_COMMIT, CS_LOAD and CS_IMPORT with a bank selected begin the write of the inactive bank (bank A where neither is
active), a LOAD and an IMPORT only with a valid staged image, else they are refused with REASON 2 and CFG_REJECT; their
write erases the header sector of that bank, which is invalid from there (at once, the model's choice, log 41). An
image in a tier in standby is waited for. In SCAN, during a write or while an image is waited for they are refused with
REASON 1. BANK_WRITE_DONE makes the written bank the active one, valid, with the next SEQ and counted in CNT0, or brings
back the state before, counting in CNT1 with WRITE_FAIL; the active bank's bytes stay. LANE_INTERPOLATE every 1,024 rounds marks a step of one code towards the target for each value of a
link with a type 6 record. FW_ERASE erases a slot that was not started at boot, FW_DATA collects four bytes and
programs a full page of 256, FW_FINISH programs the rest; while no firmware runs they are refused but from the management side. STARTUP_CAL_LOAD selects a bank, sets LOOP.CTRL.EN and lets
the lasers light. -/
def Obligations.StoreWritesBanksAndFirmwareSlots : Prop :=
  ∀ s : State,
    (∀ p : Path, s.mayPath p pgCs = true → s.en pgCs = true →
      ((s.mg.cs = 0 ∨ 4 ≤ s.mg.cs ∨ s.mg.csWait ≠ none) → ∀ c ∈ [Instr.csCommit p, Instr.csLoad p, Instr.csImport p], Answers (exec c s) (fun t =>
        t.mg = { s.mg with result := 2, reason := 1 } ∧ bitOf (t.raw pgCs) 4 = true ∧ t.sec = s.sec ∧ t.mem = s.mem)) ∧
      (1 ≤ s.mg.cs → s.mg.cs ≤ 3 → s.mg.csWait = none →
        Answers (exec (.csCommit p) s) (fun t => t.mg.cs = (if s.mg.cs = 2 then 5 else 4) ∧ t.mg.csPrev = s.mg.cs ∧ t.mg.result = 1 ∧
          t.mg.csLoad = false ∧ t.mg.csRecs = none ∧
          (s.sec.halted = false → s.sec.haltPending = false → t.sec.seq = some .calCommit ∧ t.mg.flash = s.mg.flash) ∧
          ((s.sec.halted = true ∨ s.sec.haltPending = true) → s.sec.seq = none → t.sec.seq = none ∧ t.mg.flash = s.mg.flash)) ∧
        (s.stageAwake = false → ∀ (c : Instr) (imp : Bool), (c, imp) ∈ [(Instr.csLoad p, false), (Instr.csImport p, true)] →
          exec c s = .next (settle s { s with mg := { s.mg with csWait := some imp, result := 1, reason := 0 } })) ∧
        (s.stageAwake = true → ∀ b, b = decide (s.mg.cs = 2) →
          ∀ begun : State → Prop, (∀ t, begun t ↔ t.mg.cs = (if s.mg.cs = 2 then 5 else 4) ∧ t.mg.csPrev = s.mg.cs ∧ t.mg.csLoad = true ∧
            t.mg.result = 1 ∧ (s.sec.halted = false → s.sec.haltPending = false → t.sec.seq = some .flash ∧
              (if b then t.mg.bValid else t.mg.aValid) = false ∧ (∀ a, a < 4096 → t.flashByte (bankBase b + a) = 0xFF) ∧
              (∀ a, (a < bankBase b ∨ bankBase b + 4096 ≤ a) → t.flashByte a = s.flashByte a))) →
          (∀ rs, s.staged.1.bind (fun bs => parseRecs bs.length bs) = some rs → rs.all (·.2) = true → onceEach (rs.map (·.1)) = true →
            Answers (exec (.csLoad p) s) (fun t => begun t ∧ t.mg.csRecs = some (rs.map (·.1)))) ∧
          (∀ blks, s.staged.1.bind importFile = some blks →
            Answers (exec (.csImport p) s) (fun t => begun t ∧ ∃ rs, t.mg.csRecs = some rs ∧
              ∀ b ∈ blks, (∀ b' ∈ blks, b'.1 = b.1 → b' = b) → ∃ r ∈ rs, r.ty = 6 ∧ r.inst = b.1 ∧ r.body = b.2)) ∧
          (∀ c, ((c = .csLoad p ∧ ∀ rs, s.staged.1.bind (fun bs => parseRecs bs.length bs) = some rs →
              rs.all (·.2) = false ∨ onceEach (rs.map (·.1)) = false) ∨ (c = .csImport p ∧ s.staged.1.bind importFile = none)) →
            Answers (exec c s) (fun t => t.mg = { s.mg with result := 2, reason := 2 } ∧ bitOf (t.raw pgCs) 4 = true))))) ∧
    ((s.mg.csRecs = none ∨ s.sec.seq ≠ some .flash) → ∀ o, exec (.bankWriteDone o) s = .next (settle s s)) ∧
    (∀ recs, s.mg.csRecs = some recs → s.sec.seq = some .flash →
      (Answers (exec (.bankWriteDone .good) s) (fun t => t.mg.cs = (if s.mg.cs = 5 then 3 else 2) ∧ t.mg.result = 0 ∧
        t.mg.seq = (if s.mg.csPrev = 1 then s.seqMax else s.mg.seq) + 1 ∧ (if s.mg.cs = 5 then t.mg.bValid else t.mg.aValid) = true ∧ t.mg.csRecs = none ∧ t.sec.seq = none ∧
        t.cntLive pgCs 0 = min (s.cntLive pgCs 0 + 1) (2 ^ 64 - 1) ∧ bitOf (t.raw pgCs) 0 = true ∧
        ((recs.flatMap CsRec.toBytes).length + 4096 ≤ bankSize → ∀ a, a < bankSize → t.flashByte (bankBase (decide (s.mg.cs ≠ 5)) + a) = s.flashByte (bankBase (decide (s.mg.cs ≠ 5)) + a)))) ∧
      (∀ o, (o = .flashError ∨ o = .badReadBack) → Answers (exec (.bankWriteDone o) s) (fun t => t.mg.cs = s.mg.csPrev ∧
        t.mg.result = 3 ∧ t.mg.reason = (if o = .flashError then 3 else 5) ∧ t.mg.seq = s.mg.seq ∧
        t.mg.flash = s.mg.flash ∧ t.mg.aValid = s.mg.aValid ∧ t.mg.bValid = s.mg.bValid ∧
        t.cntLive pgCs 1 = min (s.cntLive pgCs 1 + 1) (2 ^ 64 - 1) ∧
        bitOf (t.raw pgCs) 1 = true ∧ t.tile = s.tile ∧ t.link = s.link))) ∧
    (∀ l : Fin 36, ((s.lnk l.val).sets = [] ∨ s.mg.rounds % 1024 ≠ 0 ∨ s.mg.rounds = (s.lnk l.val).stepAt ∨ s.en pgCs = false) →
      exec (.laneInterpolate l) s = .next (settle s s)) ∧
    (∀ l : Fin 36, (s.lnk l.val).sets ≠ [] → s.mg.rounds % 1024 = 0 → s.mg.rounds ≠ (s.lnk l.val).stepAt → s.en pgCs = true →
      Answers (exec (.laneInterpolate l) s) (fun t => (t.lnk l.val).stepAt = s.mg.rounds ∧ (∀ i, i < 72 → tget 0 i (t.lnk l.val).step =
          (laneTarget ((s.lnk l.val).sets.map (·.1)) ((s.lnk l.val).sets.map (fun v => v.2.getD i 0)) (in256 (v32 s.modelTemp)).1
            (in256 (v32 s.modelTemp)).2 - tget 0 i (s.lnk l.val).calU).sign) ∧
        (t.lnk l.val).calU = (s.lnk l.val).calU ∧ (∀ j, j ≠ l.val → t.lnk j = s.lnk j))) ∧
    (∀ (p : Path) (slot : Bool) (v : BitVec 32), ∀ c ∈ [Instr.fwErase p slot, .fwData p v, .fwFinish p slot],
      (s.mayPath p pgCs = false → exec c s = .next (settle s (s.deny p pgCs))) ∧
      (s.mayPath p pgCs = true → s.fwDeaf p = true → exec c s = .next (settle s (s.raise pgCs 4)))) ∧
    (∀ (p : Path) (slot : Bool), s.mayPath p pgCs = true → s.fwDeaf p = false →
      (s.sec.started ≠ some (b2n slot) → Answers (exec (.fwErase p slot) s) (fun t => t.mg.fwSlot = some slot ∧ t.mg.fwWords = 0 ∧
        t.mg.fwBuf = [] ∧ (∀ a, a < 0x1000000 → t.flashByte (slotBase slot + a) = 0xFF) ∧
        (∀ a, a < 0x1000000 → t.flashByte (slotBase (!slot) + a) = s.flashByte (slotBase (!slot) + a)))) ∧
      (s.sec.started = some (b2n slot) → Answers (exec (.fwErase p slot) s) (fun t => t.mg = s.mg ∧ bitOf (t.raw pgCs) 4 = true)) ∧
      (∀ v : BitVec 32, s.mg.fwSlot = some slot → s.mg.fwWords + s.mg.fwBuf.length / 4 < 0x400000 →
        (s.mg.fwBuf.length + 4 < 256 → Answers (exec (.fwData p v) s) (fun t => t.mg = { s.mg with fwBuf := s.mg.fwBuf ++ leBytes 4 v.toNat })) ∧
        (s.mg.fwBuf.length + 4 = 256 → Answers (exec (.fwData p v) s) (fun t => t.mg.fwBuf = [] ∧ t.mg.fwWords = s.mg.fwWords + 64 ∧
          t.flashRead (slotBase slot + 4 * s.mg.fwWords) 256 = s.mg.fwBuf ++ leBytes 4 v.toNat))) ∧
      (s.mg.fwSlot ≠ some slot → exec (.fwFinish p slot) s = .next (settle s (s.raise pgCs 4))) ∧
      (s.mg.fwSlot = some slot → Answers (exec (.fwFinish p slot) s) (fun t => t.mg.fwSlot = none ∧ t.mg.fwBuf = [] ∧
        t.flashRead (slotBase slot + 4 * s.mg.fwWords) s.mg.fwBuf.length = s.mg.fwBuf))) ∧
    (∀ k, s.sec.started = some k → s.mg.cs = 0 → s.sec.halted = false →
      Answers (exec .startupCalLoad s) (fun t => t.pw.held = false ∧ t.en pgLoop = true ∧ 1 ≤ t.mg.cs ∧ t.mg.cs ≤ 3 ∧
        t.mg.flash = s.mg.flash ∧ t.mem = s.mem ∧ t.q = s.q ∧ (∀ n, n < 256 → (t.tl n).calT = []))) ∧
    ((s.sec.started = none ∨ s.mg.cs ≠ 0 ∨ s.sec.halted = true) → exec .startupCalLoad s = .next (settle s s))

/-- The image loader checks SRC, DST and LEN, copies granule by granule, and answers in LCMD. LOADER_COPY with LCMD = 1
starts the copy named by the loader cells, or sets LCMD to 3 when SRC or DST is not 64-byte aligned, LEN is 0 or no
multiple of 64, or a range is misplaced or meets the registry area. LOADER_COPY_DONE, of a copy whose source granules
are sound, leaves at DST what the loader had still to copy of the LEN bytes of SRC, with SRC's marks, every other byte as
before, and LCMD at 2; it waits while the core is halted or the source's tier is in standby. While no record is open. -/
def Obligations.LoaderCopiesBetweenTiersAndStore : Prop :=
  ∀ (s : State) (src dst len : Nat), s.curRec = none →
    (∀ k, s.sec.started = some k → s.sec.halted = false → s.mg.copy = none → s.cell 8191 = 1 → s.cell 8188 = src → s.cell 8189 = dst →
      s.cell 8190 = len →
      (s.copyBad src dst len = false → exec .loaderCopy s =
        .next (settle s { s with mg := { s.mg with copy := some (src, dst, len), copied := 0 } })) ∧
      ((src % 64 ≠ 0 ∨ dst % 64 ≠ 0 ∨ len = 0 ∨ len % 64 ≠ 0 ∨ rangeInTier src len = false ∨ rangeInHub dst len = false ∨
          (dst < s.reg64 pgReg 0x40 + s.regArea ∧ s.reg64 pgReg 0x40 < dst + len)) →
        Answers (exec .loaderCopy s) (fun t => t.cell 8191 = 3 ∧ t.mg = s.mg ∧ t.mem = s.mem ∧ (∀ c, c ≠ 8191 → t.cell c = s.cell c)))) ∧
    ((s.sec.started = none ∨ s.sec.halted = true ∨ s.mg.copy ≠ none ∨ s.cell 8191 ≠ 1) → exec .loaderCopy s = .next (settle s s)) ∧
    ((s.mg.copy = none ∨ (s.mg.copy = some (src, dst, len) ∧ (s.sec.halted = true ∨ s.rangeAwake src len = false))) → ∀ dec,
      exec (.loaderCopyDone dec) s = .next (settle s s)) ∧
    (s.mg.copy = some (src, dst, len) → s.copyBad src dst len = false → s.sec.halted = false → s.rangeAwake src len = true →
      (∀ a, src ≤ a → a < src + len → tget 0 (a / 64) s.mem.err = 0 ∧
        ∀ k, regionOf (64 * (a / 64)) = .ctl k → (s.ctl k).st ≠ .fault) →
      Answers (exec (.loaderCopyDone []) s) (fun t => t.mg.copy = none ∧ t.mg.copied = 0 ∧ t.cell 8191 = 2 ∧
        (∀ i, 64 * s.mg.copied ≤ i → i < len → t.mem.byte (dst + i) = s.mem.byte (src + i) ∧
          t.mem.mark ((dst + i) / 64) = s.mem.mark ((src + i) / 64)) ∧
        (∀ a, (a < dst + 64 * s.mg.copied ∨ dst + len ≤ a) → t.mem.byte a = s.mem.byte a) ∧ t.regs = s.regs ∧ t.tile = s.tile))

/-- Right after reset every page's registers hold the reset values of their tables, and every unit is at rest. After
reset: each page's CTRL is 0, so nothing is enabled; no event is raised or enabled and no counter has counted; the
configuration registers hold the reset values their tables print (FRAME_CFG, ALIGN_CFG, GOV_CFG, REG area and size,
thermal limits, management votes, ring geometries, link entitlements, refresh settings and so on); the frame unit is
HALTED at frame 0, every tile has no run, every zone and link is OFF, no stream or list runs, every queue descriptor
and sync cell is zero, the calibration store is in SCAN, the lasers are held dark, and every VMAX is 50. The queue of
commands is empty. -/
def Obligations.ResetLeavesTabledValues : Prop :=
  State.reset.pending = [] ∧ State.reset.evRaw = [] ∧ State.reset.evEn = [] ∧ State.reset.cnt = [] ∧
  (∀ p, p < 382 → State.reset.en p = false) ∧
  (∀ e ∈ [(pgFrame, 0x40, 0x0A020040), (pgFrame, 0x44, 0x00080000), (pgFrame, 0x70, 1), (pgGov, 0x40, 0x00080041),
      (pgGov, 0x44, 0x28140078), (pgGov, 0x48, 0x3200), (pgGov, 0x4C, 0x28), (pgReg, 0x40, 0x0C800000), (pgReg, 0x44, 0x400),
      (pgReg, 0x48, 0x80), (pgReg, 0x4C, 3), (pgReg, 0x78, 0xC), (pgPower, 0x60, 0xAAAAAAAA), (pgPower, 0x68, 0x2AAAA),
      (pgPower, 0x40, 0), (pgPower, 0x94, 1), (pgPower, 0x9C, 0x035F5A55), (pgPower, 0xA0, 0x2D69), (pgHk, 0x40, 0x04000190),
      (pgHk, 0x48, 400), (pgCour, 0x44, 1), (pgCour, 0x40, 0), (pgSmb, 0x40, 0x52), (pgLoop, 0x40, 0x010A007D),
      (pgLoop, 0x44, 0x00100200), (pgStream, 0x44, 1), (pgQueue, 0x48, 0x00010006)], State.reset.reg e.1 e.2.1 = e.2.2) ∧
  (∀ t : Fin 256, State.reset.reg (pgTile t.val) 0x40 = 7 ∧ State.reset.reg (pgTile t.val) 0x50 = 0x40060 ∧
    State.reset.reg (pgTile t.val) 0x58 = 0x40040 ∧ State.reset.tl t.val = {}) ∧
  (∀ l : Fin 36, State.reset.reg (pgLink l.val) 0x40 = 0x03C00C00 ∧ State.reset.reg (pgLink l.val) 0x54 = 8 ∧
    State.reset.reg (pgLink l.val) 0x58 = l.val ∧ (State.reset.lnk l.val).st = .off) ∧
  (∀ k, k < 24 → State.reset.reg (pgMem k) 0x40 = if k < 8 then 0x10001801 else 0x10011801) ∧
  State.reset.fr.st = .halted ∧ State.reset.fr.num = 0 ∧ State.reset.tb.locked = false ∧ State.reset.stm.ctx = [] ∧
  (∀ j, (State.reset.lane j).cur = none) ∧ (∀ q, State.reset.qd q = {}) ∧ (∀ c, State.reset.cell c = 0) ∧
  (∀ z, (State.reset.zn z).st = .off) ∧ State.reset.mg.cs = 0 ∧ State.reset.pw.held = true ∧ State.reset.pw.vmax = 50 ∧
  State.reset.mem.bytes = [] ∧ State.reset.rg.recs = [] ∧ State.reset.irq.msix = []
end

