-- ==== Sys2Proof/Laws/Agents.lean ====
section
/-!
SUPPORT. What the launch unit reads of a plan that nothing has changed, and what a granule write by a stream or a lane
leaves to memory when no other agent has written there in the frame.
-/
namespace Sys2Proof.Machine

/-- A plan word is read as it stands when memory is what it was at both boundaries before. -/
theorem State.planWord_eq_peek (s : State) (a n : Nat) (h1 : s.fr.memNow = s.mem.bytes) (h2 : s.fr.memPrev = s.mem.bytes) :
    s.planWord a n = s.peek a n := by
  simp [State.planWord, State.peek, h1, h2]

/-- Bytes that no other agent has written in the frame come to memory as they are. -/
theorem State.contest_fst_of_no_clash (s : State) (agent g : Nat) (data : List (Option Byte))
    (h : ∀ i, i < data.length → s.clash agent (64 * g + i) = false) : (s.contest agent g data).1 = data := by
  have hn : (List.range data.length).any (fun i => s.clash agent (64 * g + i)) = false := by simpa using h
  unfold State.contest
  simp only [hn]
  split <;> rfl

/-- Noting a write changes the count of free values drawn and the frame's notes only. -/
theorem State.contest_snd (s : State) (agent g : Nat) (data : List (Option Byte)) :
    (s.contest agent g data).2 =
      { s with freeCtr := (s.contest agent g data).2.freeCtr, stm := { s.stm with wrote := (s.contest agent g data).2.stm.wrote } } := by
  unfold State.contest
  dsimp only
  split <;> rfl

end Sys2Proof.Machine
end

