-- ==== Sys2Proof/Laws/Tbl.lean ====
section
/-!
SUPPORT. Laws of the sparse tables: what a read gives after a write, a removal or a drop, and that every table operation
keeps the canonical form.
-/
namespace Sys2Proof.Machine

variable {α : Type} {σ : Type}

@[simp] theorem tget_nil (d : α) (k : Nat) : tget d k [] = d := rfl

theorem tget_tins_same (d v : α) (k : Nat) (t : Tbl α) : tget d k (tins k v t) = v := by
  induction t with
  | nil => simp [tins, tget]
  | cons e t ih =>
    obtain ⟨j, w⟩ := e
    unfold tins
    split
    · simp [tget]
    · split
      · simp [tget]
      · rename_i h _
        simp [tget, h, ih]

theorem tget_tins_ne (d v : α) {k k' : Nat} (h : k' ≠ k) (t : Tbl α) : tget d k' (tins k v t) = tget d k' t := by
  induction t with
  | nil => simp [tins, tget, Ne.symm h]
  | cons e t ih =>
    obtain ⟨j, w⟩ := e
    unfold tins
    split
    · rename_i hj
      subst hj
      simp [tget, Ne.symm h]
    · split
      · simp [tget, Ne.symm h]
      · simp [tget, ih]

theorem tget_filter_same (d : α) (p : Nat → Bool) (k : Nat) (t : Tbl α) (h : p k = false) :
    tget d k (t.filter (fun e => p e.1)) = d := by
  induction t with
  | nil => rfl
  | cons e t ih =>
    obtain ⟨j, w⟩ := e
    by_cases hp : p j = true
    · have hj : j ≠ k := by
        rintro rfl
        simp [hp] at h
      simp [hp, tget, hj, ih]
    · simp [hp, ih]

theorem tget_filter_ne (d : α) (p : Nat → Bool) (k : Nat) (t : Tbl α) (h : p k = true) :
    tget d k (t.filter (fun e => p e.1)) = tget d k t := by
  induction t with
  | nil => rfl
  | cons e t ih =>
    obtain ⟨j, w⟩ := e
    by_cases hp : p j = true
    · simp [hp, tget, ih]
    · have hj : j ≠ k := by
        rintro rfl
        exact hp h
      simp [hp, tget, hj, ih]

/-- A read gives what was written there. -/
@[simp] theorem tget_tset_same [DecidableEq α] (d v : α) (k : Nat) (t : Tbl α) : tget d k (tset d k v t) = v := by
  unfold tset
  split
  · rename_i h
    subst h
    exact tget_filter_same v (fun j => j != k) k t (by simp)
  · exact tget_tins_same d v k t

/-- A write leaves every other place alone. -/
theorem tget_tset_ne [DecidableEq α] (d d' v : α) {k k' : Nat} (h : k' ≠ k) (t : Tbl α) :
    tget d' k' (tset d k v t) = tget d' k' t := by
  unfold tset
  split
  · exact tget_filter_ne d' (fun j => j != k) k' t (by simpa using h)
  · exact tget_tins_ne d' v h t

/-- Both at once: a read after a write. -/
theorem tget_tset [DecidableEq α] (d v : α) (k k' : Nat) (t : Tbl α) :
    tget d k' (tset d k v t) = if k' = k then v else tget d k' t := by
  split
  · rename_i h
    subst h
    simp
  · rename_i h
    exact tget_tset_ne d d v h t

theorem tget_tdrop (d : α) (p : Nat → Bool) (k : Nat) (t : Tbl α) :
    tget d k (tdrop p t) = if p k then d else tget d k t := by
  unfold tdrop
  split
  · rename_i h
    exact tget_filter_same d (fun j => !p j) k t (by simp [h])
  · rename_i h
    exact tget_filter_ne d (fun j => !p j) k t (by simpa using h)

/-! ### The canonical form -/

theorem twfFrom_mono [DecidableEq α] (d : Nat → α) {m n : Nat} (h : m ≤ n) {t : Tbl α} (ht : twfFrom d n t = true) :
    twfFrom d m t = true := by
  cases t with
  | nil => rfl
  | cons e t =>
    simp only [twfFrom, Bool.and_eq_true, decide_eq_true_eq] at ht ⊢
    exact ⟨⟨le_trans h ht.1.1, ht.1.2⟩, ht.2⟩

theorem twfFrom_filter [DecidableEq α] (d : Nat → α) (p : Nat × α → Bool) {n : Nat} {t : Tbl α}
    (ht : twfFrom d n t = true) : twfFrom d n (t.filter p) = true := by
  induction t generalizing n with
  | nil => rfl
  | cons e t ih =>
    simp only [twfFrom, Bool.and_eq_true, decide_eq_true_eq] at ht
    by_cases hp : p e = true
    · simp only [List.filter_cons, hp, if_true, twfFrom, Bool.and_eq_true, decide_eq_true_eq]
      exact ⟨ht.1, ih ht.2⟩
    · simp only [List.filter_cons, hp]
      exact ih (twfFrom_mono d (by omega) ht.2)

theorem twfFrom_tins [DecidableEq α] (d : Nat → α) {k : Nat} {v : α} (hv : v ≠ d k) {n : Nat} {t : Tbl α}
    (hk : n ≤ k) (ht : twfFrom d n t = true) : twfFrom d n (tins k v t) = true := by
  induction t generalizing n with
  | nil => simp [tins, twfFrom, hk, hv]
  | cons e t ih =>
    obtain ⟨j, w⟩ := e
    simp only [twfFrom, Bool.and_eq_true, decide_eq_true_eq] at ht
    unfold tins
    split
    · rename_i hj
      subst hj
      simp [twfFrom, hk, hv, ht.2]
    · split
      · rename_i hlt
        simp only [twfFrom, Bool.and_eq_true, decide_eq_true_eq]
        exact ⟨⟨hk, hv⟩, ⟨by omega, ht.1.2⟩, ht.2⟩
      · simp only [twfFrom, Bool.and_eq_true, decide_eq_true_eq]
        exact ⟨ht.1, ih (by omega) ht.2⟩

/-- Every table write keeps the canonical form. -/
theorem twf_tset [DecidableEq α] (d : Nat → α) (k : Nat) (v : α) {t : Tbl α} (ht : twf d t = true) :
    twf d (tset (d k) k v t) = true := by
  unfold tset
  split
  · exact twfFrom_filter d _ ht
  · rename_i h
    exact twfFrom_tins d h (Nat.zero_le k) ht

/-- Every removal keeps the canonical form. -/
theorem twf_filter [DecidableEq α] (d : Nat → α) (p : Nat × α → Bool) {t : Tbl α} (ht : twf d t = true) :
    twf d (t.filter p) = true := twfFrom_filter d p ht

theorem twf_tdrop [DecidableEq α] (d : Nat → α) (p : Nat → Bool) {t : Tbl α} (ht : twf d t = true) :
    twf d (tdrop p t) = true := twfFrom_filter d _ ht

/-! ### Loops -/

/-- What every pass of a counted loop keeps, the loop keeps. -/
theorem forN_keeps (P : σ → Prop) (f : Nat → σ → σ) (hf : ∀ i s, P s → P (f i s)) (n : Nat) (s : σ) (h : P s) :
    P (forN n f s) := by
  induction n with
  | zero => exact h
  | succ n ih => exact hf n _ ih

/-- What every pass of a loop over a list keeps, the loop keeps. -/
theorem forL_keeps {β : Type} (P : σ → Prop) (f : β → σ → σ) (hf : ∀ a s, P s → P (f a s)) (l : List β) (s : σ) (h : P s) :
    P (forL l f s) := by
  induction l generalizing s with
  | nil => exact h
  | cons a l ih => exact ih _ (hf a s h)

end Sys2Proof.Machine
end

