-- ==== Sys2Proof/Laws/State.lean ====
section
/-!
SUPPORT. What each shared update of the state leaves as it was: one lemma for each field and each update, and what it
writes where it writes.
-/
namespace Sys2Proof.Machine

variable (s : State)

/-! ### setReg -/

@[simp] theorem State.setReg_pending (p o v : Nat) : (s.setReg p o v).pending = s.pending := rfl
@[simp] theorem State.setReg_freeCtr (p o v : Nat) : (s.setReg p o v).freeCtr = s.freeCtr := rfl
@[simp] theorem State.setReg_resp (p o v : Nat) : (s.setReg p o v).resp = s.resp := rfl
@[simp] theorem State.setReg_evRaw (p o v : Nat) : (s.setReg p o v).evRaw = s.evRaw := rfl
@[simp] theorem State.setReg_evEn (p o v : Nat) : (s.setReg p o v).evEn = s.evEn := rfl
@[simp] theorem State.setReg_cnt (p o v : Nat) : (s.setReg p o v).cnt = s.cnt := rfl
@[simp] theorem State.setReg_snap (p o v : Nat) : (s.setReg p o v).snap = s.snap := rfl
@[simp] theorem State.setReg_soft (p o v : Nat) : (s.setReg p o v).soft = s.soft := rfl
@[simp] theorem State.setReg_hif (p o v : Nat) : (s.setReg p o v).hif = s.hif := rfl
@[simp] theorem State.setReg_irq (p o v : Nat) : (s.setReg p o v).irq = s.irq := rfl
@[simp] theorem State.setReg_tb (p o v : Nat) : (s.setReg p o v).tb = s.tb := rfl
@[simp] theorem State.setReg_fr (p o v : Nat) : (s.setReg p o v).fr = s.fr := rfl
@[simp] theorem State.setReg_gov (p o v : Nat) : (s.setReg p o v).gov = s.gov := rfl
@[simp] theorem State.setReg_rg (p o v : Nat) : (s.setReg p o v).rg = s.rg := rfl
@[simp] theorem State.setReg_q (p o v : Nat) : (s.setReg p o v).q = s.q := rfl
@[simp] theorem State.setReg_sy (p o v : Nat) : (s.setReg p o v).sy = s.sy := rfl
@[simp] theorem State.setReg_mem (p o v : Nat) : (s.setReg p o v).mem = s.mem := rfl
@[simp] theorem State.setReg_share (p o v : Nat) : (s.setReg p o v).share = s.share := rfl
@[simp] theorem State.setReg_sec (p o v : Nat) : (s.setReg p o v).sec = s.sec := rfl
@[simp] theorem State.setReg_link (p o v : Nat) : (s.setReg p o v).link = s.link := rfl
@[simp] theorem State.setReg_chk (p o v : Nat) : (s.setReg p o v).chk = s.chk := rfl
@[simp] theorem State.setReg_route (p o v : Nat) : (s.setReg p o v).route = s.route := rfl
@[simp] theorem State.setReg_frozen (p o v : Nat) : (s.setReg p o v).frozen = s.frozen := rfl
@[simp] theorem State.setReg_mg (p o v : Nat) : (s.setReg p o v).mg = s.mg := rfl
@[simp] theorem State.setReg_vsu (p o v : Nat) : (s.setReg p o v).vsu = s.vsu := rfl
@[simp] theorem State.setReg_stm (p o v : Nat) : (s.setReg p o v).stm = s.stm := rfl
@[simp] theorem State.setReg_tile (p o v : Nat) : (s.setReg p o v).tile = s.tile := rfl
@[simp] theorem State.setReg_lp (p o v : Nat) : (s.setReg p o v).lp = s.lp := rfl
@[simp] theorem State.setReg_pw (p o v : Nat) : (s.setReg p o v).pw = s.pw := rfl

/-! ### setReg64 -/

@[simp] theorem State.setReg64_pending (p o v : Nat) : (s.setReg64 p o v).pending = s.pending := rfl
@[simp] theorem State.setReg64_freeCtr (p o v : Nat) : (s.setReg64 p o v).freeCtr = s.freeCtr := rfl
@[simp] theorem State.setReg64_resp (p o v : Nat) : (s.setReg64 p o v).resp = s.resp := rfl
@[simp] theorem State.setReg64_evRaw (p o v : Nat) : (s.setReg64 p o v).evRaw = s.evRaw := rfl
@[simp] theorem State.setReg64_evEn (p o v : Nat) : (s.setReg64 p o v).evEn = s.evEn := rfl
@[simp] theorem State.setReg64_cnt (p o v : Nat) : (s.setReg64 p o v).cnt = s.cnt := rfl
@[simp] theorem State.setReg64_snap (p o v : Nat) : (s.setReg64 p o v).snap = s.snap := rfl
@[simp] theorem State.setReg64_soft (p o v : Nat) : (s.setReg64 p o v).soft = s.soft := rfl
@[simp] theorem State.setReg64_hif (p o v : Nat) : (s.setReg64 p o v).hif = s.hif := rfl
@[simp] theorem State.setReg64_irq (p o v : Nat) : (s.setReg64 p o v).irq = s.irq := rfl
@[simp] theorem State.setReg64_tb (p o v : Nat) : (s.setReg64 p o v).tb = s.tb := rfl
@[simp] theorem State.setReg64_fr (p o v : Nat) : (s.setReg64 p o v).fr = s.fr := rfl
@[simp] theorem State.setReg64_gov (p o v : Nat) : (s.setReg64 p o v).gov = s.gov := rfl
@[simp] theorem State.setReg64_rg (p o v : Nat) : (s.setReg64 p o v).rg = s.rg := rfl
@[simp] theorem State.setReg64_q (p o v : Nat) : (s.setReg64 p o v).q = s.q := rfl
@[simp] theorem State.setReg64_sy (p o v : Nat) : (s.setReg64 p o v).sy = s.sy := rfl
@[simp] theorem State.setReg64_mem (p o v : Nat) : (s.setReg64 p o v).mem = s.mem := rfl
@[simp] theorem State.setReg64_share (p o v : Nat) : (s.setReg64 p o v).share = s.share := rfl
@[simp] theorem State.setReg64_sec (p o v : Nat) : (s.setReg64 p o v).sec = s.sec := rfl
@[simp] theorem State.setReg64_link (p o v : Nat) : (s.setReg64 p o v).link = s.link := rfl
@[simp] theorem State.setReg64_chk (p o v : Nat) : (s.setReg64 p o v).chk = s.chk := rfl
@[simp] theorem State.setReg64_route (p o v : Nat) : (s.setReg64 p o v).route = s.route := rfl
@[simp] theorem State.setReg64_frozen (p o v : Nat) : (s.setReg64 p o v).frozen = s.frozen := rfl
@[simp] theorem State.setReg64_mg (p o v : Nat) : (s.setReg64 p o v).mg = s.mg := rfl
@[simp] theorem State.setReg64_vsu (p o v : Nat) : (s.setReg64 p o v).vsu = s.vsu := rfl
@[simp] theorem State.setReg64_stm (p o v : Nat) : (s.setReg64 p o v).stm = s.stm := rfl
@[simp] theorem State.setReg64_tile (p o v : Nat) : (s.setReg64 p o v).tile = s.tile := rfl
@[simp] theorem State.setReg64_lp (p o v : Nat) : (s.setReg64 p o v).lp = s.lp := rfl
@[simp] theorem State.setReg64_pw (p o v : Nat) : (s.setReg64 p o v).pw = s.pw := rfl

/-! ### setRaw -/

@[simp] theorem State.setRaw_pending (p v : Nat) : (s.setRaw p v).pending = s.pending := rfl
@[simp] theorem State.setRaw_freeCtr (p v : Nat) : (s.setRaw p v).freeCtr = s.freeCtr := rfl
@[simp] theorem State.setRaw_resp (p v : Nat) : (s.setRaw p v).resp = s.resp := rfl
@[simp] theorem State.setRaw_regs (p v : Nat) : (s.setRaw p v).regs = s.regs := rfl
@[simp] theorem State.setRaw_evEn (p v : Nat) : (s.setRaw p v).evEn = s.evEn := rfl
@[simp] theorem State.setRaw_cnt (p v : Nat) : (s.setRaw p v).cnt = s.cnt := rfl
@[simp] theorem State.setRaw_snap (p v : Nat) : (s.setRaw p v).snap = s.snap := rfl
@[simp] theorem State.setRaw_soft (p v : Nat) : (s.setRaw p v).soft = s.soft := rfl
@[simp] theorem State.setRaw_hif (p v : Nat) : (s.setRaw p v).hif = s.hif := rfl
@[simp] theorem State.setRaw_irq (p v : Nat) : (s.setRaw p v).irq = s.irq := rfl
@[simp] theorem State.setRaw_tb (p v : Nat) : (s.setRaw p v).tb = s.tb := rfl
@[simp] theorem State.setRaw_fr (p v : Nat) : (s.setRaw p v).fr = s.fr := rfl
@[simp] theorem State.setRaw_gov (p v : Nat) : (s.setRaw p v).gov = s.gov := rfl
@[simp] theorem State.setRaw_rg (p v : Nat) : (s.setRaw p v).rg = s.rg := rfl
@[simp] theorem State.setRaw_q (p v : Nat) : (s.setRaw p v).q = s.q := rfl
@[simp] theorem State.setRaw_sy (p v : Nat) : (s.setRaw p v).sy = s.sy := rfl
@[simp] theorem State.setRaw_mem (p v : Nat) : (s.setRaw p v).mem = s.mem := rfl
@[simp] theorem State.setRaw_share (p v : Nat) : (s.setRaw p v).share = s.share := rfl
@[simp] theorem State.setRaw_sec (p v : Nat) : (s.setRaw p v).sec = s.sec := rfl
@[simp] theorem State.setRaw_link (p v : Nat) : (s.setRaw p v).link = s.link := rfl
@[simp] theorem State.setRaw_chk (p v : Nat) : (s.setRaw p v).chk = s.chk := rfl
@[simp] theorem State.setRaw_route (p v : Nat) : (s.setRaw p v).route = s.route := rfl
@[simp] theorem State.setRaw_frozen (p v : Nat) : (s.setRaw p v).frozen = s.frozen := rfl
@[simp] theorem State.setRaw_mg (p v : Nat) : (s.setRaw p v).mg = s.mg := rfl
@[simp] theorem State.setRaw_vsu (p v : Nat) : (s.setRaw p v).vsu = s.vsu := rfl
@[simp] theorem State.setRaw_stm (p v : Nat) : (s.setRaw p v).stm = s.stm := rfl
@[simp] theorem State.setRaw_tile (p v : Nat) : (s.setRaw p v).tile = s.tile := rfl
@[simp] theorem State.setRaw_lp (p v : Nat) : (s.setRaw p v).lp = s.lp := rfl
@[simp] theorem State.setRaw_pw (p v : Nat) : (s.setRaw p v).pw = s.pw := rfl

/-! ### raise -/

@[simp] theorem State.raise_pending (p b : Nat) : (s.raise p b).pending = s.pending := rfl
@[simp] theorem State.raise_freeCtr (p b : Nat) : (s.raise p b).freeCtr = s.freeCtr := rfl
@[simp] theorem State.raise_resp (p b : Nat) : (s.raise p b).resp = s.resp := rfl
@[simp] theorem State.raise_regs (p b : Nat) : (s.raise p b).regs = s.regs := rfl
@[simp] theorem State.raise_evEn (p b : Nat) : (s.raise p b).evEn = s.evEn := rfl
@[simp] theorem State.raise_cnt (p b : Nat) : (s.raise p b).cnt = s.cnt := rfl
@[simp] theorem State.raise_snap (p b : Nat) : (s.raise p b).snap = s.snap := rfl
@[simp] theorem State.raise_soft (p b : Nat) : (s.raise p b).soft = s.soft := rfl
@[simp] theorem State.raise_hif (p b : Nat) : (s.raise p b).hif = s.hif := rfl
@[simp] theorem State.raise_irq (p b : Nat) : (s.raise p b).irq = s.irq := rfl
@[simp] theorem State.raise_tb (p b : Nat) : (s.raise p b).tb = s.tb := rfl
@[simp] theorem State.raise_fr (p b : Nat) : (s.raise p b).fr = s.fr := rfl
@[simp] theorem State.raise_gov (p b : Nat) : (s.raise p b).gov = s.gov := rfl
@[simp] theorem State.raise_rg (p b : Nat) : (s.raise p b).rg = s.rg := rfl
@[simp] theorem State.raise_q (p b : Nat) : (s.raise p b).q = s.q := rfl
@[simp] theorem State.raise_sy (p b : Nat) : (s.raise p b).sy = s.sy := rfl
@[simp] theorem State.raise_mem (p b : Nat) : (s.raise p b).mem = s.mem := rfl
@[simp] theorem State.raise_share (p b : Nat) : (s.raise p b).share = s.share := rfl
@[simp] theorem State.raise_sec (p b : Nat) : (s.raise p b).sec = s.sec := rfl
@[simp] theorem State.raise_link (p b : Nat) : (s.raise p b).link = s.link := rfl
@[simp] theorem State.raise_chk (p b : Nat) : (s.raise p b).chk = s.chk := rfl
@[simp] theorem State.raise_route (p b : Nat) : (s.raise p b).route = s.route := rfl
@[simp] theorem State.raise_frozen (p b : Nat) : (s.raise p b).frozen = s.frozen := rfl
@[simp] theorem State.raise_mg (p b : Nat) : (s.raise p b).mg = s.mg := rfl
@[simp] theorem State.raise_vsu (p b : Nat) : (s.raise p b).vsu = s.vsu := rfl
@[simp] theorem State.raise_stm (p b : Nat) : (s.raise p b).stm = s.stm := rfl
@[simp] theorem State.raise_tile (p b : Nat) : (s.raise p b).tile = s.tile := rfl
@[simp] theorem State.raise_lp (p b : Nat) : (s.raise p b).lp = s.lp := rfl
@[simp] theorem State.raise_pw (p b : Nat) : (s.raise p b).pw = s.pw := rfl

/-! ### countN -/

@[simp] theorem State.countN_pending (p k n : Nat) : (s.countN p k n).pending = s.pending := rfl
@[simp] theorem State.countN_freeCtr (p k n : Nat) : (s.countN p k n).freeCtr = s.freeCtr := rfl
@[simp] theorem State.countN_resp (p k n : Nat) : (s.countN p k n).resp = s.resp := rfl
@[simp] theorem State.countN_regs (p k n : Nat) : (s.countN p k n).regs = s.regs := rfl
@[simp] theorem State.countN_evRaw (p k n : Nat) : (s.countN p k n).evRaw = s.evRaw := rfl
@[simp] theorem State.countN_evEn (p k n : Nat) : (s.countN p k n).evEn = s.evEn := rfl
@[simp] theorem State.countN_snap (p k n : Nat) : (s.countN p k n).snap = s.snap := rfl
@[simp] theorem State.countN_soft (p k n : Nat) : (s.countN p k n).soft = s.soft := rfl
@[simp] theorem State.countN_hif (p k n : Nat) : (s.countN p k n).hif = s.hif := rfl
@[simp] theorem State.countN_irq (p k n : Nat) : (s.countN p k n).irq = s.irq := rfl
@[simp] theorem State.countN_tb (p k n : Nat) : (s.countN p k n).tb = s.tb := rfl
@[simp] theorem State.countN_fr (p k n : Nat) : (s.countN p k n).fr = s.fr := rfl
@[simp] theorem State.countN_gov (p k n : Nat) : (s.countN p k n).gov = s.gov := rfl
@[simp] theorem State.countN_rg (p k n : Nat) : (s.countN p k n).rg = s.rg := rfl
@[simp] theorem State.countN_q (p k n : Nat) : (s.countN p k n).q = s.q := rfl
@[simp] theorem State.countN_sy (p k n : Nat) : (s.countN p k n).sy = s.sy := rfl
@[simp] theorem State.countN_mem (p k n : Nat) : (s.countN p k n).mem = s.mem := rfl
@[simp] theorem State.countN_share (p k n : Nat) : (s.countN p k n).share = s.share := rfl
@[simp] theorem State.countN_sec (p k n : Nat) : (s.countN p k n).sec = s.sec := rfl
@[simp] theorem State.countN_link (p k n : Nat) : (s.countN p k n).link = s.link := rfl
@[simp] theorem State.countN_chk (p k n : Nat) : (s.countN p k n).chk = s.chk := rfl
@[simp] theorem State.countN_route (p k n : Nat) : (s.countN p k n).route = s.route := rfl
@[simp] theorem State.countN_frozen (p k n : Nat) : (s.countN p k n).frozen = s.frozen := rfl
@[simp] theorem State.countN_mg (p k n : Nat) : (s.countN p k n).mg = s.mg := rfl
@[simp] theorem State.countN_vsu (p k n : Nat) : (s.countN p k n).vsu = s.vsu := rfl
@[simp] theorem State.countN_stm (p k n : Nat) : (s.countN p k n).stm = s.stm := rfl
@[simp] theorem State.countN_tile (p k n : Nat) : (s.countN p k n).tile = s.tile := rfl
@[simp] theorem State.countN_lp (p k n : Nat) : (s.countN p k n).lp = s.lp := rfl
@[simp] theorem State.countN_pw (p k n : Nat) : (s.countN p k n).pw = s.pw := rfl

/-! ### count -/

@[simp] theorem State.count_pending (p k : Nat) : (s.count p k).pending = s.pending := rfl
@[simp] theorem State.count_freeCtr (p k : Nat) : (s.count p k).freeCtr = s.freeCtr := rfl
@[simp] theorem State.count_resp (p k : Nat) : (s.count p k).resp = s.resp := rfl
@[simp] theorem State.count_regs (p k : Nat) : (s.count p k).regs = s.regs := rfl
@[simp] theorem State.count_evRaw (p k : Nat) : (s.count p k).evRaw = s.evRaw := rfl
@[simp] theorem State.count_evEn (p k : Nat) : (s.count p k).evEn = s.evEn := rfl
@[simp] theorem State.count_snap (p k : Nat) : (s.count p k).snap = s.snap := rfl
@[simp] theorem State.count_soft (p k : Nat) : (s.count p k).soft = s.soft := rfl
@[simp] theorem State.count_hif (p k : Nat) : (s.count p k).hif = s.hif := rfl
@[simp] theorem State.count_irq (p k : Nat) : (s.count p k).irq = s.irq := rfl
@[simp] theorem State.count_tb (p k : Nat) : (s.count p k).tb = s.tb := rfl
@[simp] theorem State.count_fr (p k : Nat) : (s.count p k).fr = s.fr := rfl
@[simp] theorem State.count_gov (p k : Nat) : (s.count p k).gov = s.gov := rfl
@[simp] theorem State.count_rg (p k : Nat) : (s.count p k).rg = s.rg := rfl
@[simp] theorem State.count_q (p k : Nat) : (s.count p k).q = s.q := rfl
@[simp] theorem State.count_sy (p k : Nat) : (s.count p k).sy = s.sy := rfl
@[simp] theorem State.count_mem (p k : Nat) : (s.count p k).mem = s.mem := rfl
@[simp] theorem State.count_share (p k : Nat) : (s.count p k).share = s.share := rfl
@[simp] theorem State.count_sec (p k : Nat) : (s.count p k).sec = s.sec := rfl
@[simp] theorem State.count_link (p k : Nat) : (s.count p k).link = s.link := rfl
@[simp] theorem State.count_chk (p k : Nat) : (s.count p k).chk = s.chk := rfl
@[simp] theorem State.count_route (p k : Nat) : (s.count p k).route = s.route := rfl
@[simp] theorem State.count_frozen (p k : Nat) : (s.count p k).frozen = s.frozen := rfl
@[simp] theorem State.count_mg (p k : Nat) : (s.count p k).mg = s.mg := rfl
@[simp] theorem State.count_vsu (p k : Nat) : (s.count p k).vsu = s.vsu := rfl
@[simp] theorem State.count_stm (p k : Nat) : (s.count p k).stm = s.stm := rfl
@[simp] theorem State.count_tile (p k : Nat) : (s.count p k).tile = s.tile := rfl
@[simp] theorem State.count_lp (p k : Nat) : (s.count p k).lp = s.lp := rfl
@[simp] theorem State.count_pw (p k : Nat) : (s.count p k).pw = s.pw := rfl

/-! ### countRaise -/

@[simp] theorem State.countRaise_pending (p k b : Nat) : (s.countRaise p k b).pending = s.pending := rfl
@[simp] theorem State.countRaise_freeCtr (p k b : Nat) : (s.countRaise p k b).freeCtr = s.freeCtr := rfl
@[simp] theorem State.countRaise_resp (p k b : Nat) : (s.countRaise p k b).resp = s.resp := rfl
@[simp] theorem State.countRaise_regs (p k b : Nat) : (s.countRaise p k b).regs = s.regs := rfl
@[simp] theorem State.countRaise_evEn (p k b : Nat) : (s.countRaise p k b).evEn = s.evEn := rfl
@[simp] theorem State.countRaise_snap (p k b : Nat) : (s.countRaise p k b).snap = s.snap := rfl
@[simp] theorem State.countRaise_soft (p k b : Nat) : (s.countRaise p k b).soft = s.soft := rfl
@[simp] theorem State.countRaise_hif (p k b : Nat) : (s.countRaise p k b).hif = s.hif := rfl
@[simp] theorem State.countRaise_irq (p k b : Nat) : (s.countRaise p k b).irq = s.irq := rfl
@[simp] theorem State.countRaise_tb (p k b : Nat) : (s.countRaise p k b).tb = s.tb := rfl
@[simp] theorem State.countRaise_fr (p k b : Nat) : (s.countRaise p k b).fr = s.fr := rfl
@[simp] theorem State.countRaise_gov (p k b : Nat) : (s.countRaise p k b).gov = s.gov := rfl
@[simp] theorem State.countRaise_rg (p k b : Nat) : (s.countRaise p k b).rg = s.rg := rfl
@[simp] theorem State.countRaise_q (p k b : Nat) : (s.countRaise p k b).q = s.q := rfl
@[simp] theorem State.countRaise_sy (p k b : Nat) : (s.countRaise p k b).sy = s.sy := rfl
@[simp] theorem State.countRaise_mem (p k b : Nat) : (s.countRaise p k b).mem = s.mem := rfl
@[simp] theorem State.countRaise_share (p k b : Nat) : (s.countRaise p k b).share = s.share := rfl
@[simp] theorem State.countRaise_sec (p k b : Nat) : (s.countRaise p k b).sec = s.sec := rfl
@[simp] theorem State.countRaise_link (p k b : Nat) : (s.countRaise p k b).link = s.link := rfl
@[simp] theorem State.countRaise_chk (p k b : Nat) : (s.countRaise p k b).chk = s.chk := rfl
@[simp] theorem State.countRaise_route (p k b : Nat) : (s.countRaise p k b).route = s.route := rfl
@[simp] theorem State.countRaise_frozen (p k b : Nat) : (s.countRaise p k b).frozen = s.frozen := rfl
@[simp] theorem State.countRaise_mg (p k b : Nat) : (s.countRaise p k b).mg = s.mg := rfl
@[simp] theorem State.countRaise_vsu (p k b : Nat) : (s.countRaise p k b).vsu = s.vsu := rfl
@[simp] theorem State.countRaise_stm (p k b : Nat) : (s.countRaise p k b).stm = s.stm := rfl
@[simp] theorem State.countRaise_tile (p k b : Nat) : (s.countRaise p k b).tile = s.tile := rfl
@[simp] theorem State.countRaise_lp (p k b : Nat) : (s.countRaise p k b).lp = s.lp := rfl
@[simp] theorem State.countRaise_pw (p k b : Nat) : (s.countRaise p k b).pw = s.pw := rfl

/-! ### answer -/

@[simp] theorem State.answer_pending (r : Resp) : (s.answer r).pending = s.pending := rfl
@[simp] theorem State.answer_freeCtr (r : Resp) : (s.answer r).freeCtr = s.freeCtr := rfl
@[simp] theorem State.answer_regs (r : Resp) : (s.answer r).regs = s.regs := rfl
@[simp] theorem State.answer_evRaw (r : Resp) : (s.answer r).evRaw = s.evRaw := rfl
@[simp] theorem State.answer_evEn (r : Resp) : (s.answer r).evEn = s.evEn := rfl
@[simp] theorem State.answer_cnt (r : Resp) : (s.answer r).cnt = s.cnt := rfl
@[simp] theorem State.answer_snap (r : Resp) : (s.answer r).snap = s.snap := rfl
@[simp] theorem State.answer_soft (r : Resp) : (s.answer r).soft = s.soft := rfl
@[simp] theorem State.answer_hif (r : Resp) : (s.answer r).hif = s.hif := rfl
@[simp] theorem State.answer_irq (r : Resp) : (s.answer r).irq = s.irq := rfl
@[simp] theorem State.answer_tb (r : Resp) : (s.answer r).tb = s.tb := rfl
@[simp] theorem State.answer_fr (r : Resp) : (s.answer r).fr = s.fr := rfl
@[simp] theorem State.answer_gov (r : Resp) : (s.answer r).gov = s.gov := rfl
@[simp] theorem State.answer_rg (r : Resp) : (s.answer r).rg = s.rg := rfl
@[simp] theorem State.answer_q (r : Resp) : (s.answer r).q = s.q := rfl
@[simp] theorem State.answer_sy (r : Resp) : (s.answer r).sy = s.sy := rfl
@[simp] theorem State.answer_mem (r : Resp) : (s.answer r).mem = s.mem := rfl
@[simp] theorem State.answer_share (r : Resp) : (s.answer r).share = s.share := rfl
@[simp] theorem State.answer_sec (r : Resp) : (s.answer r).sec = s.sec := rfl
@[simp] theorem State.answer_link (r : Resp) : (s.answer r).link = s.link := rfl
@[simp] theorem State.answer_chk (r : Resp) : (s.answer r).chk = s.chk := rfl
@[simp] theorem State.answer_route (r : Resp) : (s.answer r).route = s.route := rfl
@[simp] theorem State.answer_frozen (r : Resp) : (s.answer r).frozen = s.frozen := rfl
@[simp] theorem State.answer_mg (r : Resp) : (s.answer r).mg = s.mg := rfl
@[simp] theorem State.answer_vsu (r : Resp) : (s.answer r).vsu = s.vsu := rfl
@[simp] theorem State.answer_stm (r : Resp) : (s.answer r).stm = s.stm := rfl
@[simp] theorem State.answer_tile (r : Resp) : (s.answer r).tile = s.tile := rfl
@[simp] theorem State.answer_lp (r : Resp) : (s.answer r).lp = s.lp := rfl
@[simp] theorem State.answer_pw (r : Resp) : (s.answer r).pw = s.pw := rfl

/-! ### violate -/

@[simp] theorem State.violate_pending (t c : Nat) : (s.violate t c).pending = s.pending := by unfold State.violate; dsimp only; split <;> rfl
@[simp] theorem State.violate_freeCtr (t c : Nat) : (s.violate t c).freeCtr = s.freeCtr := by unfold State.violate; dsimp only; split <;> rfl
@[simp] theorem State.violate_resp (t c : Nat) : (s.violate t c).resp = s.resp := by unfold State.violate; dsimp only; split <;> rfl
@[simp] theorem State.violate_regs (t c : Nat) : (s.violate t c).regs = s.regs := by unfold State.violate; dsimp only; split <;> rfl
@[simp] theorem State.violate_evRaw (t c : Nat) : (s.violate t c).evRaw = s.evRaw := by unfold State.violate; dsimp only; split <;> rfl
@[simp] theorem State.violate_evEn (t c : Nat) : (s.violate t c).evEn = s.evEn := by unfold State.violate; dsimp only; split <;> rfl
@[simp] theorem State.violate_snap (t c : Nat) : (s.violate t c).snap = s.snap := by unfold State.violate; dsimp only; split <;> rfl
@[simp] theorem State.violate_soft (t c : Nat) : (s.violate t c).soft = s.soft := by unfold State.violate; dsimp only; split <;> rfl
@[simp] theorem State.violate_hif (t c : Nat) : (s.violate t c).hif = s.hif := by unfold State.violate; dsimp only; split <;> rfl
@[simp] theorem State.violate_irq (t c : Nat) : (s.violate t c).irq = s.irq := by unfold State.violate; dsimp only; split <;> rfl
@[simp] theorem State.violate_tb (t c : Nat) : (s.violate t c).tb = s.tb := by unfold State.violate; dsimp only; split <;> rfl
@[simp] theorem State.violate_fr (t c : Nat) : (s.violate t c).fr = s.fr := by unfold State.violate; dsimp only; split <;> rfl
@[simp] theorem State.violate_gov (t c : Nat) : (s.violate t c).gov = s.gov := by unfold State.violate; dsimp only; split <;> rfl
@[simp] theorem State.violate_rg (t c : Nat) : (s.violate t c).rg = s.rg := by unfold State.violate; dsimp only; split <;> rfl
@[simp] theorem State.violate_q (t c : Nat) : (s.violate t c).q = s.q := by unfold State.violate; dsimp only; split <;> rfl
@[simp] theorem State.violate_sy (t c : Nat) : (s.violate t c).sy = s.sy := by unfold State.violate; dsimp only; split <;> rfl
@[simp] theorem State.violate_mem (t c : Nat) : (s.violate t c).mem = s.mem := by unfold State.violate; dsimp only; split <;> rfl
@[simp] theorem State.violate_share (t c : Nat) : (s.violate t c).share = s.share := by unfold State.violate; dsimp only; split <;> rfl
@[simp] theorem State.violate_link (t c : Nat) : (s.violate t c).link = s.link := by unfold State.violate; dsimp only; split <;> rfl
@[simp] theorem State.violate_chk (t c : Nat) : (s.violate t c).chk = s.chk := by unfold State.violate; dsimp only; split <;> rfl
@[simp] theorem State.violate_route (t c : Nat) : (s.violate t c).route = s.route := by unfold State.violate; dsimp only; split <;> rfl
@[simp] theorem State.violate_frozen (t c : Nat) : (s.violate t c).frozen = s.frozen := by unfold State.violate; dsimp only; split <;> rfl
@[simp] theorem State.violate_mg (t c : Nat) : (s.violate t c).mg = s.mg := by unfold State.violate; dsimp only; split <;> rfl
@[simp] theorem State.violate_vsu (t c : Nat) : (s.violate t c).vsu = s.vsu := by unfold State.violate; dsimp only; split <;> rfl
@[simp] theorem State.violate_stm (t c : Nat) : (s.violate t c).stm = s.stm := by unfold State.violate; dsimp only; split <;> rfl
@[simp] theorem State.violate_tile (t c : Nat) : (s.violate t c).tile = s.tile := by unfold State.violate; dsimp only; split <;> rfl
@[simp] theorem State.violate_lp (t c : Nat) : (s.violate t c).lp = s.lp := by unfold State.violate; dsimp only; split <;> rfl
@[simp] theorem State.violate_pw (t c : Nat) : (s.violate t c).pw = s.pw := by unfold State.violate; dsimp only; split <;> rfl

/-! ### deny -/

@[simp] theorem State.deny_pending (p : Path) (g : Nat) : (s.deny p g).pending = s.pending := by unfold State.deny; split <;> simp
@[simp] theorem State.deny_freeCtr (p : Path) (g : Nat) : (s.deny p g).freeCtr = s.freeCtr := by unfold State.deny; split <;> simp
@[simp] theorem State.deny_resp (p : Path) (g : Nat) : (s.deny p g).resp = s.resp := by unfold State.deny; split <;> simp
@[simp] theorem State.deny_regs (p : Path) (g : Nat) : (s.deny p g).regs = s.regs := by unfold State.deny; split <;> simp
@[simp] theorem State.deny_evRaw (p : Path) (g : Nat) : (s.deny p g).evRaw = s.evRaw := by unfold State.deny; split <;> simp
@[simp] theorem State.deny_evEn (p : Path) (g : Nat) : (s.deny p g).evEn = s.evEn := by unfold State.deny; split <;> simp
@[simp] theorem State.deny_snap (p : Path) (g : Nat) : (s.deny p g).snap = s.snap := by unfold State.deny; split <;> simp
@[simp] theorem State.deny_soft (p : Path) (g : Nat) : (s.deny p g).soft = s.soft := by unfold State.deny; split <;> simp
@[simp] theorem State.deny_hif (p : Path) (g : Nat) : (s.deny p g).hif = s.hif := by unfold State.deny; split <;> simp
@[simp] theorem State.deny_irq (p : Path) (g : Nat) : (s.deny p g).irq = s.irq := by unfold State.deny; split <;> simp
@[simp] theorem State.deny_tb (p : Path) (g : Nat) : (s.deny p g).tb = s.tb := by unfold State.deny; split <;> simp
@[simp] theorem State.deny_fr (p : Path) (g : Nat) : (s.deny p g).fr = s.fr := by unfold State.deny; split <;> simp
@[simp] theorem State.deny_gov (p : Path) (g : Nat) : (s.deny p g).gov = s.gov := by unfold State.deny; split <;> simp
@[simp] theorem State.deny_rg (p : Path) (g : Nat) : (s.deny p g).rg = s.rg := by unfold State.deny; split <;> simp
@[simp] theorem State.deny_q (p : Path) (g : Nat) : (s.deny p g).q = s.q := by unfold State.deny; split <;> simp
@[simp] theorem State.deny_sy (p : Path) (g : Nat) : (s.deny p g).sy = s.sy := by unfold State.deny; split <;> simp
@[simp] theorem State.deny_mem (p : Path) (g : Nat) : (s.deny p g).mem = s.mem := by unfold State.deny; split <;> simp
@[simp] theorem State.deny_share (p : Path) (g : Nat) : (s.deny p g).share = s.share := by unfold State.deny; split <;> simp
@[simp] theorem State.deny_link (p : Path) (g : Nat) : (s.deny p g).link = s.link := by unfold State.deny; split <;> simp
@[simp] theorem State.deny_chk (p : Path) (g : Nat) : (s.deny p g).chk = s.chk := by unfold State.deny; split <;> simp
@[simp] theorem State.deny_route (p : Path) (g : Nat) : (s.deny p g).route = s.route := by unfold State.deny; split <;> simp
@[simp] theorem State.deny_frozen (p : Path) (g : Nat) : (s.deny p g).frozen = s.frozen := by unfold State.deny; split <;> simp
@[simp] theorem State.deny_mg (p : Path) (g : Nat) : (s.deny p g).mg = s.mg := by unfold State.deny; split <;> simp
@[simp] theorem State.deny_vsu (p : Path) (g : Nat) : (s.deny p g).vsu = s.vsu := by unfold State.deny; split <;> simp
@[simp] theorem State.deny_stm (p : Path) (g : Nat) : (s.deny p g).stm = s.stm := by unfold State.deny; split <;> simp
@[simp] theorem State.deny_tile (p : Path) (g : Nat) : (s.deny p g).tile = s.tile := by unfold State.deny; split <;> simp
@[simp] theorem State.deny_lp (p : Path) (g : Nat) : (s.deny p g).lp = s.lp := by unfold State.deny; split <;> simp
@[simp] theorem State.deny_pw (p : Path) (g : Nat) : (s.deny p g).pw = s.pw := by unfold State.deny; split <;> simp

/-! ### denyR -/

@[simp] theorem State.denyR_pending (p : Path) (g : Nat) : (s.denyR p g).pending = s.pending := by unfold State.denyR; split <;> simp
@[simp] theorem State.denyR_freeCtr (p : Path) (g : Nat) : (s.denyR p g).freeCtr = s.freeCtr := by unfold State.denyR; split <;> simp
@[simp] theorem State.denyR_resp (p : Path) (g : Nat) : (s.denyR p g).resp = s.resp := by unfold State.denyR; split <;> simp
@[simp] theorem State.denyR_regs (p : Path) (g : Nat) : (s.denyR p g).regs = s.regs := by unfold State.denyR; split <;> simp
@[simp] theorem State.denyR_evRaw (p : Path) (g : Nat) : (s.denyR p g).evRaw = s.evRaw := by unfold State.denyR; split <;> simp
@[simp] theorem State.denyR_evEn (p : Path) (g : Nat) : (s.denyR p g).evEn = s.evEn := by unfold State.denyR; split <;> simp
@[simp] theorem State.denyR_snap (p : Path) (g : Nat) : (s.denyR p g).snap = s.snap := by unfold State.denyR; split <;> simp
@[simp] theorem State.denyR_soft (p : Path) (g : Nat) : (s.denyR p g).soft = s.soft := by unfold State.denyR; split <;> simp
@[simp] theorem State.denyR_hif (p : Path) (g : Nat) : (s.denyR p g).hif = s.hif := by unfold State.denyR; split <;> simp
@[simp] theorem State.denyR_irq (p : Path) (g : Nat) : (s.denyR p g).irq = s.irq := by unfold State.denyR; split <;> simp
@[simp] theorem State.denyR_tb (p : Path) (g : Nat) : (s.denyR p g).tb = s.tb := by unfold State.denyR; split <;> simp
@[simp] theorem State.denyR_fr (p : Path) (g : Nat) : (s.denyR p g).fr = s.fr := by unfold State.denyR; split <;> simp
@[simp] theorem State.denyR_gov (p : Path) (g : Nat) : (s.denyR p g).gov = s.gov := by unfold State.denyR; split <;> simp
@[simp] theorem State.denyR_rg (p : Path) (g : Nat) : (s.denyR p g).rg = s.rg := by unfold State.denyR; split <;> simp
@[simp] theorem State.denyR_q (p : Path) (g : Nat) : (s.denyR p g).q = s.q := by unfold State.denyR; split <;> simp
@[simp] theorem State.denyR_sy (p : Path) (g : Nat) : (s.denyR p g).sy = s.sy := by unfold State.denyR; split <;> simp
@[simp] theorem State.denyR_mem (p : Path) (g : Nat) : (s.denyR p g).mem = s.mem := by unfold State.denyR; split <;> simp
@[simp] theorem State.denyR_share (p : Path) (g : Nat) : (s.denyR p g).share = s.share := by unfold State.denyR; split <;> simp
@[simp] theorem State.denyR_link (p : Path) (g : Nat) : (s.denyR p g).link = s.link := by unfold State.denyR; split <;> simp
@[simp] theorem State.denyR_chk (p : Path) (g : Nat) : (s.denyR p g).chk = s.chk := by unfold State.denyR; split <;> simp
@[simp] theorem State.denyR_route (p : Path) (g : Nat) : (s.denyR p g).route = s.route := by unfold State.denyR; split <;> simp
@[simp] theorem State.denyR_frozen (p : Path) (g : Nat) : (s.denyR p g).frozen = s.frozen := by unfold State.denyR; split <;> simp
@[simp] theorem State.denyR_mg (p : Path) (g : Nat) : (s.denyR p g).mg = s.mg := by unfold State.denyR; split <;> simp
@[simp] theorem State.denyR_vsu (p : Path) (g : Nat) : (s.denyR p g).vsu = s.vsu := by unfold State.denyR; split <;> simp
@[simp] theorem State.denyR_stm (p : Path) (g : Nat) : (s.denyR p g).stm = s.stm := by unfold State.denyR; split <;> simp
@[simp] theorem State.denyR_tile (p : Path) (g : Nat) : (s.denyR p g).tile = s.tile := by unfold State.denyR; split <;> simp
@[simp] theorem State.denyR_lp (p : Path) (g : Nat) : (s.denyR p g).lp = s.lp := by unfold State.denyR; split <;> simp
@[simp] theorem State.denyR_pw (p : Path) (g : Nat) : (s.denyR p g).pw = s.pw := by unfold State.denyR; split <;> simp

/-! ### sendCour -/

@[simp] theorem State.sendCour_pending (b : Bytes) : (s.sendCour b).pending = s.pending := rfl
@[simp] theorem State.sendCour_freeCtr (b : Bytes) : (s.sendCour b).freeCtr = s.freeCtr := rfl
@[simp] theorem State.sendCour_resp (b : Bytes) : (s.sendCour b).resp = s.resp := rfl
@[simp] theorem State.sendCour_regs (b : Bytes) : (s.sendCour b).regs = s.regs := rfl
@[simp] theorem State.sendCour_evRaw (b : Bytes) : (s.sendCour b).evRaw = s.evRaw := rfl
@[simp] theorem State.sendCour_evEn (b : Bytes) : (s.sendCour b).evEn = s.evEn := rfl
@[simp] theorem State.sendCour_cnt (b : Bytes) : (s.sendCour b).cnt = s.cnt := rfl
@[simp] theorem State.sendCour_snap (b : Bytes) : (s.sendCour b).snap = s.snap := rfl
@[simp] theorem State.sendCour_soft (b : Bytes) : (s.sendCour b).soft = s.soft := rfl
@[simp] theorem State.sendCour_hif (b : Bytes) : (s.sendCour b).hif = s.hif := rfl
@[simp] theorem State.sendCour_tb (b : Bytes) : (s.sendCour b).tb = s.tb := rfl
@[simp] theorem State.sendCour_fr (b : Bytes) : (s.sendCour b).fr = s.fr := rfl
@[simp] theorem State.sendCour_gov (b : Bytes) : (s.sendCour b).gov = s.gov := rfl
@[simp] theorem State.sendCour_rg (b : Bytes) : (s.sendCour b).rg = s.rg := rfl
@[simp] theorem State.sendCour_q (b : Bytes) : (s.sendCour b).q = s.q := rfl
@[simp] theorem State.sendCour_sy (b : Bytes) : (s.sendCour b).sy = s.sy := rfl
@[simp] theorem State.sendCour_mem (b : Bytes) : (s.sendCour b).mem = s.mem := rfl
@[simp] theorem State.sendCour_share (b : Bytes) : (s.sendCour b).share = s.share := rfl
@[simp] theorem State.sendCour_sec (b : Bytes) : (s.sendCour b).sec = s.sec := rfl
@[simp] theorem State.sendCour_link (b : Bytes) : (s.sendCour b).link = s.link := rfl
@[simp] theorem State.sendCour_chk (b : Bytes) : (s.sendCour b).chk = s.chk := rfl
@[simp] theorem State.sendCour_route (b : Bytes) : (s.sendCour b).route = s.route := rfl
@[simp] theorem State.sendCour_frozen (b : Bytes) : (s.sendCour b).frozen = s.frozen := rfl
@[simp] theorem State.sendCour_mg (b : Bytes) : (s.sendCour b).mg = s.mg := rfl
@[simp] theorem State.sendCour_vsu (b : Bytes) : (s.sendCour b).vsu = s.vsu := rfl
@[simp] theorem State.sendCour_stm (b : Bytes) : (s.sendCour b).stm = s.stm := rfl
@[simp] theorem State.sendCour_tile (b : Bytes) : (s.sendCour b).tile = s.tile := rfl
@[simp] theorem State.sendCour_lp (b : Bytes) : (s.sendCour b).lp = s.lp := rfl
@[simp] theorem State.sendCour_pw (b : Bytes) : (s.sendCour b).pw = s.pw := rfl

/-! ### sendAlert -/

@[simp] theorem State.sendAlert_pending : (s.sendAlert).pending = s.pending := rfl
@[simp] theorem State.sendAlert_freeCtr : (s.sendAlert).freeCtr = s.freeCtr := rfl
@[simp] theorem State.sendAlert_resp : (s.sendAlert).resp = s.resp := rfl
@[simp] theorem State.sendAlert_regs : (s.sendAlert).regs = s.regs := rfl
@[simp] theorem State.sendAlert_evEn : (s.sendAlert).evEn = s.evEn := rfl
@[simp] theorem State.sendAlert_cnt : (s.sendAlert).cnt = s.cnt := rfl
@[simp] theorem State.sendAlert_snap : (s.sendAlert).snap = s.snap := rfl
@[simp] theorem State.sendAlert_soft : (s.sendAlert).soft = s.soft := rfl
@[simp] theorem State.sendAlert_hif : (s.sendAlert).hif = s.hif := rfl
@[simp] theorem State.sendAlert_tb : (s.sendAlert).tb = s.tb := rfl
@[simp] theorem State.sendAlert_fr : (s.sendAlert).fr = s.fr := rfl
@[simp] theorem State.sendAlert_gov : (s.sendAlert).gov = s.gov := rfl
@[simp] theorem State.sendAlert_rg : (s.sendAlert).rg = s.rg := rfl
@[simp] theorem State.sendAlert_q : (s.sendAlert).q = s.q := rfl
@[simp] theorem State.sendAlert_sy : (s.sendAlert).sy = s.sy := rfl
@[simp] theorem State.sendAlert_mem : (s.sendAlert).mem = s.mem := rfl
@[simp] theorem State.sendAlert_share : (s.sendAlert).share = s.share := rfl
@[simp] theorem State.sendAlert_sec : (s.sendAlert).sec = s.sec := rfl
@[simp] theorem State.sendAlert_link : (s.sendAlert).link = s.link := rfl
@[simp] theorem State.sendAlert_chk : (s.sendAlert).chk = s.chk := rfl
@[simp] theorem State.sendAlert_route : (s.sendAlert).route = s.route := rfl
@[simp] theorem State.sendAlert_frozen : (s.sendAlert).frozen = s.frozen := rfl
@[simp] theorem State.sendAlert_mg : (s.sendAlert).mg = s.mg := rfl
@[simp] theorem State.sendAlert_vsu : (s.sendAlert).vsu = s.vsu := rfl
@[simp] theorem State.sendAlert_stm : (s.sendAlert).stm = s.stm := rfl
@[simp] theorem State.sendAlert_tile : (s.sendAlert).tile = s.tile := rfl
@[simp] theorem State.sendAlert_lp : (s.sendAlert).lp = s.lp := rfl
@[simp] theorem State.sendAlert_pw : (s.sendAlert).pw = s.pw := rfl

/-! ### sendVec -/

@[simp] theorem State.sendVec_pending (v : Nat) : (State.sendVec v s).pending = s.pending := by unfold State.sendVec; split <;> (try split) <;> rfl
@[simp] theorem State.sendVec_freeCtr (v : Nat) : (State.sendVec v s).freeCtr = s.freeCtr := by unfold State.sendVec; split <;> (try split) <;> rfl
@[simp] theorem State.sendVec_resp (v : Nat) : (State.sendVec v s).resp = s.resp := by unfold State.sendVec; split <;> (try split) <;> rfl
@[simp] theorem State.sendVec_regs (v : Nat) : (State.sendVec v s).regs = s.regs := by unfold State.sendVec; split <;> (try split) <;> rfl
@[simp] theorem State.sendVec_evRaw (v : Nat) : (State.sendVec v s).evRaw = s.evRaw := by unfold State.sendVec; split <;> (try split) <;> rfl
@[simp] theorem State.sendVec_evEn (v : Nat) : (State.sendVec v s).evEn = s.evEn := by unfold State.sendVec; split <;> (try split) <;> rfl
@[simp] theorem State.sendVec_snap (v : Nat) : (State.sendVec v s).snap = s.snap := by unfold State.sendVec; split <;> (try split) <;> rfl
@[simp] theorem State.sendVec_soft (v : Nat) : (State.sendVec v s).soft = s.soft := by unfold State.sendVec; split <;> (try split) <;> rfl
@[simp] theorem State.sendVec_hif (v : Nat) : (State.sendVec v s).hif = s.hif := by unfold State.sendVec; split <;> (try split) <;> rfl
@[simp] theorem State.sendVec_tb (v : Nat) : (State.sendVec v s).tb = s.tb := by unfold State.sendVec; split <;> (try split) <;> rfl
@[simp] theorem State.sendVec_fr (v : Nat) : (State.sendVec v s).fr = s.fr := by unfold State.sendVec; split <;> (try split) <;> rfl
@[simp] theorem State.sendVec_gov (v : Nat) : (State.sendVec v s).gov = s.gov := by unfold State.sendVec; split <;> (try split) <;> rfl
@[simp] theorem State.sendVec_rg (v : Nat) : (State.sendVec v s).rg = s.rg := by unfold State.sendVec; split <;> (try split) <;> rfl
@[simp] theorem State.sendVec_q (v : Nat) : (State.sendVec v s).q = s.q := by unfold State.sendVec; split <;> (try split) <;> rfl
@[simp] theorem State.sendVec_sy (v : Nat) : (State.sendVec v s).sy = s.sy := by unfold State.sendVec; split <;> (try split) <;> rfl
@[simp] theorem State.sendVec_mem (v : Nat) : (State.sendVec v s).mem = s.mem := by unfold State.sendVec; split <;> (try split) <;> rfl
@[simp] theorem State.sendVec_share (v : Nat) : (State.sendVec v s).share = s.share := by unfold State.sendVec; split <;> (try split) <;> rfl
@[simp] theorem State.sendVec_sec (v : Nat) : (State.sendVec v s).sec = s.sec := by unfold State.sendVec; split <;> (try split) <;> rfl
@[simp] theorem State.sendVec_link (v : Nat) : (State.sendVec v s).link = s.link := by unfold State.sendVec; split <;> (try split) <;> rfl
@[simp] theorem State.sendVec_chk (v : Nat) : (State.sendVec v s).chk = s.chk := by unfold State.sendVec; split <;> (try split) <;> rfl
@[simp] theorem State.sendVec_route (v : Nat) : (State.sendVec v s).route = s.route := by unfold State.sendVec; split <;> (try split) <;> rfl
@[simp] theorem State.sendVec_frozen (v : Nat) : (State.sendVec v s).frozen = s.frozen := by unfold State.sendVec; split <;> (try split) <;> rfl
@[simp] theorem State.sendVec_mg (v : Nat) : (State.sendVec v s).mg = s.mg := by unfold State.sendVec; split <;> (try split) <;> rfl
@[simp] theorem State.sendVec_vsu (v : Nat) : (State.sendVec v s).vsu = s.vsu := by unfold State.sendVec; split <;> (try split) <;> rfl
@[simp] theorem State.sendVec_stm (v : Nat) : (State.sendVec v s).stm = s.stm := by unfold State.sendVec; split <;> (try split) <;> rfl
@[simp] theorem State.sendVec_tile (v : Nat) : (State.sendVec v s).tile = s.tile := by unfold State.sendVec; split <;> (try split) <;> rfl
@[simp] theorem State.sendVec_lp (v : Nat) : (State.sendVec v s).lp = s.lp := by unfold State.sendVec; split <;> (try split) <;> rfl
@[simp] theorem State.sendVec_pw (v : Nat) : (State.sendVec v s).pw = s.pw := by unfold State.sendVec; split <;> (try split) <;> rfl

/-! ### What the updates write -/

/-- A stored register reads back what was written, as 32 bits. -/
@[simp] theorem State.reg_setReg_same (p o v : Nat) : (s.setReg p o v).reg p o = v % 2 ^ 32 := by
  simp [State.reg, State.setReg, BitVec.toNat_ofNat]

/-- Every other register reads as before. -/
theorem State.reg_setReg_ne (p o v p' o' : Nat) (h : rkey p' o' ≠ rkey p o) : (s.setReg p o v).reg p' o' = s.reg p' o' := by
  simp [State.reg, State.setReg, tget_tset_ne _ _ _ h]

@[simp] theorem State.raw_setRaw (p v p' : Nat) : (s.setRaw p v).raw p' = if p' = p then v else s.raw p' := by
  simp [State.raw, State.setRaw, tget_tset]

@[simp] theorem State.raw_raise (p b p' : Nat) :
    (s.raise p b).raw p' = if p' = p then Nat.lor (s.raw p) (2 ^ b) else s.raw p' := by
  simp [State.raise]

@[simp] theorem State.cntLive_countN (p k n p' k' : Nat) :
    (s.countN p k n).cntLive p' k' =
      if 32 * p' + k' = 32 * p + k then min (s.cntLive p k + n) (2 ^ 64 - 1) else s.cntLive p' k' := by
  simp [State.cntLive, State.countN, tget_tset]

@[simp] theorem State.cntLive_count (p k p' k' : Nat) :
    (s.count p k).cntLive p' k' =
      if 32 * p' + k' = 32 * p + k then min (s.cntLive p k + 1) (2 ^ 64 - 1) else s.cntLive p' k' := by
  simp [State.count]

@[simp] theorem State.answer_resp (r : Resp) : (s.answer r).resp = r := rfl

/-! ### Reads through the updates that do not write what they read -/

@[simp] theorem State.raw_setReg (p o v : Nat) (q : Nat) : (s.setReg p o v).raw q = s.raw q := by simp [State.raw]
@[simp] theorem State.cntLive_setReg (p o v : Nat) (q j : Nat) : (s.setReg p o v).cntLive q j = s.cntLive q j := by simp [State.cntLive]
@[simp] theorem State.raw_setReg64 (p o v : Nat) (q : Nat) : (s.setReg64 p o v).raw q = s.raw q := by simp [State.raw]
@[simp] theorem State.cntLive_setReg64 (p o v : Nat) (q j : Nat) : (s.setReg64 p o v).cntLive q j = s.cntLive q j := by simp [State.cntLive]
@[simp] theorem State.reg_setRaw (p v : Nat) (q o' : Nat) : (s.setRaw p v).reg q o' = s.reg q o' := by simp [State.reg]
@[simp] theorem State.cntLive_setRaw (p v : Nat) (q j : Nat) : (s.setRaw p v).cntLive q j = s.cntLive q j := by simp [State.cntLive]
@[simp] theorem State.reg_raise (p b : Nat) (q o' : Nat) : (s.raise p b).reg q o' = s.reg q o' := by simp [State.reg]
@[simp] theorem State.cntLive_raise (p b : Nat) (q j : Nat) : (s.raise p b).cntLive q j = s.cntLive q j := by simp [State.cntLive]
@[simp] theorem State.reg_countN (p k n : Nat) (q o' : Nat) : (s.countN p k n).reg q o' = s.reg q o' := by simp [State.reg]
@[simp] theorem State.raw_countN (p k n : Nat) (q : Nat) : (s.countN p k n).raw q = s.raw q := by simp [State.raw]
@[simp] theorem State.reg_count (p k : Nat) (q o' : Nat) : (s.count p k).reg q o' = s.reg q o' := by simp [State.reg]
@[simp] theorem State.raw_count (p k : Nat) (q : Nat) : (s.count p k).raw q = s.raw q := by simp [State.raw]
@[simp] theorem State.reg_countRaise (p k b : Nat) (q o' : Nat) : (s.countRaise p k b).reg q o' = s.reg q o' := by simp [State.reg]
@[simp] theorem State.reg_answer (r : Resp) (q o' : Nat) : (s.answer r).reg q o' = s.reg q o' := by simp [State.reg]
@[simp] theorem State.raw_answer (r : Resp) (q : Nat) : (s.answer r).raw q = s.raw q := by simp [State.raw]
@[simp] theorem State.cntLive_answer (r : Resp) (q j : Nat) : (s.answer r).cntLive q j = s.cntLive q j := by simp [State.cntLive]
@[simp] theorem State.reg_violate (t c : Nat) (q o' : Nat) : (s.violate t c).reg q o' = s.reg q o' := by simp [State.reg]
@[simp] theorem State.raw_violate (t c : Nat) (q : Nat) : (s.violate t c).raw q = s.raw q := by simp [State.raw]
@[simp] theorem State.reg_deny (p : Path) (g : Nat) (q o' : Nat) : (s.deny p g).reg q o' = s.reg q o' := by simp [State.reg]
@[simp] theorem State.raw_deny (p : Path) (g : Nat) (q : Nat) : (s.deny p g).raw q = s.raw q := by simp [State.raw]
@[simp] theorem State.reg_denyR (p : Path) (g : Nat) (q o' : Nat) : (s.denyR p g).reg q o' = s.reg q o' := by simp [State.reg]
@[simp] theorem State.raw_denyR (p : Path) (g : Nat) (q : Nat) : (s.denyR p g).raw q = s.raw q := by simp [State.raw]
@[simp] theorem State.reg_sendCour (b : Bytes) (q o' : Nat) : (s.sendCour b).reg q o' = s.reg q o' := by simp [State.reg]
@[simp] theorem State.raw_sendCour (b : Bytes) (q : Nat) : (s.sendCour b).raw q = s.raw q := by simp [State.raw]
@[simp] theorem State.cntLive_sendCour (b : Bytes) (q j : Nat) : (s.sendCour b).cntLive q j = s.cntLive q j := by simp [State.cntLive]
@[simp] theorem State.reg_sendAlert (q o' : Nat) : (s.sendAlert).reg q o' = s.reg q o' := by simp [State.reg]
@[simp] theorem State.cntLive_sendAlert (q j : Nat) : (s.sendAlert).cntLive q j = s.cntLive q j := by simp [State.cntLive]
@[simp] theorem State.reg_sendVec (v : Nat) (q o' : Nat) : (State.sendVec v s).reg q o' = s.reg q o' := by simp [State.reg]
@[simp] theorem State.raw_sendVec (v : Nat) (q : Nat) : (State.sendVec v s).raw q = s.raw q := by simp [State.raw]

/-! ### settle: the interrupt outputs at the end of a command -/

theorem forL_field {α β : Type} (g : State → β) (f : α → State → State) (hf : ∀ a t, g (f a t) = g t) (l : List α)
    (t : State) : g (forL l f t) = g t := by
  induction l generalizing t with
  | nil => rfl
  | cons a l ih => exact (ih _).trans (hf a t)

theorem forN_field {β : Type} (g : State → β) (f : Nat → State → State) (hf : ∀ i t, g (f i t) = g t) (n : Nat)
    (t : State) : g (forN n f t) = g t := by
  induction n with
  | zero => rfl
  | succ n ih => exact (hf n _).trans ih

variable (s0 : State)

@[simp] theorem settle_pending : (settle s0 s).pending = s.pending := by
  unfold settle; dsimp only; rw [forL_field (fun t => t.pending) _ (fun v t => State.sendVec_pending t v)]; split <;> simp
@[simp] theorem settle_freeCtr : (settle s0 s).freeCtr = s.freeCtr := by
  unfold settle; dsimp only; rw [forL_field (fun t => t.freeCtr) _ (fun v t => State.sendVec_freeCtr t v)]; split <;> simp
@[simp] theorem settle_resp : (settle s0 s).resp = s.resp := by
  unfold settle; dsimp only; rw [forL_field (fun t => t.resp) _ (fun v t => State.sendVec_resp t v)]; split <;> simp
@[simp] theorem settle_regs : (settle s0 s).regs = s.regs := by
  unfold settle; dsimp only; rw [forL_field (fun t => t.regs) _ (fun v t => State.sendVec_regs t v)]; split <;> simp
@[simp] theorem settle_evEn : (settle s0 s).evEn = s.evEn := by
  unfold settle; dsimp only; rw [forL_field (fun t => t.evEn) _ (fun v t => State.sendVec_evEn t v)]; split <;> simp
@[simp] theorem settle_snap : (settle s0 s).snap = s.snap := by
  unfold settle; dsimp only; rw [forL_field (fun t => t.snap) _ (fun v t => State.sendVec_snap t v)]; split <;> simp
@[simp] theorem settle_soft : (settle s0 s).soft = s.soft := by
  unfold settle; dsimp only; rw [forL_field (fun t => t.soft) _ (fun v t => State.sendVec_soft t v)]; split <;> simp
@[simp] theorem settle_hif : (settle s0 s).hif = s.hif := by
  unfold settle; dsimp only; rw [forL_field (fun t => t.hif) _ (fun v t => State.sendVec_hif t v)]; split <;> simp
@[simp] theorem settle_tb : (settle s0 s).tb = s.tb := by
  unfold settle; dsimp only; rw [forL_field (fun t => t.tb) _ (fun v t => State.sendVec_tb t v)]; split <;> simp
@[simp] theorem settle_fr : (settle s0 s).fr = s.fr := by
  unfold settle; dsimp only; rw [forL_field (fun t => t.fr) _ (fun v t => State.sendVec_fr t v)]; split <;> simp
@[simp] theorem settle_gov : (settle s0 s).gov = s.gov := by
  unfold settle; dsimp only; rw [forL_field (fun t => t.gov) _ (fun v t => State.sendVec_gov t v)]; split <;> simp
@[simp] theorem settle_rg : (settle s0 s).rg = s.rg := by
  unfold settle; dsimp only; rw [forL_field (fun t => t.rg) _ (fun v t => State.sendVec_rg t v)]; split <;> simp
@[simp] theorem settle_q : (settle s0 s).q = s.q := by
  unfold settle; dsimp only; rw [forL_field (fun t => t.q) _ (fun v t => State.sendVec_q t v)]; split <;> simp
@[simp] theorem settle_sy : (settle s0 s).sy = s.sy := by
  unfold settle; dsimp only; rw [forL_field (fun t => t.sy) _ (fun v t => State.sendVec_sy t v)]; split <;> simp
@[simp] theorem settle_mem : (settle s0 s).mem = s.mem := by
  unfold settle; dsimp only; rw [forL_field (fun t => t.mem) _ (fun v t => State.sendVec_mem t v)]; split <;> simp
@[simp] theorem settle_share : (settle s0 s).share = s.share := by
  unfold settle; dsimp only; rw [forL_field (fun t => t.share) _ (fun v t => State.sendVec_share t v)]; split <;> simp
@[simp] theorem settle_sec : (settle s0 s).sec = s.sec := by
  unfold settle; dsimp only; rw [forL_field (fun t => t.sec) _ (fun v t => State.sendVec_sec t v)]; split <;> simp
@[simp] theorem settle_link : (settle s0 s).link = s.link := by
  unfold settle; dsimp only; rw [forL_field (fun t => t.link) _ (fun v t => State.sendVec_link t v)]; split <;> simp
@[simp] theorem settle_chk : (settle s0 s).chk = s.chk := by
  unfold settle; dsimp only; rw [forL_field (fun t => t.chk) _ (fun v t => State.sendVec_chk t v)]; split <;> simp
@[simp] theorem settle_route : (settle s0 s).route = s.route := by
  unfold settle; dsimp only; rw [forL_field (fun t => t.route) _ (fun v t => State.sendVec_route t v)]; split <;> simp
@[simp] theorem settle_frozen : (settle s0 s).frozen = s.frozen := by
  unfold settle; dsimp only; rw [forL_field (fun t => t.frozen) _ (fun v t => State.sendVec_frozen t v)]; split <;> simp
@[simp] theorem settle_mg : (settle s0 s).mg = s.mg := by
  unfold settle; dsimp only; rw [forL_field (fun t => t.mg) _ (fun v t => State.sendVec_mg t v)]; split <;> simp
@[simp] theorem settle_vsu : (settle s0 s).vsu = s.vsu := by
  unfold settle; dsimp only; rw [forL_field (fun t => t.vsu) _ (fun v t => State.sendVec_vsu t v)]; split <;> simp
@[simp] theorem settle_stm : (settle s0 s).stm = s.stm := by
  unfold settle; dsimp only; rw [forL_field (fun t => t.stm) _ (fun v t => State.sendVec_stm t v)]; split <;> simp
@[simp] theorem settle_tile : (settle s0 s).tile = s.tile := by
  unfold settle; dsimp only; rw [forL_field (fun t => t.tile) _ (fun v t => State.sendVec_tile t v)]; split <;> simp
@[simp] theorem settle_lp : (settle s0 s).lp = s.lp := by
  unfold settle; dsimp only; rw [forL_field (fun t => t.lp) _ (fun v t => State.sendVec_lp t v)]; split <;> simp
@[simp] theorem settle_pw : (settle s0 s).pw = s.pw := by
  unfold settle; dsimp only; rw [forL_field (fun t => t.pw) _ (fun v t => State.sendVec_pw t v)]; split <;> simp

@[simp] theorem settle_reg (p o : Nat) : (settle s0 s).reg p o = s.reg p o := by simp [State.reg]

/-- The interrupt outputs raise no event of a page but ALERT_SENT of COURIER and of SMBUS. -/
theorem settle_raw (p : Nat) (h1 : p ≠ pgCour) (h2 : p ≠ pgSmb) : (settle s0 s).raw p = s.raw p := by
  have hv : (settle s0 s).evRaw = (if s.mgmtReq && !s0.mgmtReq && bitOf (s.reg pgCour 0x44) 0 then s.sendAlert else s).evRaw := by
    unfold settle
    dsimp only
    rw [forL_field (fun t => t.evRaw) _ (fun v t => State.sendVec_evRaw t v)]
  unfold State.raw
  rw [hv]
  split
  · simp [State.sendAlert, State.raise, State.setRaw, tget_tset, h1, h2]
  · rfl

/-- Sending a message counts in HOSTIF CNT6 alone. -/
theorem sendVec_cntLive (v p k : Nat) (h : 32 * p + k ≠ 32 * pgHost + 6) :
    (State.sendVec v s).cntLive p k = s.cntLive p k := by
  unfold State.sendVec
  split
  · rfl
  · split
    · rw [State.cntLive_count]
      simp only [h, if_false]
      rfl
    · rfl

/-- The interrupt outputs count in HOSTIF CNT6 alone. -/
theorem settle_cntLive (p k : Nat) (h : 32 * p + k ≠ 32 * pgHost + 6) : (settle s0 s).cntLive p k = s.cntLive p k := by
  unfold settle
  dsimp only
  have e : ∀ t : State, State.cntLive { t with irq := { t.irq with pend := t.irq.pend.filter (fun e => t.vecReq e.1) } } p k
      = t.cntLive p k := fun _ => rfl
  rw [e, forL_field (fun t => t.cntLive p k) _ (fun v t => sendVec_cntLive t v p k h)]
  split
  · simp
  · rfl

/-- Bit `i` of a word in terms of the bits the library knows. -/
theorem bitOf_eq (w i : Nat) : bitOf w i = w.testBit i := by
  simp [bitOf, Nat.testBit_eq_decide_div_mod_eq, beq_eq_decide]

/-- The interrupt outputs leave every event bit as it was but ALERT_SENT of COURIER and of SMBUS. -/
theorem settle_rawBit (p i : Nat) (h1 : ¬ (p = pgCour ∧ i = 4)) (h2 : ¬ (p = pgSmb ∧ i = 3)) :
    bitOf ((settle s0 s).raw p) i = bitOf (s.raw p) i := by
  have hv : (settle s0 s).raw p = (if s.mgmtReq && !s0.mgmtReq && bitOf (s.reg pgCour 0x44) 0 then s.sendAlert else s).raw p := by
    unfold settle State.raw
    dsimp only
    rw [forL_field (fun t => t.evRaw) _ (fun v t => State.sendVec_evRaw t v)]
  rw [hv, bitOf_eq _ i, bitOf_eq (s.raw p) i]
  split
  · have e : ∀ x y : Nat, Nat.lor x y = x ||| y := fun _ _ => rfl
    have hi : ∀ (r : Irq) (q : Nat), State.raw { s with irq := r } q = s.raw q := fun _ _ => rfl
    simp only [State.sendAlert, State.raw_raise, hi, e]
    by_cases hc : p = pgCour
    · have h4 : i ≠ 4 := fun h => h1 ⟨hc, h⟩
      subst hc
      simp [pgCour, pgSmb, Nat.testBit_or, Nat.testBit_two_pow_of_ne (Ne.symm h4)]
    · by_cases hs : p = pgSmb
      · have h3 : i ≠ 3 := fun h => h2 ⟨hs, h⟩
        subst hs
        simp [pgCour, pgSmb, Nat.testBit_or, Nat.testBit_two_pow_of_ne (Ne.symm h3)]
      · simp [hc, hs]
  · rfl

end Sys2Proof.Machine
end

