-- ==== Sys2Proof/Laws/Memory.lean ====
section
/-!
SUPPORT. Laws of module physical memory: a read after a write, what a write leaves alone, and that every memory operation
keeps the canonical form.
-/
namespace Sys2Proof.Machine

/-! ### One byte, one mark -/

theorem Memory.byte_put (m : Memory) (a c : Nat) (b : Byte) : (m.put a b).byte c = if c = a then b else m.byte c :=
  tget_tset 0 b a c m.bytes

@[simp] theorem Memory.put_poison (m : Memory) (a : Nat) (b : Byte) : (m.put a b).poison = m.poison := rfl
@[simp] theorem Memory.put_ctl (m : Memory) (a : Nat) (b : Byte) : (m.put a b).ctl = m.ctl := rfl
@[simp] theorem Memory.byte_setMark (m : Memory) (g c : Nat) (b : Bool) : (m.setMark g b).byte c = m.byte c := rfl
@[simp] theorem Memory.setMark_bytes (m : Memory) (g : Nat) (b : Bool) : (m.setMark g b).bytes = m.bytes := rfl

@[simp] theorem Memory.mark_setMark_same (m : Memory) (g : Nat) (b : Bool) : (m.setMark g b).mark g = b :=
  tget_tset_same (poisonDefault g) b g m.poison

theorem Memory.mark_setMark_ne (m : Memory) {g h : Nat} (b : Bool) (hn : h ≠ g) : (m.setMark g b).mark h = m.mark h :=
  tget_tset_ne (poisonDefault g) (poisonDefault h) b hn m.poison

/-! ### Runs of bytes -/

/-- A write leaves every byte outside its range alone. -/
theorem Memory.byte_write_outside (bs : Bytes) (m : Memory) (a c : Nat) (h : c < a ∨ a + bs.length ≤ c) :
    (m.write a bs).byte c = m.byte c := by
  induction bs generalizing m a with
  | nil => rfl
  | cons b bs ih =>
    simp only [List.length_cons] at h
    rw [Memory.write, ih (m.put a b) (a + 1) (by omega), Memory.byte_put, if_neg (by omega)]

/-- A read gives what was written. -/
theorem Memory.byte_write_inside (bs : Bytes) (m : Memory) (a i : Nat) (h : i < bs.length) :
    (m.write a bs).byte (a + i) = bs.getD i 0 := by
  induction bs generalizing m a i with
  | nil => simp at h
  | cons b bs ih =>
    rw [Memory.write]
    cases i with
    | zero =>
      show ((m.put a b).write (a + 1) bs).byte a = b
      rw [Memory.byte_write_outside bs (m.put a b) (a + 1) a (by omega), Memory.byte_put, if_pos rfl]
    | succ i =>
      have hi : i < bs.length := by simpa using h
      rw [show a + (i + 1) = a + 1 + i by omega, ih (m.put a b) (a + 1) i hi]
      rfl

theorem Memory.byte_writeEn_outside (bs : List (Option Byte)) (m : Memory) (a c : Nat) (h : c < a ∨ a + bs.length ≤ c) :
    (m.writeEn a bs).byte c = m.byte c := by
  induction bs generalizing m a with
  | nil => rfl
  | cons b bs ih =>
    simp only [List.length_cons] at h
    cases b with
    | none => exact ih m (a + 1) (by omega)
    | some b => rw [Memory.writeEn, ih (m.put a b) (a + 1) (by omega), Memory.byte_put, if_neg (by omega)]

/-- An enabled byte is written, any other stays. -/
theorem Memory.byte_writeEn_inside (bs : List (Option Byte)) (m : Memory) (a i : Nat) (h : i < bs.length) :
    (m.writeEn a bs).byte (a + i) = (bs.getD i none).getD (m.byte (a + i)) := by
  induction bs generalizing m a i with
  | nil => simp at h
  | cons b bs ih =>
    cases i with
    | zero =>
      cases b with
      | none =>
        show (m.writeEn (a + 1) bs).byte a = m.byte a
        exact Memory.byte_writeEn_outside bs m (a + 1) a (by omega)
      | some b =>
        show ((m.put a b).writeEn (a + 1) bs).byte a = b
        rw [Memory.byte_writeEn_outside bs (m.put a b) (a + 1) a (by omega), Memory.byte_put, if_pos rfl]
    | succ i =>
      have hi : i < bs.length := by simpa using h
      have e : a + (i + 1) = a + 1 + i := by omega
      cases b with
      | none => rw [Memory.writeEn, e, ih m (a + 1) i hi]; rfl
      | some b =>
        rw [Memory.writeEn, e, ih (m.put a b) (a + 1) i hi, Memory.byte_put, if_neg (by omega)]
        rfl

@[simp] theorem Memory.writeEn_poison (bs : List (Option Byte)) (m : Memory) (a : Nat) :
    (m.writeEn a bs).poison = m.poison := by
  induction bs generalizing m a with
  | nil => rfl
  | cons b bs ih => cases b <;> simp [Memory.writeEn, ih]

@[simp] theorem Memory.write_poison (bs : Bytes) (m : Memory) (a : Nat) : (m.write a bs).poison = m.poison := by
  induction bs generalizing m a with
  | nil => rfl
  | cons b bs ih => simp [Memory.write, ih]

/-! ### The canonical form -/

theorem Memory.wf_iff (m : Memory) : m.wf = true ↔ twf (fun _ => (0 : Byte)) m.bytes = true ∧ twf poisonDefault m.poison = true := by
  simp [Memory.wf]

theorem Memory.wf_put {m : Memory} (h : m.wf = true) (a : Nat) (b : Byte) : (m.put a b).wf = true :=
  (wf_iff _).mpr ⟨twf_tset (fun _ => (0 : Byte)) a b ((wf_iff m).mp h).1, ((wf_iff m).mp h).2⟩

theorem Memory.wf_setMark {m : Memory} (h : m.wf = true) (g : Nat) (b : Bool) : (m.setMark g b).wf = true :=
  (wf_iff _).mpr ⟨((wf_iff m).mp h).1, twf_tset poisonDefault g b ((wf_iff m).mp h).2⟩

theorem Memory.wf_write (bs : Bytes) {m : Memory} (h : m.wf = true) (a : Nat) : (m.write a bs).wf = true := by
  induction bs generalizing m a with
  | nil => exact h
  | cons b bs ih => exact ih (wf_put h a b) (a + 1)

theorem Memory.wf_writeEn (bs : List (Option Byte)) {m : Memory} (h : m.wf = true) (a : Nat) : (m.writeEn a bs).wf = true := by
  induction bs generalizing m a with
  | nil => exact h
  | cons b bs ih =>
    cases b with
    | none => exact ih h (a + 1)
    | some b => exact ih (wf_put h a b) (a + 1)

theorem Memory.wf_wipe {m : Memory} (h : m.wf = true) (p : Nat → Bool) : (m.wipe p).wf = true :=
  (wf_iff _).mpr ⟨twf_tdrop (fun _ => (0 : Byte)) (fun a => p (a / 64)) ((wf_iff m).mp h).1, twf_tdrop poisonDefault p ((wf_iff m).mp h).2⟩

theorem Memory.wf_ctl {m : Memory} (h : m.wf = true) (c : Tbl Ctl) : { m with ctl := c }.wf = true := h

/-- Reset memory lists nothing and is canonical. -/
theorem reset_mem_wf : State.reset.mem.wf = true := by decide

/-! ### Every operation on the state's memory keeps it -/

theorem State.wf_setCtl {s : State} (h : s.mem.wf = true) (k : Nat) (c : Ctl) : (s.setCtl k c).mem.wf = true := h

theorem State.unbacked_mem (s : State) (a : Nat) : (s.unbacked a).mem = s.mem := by
  simp only [State.unbacked, State.recErr]
  split <;> rfl

theorem State.wf_useLine {s : State} (h : s.mem.wf = true) (k l : Nat) (d : Bool) : (s.useLine k l d).mem.wf = true := by
  unfold State.useLine
  simp only
  split <;> exact h

theorem State.wf_touch {s : State} (h : s.mem.wf = true) (k a : Nat) (w : Bool) : (s.touch k a w).mem.wf = true := by
  unfold State.touch
  simp only
  split
  · exact wf_useLine (s := s.count _ _) h k (checkLine a) w
  · exact h

theorem State.breakImage_mem (s : State) (a : Nat) : (s.breakImage a).mem = s.mem := by
  unfold State.breakImage
  split <;> rfl

theorem Memory.wf_heal {m : Memory} (h : m.wf = true) (g : Nat) : (m.heal g).wf = true := h

theorem Memory.wf_zap {m : Memory} (h : m.wf = true) (g : Nat) : (m.zap g).wf = true :=
  wf_heal (wf_setMark (wf_write _ h _) g true) g

theorem State.wf_wbLine {s : State} (h : s.mem.wf = true) (k g : Nat) : (s.wbLine k g).mem.wf = true := by
  unfold State.wbLine
  split
  · exact wf_useLine h k (checkLine (64 * g)) true
  · exact h

theorem State.recErr_mem (s : State) (p a n : Nat) : (s.recErr p a n).mem = s.mem := by
  unfold State.recErr
  split <;> rfl

theorem State.sramLost_mem (s : State) (src a : Nat) : (s.sramLost src a).mem = s.mem := by
  show (s.recSram a src).mem = s.mem
  unfold State.recSram
  split <;> rfl

/-- A decode keeps the canonical form: it writes zeros with a mark over a lost granule and else changes no byte or mark. -/
theorem State.wf_decodeCtl {s : State} (h : s.mem.wf = true) (k src g : Nat) (d : Dec) :
    (s.decodeCtl k src g d).2.mem.wf = true := by
  unfold State.decodeCtl
  simp only
  split
  · rw [breakImage_mem]
    refine wf_wbLine (s := { ((s.recErr (pgMem k) (64 * g) src).count (pgMem k) 3).raise (pgMem k) 1 with
      mem := (((s.recErr (pgMem k) (64 * g) src).count (pgMem k) 3).raise (pgMem k) 1).mem.zap g }) ?_ k g
    refine Memory.wf_zap ?_ g
    show (s.recErr (pgMem k) (64 * g) src).mem.wf = true
    rw [recErr_mem]
    exact h
  · have hw : ({ s with mem := s.mem.heal g }.wbLine k g).mem.wf = true :=
      wf_wbLine (s := { s with mem := s.mem.heal g }) (Memory.wf_heal h g) k g
    split
    · exact hw
    · exact hw
  · split <;> exact h

theorem State.wf_decodeHub {s : State} (h : s.mem.wf = true) (src g : Nat) (d : Dec) :
    (s.decodeHub src g d).2.mem.wf = true := by
  unfold State.decodeHub
  simp only
  have hl : (s.sramLost src (64 * g)).mem.wf = true := by rw [sramLost_mem]; exact h
  split
  · split
    · exact Memory.wf_heal (Memory.wf_setMark hl g true) g
    · exact Memory.wf_zap hl g
  · split
    · exact Memory.wf_heal h g
    · exact Memory.wf_heal h g
  · exact h

/-- A granule read keeps the canonical form. -/
theorem State.wf_gRead {s : State} (h : s.mem.wf = true) (src g : Nat) (d : Dec) : (s.gRead src g d).2.mem.wf = true := by
  unfold State.gRead
  split
  · rw [unbacked_mem]; exact h
  · split
    · rw [unbacked_mem]; exact h
    · exact wf_decodeCtl (wf_touch h _ _ _) _ _ _ _
  · exact wf_decodeHub h _ _ _
  · exact wf_decodeHub h _ _ _

theorem State.wf_gReads (n : Nat) {s : State} (h : s.mem.wf = true) (src g : Nat) : (s.gReads src g n).2.mem.wf = true := by
  induction n generalizing s g with
  | zero => exact h
  | succ n ih => exact ih (wf_gRead h src g .clean) (g + 1)

/-- An engine's read keeps the canonical form. -/
theorem State.wf_engRead {s : State} (h : s.mem.wf = true) (src a n : Nat) : (s.engRead src a n).2.mem.wf = true :=
  wf_gReads _ h src _

theorem State.wf_lay {s : State} (h : s.mem.wf = true) (src g : Nat) (data : List (Option Byte)) (p : Bool) (d : Dec) :
    (s.lay src g data p d).mem.wf = true := by
  unfold State.lay
  split
  · exact Memory.wf_heal (Memory.wf_setMark (Memory.wf_writeEn _ h _) g p) g
  · refine Memory.wf_setMark (Memory.wf_writeEn _ ?_ _) g _
    split
    · exact wf_decodeCtl h _ _ _ _
    · exact wf_decodeHub h _ _ _

/-- A granule write keeps the canonical form. -/
theorem State.wf_gWrite {s : State} (h : s.mem.wf = true) (src g : Nat) (data : List (Option Byte)) (p : Bool) (d : Dec) :
    (s.gWrite src g data p d).mem.wf = true := by
  unfold State.gWrite
  split
  · rw [unbacked_mem]; exact h
  · exact h
  · exact wf_lay h _ _ _ _ _
  · split
    · rw [unbacked_mem]; exact h
    · split
      · exact h
      · rw [breakImage_mem]
        refine wf_lay ?_ src g data p d
        exact wf_touch h _ (64 * g) true

/-- An engine's write keeps the canonical form. -/
theorem State.wf_engWrite {s : State} (h : s.mem.wf = true) (src a : Nat) (bs : Bytes) : (s.engWrite src a bs).mem.wf = true :=
  forL_keeps (fun s => s.mem.wf = true) (fun (w : Nat × List (Option Byte)) s => s.gWrite src w.1 w.2 false .clean)
    (fun w _ h => wf_gWrite h src w.1 w.2 false .clean)
    _ s h

end Sys2Proof.Machine
end

