-- ==== Sys2Proof/WellFormed.lean ====
section
/-!
DEFINITION. Well-formed commands: the lengths and ranges that the spec gives to what a command carries and that the operand
types do not already give. exec is total on every command; an ill-formed one is nothing the outside world can send.
-/
namespace Sys2Proof

/-- A BAR0 offset is 4-byte aligned (R4). -/
def offOk (off : BitVec 26) : Bool := decide (off.toNat % 4 = 0)

/-- A sum of 4,096 raw codes of the converter (R159). -/
def meanOk (sum : Int) : Bool := decide (-4096 * 512 ≤ sum) && decide (sum ≤ 4096 * 511)

/-- So many samples, lit in no more slots than they integrate, 32 at most in each (R154, R160). -/
def samplesOk (n : Nat) (m : Samples) : Bool := decide (m.raw.length = n) && decide (m.lit ≤ 32 * n)

/-- A lock-in window: 8,192 updates of 40 samples, lit slots for each of six rows (R153, R156). -/
def winOk (w : LockWin) : Bool :=
  decide (w.raw.length = 8192) && w.raw.all (fun u => decide (u.length = 40)) && decide (w.lit.length = 6)

/-- The takes of a drive-table sweep (R161). -/
def sweepOk (s : Sweep) : Bool := s.all (fun takes => takes.all (samplesOk 512))

/-- What the first steps of an acquisition pass measure on a column. -/
def colOk (c : ColMeas) : Bool := meanOk c.off && meanOk c.gain && c.trim.all (samplesOk 1024)

/-- The lengths and ranges of a command's operands: a slot is 256 data bytes, or 256 with its check word for a lead slot
(R316), and the FEC corrects 1 to 7 symbols in a codeword it corrects (R314); a granule is 64 bytes (Table 0.1); a PCIe write
carries at most the maximum payload, 512 bytes, and a read asks for 1 to 4,096 bytes (Table 13.1); an inner packet has at most 63 bytes
(Table 17.2) and a MGMT message carries 12 (Table 11.5); an SMBus block is 1 to 255 bytes (R453); a courier WRITE fits its
packet with at most 15 words, of which 14 are allowed (Table 17.2); a challenge nonce is 32 bytes and a P-384 point 96 (R437); the samples
of a calibration step, the windows of the lock-in, an acquisition pass's 130 columns, a period's 200 updates and a slow round's
64 codes are whole (R153, R158 to R161, R190, R461). -/
def Instr.wf : Instr → Bool
  | .readLowHalf _ off _ => offOk off
  | .readHighHalf _ off => offOk off
  | .writeLowHalf _ off _ => offOk off
  | .writeHighHalf _ off _ => offOk off
  | .write64 _ off _ => decide (off.toNat % 8 = 0)
  | .registerWrite _ off _ _ => offOk off
  | .linkLeadSlotRx _ f slot => decide (f.cw.toNat ≤ f.sy.toNat) && decide (f.sy.toNat ≤ 7 * f.cw.toNat) &&
    (match slot with | none => true | some b => decide (b.length = 260))
  | .linkFlitRx _ payload _ => decide (payload.length = 256)
  | .memoryWrite _ _ data _ _ _ => decide (data.length = 64)
  | .bar4Read _ _ len _ => decide (0 < len.toNat) && decide (len.toNat ≤ 4096)
  | .bar4Write _ _ data _ => decide (0 < data.length) && decide (data.length ≤ 512)
  | .challenge _ _ nonce => decide (nonce.length = 32)
  | .keyExchange _ pub => decide (pub.length = 96)
  | .blockWrite pkt _ => decide (0 < pkt.length) && decide (pkt.length ≤ 255)
  | .courierWrite _ _ words => decide (words.length ≤ 15)
  | .tunnel _ _ inner => decide (inner.length ≤ 63)
  | .mgmtRx _ _ _ data => decide (data.length = 12)
  | .darkCaptureDone _ light base => light || decide (base.length = 9)
  | .debugAccess off _ => offOk off
  | .calOffsetMeasure _ sum => meanOk sum
  | .calGainMeasure _ sum => meanOk sum
  | .calDelayTrim _ resp => resp.all (samplesOk 1024)
  | .lockinWindowEnd _ raw lit => winOk ⟨raw, lit⟩
  | .calDriveTable _ m => sweepOk m.sweep
  | .acquisitionPassDone _ cols wins tabs => decide (cols.length = 130) && decide (wins.length = 130)
    && decide (tabs.length = 130) && cols.all colOk && wins.all (fun l => l.all winOk) && tabs.all (fun l => l.all sweepOk)
  | .zoneUpdate _ q0 q1 => decide (q0.length = 200) && decide (q1.length = 200)
  | .slowRoundEnd codes _ => decide (codes.length = 64)
  | _ => true

end Sys2Proof
end

