-- ==== Sys2Proof/Tests/Slice0.lean ====
section
/-!
SUPPORT. Tests of the model and, for every statement with hypotheses, states and operands that meet them. Expected values
come from the rules named in the statement that a test stands for; each test is one command on a small state.
-/
set_option Elab.async false

namespace Sys2Proof.Tests
open Sys2Proof Sys2Proof.Machine

/-- The state right after reset. -/
def r0 : State := State.reset

/-- The state after a command. -/
def nxt (c : Instr) (s : State) : State :=
  match exec c s with
  | .next t => t
  | _ => r0

/-- Store registers: page, offset, value. -/
def withRegs (rs : List (Nat × Nat × Nat)) (s : State) : State := forL rs (fun e s => s.setReg e.1 e.2.1 e.2.2) s

/-- A VF that owns nothing. -/
def vf3 : Path := .vf 3

/-! ### Steps, register access, events, counters -/

theorem test_step_front : step { r0 with pending := [.pllLock, .powerOn] } = exec .pllLock { r0 with pending := [.powerOn] } := rfl

/-- FRAME_NUM is a 64-bit quantity at FRAME 0x050: a low read holds the high half, a high read empties it (R5, R7). -/
def sLow : State := { r0 with fr := { r0.fr with num := 2 ^ 32 + 7 } }

theorem wit_readLow : isLow (locate 0x3050) = true ∧ sLow.mayRead .pf (locate 0x3050) = true ∧
    (nxt (.readLowHalf .pf 0x3050#26 false) sLow).resp = .word 7 ∧
    tget none (halfKey .pf 0x3050) (nxt (.readLowHalf .pf 0x3050#26 false) sLow).hif.hold = some 1 ∧
    (nxt (.readLowHalf .pf 0x3050#26 true) sLow).resp = .dword (2 ^ 32 + 7) := by decide +kernel

theorem wit_readHigh : isHigh (locate 0x3054) = true ∧ isLow (locate 0x3054) = false ∧ r0.mayRead .mgmt (locate 0x3054) = true ∧
    (nxt (.readHighHalf .mgmt 0x3054#26) { sLow with hif := { sLow.hif with hold := [(halfKey .mgmt 0x3050, some 9)] } }).resp = .word 9 ∧
    (nxt (.readHighHalf .mgmt 0x3054#26) sLow).resp = .word 1 := by decide +kernel

/-- SWITCH_FRAME (FRAME 0x078) and LOG_BASE (REGISTRY 0x070) are 64-bit RW quantities (R9). -/
theorem wit_writeHalves : isLow (locate 0x5070) = true ∧ r0.mayWrite .pf (locate 0x5070) = true ∧
    isHigh (locate 0x5074) = true ∧ isLow (locate 0x5074) = false ∧ r0.mayWrite .pf (locate 0x5074) = true ∧
    tget none (halfKey .pf 0x5070) (nxt (.writeLowHalf .pf 0x5070#26 0x1000) r0).hif.staged = some 0x1000 ∧
    (nxt (.writeHighHalf .pf 0x5074#26 ⟨2, none⟩) (nxt (.writeLowHalf .pf 0x5070#26 0x1000) r0)).reg64 pgReg 0x70 = 0x200001000 ∧
    (nxt (.write64 .pf 0x5070#26 ⟨0x300002000, none⟩) r0).reg64 pgReg 0x70 = 0x300002000 := by decide +kernel

theorem test_malformed : (nxt (.malformedAccess .pf 2 false) r0).resp = .word 0 ∧ (nxt (.malformedAccess .pf 2 true) r0).cntLive pgHost 0 = 1 ∧
    bitOf ((nxt (.malformedAccess .pf 2 true) r0).raw pgHost) 0 = true := by decide +kernel

/-- PF and management writes of CHIP control registers within 20 ns contend (R376): QUEUE 0x048 goes to the host, POWER
0x090 to management. -/
theorem wit_contend : r0.contend .pf 0x50048 false 1 ⟨.mgmt, 0x50048, false, 2⟩ = true ∧ r0.contend .mgmt 0x6090 false 1 ⟨.pf, 0x6090, false, 2⟩ = true ∧
    r0.contend .pf 0x50048 false 1 ⟨.mgmt, 0x5048, false, 2⟩ = false ∧
    mgmtClass (locate 0x50048) = false ∧ mgmtClass (locate 0x6090) = true ∧
    (nxt (.registerWrite .pf 0x6090#26 1 (some ⟨.mgmt, 0x6090, false, 2⟩)) r0).reg pgPower 0x90 = 2 ∧
    (nxt (.registerWrite .pf 0x6090#26 1 (some ⟨.mgmt, 0x6090, false, 2⟩)) r0).cntLive pgHost 4 = 1 := by decide +kernel

theorem wit_events : r0.mayPath .pf (pgTile 255) = true ∧
    (nxt (.evtRawClear .pf 321 5 2) (r0.setRaw 321 7)).raw 321 = 2 + 0 ∧ (nxt (.evtForce .pf 321 0xFFFFFFFF) r0).raw 321 = 0xFFF := by
  decide +kernel

theorem wit_counters : r0.mayPath .mgmt 5 = true ∧ [(0 : Fin 17), 16].Nodup ∧
    (nxt (.counterSnap .mgmt 5 true) (r0.countN 5 3 9)).cntSnap 5 3 = 9 ∧ (nxt (.counterSnap .mgmt 5 true) (r0.countN 5 3 9)).cntLive 5 3 = 0 ∧
    (nxt (.counterClear .mgmt 5 [0, 3]) (r0.countN 5 3 9)).cntLive 5 3 = 1 := by decide +kernel

/-- Page 2's REF_LOST is routed to vector 5 of function 0, and to management. -/
def sVec : State := { withRegs [(pgHost, 0x108, 0xC0000005)] r0 with
  evRaw := [(2, 1)], evEn := [(2, 1)], hif := { r0.hif with msixEn := [(0, true)] }, irq := { r0.irq with pend := [(5, true)] } }

theorem wit_msix : tget false 0 sVec.hif.msixEn = true ∧ sVec.vecReq 5 = true ∧ tget false 0 sVec.hif.maskAll = false ∧
    (nxt (.msixUnmask 0 (some 5)) sVec).irq.msix = [5] ∧ (nxt (.msixUnmask 0 (some 5)) sVec).irq.pend = [] ∧
    (nxt (.msixUnmask 0 none) { sVec with hif := { sVec.hif with mask := [(5, false)], maskAll := [(0, true)] } }).irq.msix = [5] := by decide +kernel

theorem wit_alert : (withRegs [(pgCour, 0x44, 0x101)] sVec).mgmtReq = true ∧
    (nxt .alertRepeat (withRegs [(pgCour, 0x44, 0x101)] sVec)).irq.cour.length = 1 ∧
    (nxt .alertRepeat (withRegs [(pgCour, 0x44, 0x101)] sVec)).irq.smbAlert = true := by decide +kernel

/-- The governor's page with GOV_CFG changed and a reset requested. -/
def sSoft : State := nxt (.softReset .pf 4) (withRegs [(4, 0x40, 0x00010001), (4, 0x10, 1)] r0)

theorem wit_softReset : r0.mayPath .pf 4 = true ∧ sSoft.softDue 4 = true ∧ (nxt (.softResetComplete 4) sSoft).softDue 4 = false ∧
    (nxt (.softResetComplete 4) sSoft).reg 4 0x40 = 0x00080041 ∧ (nxt (.softResetComplete 4) sSoft).en 4 = false ∧
    (nxt (.softReset .pf 48) r0).softDue 48 = true ∧ nxt (.softResetComplete 48) (nxt (.softReset .pf 48) r0) = nxt (.softReset .pf 48) r0 ∧
    blkOf 48 = .vsu ∧ blkOf 66 = .tile := by decide +kernel

theorem wit_registerWrite : locate 0x9050 = .page pgClock 0x50 ∧ rowOf pgClock 0x50 = some ⟨0x50, 1, 4, 1, 0, 0⟩ ∧
    isLow (.page pgClock 0x50) = false ∧ isHigh (.page pgClock 0x50) = false ∧ selMask pgClock 0x50 = none ∧
    r0.mayPath .pf pgClock = true ∧ (nxt (.registerWrite .pf 0x9050#26 3 none) r0).reg pgClock 0x50 = 1 ∧
    rowOf pgSmb 0x40 = some ⟨0x40, 1, 4, 0, 0x7F, 0x52⟩ ∧ (nxt (.registerWrite .pf 0xB040#26 0x55 none) r0).reg pgSmb 0x40 = 0x55 ∧
    tget 0 6 (nxt (.registerWrite .pf 0xB040#26 0x55 none) { r0 with sec := { r0.sec with lock := true } }).sec.viol = 1 ∧
    locate 0x41000 = .none ∧ r0.mayPage (pathTenant vf3) pgClock = false ∧
    tget 0 32 (nxt (.registerWrite vf3 0x9050#26 1 none) r0).sec.viol = 1 := by decide +kernel

/-! ### PCIe port, BAR4, resets, power -/

/-- The port answers, at width 16. -/
def sPort : State := { r0 with hif := { r0.hif with cfgReady := true, perstHigh := true, phyOn := true } }
def sUp : State := nxt (.pcieLinkUp false .gt64) sPort

theorem wit_pcie : r0.hif.cfgReady = false ∧ (nxt (.configRequest 0 (.read 0)) r0).resp = .retry ∧ sPort.hif.cfgReady = true ∧
    tget false 15 (nxt (.configRequest 15 (.memDecode true)) sPort).hif.memDecode = true ∧
    tget true 127 (nxt (.configRequest 0 (.msixMask 127)) sPort).hif.mask = true ∧ (nxt .perstDeassert r0).hif.perstHigh = true ∧
    sPort.hif.width = 0 ∧ sUp.hif.width = 16 ∧ (nxt (.pcieRateChange true .gt32) sUp).hif.width = 8 ∧
    bitOf ((nxt (.pcieRateChange true .gt32) sUp).raw pgHost) 5 = true ∧ rateCode .gt32 ≠ rateCode .gt64 := by decide +kernel

theorem wit_bar4Resize : tget false 0 r0.hif.memDecode = false ∧ (nxt (.bar4Resize 0 36) r0).barLog 0 = 36 ∧
    (nxt (.bar4Resize 0 41) r0).barLog 0 = 41 ∧ (nxt (.bar4Resize 0 41) r0).segBase 0 15 = 15 * 2 ^ 37 ∧
    (nxt (.bar4Resize 15 36) r0).barLog 1 = 36 ∧ (nxt (.bar4Resize 1 38) r0).barLog 15 = 38 ∧
    (nxt (.bar4Resize 0 42) r0).barLog 0 = r0.barLog 0 := by decide +kernel

theorem wit_flr : tget false 3 (nxt (.pcieFlr 3) { sUp with hif := { sUp.hif with msixEn := [(2, true), (3, true)] } }).hif.msixEn = false ∧
    tget false 2 (nxt (.pcieFlr 3) { sUp with hif := { sUp.hif with msixEn := [(2, true), (3, true)] } }).hif.msixEn = true ∧
    (nxt (.pcieFlr 3) sUp).cntLive pgHost 7 = 1 := by decide +kernel

theorem wit_linkDown : sUp.hif.width ≠ 0 ∧ (nxt (.pcieLinkDown false) sUp).hif.width = 0 ∧
    bitOf ((nxt (.pcieLinkDown false) sUp).raw pgHost) 4 = true ∧ (nxt (.pcieLinkDown true) sUp).hif.inL1 = false ∧
    tget false 0 (nxt (.configRequest 0 (.power true)) sUp).hif.d3 = true ∧
    (nxt (.pcieLinkDown true) (nxt (.configRequest 0 (.power true)) sUp)).hif.inL1 = true := by decide +kernel

/-- Every controller ACTIVE, its page enabled. -/
def sMem : State := forN 24 (fun k s => (s.setCtl k { s.ctl k with st := .active }).setReg (pgMem k) 0x10 1) r0

/-- Segment 0 of BAR4 of function 0 starts at address 0: granule 1 holds 0xA5 and no poison. -/
def sB4 : State := { sMem with mem := (sMem.mem.put 64 0xA5).setMark 1 false }

theorem wit_bar4 : sB4.barAddr 0 64 = 64 ∧ 64 + 64 ≤ 2 ^ sB4.barLog 0 ∧ sB4.mayPhys 0 64 false = true ∧ sB4.mayPhys 0 64 true = true ∧
    regionOf 64 = .ctl 0 ∧ (sB4.ctl 0).st = .active ∧ sB4.fr.applying = [] ∧ sB4.mem.mark 1 = false ∧ sB4.mem.mark 2 = true ∧
    (nxt (.bar4Read 0 64 1 []) sB4).resp = .cpl [([0xA5], false)] ∧
    (nxt (.bar4Read 0 128 2 []) sB4).resp = .cpl [([0, 0], true)] ∧ (nxt (.bar4Read 0 128 2 []) sB4).cntLive pgHost 3 = 1 ∧
    (nxt (.bar4Write 0 128 (List.replicate 64 (some 7)) []) sB4).mem.read 128 64 = List.replicate 64 7 ∧
    (nxt (.bar4Write 0 128 (List.replicate 64 (some 7)) []) sB4).mem.mark 2 = false ∧
    (nxt (.bar4Write 0 128 (List.replicate 64 (some 7)) []) sB4).mem.byte 64 = 0xA5 := by decide +kernel

theorem wit_resets : r0.pw.powered = false ∧ (nxt .powerOn r0).dom 40 = 4 ∧ (nxt .powerOn r0).vote 2 31 = 2 ∧
    r0.mayPath .pf pgDev = true ∧ fld 0x5AA50001 31 16 = 0x5AA5 ∧ fld 0x5AA50001 3 0 = 1 ∧
    (nxt (.warmReset .pf 0x5AA50001#32) sUp).hif.width = 0 ∧ (nxt (.warmReset .pf 0x5AA50001#32) sUp).cntLive pgDev 0 = 1 ∧
    (nxt (.warmReset .pf 0x5AA50002#32) sUp).cntLive pgDev 1 = 1 ∧ bitOf ((nxt (.warmReset .pf 0#32) sUp).raw pgDev) 1 = true ∧
    (nxt .vinFault sUp).pw.a3 = true ∧ (nxt (.auxLoss true) { sUp with mg := { sUp.mg with time := 9, timeValid := true } }).mg.time = 9 ∧
    (nxt (.auxLoss false) { sUp with mg := { sUp.mg with time := 9, timeValid := true } }).mg.time = 0 := by decide +kernel

/-- No vote anywhere: every target is A2. -/
def sNoVote : State := withRegs [(pgPower, 0x60, 0), (pgPower, 0x64, 0), (pgPower, 0x68, 0)] r0

theorem wit_domainEntry : sNoVote.dom 32 < 2 ∧ sNoVote.target 32 = 2 ∧ (nxt (.domainEntry (.lg 0)) sNoVote).dom 32 = 3 ∧
    sNoVote.target 31 = 2 ∧ sNoVote.fr.tif = 0 ∧ (sNoVote.tl 255).busyRun = false ∧ (nxt (.domainEntry (.tg 31)) sNoVote).dom 31 = 3 ∧
    sNoVote.pw.latched = 0 ∧ (nxt (.domainEntryComplete (.lg 5)) (sNoVote.setDom 37 3)).dom 37 = 2 ∧
    (nxt (.domainEntryComplete (.lg 5)) (sNoVote.setDom 37 3)).cntLive pgPower 0 = 1 := by decide +kernel

theorem wit_domainWake : (r0.setDom 40 2).target 40 < 2 ∧ r0.pw.a3 = false ∧ (nxt (.domainWake .hub) (r0.setDom 40 2)).dom 40 = 4 ∧
    (r0.setDom 40 4).target 40 ≠ 1 ∧ (nxt (.domainWakeComplete .hub) (r0.setDom 40 4)).dom 40 = 0 ∧
    (nxt (.domainWakeComplete (.lg 0)) (r0.setDom 32 4)).cntLive pgPower 1 = 1 ∧ (r0.setDom 31 1).target 31 = 0 ∧
    (nxt (.fullLaserPowerRestored 31) (r0.setDom 31 1)).dom 31 = 0 := by decide +kernel

theorem wit_votes : r0.mayPath .pf pgPower = true ∧ r0.mayPath .mgmt pgPower = true ∧ r0.mayPath .core pgPower = true ∧
    (nxt (.voteWrite .pf 0 0 0xAAAAAAAA#32) r0).vote 0 15 = 2 ∧ (nxt (.voteWrite .core 1 2 0x2AAAA#32) r0).vote 1 40 = 2 ∧
    (nxt (.voteWrite .mgmt 2 1 0#32) r0).vote 2 31 = 0 ∧ bitOf ((nxt (.voteWrite .mgmt 0 0 0#32) r0).raw pgPower) 8 = true ∧
    bitOf ((nxt (.voteWrite .pf 0 0 3#32) r0).raw pgPower) 8 = true := by decide +kernel

theorem wit_wakeA3 : bitOf (r0.reg pgPower 0x94) 0 = true ∧ r0.pw.a3 = false ∧ r0.dom 38 ≠ 3 ∧ r0.dom 39 ≠ 3 ∧ r0.dom 40 ≠ 3 ∧
    (nxt .pcieWakeEvent sNoVote).vote 2 40 = 2 ∧ bitOf ((nxt .pcieWakeEvent sNoVote).reg pgPower 0x98) 4 = true ∧
    (List.range 41).all (fun d => sNoVote.vote 0 d == 0 && sNoVote.vote 1 d == 0 && sNoVote.vote 2 d == 0) = true ∧
    (nxt (.a3Cmd .mgmt 0xA3A30001#32) sNoVote).pw.a3 = true ∧ bitOf ((nxt (.a3Cmd .mgmt 0xA3A30001#32) r0).raw pgPower) 8 = true ∧
    bitOf ((nxt (.a3Cmd .pf 0xA3A30001#32) sNoVote).raw pgPower) 8 = true ∧ r0.vote 2 0 ≠ 0 := by decide +kernel

theorem wit_inlet : (r0.setDom 40 2).dom 40 = 2 ∧ r0.alarmed = false ∧ bitOf ((nxt (.aonInletCheck true) (r0.setDom 40 2)).raw pgPower) 5 = true ∧
    (nxt (.aonInletCheck true) (r0.setDom 40 2)).pw.vmax = 0 ∧ (nxt (.aonInletCheck false) (r0.setDom 40 2)).pw.inletHigh = false := by decide +kernel

/-- A window has ended with little slack; AUTO is 1. -/
def sGov : State := { withRegs [(pgGov, 0x10, 1)] r0 with
  fr := { r0.fr with govDue := true }, gov := { r0.gov with least := some 3 } }

theorem wit_governor : sGov.fr.govDue = true ∧ sGov.en pgGov = true ∧ bitOf (sGov.reg pgGov 0x40) 0 = true ∧ sGov.gov.adjusting = false ∧
    sGov.gov.overran = false ∧ (3 : Int) < (fld (sGov.reg pgGov 0x44) 31 24 : Int) ∧ sGov.pw.vmax = sGov.vlim.2 ∧ sGov.vlim.1 ≤ sGov.gov.code ∧
    sGov.gov.code + 4 ≤ sGov.vlim.2 ∧ sGov.atLeast (fld (sGov.reg pgPower 0xA0) 7 0) = false ∧
    sGov.atLeast (fld (sGov.reg pgPower 0x9C) 15 8) = false ∧ sGov.atLeast (fld (sGov.reg pgPower 0x9C) 23 16) = false ∧
    (nxt .governorDecision sGov).gov.want = sGov.gov.code + 4 ∧ (nxt .governorDecision sGov).gov.adjusting = true := by decide +kernel

def sAdj : State := nxt .governorDecision sGov

theorem wit_vcore : sAdj.gov.adjusting = true ∧ sAdj.gov.acked = false ∧ sAdj.gov.tries = 0 ∧ (nxt (.vcoreWriteAck .free true) sAdj).gov.acked = true ∧
    (nxt (.vcoreWriteAck .free false) sAdj).gov.tries = 1 ∧
    (nxt (.vcoreWriteAck .free false) (nxt (.vcoreWriteAck .free false) sAdj)).cntLive pgGov 4 = 1 ∧
    (nxt .vcoreSettle (nxt (.vcoreWriteAck .free true) sAdj)).gov.code = sGov.gov.code + 4 ∧ sAdj.gov.want ≤ sAdj.pw.vmax := by decide +kernel

theorem wit_vset : (withRegs [(pgGov, 0x10, 1), (pgGov, 0x40, 0)] r0).vlim = (0, 50) ∧ r0.mayPath .pf pgGov = true ∧
    (nxt (.vsetWrite .pf 50) (withRegs [(pgGov, 0x10, 1), (pgGov, 0x40, 0)] r0)).gov.want = 50 ∧
    (nxt (.vsetWrite .pf 0) (withRegs [(pgGov, 0x10, 1), (pgGov, 0x40, 0)] r0)).gov.want = 0 := by decide +kernel

/-! ### Boot, SPDM, debug -/

theorem wit_boot : (nxt .powerOn r0).pw.powered = true ∧ ((nxt .powerOn r0).setDom 40 0).dom 40 < 2 ∧ r0.sec.judged = false ∧
    r0.slotValid false = none ∧ r0.slotValid true = none ∧ (nxt .bootVerify ((nxt .powerOn r0).setDom 40 0)).sec.judged = true ∧
    (nxt .bootVerify ((nxt .powerOn r0).setDom 40 0)).sec.started = none ∧ (nxt (.bootLock true) r0).sec.lock = true ∧
    tget 0 6 (nxt (.bootLock false) r0).sec.viol = 1 := by decide +kernel

/-- Firmware runs. -/
def sFw : State := { r0 with sec := { r0.sec with started := some 0 } }
def sAlg : State := nxt (.negotiateAlgorithms .smbus true) (nxt (.getCapabilities .smbus) (nxt (.getVersion .smbus) sFw))

theorem wit_spdm : sFw.spdmUp .smbus = true ∧ (nxt (.getVersion .smbus) sFw).sec.spdmSmb.version = true ∧ (sAlg.spdm .smbus).caps = true ∧
    (sAlg.spdm .smbus).algs = true ∧ (sAlg.spdm .smbus).sessions.length < spdmMax .smbus ∧ sAlg.spdm .doe = sFw.spdm .doe ∧
    (1 : BitVec 8).toNat = 1 ∧ (5 : BitVec 8).toNat = 5 ∧ freeSid (sAlg.spdm .smbus).sessions = 0 := by decide +kernel

theorem wit_spdmSession : tget 0 0 ((nxt (.keyExchange .smbus (List.replicate 96 0)) sAlg).spdm .smbus).sessions = 1 ∧
    tget 0 0 ((nxt (.finish .smbus 0 true) (nxt (.keyExchange .smbus (List.replicate 96 0)) sAlg)).spdm .smbus).sessions = 2 ∧
    tget 0 0 ((nxt (.endSession .smbus 0) (nxt (.finish .smbus 0 true) (nxt (.keyExchange .smbus (List.replicate 96 0)) sAlg))).spdm .smbus).sessions = 0 := by
  decide +kernel

/-- A mailbox with an established session and the keys of stream 0. -/
def sIde : State := { sUp with sec := { sUp.sec with started := some 1, spdmDoe := { sessions := [(0, 2)] } }, hif := { sUp.hif with ideKeys := [(0, true), (1, true)] } }

theorem wit_doe : sIde.hif.cfgReady = true ∧ sIde.hif.width ≠ 0 ∧ sIde.sec.started.isSome = true ∧ (0, 2) ∈ sIde.sec.spdmDoe.sessions ∧
    tget false 2 (nxt (.ideKmMessage (.keyProg 2)) sIde).hif.ideKeys = true ∧ tget false 0 (nxt (.ideKmMessage (.goLink true)) sIde).hif.ideOn = true ∧
    tget false 1 (nxt (.ideKmMessage (.goSelective 0 true)) sIde).hif.ideOn = true ∧
    (nxt (.doeDiscovery 2) sIde).resp = .msg [1, 0, 2, 0] := by decide +kernel

/-- DEBUG is enabled and the boot lock set. -/
def sDbg : State := { withRegs [(pgDbg, 0x10, 1)] r0 with sec := { r0.sec with lock := true, level := [(0, 3)] } }

theorem wit_debug : sDbg.en pgDbg = true ∧ sDbg.sec.refusals < 8 ∧ sDbg.sec.nonce = none ∧ sDbg.unlockWhy .pf 1 = some 2 ∧
    (nxt (.unlock .jtag 1) sDbg).sec.refusals = 1 ∧ bitOf ((nxt (.unlock .jtag 1) sDbg).raw pgDbg) 1 = true ∧
    ({ sDbg with sec := { sDbg.sec with refusals := 8 } }).unlockWhy .mgmt 3 = some 5 ∧ sDbg.holdsHalt (dpIx .pf) = false ∧
    (nxt (.relock .pf) sDbg).dbgLevel .pf = 0 ∧ (nxt .nonceExpire { sDbg with sec := { sDbg.sec with nonce := some 5 } }).sec.nonce = none ∧
    (nxt (.genChallenge .pf) sDbg).sec.noncePath = 0 := by decide +kernel

theorem wit_halt : 2 ≤ sDbg.dbgLevel .pf ∧ sDbg.sec.halted = false ∧ sDbg.sec.haltPending = false ∧
    (nxt (.debugHalt .pf) sDbg).sec.haltPending = true ∧ sDbg.sec.seq = none ∧ (nxt .haltDone (nxt (.debugHalt .pf) sDbg)).sec.halted = true ∧
    (nxt .forcedHalt { sDbg with sec := { sDbg.sec with haltPending := true, seq := some .cellRmw } }).cntLive pgDbg 3 = 1 ∧
    (nxt (.resume .pf) { sDbg with sec := { sDbg.sec with halted := true, relock := [(0, true)] } }).sec.halted = false ∧
    (nxt (.resume .pf) { sDbg with sec := { sDbg.sec with halted := true, relock := [(0, true)] } }).dbgLevel .pf = 0 := by decide +kernel

theorem wit_jtag : (nxt .bypass r0).sec.jtag = 1 ∧ (nxt .jtagReset { r0 with sec := { r0.sec with jtag := 1 } }).sec.jtag = 0 ∧
    r0.dbgLevel .jtag < 3 ∧ (nxt .extest r0).sec.jtag = 1 ∧
    (nxt .extest { r0 with sec := { r0.sec with level := [(2, 3)] } }).sec.driving = true ∧
    (nxt (.samplePreload [true, false]) { r0 with sec := { r0.sec with level := [(2, 3)] } }).sec.cells = [true, false] := by decide +kernel

/-! ### Time base, frames, plans -/

theorem wit_timeBase : r0.tb.locked = false ∧ (nxt .pllLock r0).tb.locked = true ∧
    (nxt .pllUnlock (nxt .pllLock r0)).tb.fault = true ∧ (nxt .refclkReturn r0).tb.refOk = true ∧
    (nxt .refclkLost (nxt .pllLock (nxt .refclkReturn r0))).tb.holdover = true ∧
    (nxt .refclkLost { nxt .refclkReturn r0 with fr := { r0.fr with st := .free } }).cntLive pgTb 0 = 1 ∧
    bitOf ((nxt .refclkLost { nxt .refclkReturn r0 with fr := { r0.fr with st := .free } }).raw pgFrame) 1 = true ∧
    (nxt .holdoverExpire { r0 with tb := { r0.tb with holdover := true, lostFor := 1600000000 }, fr := { r0.fr with st := .locked } }).fr.haltDue = true := by
  decide +kernel

/-- LOCKED to link 35, whose D is 100, at frame 50. -/
def sRef : State := { withRegs [(pgLink 2, 0x10, 1), (pgLink 35, 0x10, 1)] r0 with
  fr := { r0.fr with st := .locked, src := 1, refLink := 35, num := 50, tif := 120, started := true, comNext := 48 }
  link := [(35, { st := .active, d := 100 })] }

theorem wit_marker : (sRef.lnk 35).carries = true ∧ sRef.guardT = 8 ∧ sRef.boundaryTick 50 = 0 ∧
    (nxt (.markerRx 35 50 12) sRef).fr.pending = 8 ∧ (nxt (.markerRx 35 50 11) sRef).fr.slipRun = 1 ∧
    (nxt (.markerRx 35 50 11) sRef).fr.pending = 0 ∧ (nxt (.markerRx 35 51 20) sRef).fr.slipRun = 1 ∧
    (nxt (.markerRx 35 50 29) { sRef with fr := { sRef.fr with slipRun := 2 } }).fr.st = .resync ∧
    (nxt (.markerRx 35 7 0) { sRef with fr := { sRef.fr with st := .acquire } }).fr.aligned = true ∧
    (nxt (.markerRx 35 7 0) { sRef with fr := { sRef.fr with st := .acquire } }).fr.num = 7 := by decide +kernel

theorem wit_pulse : sRef.fsOffset = 0 ∧ nearest 5 16384 = 0 ∧
    (nxt .frameSyncPulse { sRef with fr := { sRef.fr with src := 2, tif := 5 } }).fr.pending = 5 ∧
    (nxt .frameSyncPulse { sRef with fr := { sRef.fr with src := 2, tif := 16380 } }).fr.pending = -4 ∧
    (nxt .referenceEventMissing sRef).fr.slipRun = 1 ∧ (nxt .referenceEventMissing sRef).cntLive pgFrame 4 = 1 := by decide +kernel

theorem wit_slew : sRef.fr.judged = false ∧ sRef.frameLen = 16384 ∧
    (nxt .slewJudge { sRef with fr := { sRef.fr with tif := 16382, pending := -3 } }).fr.slew = -1 ∧
    (nxt .slewJudge { sRef with fr := { sRef.fr with tif := 16382, pending := -3 } }).cntLive pgFrame 5 = 1 ∧
    (nxt .slewJudge { sRef with fr := { sRef.fr with tif := 16382 } }).cntLive pgFrame 5 = 0 := by decide +kernel

theorem wit_frameConfig : r0.mayPath .pf pgFrame = true ∧ (nxt (.frameEnable .pf) (nxt .pllLock r0)).fr.st = .free ∧
    (nxt (.frameEnable .pf) { nxt .pllLock r0 with fr := { r0.fr with src := 1 } }).fr.st = .acquire ∧
    bitOf ((nxt (.frameEnable .pf) { nxt .pllLock r0 with fr := { r0.fr with src := 1 }, tb := { r0.tb with locked := true, localOsc := true } }).raw pgFrame) 9 = true ∧
    cfgValid 0x04021000 = true ∧ cfgValid 0x0F080010 = true ∧ cfgValid 0x0402000F = false ∧ cfgValid 0x04021001 = false ∧
    (nxt (.frameCfgWrite .pf 0x04020010#32) r0).fr.len = 16 ∧ bitOf ((nxt (.frameCfgWrite .pf 0x0402000F#32) r0).raw pgFrame) 9 = true := by decide +kernel

theorem wit_planSwitch : (nxt (.planSwitchArm .pf 0) (withRegs [(pgFrame, 0x68, 0x100), (pgFrame, 0x6C, 0x400)] r0)).fr.dir = 0x40000000100 ∧
    (nxt (.planSwitchArm .pf 0) { withRegs [(pgFrame, 0x78, 52)] sRef with hif := {} }).fr.switchAt = some 52 ∧
    bitOf ((nxt (.planSwitchArm .pf 0) (withRegs [(pgFrame, 0x78, 51)] sRef)).raw pgFrame) 9 = true := by decide +kernel

/-- Frame 50 ends; a write of frame 48 is staged. -/
def sEnd : State := { withRegs [(pgFrame, 0x10, 1), (pgMem 0, 0x10, 1)] sRef with
  fr := { sRef.fr with tif := 16384, buf := [⟨48, 2, List.replicate 64 (some 9), true, 2, 0⟩] }, mem := sMem.mem }

theorem wit_boundary : (sEnd.frameLen : Int) + sEnd.fr.slew ≤ sEnd.fr.tif ∧ sEnd.fr.acts = [] ∧ sEnd.soft = [] ∧ sEnd.en pgFrame = true ∧
    sEnd.fr.comNext + sEnd.fr.lag = sEnd.fr.num ∧ sEnd.fr.disc = [] ∧ sEnd.rg.restoring = false ∧ sEnd.rg.pend = none ∧ sEnd.fr.started = true ∧
    (nxt .frameBoundary sEnd).fr.num = 51 ∧ (nxt .frameBoundary sEnd).fr.committed = 48 ∧ (nxt .frameBoundary sEnd).fr.applying = sEnd.fr.buf := by
  decide +kernel

theorem wit_apply : wholeGran (List.replicate 64 (some (9 : Byte))) = true ∧ regionOf 128 = .ctl 0 ∧ (sEnd.ctl 0).st = .active ∧
    (nxt .commitGranuleApply { sEnd with fr := { sEnd.fr with applying := sEnd.fr.buf } }).mem.byte 191 = 9 ∧
    (nxt .commitGranuleApply { sEnd with fr := { sEnd.fr with applying := sEnd.fr.buf } }).mem.byte 192 = 0 ∧
    (nxt .commitGranuleApply { sEnd with fr := { sEnd.fr with applying := sEnd.fr.buf } }).fr.applying = [] := by decide +kernel

/-- In FREE at tick 100 of frame 0, whose plan is the one record `w`, at 0x4000000000040. -/
def sPlan (w : List Nat) : State :=
  let m := sMem.mem.write 0x40000000000 (leBytes 8 0x40000000040 ++ leBytes 8 1 ++ List.replicate 48 0 ++ w.flatMap (leBytes 8))
  { sMem with
    fr := { r0.fr with
      st := .free, tif := 100, dir := 0x40000000000, started := true, memNow := m.bytes, memPrev := m.bytes }
    mem := m }

/-- W0 of a record of type `ty`, START 100, BOUND 200, TAG 7 (Table 10.5). -/
def w0 (ty : Nat) : Nat := ty + 100 * 2 ^ 8 + 200 * 2 ^ 28 + 7 * 2 ^ 48

theorem wit_action : (sPlan [w0 0, 0, 0, 0]).nextRecord = some ⟨w0 0, 0, 0, 0⟩ ∧ (sPlan [w0 0, 0, 0, 0]).recDue ⟨w0 0, 0, 0, 0⟩ = true ∧
    (sPlan [w0 0, 0, 0, 0]).recValid ⟨w0 0, 0, 0, 0⟩ = true ∧ (nxt .actionNop (sPlan [w0 0, 0, 0, 0])).fr.nextRec = 1 ∧
    (sPlan [w0 7, 0, 0, 0]).recValid ⟨w0 7, 0, 0, 0⟩ = false ∧ (sPlan [w0 7, 0, 0, 0]).recDue ⟨w0 7, 0, 0, 0⟩ = true ∧
    (nxt .actionVsu (sPlan [w0 7, 0, 0, 0])).cntLive pgFrame 9 = 1 ∧ bitOf ((nxt .actionVsu (sPlan [w0 7, 0, 0, 0])).raw pgFrame) 1 = true := by
  decide +kernel

/-- An action of frame 0, record 3, START 100 and BOUND 200, at tick 150. -/
def sAct (parts : List Nat) (tif : Nat) : State := { r0 with fr := { r0.fr with st := .free, tif := tif, acts := [⟨0, 3, 2, false, 100, 200, 7, parts, false, false⟩] } }

theorem wit_complete : (sAct [] 150).actOf 0 3 = some ⟨0, 3, 2, false, 100, 200, 7, [], false, false⟩ ∧
    (nxt (.actionComplete 0 3) (sAct [] 150)).fr.slack = some 500 ∧ (nxt (.actionComplete 0 3) (sAct [] 200)).fr.slack = some 0 ∧
    (nxt (.actionComplete 0 3) (sAct [] 150)).fr.acts = [] ∧ (sAct [4] 200).pastBound ⟨0, 3, 2, false, 100, 200, 7, [4], false, false⟩ = true ∧
    (nxt (.actionOverrun 0 3) (sAct [4] 200)).cntLive pgFrame 3 = 1 ∧ (nxt (.actionOverrun 0 3) (sAct [4] 200)).frameSlack = -1 := by decide +kernel

/-! ### Tiles -/

/-- Tile 5 is enabled, READY and in A0; its one record of frame 0 starts a run of P code 1 for 3 sets. -/
def w1Run : Nat := 5 + 1 * 2 ^ 8 + 3 * 2 ^ 32
def sTile (x : Tile) : State := (withRegs [(pgTile 5, 0x10, 1)] (sPlan [w0 1, w1Run, 0, 0])).setTl 5 x

theorem wit_tileRun : (sTile { ready := true }).nextRecord = some ⟨w0 1, w1Run, 0, 0⟩ ∧ (sTile { ready := true }).recValid ⟨w0 1, w1Run, 0, 0⟩ = true ∧
    (sTile { ready := true }).runRefused 5 1 = false ∧ (sTile {}).runRefused 5 1 = true ∧ (sTile {}).actOf 0 0 = none ∧
    (nxt .actionTileRun (sTile { ready := true })).actOf 0 0 = some ⟨0, 0, 1, false, 100, 200, 7, [5], false, false⟩ ∧
    ((nxt .actionTileRun (sTile { ready := true })).tl 5).run = some ⟨0, 0, 1, 0, 0, 0, 3, 0⟩ ∧
    ((nxt .actionTileRun (sTile {})).tl 5).fault = true ∧ bitOf ((nxt .actionTileRun (sTile {})).raw pgFrame) 1 = true := by decide +kernel

theorem wit_shadow : (sTile { wSrc := [0] }).tileOn 5 = true ∧ (({ wSrc := [0] } : Tile)).nextSlotReady = true ∧
    ((nxt (.shadowLoadStart 5 none) (sTile { wSrc := [0] })).tl 5).loading = true ∧
    ((nxt (.shadowLoadDone 5) (sTile { wSrc := [0], loading := true })).tl 5).shadow.isSome = true := by decide +kernel

/-- A weight slot whose first cell of row 0 is 7, of row 1 is -8; descriptor SET_ID 9, 2 vectors, FIRST, LAST, index 254. -/
def slotA : Bytes := [0x07] ++ List.replicate 63 0 ++ [0x08] ++ List.replicate 8127 0 ++ List.replicate 448 0
  ++ leBytes 8 (9 + 2 * 2 ^ 16 + 2 ^ 25 + 2 ^ 26 + 254 * 2 ^ 32) ++ List.replicate 56 0
def latA (bad : Bool) : Latch := ⟨slotA, 0, bad⟩
def runA (vec left : Nat) : TRun := ⟨0, 0, 0, 0, 0, 0, left, vec⟩

theorem wit_switch : dAcc (setDesc (latA false).par) + dVectors (setDesc (latA false).par) = 256 ∧ dLast (setDesc (latA false).par) = true ∧
    recSize (dFmt (setDesc (latA false).par)) ≤ ({} : Tile).oSize ∧
    ((nxt (.weightSwitch 5) (sTile { run := some (runA 0 1), shadow := some (latA false) })).tl 5).setId = 9 ∧
    ((nxt (.weightSwitch 5) (sTile { run := some (runA 0 1), shadow := some (latA false) })).tl 5).run = some (runA 2 0) ∧
    ((nxt (.weightSwitch 5) (sTile { run := some (runA 0 1), shadow := some (latA true) })).tl 5).fault = true := by decide +kernel

/-- The activation ring's head slot holds one record of P code 0. -/
def xVec : Tile :=
  { run := some (runA 2 0), active := some (latA false), aSrc := [0], sram := [(0x9000 + 2, 1), (0x9000 + 64, 3)] }

theorem wit_vector : xVec.recPoison 0 = false ∧ xVec.used = xVec.roles ∧ (sTile xVec).en (pgTile 5) = true ∧ pOf 0 = 4 ∧ xVec.aSrc = [0] ∧
    xVec.fifo = [] := by decide +kernel

theorem wit_vectorRing : xVec.aAdvance 0 9 = (xVec, 0) ∧ (latA false).slot.length = 0x2200 :=
  ⟨rfl, by simp only [latA, slotA, List.length_append, List.length_cons, List.length_nil, List.length_replicate]; rfl⟩

/-- A result of the set of `slotA`: 128 codes of 0. -/
def resA (last : Bool) : TRes := ⟨(List.range 128).map (fun c => (0, c)), none, 254, 0, 0, 0, 0, 0, 0, true, last, 0, (latA false).par, false, true⟩

theorem wit_result : (resA true).codes.length = 128 ∧ (resA true).acc < 256 ∧ (resA true).fmt < 4 ∧ (sTile { fifo := [resA true] }).tl 5 = { fifo := [resA true] } ∧
    (resA false).codes.getD 127 (0, 0) = (0, 127) ∧ ({ fifo := [resA false] } : Tile).rot ≠ 4 := by decide +kernel

theorem wit_outRec : ({} : Tile).oSize = 16384 ∧ ({} : Tile).oSlots = 4 ∧
    ((nxt (.outputRecordWrite 5) (sTile { outRec := some (List.replicate 4 1, false, false) })).tl 5).read 0x21000 4 = [1, 1, 1, 1] ∧
    ((nxt (.outputRecordWrite 5) (sTile { outRec := some (List.replicate 4 1, false, false) })).tl 5).oFill = 4 ∧
    ((nxt (.outputRecordWrite 5) (sTile { outRec := some (List.replicate 4 1, false, false), oLens := [256, 256, 256, 256] })).tl 5).oFill = 0 := by
  decide +kernel

theorem wit_runComplete : (sTile { ready := true, run := some (runA 0 0), waiting := [runA 0 7] }).runRefused 5 0 = false ∧
    ((nxt (.tileRunComplete 5) (sTile { ready := true, run := some (runA 0 0), waiting := [runA 0 7] })).tl 5).run = some (runA 0 7) ∧
    ((nxt (.tileRunComplete 5) (sTile { run := some (runA 0 0) })).tl 5).run = none ∧
    (sTile { run := some (runA 0 0), waiting := [runA 0 7] }).runRefused 5 0 = true ∧
    ((nxt (.tileRunComplete 5) (sTile { run := some (runA 0 0), waiting := [runA 0 7] })).tl 5).fault = true := by decide +kernel

theorem wit_routing : (sTile { roles := { rowmap := 0x85 } }).tileOn 5 = true ∧
    ((nxt (.routingChange 5) (sTile { roles := { rowmap := 0x85 } })).tl 5).used.rowmap = 0x85 ∧
    bitOf ((nxt (.routingChange 5) (sTile { roles := { rowmap := 0x85 } })).raw (pgTile 5)) 5 = true := by decide +kernel

theorem wit_rowFailure : (sTile { lowRuns := [(4, 3)] }).tileOn 5 = true ∧ ({ lowRuns := [(4, 3)] } : Tile).rowCarried 4 = some 4 ∧
    ({} : Tile).rowCarried 131 = none ∧ ({} : Tile).spareFree 0 = true ∧
    ((nxt (.rowFailure 5 4 false) (sTile { lowRuns := [(4, 3)] })).tl 5).rowDue = [4] ∧
    ((nxt (.rowFailure 5 4 false) (sTile { lowRuns := [(4, 3)], ready := true })).raw pgFrame) = 2 ∧
    ((nxt (.rowFailure 5 131 false) (sTile { lowRuns := [(131, 3)] })).tl 5).rowFail = 2 ^ 131 ∧
    bitOf ((nxt (.rowFailure 5 4 false) (sTile { lowRuns := [(4, 3)], rowFail := 2 ^ 32 })).raw (pgTile 5)) 6 = true := by decide +kernel

theorem wit_columnFailure : ({} : Tile).inService 127 = true ∧ ({} : Tile).inService 129 = false ∧
    ((nxt (.columnFailure 5 127) (sTile {})).tl 5).colDue = [127] ∧ bitOf ((nxt (.columnFailure 5 127) (sTile {})).raw (pgTile 5)) 9 = true ∧
    bitOf ((nxt (.columnFailure 5 127) (sTile { ready := true })).raw pgFrame) 1 = true := by decide +kernel

theorem wit_substAndRings : r0.mayPath .pf (pgTile 5) = true ∧ ((nxt (.rowSubstReq .pf 5 0x80000303#32) (sTile {})).tl 5).rowDue = [99] ∧
    bitOf ((nxt (.rowSubstReq .pf 5 0x80000003#32) (sTile { rowFail := 2 ^ 32 })).raw (pgTile 5)) 10 = true ∧
    (nxt (.aringCfgWrite .pf 5 0x30080#32) (sTile {})).reg (pgTile 5) 0x50 = 0x30080 ∧
    bitOf ((nxt (.aringCfgWrite .pf 5 0x30081#32) (sTile {})).raw (pgTile 5)) 10 = true ∧
    (nxt (.oringCfgWrite .pf 5 0x80020#32) (sTile {})).reg (pgTile 5) 0x58 = 0x80020 ∧
    bitOf ((nxt (.oringCfgWrite .pf 5 0x20040#32) (sTile {})).raw (pgTile 5)) 10 = true := by decide +kernel

theorem wit_scrub : bitOf ((sTile {}).reg (pgTile 5) 0x40) 2 = true ∧ ({} : Tile).mark 4095 = false ∧
    (nxt (.tileScrubPass 5 [⟨262143, false⟩]) (sTile {})).cntLive (pgTile 5) 10 = 1 ∧
    ((nxt (.tileScrubPass 5 [⟨262143, true⟩]) (sTile { sram := [(262143, 9)] })).tl 5).mark 4095 = true ∧
    tget 0 262143 ((nxt (.tileScrubPass 5 [⟨262143, true⟩]) (sTile { sram := [(262143, 9)] })).tl 5).sram = 0 := by decide +kernel

/-! ### Column calibration -/

/-- Tile 5 calibrates its column 129, at step `ph`. -/
def sCal (ph : Nat) (w : CalWork) : State := sTile { rot := 2, cal := { w with phase := ph } }

theorem wit_calOffsetGain : (sCal 2 {}).calAt 5 2 = true ∧ ((nxt (.calOffsetMeasure 5 77) (sCal 2 {})).tl 5).cal.offSum = 77 ∧
    (sCal 3 {}).calAt 5 3 = true ∧ (nxt (.calGainMeasure 5 (384 * 4096)) (sCal 3 {})).work 5 ((nxt (.calGainMeasure 5 (384 * 4096)) (sCal 3 {})).tl 5).cal (qCol 129 0) = 0x8000 ∧
    ((nxt (.calGainMeasure 5 (384 * 4096)) (sCal 3 {})).tl 5).cal.phase = 4 ∧
    ((nxt (.calGainMeasure 5 0) (sCal 3 {})).tl 5).colDue = [129] := by decide +kernel

/-- Working gain and offset of column 129, of which no converter code is changed; `n` samples of code `v`, in each of which
the row of the ring was lit. -/
def ident : CalWork := { val := [(qCol 129 0, 0x8000), (qCol 129 1, 0)] }
def smp (n : Nat) (v : Int) : Samples := ⟨List.replicate n (BitVec.ofInt 10 v), 0⟩

/-- A delay sweep whose greatest response is at code `4 * k`, of the codes that R160 takes first, and the codes near it. -/
def sweepAt (k near : Nat) : List Samples := (List.range 16).map (fun i => smp 1024 (if i = k then 9 else 1)) ++ List.replicate near (smp 1024 2)

theorem wit_calDelay : (sCal 4 ident).calAt 5 4 = true ∧ lowRow ((sCal 4 ident).tl 5).rowFail = some 0 ∧ (trimNear 20).length = 6 ∧
    (sweepAt 5 6).length = 22 ∧ (sweepAt 5 6).all (samplesOk 1024) = true ∧
    (nxt (.calDelayTrim 5 (sweepAt 5 6)) (sCal 4 ident)).work 5 ((nxt (.calDelayTrim 5 (sweepAt 5 6)) (sCal 4 ident)).tl 5).cal (qCol 129 2) = 20 ∧
    (trimNear 0).length = 3 ∧ ((nxt (.calDelayTrim 5 (sweepAt 0 3)) (sCal 4 ident)).tl 5).colDue = [129] ∧
    bestTrim [⟨62, 10, 2⟩, ⟨1, 10, 2⟩] = some ⟨1, 10, 2⟩ ∧ bestTrim [⟨63, 5, 1⟩] = some ⟨63, 5, 1⟩ := by decide +kernel

/-- Working trims of column 129 in the middle of their range; a window whose codes are all 0. -/
def trims : CalWork := { ident with val := ((List.range 132).flatMap (fun r => [(qRing r 129 false 0, (512 : Int)), (qRing r 129 true 0, 512)])).foldl (fun m v => tins v.1 v.2 m) ident.val }
def win0 : LockWin := ⟨List.replicate 8192 (List.replicate 40 0), List.replicate 6 0⟩

theorem wit_lockin : (sCal 5 trims).calAt 5 5 = true ∧ (sCal 5 trims).work 5 trims (qRing 5 129 true 0) = 512 ∧
    (sCal 5 trims).work 5 trims (qRing 0 129 false 0) = 512 ∧ (groupRings 0 0).length = 12 ∧
    (groupRings 0 0).all (fun r => !tget false (2 * r.1 + b2n r.2) trims.locked && decide (tget 0 (2 * r.1 + b2n r.2) trims.windows < 7)) = true ∧
    (sCal 5 trims).litOf 5 0 0 (8192 * 40 * 32) 7 = 8192 * 40 * 32 ∧ (sCal 5 trims).ySum 5 129 trims (List.replicate 40 0) = 0 ∧
    groupRings 0 21 = [(126, false), (126, true), (127, false), (127, true), (128, false), (128, true), (129, false), (129, true), (130, false), (130, true), (131, false), (131, true)] := by
  decide +kernel

theorem wit_win0 : wholeWin win0 = true ∧
    win0.raw.map ((sCal 5 trims).ySum 5 129 trims) = List.replicate 8192 ((sCal 5 trims).ySum 5 129 trims (List.replicate 40 0)) := by
  constructor
  · have h1 : win0.raw = List.replicate 8192 (List.replicate 40 0) := rfl
    simp only [wholeWin, h1, List.length_replicate, List.all_replicate]
    rfl
  · exact List.map_replicate

theorem lockSums_zero (ftw psi : Nat) : ∀ n u, lockSums ftw psi u (List.replicate n 0) = (0, 0)
  | 0, _ => rfl
  | n + 1, u => by simp [List.replicate_succ, lockSums, lockSums_zero ftw psi n (u + 1)]

/-- A whole window without response moves no ring: whatever the factory layer holds, it is not void. -/
theorem wit_window (neg : Bool) (ch psi h a2f : Nat) :
    windowOutcome neg ch psi h a2f (8192 * 40 * 32) (List.replicate 8192 0) = some (false, 0) := by
  unfold windowOutcome
  rw [lockSums_zero]
  cases neg <;> rfl

/-- The sweep of a ring, 17 codes of 512 samples, with a response of 5 a code; one without response. -/
def sweepUp : Sweep := (List.range 17).map (fun i => [smp 512 (5 * i)])
def sweepFlat : Sweep := List.replicate 17 [smp 512 0]

theorem wit_drive : (sCal 6 { ident with ring := 263 }).calAt 5 6 = true ∧ ringFrom 0 264 264 = 264 ∧ ringFrom 0 1 264 = 1 ∧
    ((sCal 6 ident).sweepPoints 5 129 ⟨ident, 0, false⟩ 0 sweepCodes sweepUp).map (driveTable false) = some (some [13, 26, 38, 51, 64, 77, 90, 90]) ∧
    ((nxt (.calDriveTable 5 ⟨sweepUp, none⟩) (sCal 6 { ident with ring := 263 })).tl 5).rot = 4 ∧
    ((nxt (.calDriveTable 5 ⟨sweepUp, none⟩) (sCal 6 ident)).tl 5).cal.ring = 1 ∧
    ((nxt (.calDriveTable 5 ⟨sweepFlat, none⟩) (sCal 6 ident)).tl 5).colDue = [129] := by decide +kernel

theorem wit_acquire : ((sTile {}).setTl 5 {}).mayRotate 5 = false ∧
    (forN 4 (fun g s => { s with lp := { s.lp with zone := tset {} (20 + g) { st := .locked } s.lp.zone } }) (sTile {})).mayRotate 5 = true ∧
    ((nxt (.acquisitionPassStart 5) (forN 4 (fun g s => { s with lp := { s.lp with zone := tset {} (20 + g) { st := .locked } s.lp.zone } }) (sTile {}))).tl 5).rot = 1 ∧
    ((nxt (.acquisitionPassDone 5 (List.replicate 130 ⟨0, 0, []⟩) [] []) (forN 4 (fun g s => { s with lp := { s.lp with zone := tset {} (20 + g) { st := .locked } s.lp.zone } }) (sTile { rot := 1 }))).tl 5).acqEnd = some ([], List.range 130) := by
  decide +kernel

/-! ### Loop engine -/

/-- Zone 7 in some state. -/
def sZone (x : Zone) : State := { withRegs [(pgLoop, 0x10, 1)] r0 with lp := { r0.lp with zone := tset {} 7 x [] }, pw := { r0.pw with held := false } }

/-- A command waits for the zone update of zone 9. -/
def sCmd (x : Zone) (cmd z : Nat) (mem : Tbl Nat) : State := { sZone x with lp := { (sZone x).lp with cmd := some (cmd, z, false), mem := mem } }

/-- Coefficient words in range, with their CRC, for zone 9: 1.0 where the range asks for a positive number (Table 7.5). -/
def coefs : List Nat := (List.range 62).map (fun i =>
  if i = 47 then 0x3E800000 else if (List.range 5).any (fun j => 50 + j == i) || i == 60 || i == 61 then 0x3F800000 else 0) ++ [2 ^ 20]
def coefMem : Tbl Nat := ((coefs ++ [(crc32c (coefs.flatMap (leBytes 4))).toNat]).zipIdx.filter (fun e => e.1 != 0)).map (fun e => (64 * 9 + e.2, e.1))

theorem wit_zoneCmd : r0.mayPath .pf pgLoop = true ∧ r0.lp.cmd = none ∧ (nxt (.zoneLoad .pf 9 false) r0).lp.cmd = some (1, 9, false) ∧
    (nxt (.zoneReinit .pf 1023 true) r0).lp.cmd = some (5, 1023, true) ∧ (nxt (.zoneClear .pf 3 false) (nxt (.zoneEnable .pf 9 false) r0)).lp.cmd = some (2, 9, false) := by
  decide +kernel

theorem wit_zoneLoad : ((sCmd {} 1 9 coefMem).zn 9).st = .off ∧ (sCmd {} 1 9 coefMem).loadReason 9 = 0 ∧ (sCmd {} 1 9 []).loadReason 9 = 1 ∧
    ((nxt (.zoneUpdate 9 [] []) (sCmd {} 1 9 coefMem)).zn 9).work = coefs ∧ (nxt (.zoneUpdate 9 [] []) (sCmd {} 1 9 coefMem)).reg pgLoop 0x4C = 9 * 2 ^ 16 ∧
    (nxt (.zoneUpdate 9 [] []) (sCmd {} 1 9 [])).reg pgLoop 0x4C = 9 * 2 ^ 16 + 18 ∧ bitOf ((nxt (.zoneUpdate 9 [] []) (sCmd {} 1 9 [])).raw pgLoop) 4 = true := by
  decide +kernel

theorem wit_zoneOthers : ((nxt (.zoneUpdate 9 [] []) (sCmd {} 2 7 [])).zn 7).en = true ∧
    ((nxt (.zoneUpdate 9 [] []) (sCmd { en := true } 3 7 [])).zn 7).en = false ∧
    ((nxt (.zoneUpdate 9 [] []) (sCmd { st := .fault } 4 7 [])).zn 7).due = 1 ∧ ((nxt (.zoneUpdate 9 [] []) (sCmd { st := .locked } 5 7 [])).zn 7).due = 2 ∧
    (nxt (.zoneUpdate 9 [] []) (sCmd { st := .warm } 4 7 [])).reg pgLoop 0x4C = 7 * 2 ^ 16 + 50 := by decide +kernel

theorem wit_zoneUpdate : ({ st := .locked, work := coefs } : Zone).runs = true ∧ ({ st := .locked, work := coefs } : Zone).measure [] [] = none ∧
    (nxt (.zoneUpdate 7 [] []) (sZone { st := .locked, work := coefs })).cntLive pgLoop 3 = 1 ∧
    ((nxt (.zoneUpdate 7 [] []) (sZone { st := .locked, work := coefs })).zn 7).fresh = true ∧
    ((nxt (.zoneUpdate 7 [] []) (sZone { st := .locked, work := coefs })).zn 7).r = 0 := by decide +kernel

theorem wit_period : (sZone { st := .locked, en := true, next := some 9 }).groupLit 7 = true ∧ (sZone {}).tb.tick % 16000 = 0 ∧
    (sZone { st := .locked, en := true }).lp.zone = [(7, { st := .locked, en := true })] ∧ (sZone {}).lp.period % 16 ≠ 15 ∧
    ((nxt .loopPeriodStart (sZone { st := .locked, en := true, next := some 9 })).zn 7).code = 9 ∧
    (nxt .loopPeriodStart (sZone { st := .locked, en := true, code := 4 })).cntLive pgLoop 2 = 1 ∧
    ((nxt .loopPeriodStart (sZone { st := .warm, en := true, due := 3 })).zn 7).st = .locked ∧
    ((nxt .loopPeriodStart (sZone { st := .warm, en := true, due := 4 })).zn 7).cause = 0 ∧
    ((nxt .loopPeriodStart (sZone { st := .locked, en := true, due := 7 })).zn 7).cause = 3 := by decide +kernel

theorem wit_period2 : ((nxt .loopPeriodStart (sZone { st := .locked, en := false, code := 4 })).zn 7).st = .off ∧
    (nxt .loopPeriodStart (sZone { st := .locked, en := true, due := 4 })).cntLive pgLoop 6 = 1 ∧
    ((nxt .loopPeriodStart (sZone { en := true, work := coefs })).zn 7).st = .warm ∧ coefs ≠ [] := by decide +kernel

theorem wit_stage : tget false (130 * 7 + 129) (sZone {}).lp.stageDue = false ∧ (nxt (.stageShort 7 (some 129)) (sZone {})).cntLive pgLoop 7 = 1 ∧
    ((nxt (.stageShort 7 (some 129)) (sZone {})).tl 1).colDue = [129] ∧ ((nxt (.stageShort 7 none) (sZone {})).zn 7).pilotShort = true := by decide +kernel

theorem wit_testCapture : (nxt (.testCfgWrite .pf 0x80000007#32) (sZone {})).lp.injDue = true ∧ bitOf ((sZone {}).reg pgLoop 0x84) 31 = false ∧
    rangeInHub (withRegs [(pgLoop, 0xA4, 0x400)] (sZone {})).capAddr 131072 = true ∧
    (nxt (.capArm .pf) (withRegs [(pgLoop, 0xA4, 0x400)] (sZone {}))).lp.capArmed = true ∧
    bitOf ((nxt (.capArm .pf) (sZone {})).reg pgLoop 0x98) 18 = true ∧
    bitOf ((nxt (.capStop .pf) { sZone {} with lp := { r0.lp with capOn := true } }).reg pgLoop 0x98) 17 = true := by decide +kernel

/-! ### Vector and set unit -/

/-- A VSU record of frame 0 starts the list at 0x40000020000 on lane 3, which is in state `x`. -/
def sVsu (x : Lane) : State := { withRegs [(pgVsu 3, 0x10, 1)] (sPlan [w0 4, 8, 0x40000020000, 0]) with vsu := [(3, x)] }

def recVsu : ARec := ⟨w0 4, 8, 0x40000020000, 0⟩

/-- The list that record starts, an envelope list, and one that has come to its end. -/
def lPlan : VList := ⟨0x40000020000, 0, 0, 0, some (0, 0), none, false⟩
def lEnv : VList := ⟨0x40000030000, 2, 5, 0, none, some (5, 0), false⟩
def lEnd : VList := { lEnv with ended := true }

theorem wit_actionVsu : (sVsu {}).nextRecord = some recVsu ∧ (sVsu {}).recDue recVsu = true ∧ (sVsu {}).recValid recVsu = true ∧
    recVsu.ty = 4 ∧ fld recVsu.w1 15 0 = 2 ^ 3 ∧ (sVsu {}).en (pgVsu 3) = true ∧ (sVsu {}).actOf 0 0 = none ∧
    (nxt .actionVsu (sVsu {})).vsu = [(3, { cur := some lPlan })] ∧
    (nxt .actionVsu (sVsu { cur := some lEnv })).vsu = [(3, { cur := some lPlan, susp := some lEnv })] ∧
    (nxt .actionVsu (sVsu { cur := some lPlan })).vsu = [(3, { cur := some lPlan, waiting := [lPlan] })] := by decide +kernel

/-- The granule at `a` is not poisoned; 8-byte words are written at `a` and its granule is not poisoned. -/
def clean (m : Memory) (a : Nat) : Memory := m.setMark (a / 64) false
def words (m : Memory) (a : Nat) (ws : List Nat) : Memory := clean (m.write a (ws.flatMap (leBytes 8))) a

/-- Queue 5 at 0x40000010000, of 16 slots, with the envelopes `es` in its first slots. -/
def sEnvQ (d : QDesc) (es : List Nat) : State := { withRegs [(pgQueue, 0x10, 1), (pgQueue, 0x40, 256)] sMem with
  q := { r0.q with desc := [(5, { d with log2sz := 4, base := 16 })] }, mem := words sMem.mem 0x40000010000 es }

/-- An admitted envelope of KIND 1, tenant 5, with the list at 0x40000030000, for lane 3's queue. -/
def sEnvL (kind : Nat) : State := withRegs [(pgVsu 3, 0x10, 1), (pgVsu 3, 0x40, 0x80000005)]
  (sEnvQ { kind := 1, admPos := 1, tail := 1 } [kind + 5 * 16, 0, 0x40000030000, 0, 0, 0, 0, 0])

theorem wit_vsuEnv : (sEnvL 1).en (pgVsu 3) = true ∧ bitOf ((sEnvL 1).reg (pgVsu 3) 0x40) 31 = true ∧ (sEnvL 1).vsu = [] ∧
    ((sEnvL 1).consume 5).1.map (fun e => (fld (envW0 e.1) 3 0, e.2)) = some (1, false) ∧
    ((nxt (.vsuEnvListStart 3) (sEnvL 1)).lane 3).cur = some { lEnv with blk := 0 } ∧ ((nxt (.vsuEnvListStart 3) (sEnvL 1)).qd 5).head = 1 ∧
    (nxt (.vsuEnvListStart 3) (sEnvL 2)).vsu = [] ∧ ((nxt (.vsuEnvListStart 3) (sEnvL 2)).qd 5).head = 1 ∧
    bitOf ((nxt (.vsuEnvListStart 3) (sEnvL 2)).raw (pgVsu 3)) 5 = true := by decide +kernel

/-- Lane 3's list has come to the block `w`; the data at 0x40000040000 are the U32 values 1, 5, 9, 2, 5, 7, in two lists. -/
def sBlk (w : List Nat) : State := { sVsu { cur := some lPlan } with
  mem := words (clean (sMem.mem.write 0x40000040000 ([1, 5, 9, 2, 5, 7].flatMap (leBytes 4))) 0x40000040000) 0x40000020000 w }

/-- A block: W0, A and B lists of three elements, DST, IMM. -/
def blkW (w0 imm : Nat) : List Nat := [w0, 0x40000040000, 0x4000004000C, 0x40000050000, 3 + 3 * 2 ^ 32, 0, imm, 0]

/-- ADD of two U32 sources, IMM apart; MUL and the set operations of the two lists, DST of at most 8. -/
def wAdd : List Nat := blkW (0x01 + 7 * 2 ^ 8 + 7 * 2 ^ 12 + 2 ^ 18) 12
def wSet (op : Nat) : List Nat := blkW (op + 7 * 2 ^ 8 + 7 * 2 ^ 12 + 8 * 2 ^ 32) 0

theorem wit_vsuComplete : ((sVsu { cur := some lEnd, waiting := [lPlan] }).lane 3).cur = some lEnd ∧
    (nxt (.vsuListComplete 3) (sVsu { cur := some lEnd, waiting := [lPlan] })).vsu = [(3, { cur := some lPlan })] ∧
    (nxt (.vsuListComplete 3) (sVsu { cur := some lEnd, susp := some lEnv })).vsu = [(3, { cur := some lEnv })] ∧
    (nxt (.vsuListComplete 3) (sVsu { cur := some { lEnv with blk := 256 } })).reg (pgVsu 3) 0x48 = 2 ∧
    ((nxt (.vsuListComplete 3) (sVsu { cur := some { lEnv with blk := 256 } })).lane 3).fault = true ∧
    (match (sBlk [9]).peekBlk lPlan with | .inl b => b.op | .inr _ => 0) = 9 ∧ 9 ∉ opcodes ∧
    (nxt (.vsuListComplete 3) (sBlk [9])).reg (pgVsu 3) 0x48 = 9 * 2 ^ 24 + 1 := by decide +kernel

theorem wit_vsuAdd : (match (sBlk wAdd).peekBlk lPlan with | .inl b => (b.op, b.n, b.last, b.res) | .inr _ => (0, 0, false, 1)) = (1, 3, true, 0) ∧
    (nxt (.vsuAdd 3 []) (sBlk wAdd)).mem.read 0x40000050000 12 = [3, 10, 16].flatMap (leBytes 4) ∧
    (nxt (.vsuAdd 3 []) (sBlk wAdd)).vsu = [(3, { cur := some { lPlan with blk := 1, ended := true } })] ∧
    (nxt (.vsuAdd 3 []) (sBlk wAdd)).cntLive (pgVsu 3) 0 = 1 ∧ (nxt (.vsuMul 3 []) (sBlk wAdd)).vsu = (sBlk wAdd).vsu := by decide +kernel

theorem wit_vsuSets : (nxt (.vsuIsect 3 []) (sBlk (wSet 0x20))).mem.read 0x40000050000 8 = [5, 0].flatMap (leBytes 4) ∧
    (nxt (.vsuUnion 3 []) (sBlk (wSet 0x21))).mem.read 0x40000050000 20 = [1, 2, 5, 7, 9].flatMap (leBytes 4) ∧
    (nxt (.vsuDiff 3 []) (sBlk (wSet 0x22))).mem.read 0x40000050000 12 = [1, 9, 0].flatMap (leBytes 4) := by decide +kernel

/-- A type that is none is fault cause 1: nothing is written and the frame is faulted. -/
theorem wit_vsuFault : ((nxt (.vsuAdd 3 []) (sBlk (blkW (0x01 + 9 * 2 ^ 8) 12))).lane 3).fault = true ∧
    bitOf ((nxt (.vsuAdd 3 []) (sBlk (blkW (0x01 + 9 * 2 ^ 8) 12))).raw pgFrame) 1 = true ∧
    (nxt (.vsuAdd 3 []) (sBlk (blkW (0x01 + 9 * 2 ^ 8) 12))).mem = (sBlk (blkW (0x01 + 9 * 2 ^ 8) 12)).mem ∧
    (sBlk wAdd).rg.logOn = false := by decide +kernel

/-- The arrays of `wAdd` in place: the hypotheses of the element-wise clause. -/
def vAt (w : List Nat) : VBlk × VEnv := (⟨w⟩, { s := sBlk w, agent := 4099, tenant := 0, bad := [], exact := true, frame := 0 })

theorem wit_elementwise : ((vAt wAdd).2.arr 0x40000040000 3 4 false).cause = 0 ∧ ((vAt wAdd).2.arr 0x40000050000 3 4 false).cause = 0 ∧
    ((vAt wAdd).2.load 0x40000040000 3 7).1.map (·.v.i) = [1, 5, 9] ∧ ((vAt wAdd).2.load 0x4000004000C 3 7).1.map (·.v.i) = [2, 5, 7] ∧
    ((vAt wAdd).2.load 0x4000004000C 3 7).2.cause = 0 ∧ (narrow 7 (.int 3)).2.2 = false ∧ fld (VBlk.param ⟨wAdd⟩) 1 0 = 0 ∧
    VBlk.ity ⟨wAdd⟩ = 7 ∧ VBlk.oty ⟨wAdd⟩ = 7 ∧ (vSet (vAt (wSet 0x20)).1 (vAt (wSet 0x20)).2 (fun a _ => a)).count = 3 := by decide +kernel

/-! ### Streams and check units -/

/-- A STREAM record of frame 0 starts context 7, which is in state `x`, with the descriptor at 0x40000020000. -/
def sStart (x : Ctx) : State := { withRegs [(pgStream, 0x10, 1)] (sPlan [w0 2, 7, 0x40000020000, 0]) with stm := { r0.stm with ctx := [(7, x)] } }

def recStream : ARec := ⟨w0 2, 7, 0x40000020000, 0⟩

theorem wit_actionStream : (sStart {}).nextRecord = some recStream ∧ (sStart {}).recDue recStream = true ∧ (sStart {}).recValid recStream = true ∧
    (sStart {}).en pgStream = true ∧ (sStart {}).curRec = none ∧ (nxt .actionStream (sStart {})).stm.ctx = [(7, { st := 1, desc := 0x40000020000, act := some (0, 0) })] ∧
    ((nxt .actionStream (sStart { st := 2 })).cx 7).st = 5 ∧ ((nxt .actionStream (sStart { st := 2 })).cx 7).cause = 2 ∧
    (nxt .actionStream (sStart { st := 2 })).cntLive pgStream 13 = 1 ∧ bitOf ((nxt .actionStream (sStart { st := 2 })).raw pgFrame) 1 = true ∧
    ((nxt .actionStream (sStart { st := 5, cause := 4 })).cx 7).cause = 4 ∧ ((nxt .actionStream (sStart { st := 5 })).actOf 0 0).map (·.never) = some true := by
  decide +kernel

/-- An admitted envelope of tenant 5 names context 7. -/
def sEnvS (kind : Nat) : State := withRegs [(pgStream, 0x10, 1), (pgStream, 0x40, 0x80000005)]
  (sEnvQ { kind := 1, admPos := 1, tail := 1 } [kind + 5 * 16, 0, 7, 0x40000020000, 0, 0, 0, 0])

theorem wit_streamEnv : ((sEnvS 2).consume 5).1.map (fun e => (fld (envW0 e.1) 3 0, fld (leNat ((e.1.drop 16).take 2)) 11 0, e.2)) = some (2, 7, false) ∧
    (nxt .streamEnvStart (sEnvS 2)).stm.ctx = [(7, { st := 1, desc := 0x40000020000, tenant := 5, env := some (5, 0) })] ∧
    (nxt .streamEnvStart (sEnvS 1)).stm.ctx = [] ∧ ((nxt .streamEnvStart (sEnvS 1)).qd 5).head = 1 := by decide +kernel

/-- Context 7 is LOADING the descriptor `w`. -/
def sDesc (w : List Nat) : State := { withRegs [(pgStream, 0x10, 1)] sMem with
  stm := { r0.stm with ctx := [(7, { st := 1, desc := 0x40000020000 })] }, mem := words sMem.mem 0x40000020000 w }

/-- A detached tolerant copy of 128 bytes from 0x40000040000 to 0x40000050000 (Table 8.1), and one of no length. -/
def copyW : List Nat := [0x30, 0x40000040000, 0x40000050000, 128, 0, 0, 0, 0]
def nullW : List Nat := [0x30, 0x40000040000, 0x40000050000, 0, 0, 0, 0, 0]

theorem wit_descCheck : ((sDesc copyW).readDesc 0 0 4 0x40000020000).1 = some copyW ∧
    ((nxt (.streamDescCheck 7) (sDesc copyW)).cx 7).st = 2 ∧ (nxt (.streamDescCheck 7) (sDesc copyW)).cntLive pgStream 0 = 1 ∧
    ((nxt (.streamDescCheck 7) (sDesc nullW)).cx 7).st = 5 ∧ ((nxt (.streamDescCheck 7) (sDesc nullW)).cx 7).cause = 1 ∧
    (({ sDesc copyW with mem := sMem.mem }).readDesc 0 0 4 0x40000020000).1 = none := by decide +kernel

/-- Context 7 runs that copy, from tick to tick. -/
def cxRun : Ctx := { st := 2, det := true, w := copyW }
def sRun (x : Ctx) : State := { withRegs [(pgStream, 0x10, 1), (pgStream, 0x48, 7)] sMem with
  stm := { r0.stm with ctx := [(7, x)] }
  mem := (sMem.mem.put 0x40000040001 9).setMark (0x40000040000 / 64) false }

/-- The PF has selected context 7 (CTX_SEL). -/
def sSel (x : Ctx) : State := nxt (.registerWrite .pf 0x40048#26 7 none) (sRun x)

theorem wit_streamStop : (sSel cxRun).mayPath .pf pgStream = true ∧ fld ((sSel cxRun).sel .pf pgStream 0x48) 11 0 = 7 ∧
    (sSel cxRun).flitsOf 7 0 = 0 ∧ ((nxt (.streamStop .pf) (sSel cxRun)).cx 7).st = 4 ∧
    ((nxt (.streamStop .pf) (sSel { cxRun with reqs := [⟨0x40000040000, 64, false, false⟩] })).cx 7).stop = true ∧
    bitOf ((nxt (.streamStop .pf) (sSel { cxRun with det := false })).raw pgStream) 2 = true ∧
    ((nxt (.streamClear .pf) (sSel { st := 5, cause := 1 })).cx 7).st = 0 ∧ bitOf ((nxt (.streamClear .pf) (sSel cxRun)).raw pgStream) 2 = true := by
  decide +kernel

theorem wit_readIssue : (sRun cxRun).wants 7 = some (0x40000040000, 128, false, 64) ∧ (sRun cxRun).granted 7 64 = true ∧
    ((nxt (.streamReadIssue 7) (sRun cxRun)).cx 7).reqs = [⟨0x40000040000, 128, false, false⟩] ∧
    ((nxt (.streamReadIssue 7) (sRun cxRun)).cx 7).issued = 128 ∧ (sRun { cxRun with issued := 128 }).wants 7 = none := by decide +kernel

/-- Its request of one granule lands: the data and mark of the source; the second granule is poisoned. -/
def cxReq (a : Nat) (w : List Nat) : Ctx := { st := 2, det := true, w := w, reqs := [⟨a, 64, false, false⟩], issued := 64 }

theorem wit_readData : regionOf 0x40000040000 = .hub 0 ∧ regionOf 0x40000050000 = .hub 0 ∧ (sRun (cxReq 0x40000040000 copyW)).mem.mark (0x40000040000 / 64) = false ∧
    (sRun cxRun).mayPhys 0 0x40000040000 false = true ∧ (sRun cxRun).mayPhys 0 0x40000050000 true = true ∧ (sRun cxRun).fr.wins = [] ∧
    (nxt (.streamReadData 7 []) (sRun (cxReq 0x40000040000 copyW))).mem.byte 0x40000050001 = 9 ∧
    (nxt (.streamReadData 7 []) (sRun (cxReq 0x40000040000 copyW))).mem.mark (0x40000050000 / 64) = false ∧
    ((nxt (.streamReadData 7 []) (sRun (cxReq 0x40000040000 copyW))).cx 7).pos = 64 := by decide +kernel

/-- The same with the destination's granule already written in this frame, in a running frame unit, by stream 9. -/
def sClash : State :=
  let s := sRun (cxReq 0x40000040000 copyW)
  { s with fr := { s.fr with st := .free }, stm := { s.stm with wrote := [(9, 0x40000050000 / 64, List.replicate 64 true, s.cntLive pgQueue 8)] } }

theorem test_overlapIsFree : sClash.clash 7 0x40000050001 = true ∧ sClash.clash 7 0x40000050040 = false ∧
    (nxt (.streamReadData 7 []) sClash).freeCtr = 64 ∧ (nxt (.streamReadData 7 []) sClash).stm.wrote.length = 2 ∧
    (nxt (.streamReadData 7 []) { sClash with stm := { sClash.stm with wrote := [] } }).mem.byte 0x40000050001 = 9 := by decide +kernel

theorem wit_readPoison : (sRun cxRun).mem.mark (0x40000040040 / 64) = true ∧
    (nxt (.streamReadData 7 []) (sRun (cxReq 0x40000040040 copyW))).cntLive pgStream 12 = 1 ∧
    ((nxt (.streamReadData 7 []) (sRun (cxReq 0x40000040040 (0x20 :: copyW.drop 1)))).cx 7).cause = 7 := by decide +kernel

/-- Unit 4 is queue-bound, enabled, and its RUNNING and EXPECT are `r` and `e`. -/
def sChk (r e : Nat) : State := withRegs [(pgCheck 4, 0x10, 1), (pgCheck 4, 0x40, 2), (pgCheck 4, 0x48, r), (pgCheck 4, 0x50, e)] r0

theorem wit_check : (sChk 0xFFFFFFFF 0).mayPath .pf (pgCheck 4) = true ∧ (sChk 0xFFFFFFFF 0).unitMatches 4 = true ∧ (sChk 5 0).unitMatches 4 = false ∧
    (nxt (.checkCompare .pf 4) (sChk 0xFFFFFFFF 0)).reg (pgCheck 4) 0x5C = 3 ∧ (nxt (.checkCompare .pf 4) (sChk 5 0)).reg (pgCheck 4) 0x5C = 1 ∧
    bitOf ((nxt (.checkCompare .pf 4) (sChk 5 0)).raw (pgCheck 4)) 0 = true ∧ (nxt (.checkInit .pf 4) (sChk 5 0)).reg (pgCheck 4) 0x48 = 0xFFFFFFFF ∧
    bitOf ((nxt (.checkInit .pf 4) { sChk 5 0 with chk := [(4, some 7)] }).raw (pgCheck 4)) 3 = true := by decide +kernel

theorem wit_shareFlush : (nxt (.shareFlush .pf) { r0 with share := { r0.share with sets := [(3, [⟨9, true, true, 0⟩])] } }).share.sets = [] := by
  decide +kernel

/-! ### Queues and sync cells -/

/-- Queue 5 of 16 slots in state `d`, the queue engine enabled. -/
def sQ (d : QDesc) : State := sEnvQ d []

theorem wit_doorbell : (sQ { kind := 2, head := 1, tail := 3 }).mayQueue 0 5 = true ∧ (sQ { kind := 2, tenant := 4 }).mayQueue 6 5 = false ∧
    ((nxt (.doorbell 0 5 7#64) (sQ { kind := 2, head := 1, tail := 3 })).qd 5).tail = 7 ∧
    tget 0 5 (nxt (.doorbell 0 5 7#64) (sQ { kind := 2, head := 1, tail := 3 })).q.fresh = 4 ∧
    tget 0 5 (nxt (.doorbell 0 5 18#64) (sQ { kind := 2, head := 1, tail := 3 })).q.lastDb = 1 ∧
    tget 0 5 (nxt (.doorbell 0 5 20#64) (sQ { kind := 2, head := 1, tail := 3 })).q.lastDb = 2 ∧
    tget 0 5 (nxt (.doorbell 0 5 0x200000#64) (sQ { kind := 2 })).q.lastDb = 2 ∧ tget 0 5 (nxt (.doorbell 0 5 0#64) (sQ { kind := 1 })).q.lastDb = 2 ∧
    (nxt (.doorbell 6 5 1#64) (sQ { kind := 2, tenant := 4 })).q = (sQ { kind := 2, tenant := 4 }).q := by decide +kernel

theorem wit_doorbell3 : tget none 5 (nxt (.doorbell 0 5 4#64) (sQ { kind := 3, head := 2, admPos := 4 })).q.headDue = some 4 ∧
    tget 0 5 (nxt (.doorbell 0 5 5#64) (sQ { kind := 3, head := 2, admPos := 4 })).q.lastDb = 2 := by decide +kernel

theorem wit_descProfile : r0.mayPathQ .pf 5 = true ∧
    (nxt (.queueDescWrite .pf 5 true 9#64) r0).q.descHeld = [(11, some (9, 0, false))] ∧ (nxt (.queueDescWrite .core 5 false 9#64) r0).q.descHeld = [(10, some (9, 0, true))] ∧
    profDepth (2 ^ 44) = 2 ^ 20 ∧ tget 0 3 (nxt (.profileWrite .pf 3 0x100000000005#64) r0).q.profNext = 0x100000000005 ∧
    bitOf ((nxt (.profileWrite .pf 3 0x100001000005#64) r0).raw pgQueue) 8 = true := by decide +kernel

theorem wit_dlWindow : (nxt (.bar2BadAccess 3 false) r0).resp = .word 0 ∧ (nxt (.bar2BadAccess 3 true) r0).cntLive pgHost 1 = 1 ∧
    (nxt .dlWindowEnd { withRegs [(pgQueue, 0x48, 0x200)] r0 with fr := { r0.fr with dlDue := true }, q := { r0.q with dlEnded := 3 } }).reg pgQueue 0x4C
      = 2 ^ 31 + 3 := by decide +kernel

/-- Sync operation words on cell 8,191 (Table 9.6): code and immediate. -/
def opWord (k imm : Nat) : Nat := k + 8191 * 2 ^ 3 + imm * 2 ^ 24

/-- Cell 8,191 holds `v`; two watches are armed on it. -/
def sCell (v : Nat) : State := { withRegs [(pgQueue, 0x10, 1)] r0 with sy := { r0.sy with cells := [(8191, v)], watches := [(8191, 5), (8191, 100)] } }

theorem wit_syncReg : r0.mayPath .pf pgQueue = true ∧ r0.mayPathCell .pf 8191 = true ∧ opCell (opWord 0 3) = 8191 ∧ opImm (opWord 0 3) = 3 ∧
    (nxt (.syncAdd (.reg .pf (BitVec.ofNat 64 (opWord 0 (2 ^ 40 - 1))))) (sCell 3)).cell 8191 = 2 ∧
    (nxt (.syncAdd (.reg .pf (BitVec.ofNat 64 (opWord 0 2)))) (sCell 3)).sy.watches = [(8191, 100)] ∧
    (nxt (.syncAdd (.reg .pf (BitVec.ofNat 64 (opWord 0 2)))) (sCell 3)).sy.fifo = [8191] ∧
    (nxt (.syncSet (.reg .pf (BitVec.ofNat 64 (opWord 1 9)))) (sCell 3)).cell 8191 = 9 ∧
    (nxt (.syncCas (.reg .pf (BitVec.ofNat 64 (opWord 2 (3 + 7 * 2 ^ 20))))) (sCell 3)).cell 8191 = 7 ∧
    tget false (pathIx .pf) (nxt (.syncCas (.reg .pf (BitVec.ofNat 64 (opWord 2 (4 + 7 * 2 ^ 20))))) (sCell 3)).hif.met = false ∧
    tget false (pathIx .pf) (nxt (.syncWaitGe (.reg .pf (BitVec.ofNat 64 (opWord 3 3)))) (sCell 3)).hif.met = true := by decide +kernel

theorem wit_syncArm : (nxt (.syncArm (.reg .pf (BitVec.ofNat 64 (opWord 4 3)))) (sCell 3)).sy.fifo = [8191] ∧
    (nxt (.syncArm (.reg .pf (BitVec.ofNat 64 (opWord 4 4)))) (sCell 3)).sy.watches = [(8191, 5), (8191, 100), (8191, 4)] ∧
    bitOf ((nxt (.syncArm (.reg .pf (BitVec.ofNat 64 (opWord 4 4)))) { sCell 3 with sy := { (sCell 3).sy with watches := List.replicate 1024 (0, 1) } }).raw pgQueue) 6 = true ∧
    tget false (pathIx .pf) (nxt (.syncAdmit (.reg .pf (BitVec.ofNat 64 (opWord 5 0)))) (sCell 3)).hif.refused = true ∧
    tget false (pathIx .pf) (nxt (.syncRelease (.reg .pf (BitVec.ofNat 64 (opWord 6 0)))) (sCell 3)).hif.refused = true ∧
    (nxt (.syncCellWrite .pf 8191 4#64) (sCell 3)).cell 8191 = 4 := by decide +kernel

theorem wit_watchPop : r0.mayPathR .pf pgQueue = true ∧ (nxt (.watchPop .pf) { r0 with sy := { r0.sy with fifo := [4, 9] } }).resp = .word (2 ^ 31 + 4) ∧
    (nxt (.watchPop .debug) { r0 with sy := { r0.sy with fifo := [4, 9] } }).sy.fifo = [4, 9] ∧
    (nxt (.watchPop .pf) { r0 with sy := { r0.sy with ovf := true } }).sy.ovf = false := by decide +kernel

/-- The plan's next record is a SYNC record with the word `w`; cell 8,191 holds 3. -/
def sSync (w : Nat) : State := { withRegs [(pgQueue, 0x10, 1)] (sPlan [w0 5, w, 0, 0]) with sy := { r0.sy with cells := [(8191, 3)] } }

theorem wit_syncPlan : (sSync (opWord 0 1)).nextRecord = some ⟨w0 5, opWord 0 1, 0, 0⟩ ∧ (sSync (opWord 0 1)).recDue ⟨w0 5, opWord 0 1, 0, 0⟩ = true ∧
    (sSync (opWord 0 1)).recValid ⟨w0 5, opWord 0 1, 0, 0⟩ = true ∧ (nxt (.syncAdd .plan) (sSync (opWord 0 1))).cell 8191 = 4 ∧
    (nxt (.syncSet .plan) (sSync (opWord 1 6))).cell 8191 = 6 ∧ (nxt (.syncCas .plan) (sSync (opWord 2 (3 + 8 * 2 ^ 20)))).cell 8191 = 8 ∧
    (nxt (.syncWaitGe .plan) (sSync (opWord 3 4))).sy.waits = [⟨0, 0, 8191, 4⟩] ∧ (nxt (.syncArm .plan) (sSync (opWord 4 4))).sy.watches = [(8191, 4)] := by
  decide +kernel

/-- A range of queue 5 alone, with the cell 8,191; the queue is `d`. -/
def rangeWord (k : Nat) : Nat := opWord k (5 + 2 ^ 18)
def sAdm (k : Nat) (d : QDesc) : State := { sSync (rangeWord k) with
  q := { r0.q with desc := [(5, { d with log2sz := 4, base := 16 })] }, regs := (withRegs [(pgQueue, 0x40, 256)] (sSync (rangeWord k))).regs }

theorem wit_admit : (sAdm 5 { kind := 1, tail := 2 }).nextRecord = some ⟨w0 5, rangeWord 5, 0, 0⟩ ∧
    (sAdm 5 { kind := 1, tail := 2 }).recValid ⟨w0 5, rangeWord 5, 0, 0⟩ = true ∧ opFirst (rangeWord 5) = 5 ∧ opCount (rangeWord 5) = 1 ∧
    (sAdm 5 { kind := 1, tail := 2 }).queuesIn 5 1 = [5] ∧ ((nxt (.syncAdmit .plan) (sAdm 5 { kind := 1, tail := 2 })).qd 5).admPos = 2 ∧
    (nxt (.syncAdmit .plan) (sAdm 5 { kind := 1, tail := 2 })).cntLive pgQueue 1 = 2 ∧ (nxt (.syncAdmit .plan) (sAdm 5 { kind := 1, tail := 2 })).cell 8191 = 4 ∧
    ((nxt (.syncRelease .plan) (sAdm 6 { kind := 1, tail := 2, admPos := 1 })).qd 5).head = 1 ∧
    (nxt (.syncAdmit .plan) ((sAdm 5 { kind := 1, tail := 2 }).setReg pgQueue 0x10 0)).q = (sAdm 5 { kind := 1, tail := 2 }).q := by decide +kernel

/-! ### Links -/

/-- Link 35 is in state `x`, its page enabled. -/
def sL (x : LinkS) : State := { withRegs [(pgLink 35, 0x10, 1)] r0 with link := [(35, x)] }

/-- Exchanges whose delay is 7 ticks. -/
def tsOf (n : Nat) : List TsEx := List.replicate n ⟨0, 17, 20, 17⟩

theorem wit_linkCmds : (sL {}).mayPath .pf (pgLink 35) = true ∧ (sL {}).linkOn 35 = true ∧ (sL {}).dozeRefused 35 = false ∧
    ((nxt (.linkUp .pf 35) (sL {})).lnk 35).st = .dark ∧ ((nxt (.linkDown .pf 35) (sL { st := .active })).lnk 35).st = .off ∧
    ((nxt (.linkDoze .pf 35) (sL { st := .active })).lnk 35).dozeReq.isSome = true ∧ ((nxt (.linkWake .pf 35) (sL { st := .doze })).lnk 35).st = .wake ∧
    bitOf ((nxt (.linkUp .pf 35) (sL { noF := true })).raw (pgLink 35)) 10 = true ∧
    bitOf ((nxt (.linkDoze .pf 35) (sL { st := .active, wins := [⟨0, 0, 3⟩] })).raw (pgLink 35)) 10 = true ∧
    bitOf ((nxt (.linkWake .pf 35) (sL {})).raw (pgLink 35)) 10 = true := by decide +kernel

theorem wit_training : ((nxt (.darkCaptureDone 35 true [4]) (sL { st := .dark })).lnk 35).deferred = true ∧
    ((nxt (.darkCaptureDone 35 false [4]) (sL { st := .dark })).lnk 35).base = [4] ∧
    ((nxt (.deferredCaptureTaken 35 [4]) (sL { st := .dark, deferred := true })).lnk 35).base = [4] ∧
    (sL {}).frozen = false ∧ ((nxt (.linkTrainingDone 35 ⟨5, true, 9, 70⟩ (tsOf 63)) (sL { st := .train, ts := tsOf 1 })).lnk 35).d = 7 ∧
    ((nxt (.linkTrainingDone 35 ⟨5, true, 9, 70⟩ (tsOf 63)) (sL { st := .train, ts := tsOf 1 })).lnk 35).st = .resync ∧
    ((nxt (.linkTrainingDone 35 ⟨5, true, 9, 70⟩ (tsOf 64)) { sL { st := .train, recorded := some (5, 8) } with frozen := true }).lnk 35).cause = 5 ∧
    ((nxt (.linkTrainTimeout 35) (sL { st := .train })).lnk 35).cause = 1 ∧ ((nxt (.allLanesLoseSignal 35) (sL { st := .wake })).lnk 35).cause = 6 := by
  decide +kernel

theorem wit_wake : (sL {}).reg (pgLink 35) 0x54 = 8 ∧ ((nxt (.linkWakeDone 35 0 (tsOf 16)) (sL { st := .wake, d := 15 })).lnk 35).st = .active ∧
    ((nxt (.linkWakeDone 35 0 (tsOf 16)) (sL { st := .wake, d := 16 })).lnk 35).st = .resync ∧
    ((nxt (.linkWakeDone 35 1 (tsOf 16)) (sL { st := .wake, d := 7 })).lnk 35).dJump = true ∧
    ((nxt (.wakeBeaconRx 35 0xFFFA000000000005#64) (sL { st := .doze })).lnk 35).st = .wake := by decide +kernel

theorem wit_doze : ((nxt (.dozeReqRx 35 9) (sL { st := .active })).lnk 35).dozeAt = some 9 ∧
    ((nxt (.dozeAckRx 35 9) (sL { st := .active, dozeReq := some 9 })).lnk 35).dozeAt = some 9 ∧ blkReached 9 9 = true ∧ blkReached 8 9 = false ∧
    (nxt (.dozeEnter 35) (sL { st := .active, dozeAt := some 9, blk := 9, marker := some 3 })).link = [(35, { ({ dozeAt := some 9, blk := 9, marker := some 3 } : LinkS).darken with st := .doze })] ∧
    (nxt (.dozeEnter 35) (sL { st := .active, dozeAt := some 9, blk := 9 })).cntLive (pgLink 35) 11 = 1 ∧
    ((nxt (.dozeBeacon 35) (sL { st := .doze })).lnk 35).lastSlot = [10, 0, 0, 0, 0, 0, 0xF5, 0xFF] := by decide +kernel

/-- A Posted flit of `g + 1` granules waits for destination 5. -/
def flitOf (g : Nat) : Flit := ⟨1, g, 0, 0, 0, 5, 0, List.replicate 256 1, 36⟩

/-- An ACTIVE link with a credit, that flit waiting and its train under way. -/
def lSend : LinkS := { st := .active, pPost := 4, txq := [flitOf 3], slot := 9, run := 1, runHdr := some (shareKey (flitOf 3)) }

theorem wit_linkSlot : ({ lSend with ctl := [[9]] } : LinkS).leadDue = true ∧ lSend.leadDue = false ∧ (sL lSend).nextFlit lSend = some (flitOf 3) ∧
    (sL lSend).leaving (flitOf 3) = flitOf 3 ∧ shareKey (flitOf 3) ≠ shareKey (flitOf 2) ∧
    ((nxt (.linkSlot 35) (sL { lSend with ctl := [[9]] })).lnk 35).lastSlot.length = 260 ∧
    ((nxt (.linkSlot 35) (sL { lSend with ctl := [[9]] })).lnk 35).lastSlot.getD 12 0 = 9 ∧
    leadGood ((nxt (.linkSlot 35) (sL { lSend with ctl := [[9]] })).lnk 35).lastSlot = true ∧
    ((nxt (.linkSlot 35) (sL lSend)).lnk 35).tx1 = 1 ∧ ((nxt (.linkSlot 35) (sL lSend)).lnk 35).slot = 10 ∧
    ((nxt (.linkSlot 35) (sL lSend)).lnk 35).txq = [] := by decide +kernel

/-- A Posted train of one flit is being received, its header that of a flit for destination 5. -/
def lRecv : LinkS := { st := .active, rx := some ⟨flitHdr 1 3 0 1 0 0 2 5 7, 1, 1, 0⟩ }

/-- The check word that the train's flit carries. -/
def flitCrc : BitVec 32 := crc32c (flitHdr 1 3 0 0 0 0 2 5 7 ++ List.replicate 256 (1 : Byte))

theorem wit_flitRx : (sL lRecv).usedEnt 35 1 < (sL lRecv).postEnt 35 ∧
    ((nxt (.linkFlitRx 35 (List.replicate 256 1) flitCrc) (sL lRecv)).lnk 35).rx1.map (fun f => (f.pois, f.src, f.dst, f.postmark, f.data.getD 255 0)) = [(0, 2, 5, 7, 1)] ∧
    ((nxt (.linkFlitRx 35 (List.replicate 256 1) 3) (sL lRecv)).lnk 35).rx1.map (fun f => (f.pois, f.data.getD 255 7)) = [(15, 0)] ∧
    (nxt (.linkFlitRx 35 (List.replicate 256 1) 3) (sL lRecv)).cntLive (pgLink 35) 5 = 1 := by decide +kernel

/-- A lead slot without messages that begins a Posted train of two flits in sequence. -/
def leadOf : Bytes := flitHdr 1 3 0 2 0 6 2 5 7 ++ List.replicate 244 0
def leadSlot : Bytes := leadOf ++ leBytes 4 (crc32c leadOf).toNat

theorem wit_leadRx : leadGood leadSlot = true ∧ leNat (leadSlot.take 12) % 4 = 1 ∧ fld (leNat (leadSlot.take 12)) 16 8 = 2 ∧
    fld (leNat (leadSlot.take 12)) 39 24 = 6 ∧ leadSlot.getD 12 0 = 0 ∧
    ((nxt (.linkLeadSlotRx 35 ⟨1, 3, 0⟩ (some leadSlot)) (sL { st := .active, ex1 := 6 })).lnk 35).rx.map (fun t => (t.cls, t.left, t.seq)) = some (1, 2, 6) ∧
    (nxt (.linkLeadSlotRx 35 ⟨1, 3, 0⟩ (some leadSlot)) (sL { st := .active })).cntLive (pgLink 35) 4 = 3 ∧
    ((nxt (.linkLeadSlotRx 35 ⟨0, 0, 2⟩ none) (sL { st := .active })).lnk 35).lostRun = 1 ∧
    (nxt (.linkLeadSlotRx 35 ⟨0, 0, 2⟩ none) (sL { st := .active })).cntLive (pgLink 35) 3 = 2 ∧
    ((nxt (.linkLeadSlotRx 35 ⟨0, 0, 2⟩ none) (sL { st := .active, lostRun := 15 })).lnk 35).cause = 3 := by decide +kernel

/-- The plan's next record opens a window of 5 flits on link 35. -/
def sWin (x : LinkS) : State := { withRegs [(pgLink 35, 0x10, 1)] (sPlan [w0 3, 35 + 5 * 2 ^ 16, 0, 0]) with link := [(35, x)] }
def recWin : ARec := ⟨w0 3, 35 + 5 * 2 ^ 16, 0, 0⟩

theorem wit_linkWindow : (sWin {}).nextRecord = some recWin ∧ (sWin {}).recDue recWin = true ∧ (sWin {}).recValid recWin = true ∧
    ((nxt .actionLinkWin (sWin { st := .active })).lnk 35).wins = [⟨0, 0, 5⟩] ∧ bitOf ((nxt .actionLinkWin (sWin {})).raw pgFrame) 1 = true ∧
    ((nxt (.creditRx 35 0xFFFF) (sL { st := .resync })).lnk 35).pFreed = 65535 ∧
    ((nxt (.tsyncRx 35 true 1 2 3) (sL { st := .train })).lnk 35).ts = [⟨1, 2, 3, 0⟩] ∧
    ((nxt (.tsyncRx 35 false 1 2 3) (sL { st := .train })).lnk 35).ctl.map (·.take 3) = [[6, 1, 1]] := by decide +kernel

theorem wit_lanes : ((nxt (.linkSubst .pf 35 7) (sL { st := .active })).lnk 35).moveTx = some (7, 16) ∧
    bitOf ((nxt (.linkSubst .pf 35 7) (sL { st := .active, spareTx := some 0 })).raw (pgLink 35)) 10 = true ∧
    ((nxt (.laneFail 35 7 true) (sL { st := .active, spareTx := some 0 })).lnk 35).cause = 2 ∧
    ((nxt (.laneFail 35 7 false) (sL { st := .train })).lnk 35).spareRx = some 7 ∧ ((nxt (.laneFail 35 7 false) (sL { st := .active })).lnk 35).moveRx = some (7, 16) ∧
    ((nxt (.laneMsgRx 35 true 7 9) (sL { st := .active })).lnk 35).moveTx = some (7, 9) ∧
    ((nxt (.laneMove 35 true) (sL { st := .active, moveTx := some (7, 9), blk := 9 })).lnk 35).spareTx = some 7 := by decide +kernel

theorem wit_partners : ((nxt (.identRx 35 ⟨1023, true, 35, 9⟩) (sL { st := .train })).lnk 35).pDev = 1023 ∧
    ((nxt (.identRx 35 ⟨1023, true, 35, 9⟩) { sL { st := .train } with frozen := true }).lnk 35).recorded = some (1023, 35) ∧
    ((nxt (.baselineUpdate 35 [3]) (sL { st := .active, deferred := true, rxBlk := 65536 })).lnk 35).base = [3] ∧
    r0.portClash = false ∧ ((nxt (.mapFreeze .pf) (sL { pValid := true, pAssigned := true, pDev := 4 })).lnk 35).recorded = some (4, 0) ∧
    (withRegs [(pgLink 3, 0x58, 5)] r0).portClash = true ∧ bitOf ((nxt (.mapFreeze .pf) (withRegs [(pgLink 3, 0x58, 5)] r0)).raw (pgLink 0)) 10 = true := by
  decide +kernel

theorem wit_devnum : (nxt (.devnumWrite .pf 0x3FF) (sL { st := .train })).devNum = 1023 ∧ ((nxt (.devnumWrite .pf 0x3FF) (sL { st := .train })).lnk 35).ctl.length = 1 ∧
    bitOf ((nxt (.devnumWrite .pf 1) { r0 with frozen := true }).raw pgDev) 2 = true := by decide +kernel

/-- Two links carry; the module runs in FREE at frame 50 with frames from 48 on uncommitted. -/
def sVeto : State := { sRef with fr := { sRef.fr with st := .free }, link := [(2, { st := .active }), (35, { st := .resync })] }

theorem wit_veto : sVeto.vetoKnown 49 = false ∧ sVeto.isCommitted 49 = false ∧ sVeto.running = true ∧
    (nxt (.vetoRx 35 49 6 254) sVeto).rg.held = [(49, 50)] ∧ (nxt (.vetoRx 35 49 6 254) sVeto).rg.pend = some ⟨49, false, 6⟩ ∧
    ((nxt (.vetoRx 35 49 6 254) sVeto).lnk 2).ctl.length = 1 ∧
    (nxt (.vetoRx 35 49 6 254) { sVeto with rg := { r0.rg with held := [(49, 50)] } }).cntLive (pgLink 35) 14 = 1 ∧
    (nxt (.vetoHoldExpire 49) { sVeto with rg := { r0.rg with held := [(49, 0)] }, fr := { sVeto.fr with num := 64 } }).rg.held = [] ∧
    (nxt (.vetoHoldExpire 49) { sVeto with rg := { r0.rg with held := [(49, 0)] }, fr := { sVeto.fr with num := 63 } }).rg.held = [(49, 0)] := by decide +kernel

/-! ### Memory -/

/-- Granule 128 (stack 0) is clean and holds a 9; granule 129 is poisoned. -/
def sM : State := { sMem with mem := (sMem.mem.put 8193 9).setMark 128 false }

theorem wit_memWrite : regionOf (64 * 128) = .ctl 0 ∧ (sM.ctl 0).st = .active ∧ regionOf 0x40000000000 = .hub 0 ∧
    (nxt (.memoryWrite 3 8192#48 (List.replicate 64 5) 2 false .clean) sM).mem.byte 8193 = 5 ∧
    (nxt (.memoryWrite 3 8192#48 (List.replicate 64 5) 1 false .clean) sM).mem.byte 8193 = 9 ∧
    (nxt (.memoryWrite 3 8256#48 (List.replicate 64 5) 1 false .clean) sM).mem.mark 129 = true ∧
    (nxt (.memoryWrite 3 8256#48 (List.replicate 64 5) 0xFFFFFFFFFFFFFFFF false .clean) sM).mem.mark 129 = false ∧
    (nxt (.memoryWrite 3 0x40000000000#48 (List.replicate 64 5) 1 true .clean) sM).mem.byte 0x40000000000 = 5 := by decide +kernel

theorem wit_memRead : (match (nxt (.memoryRead 3 8192#48 .clean) sM).resp with | .mem b p => (b.getD 1 0, p) | _ => (0, true)) = (9, false) ∧
    (nxt (.memoryRead 3 8192#48 .corrected) sM).cntLive (pgMem 0) 2 = 1 ∧
    (match (nxt (.memoryRead 3 8192#48 .uncorrectable) sM).resp with | .mem b p => (b.getD 1 7, p) | _ => (1, false)) = (0, true) ∧
    (nxt (.memoryRead 3 8192#48 .uncorrectable) sM).mem.byte 8193 = 0 ∧ (nxt (.memoryRead 3 8192#48 .uncorrectable) sM).mem.mark 128 = true ∧
    regionOf 0xFFFFFFFFFFC0 = .none ∧ (nxt (.memoryRead 3 0xFFFFFFFFFFC0#48 .clean) sM).cntLive (pgMem 0) 7 = 1 ∧
    bitOf ((nxt (.memoryWrite 3 0xFFFFFFFFFFC0#48 [] 0 false .clean) sM).raw (pgMem 0)) 1 = true := by decide +kernel

/-- Controller 23 is in state `c`, its page enabled with SCRUB on. -/
def sC (c : Ctl) : State := (withRegs [(pgMem 23, 0x10, 1), (pgMem 23, 0x40, 0x02000001)] r0).setCtl 23 c

theorem wit_ctl : granulesOf 23 = 62 * 2 ^ 24 ∧ ((nxt (.memoryScrub 23 .clean) (sC { st := .active, scrub := 62 * 2 ^ 24 - 1 })).ctl 23).scrub = 0 ∧
    bitOf ((nxt (.memoryScrub 23 .clean) (sC { st := .active, scrub := 62 * 2 ^ 24 - 1 })).raw (pgMem 23)) 4 = true ∧
    ((nxt (.memoryScrub 23 .clean) (sC { st := .active })).ctl 23).scrub = 1 ∧
    bitOf ((nxt (.ceRateWindow 23) (sC { ceWin := 3 })).raw (pgMem 23)) 2 = true ∧ bitOf ((nxt (.ceRateWindow 23) (sC { ceWin := 2 })).raw (pgMem 23)) 2 = false ∧
    ((nxt (.memTrainingDone 23 true) (sC { st := .training })).ctl 23).st = .active ∧ ((nxt (.memTrainingDone 23 false) (sC { st := .training })).ctl 23).st = .fault ∧
    ((nxt (.memPhyLockLost 23) (sC { st := .sleep })).ctl 23).st = .fault ∧ ((nxt (.doubledRefresh 23 true) (sC {})).ctl 23).refresh2x = true := by decide +kernel

/-! ### Restore -/

/-- The restore of frame 48 is due; its record holds two values of cell 7, older first, and one of cell 9 removed again. -/
def rec48 : Rec :=
  { frame := 48, startTick := 0, dir := 0x40000000000, cycle := 4, len := 64, lag := 2, reLog := 10, replays := 0, replay := false, off := 0,
    bytes := 64, undo := [⟨2, 0, 7, 11, [], false, true⟩, ⟨2, 0, 7, 12, [], false, true⟩, ⟨2, 0, 9, 1, [], false, false⟩], heads := [], backs := [], units := [] }
def sRest (due : Bool) : State := { withRegs [(pgReg, 0x10, 1), (pgFrame, 0x10, 1)] sRef with
  fr := { sRef.fr with num := 47 }, sy := { r0.sy with cells := [(7, 99), (9, 5)], waits := [⟨50, 0, 7, 1000⟩] }
  rg := { r0.rg with recs := [rec48], last := 48, restoring := true, restoreDue := due } }

theorem wit_restore : (sRest true).stm.ctx = [] ∧ (sRest true).undoList 48 = [⟨2, 0, 7, 12, [], false, true⟩, ⟨2, 0, 7, 11, [], false, true⟩] ∧
    (nxt .restore (sRest true)).cell 7 = 11 ∧ (nxt .restore (sRest true)).cell 9 = 5 ∧ (nxt .restore (sRest true)).sy.waits = [] ∧
    (nxt .restore (sRest true)).cntLive pgReg 8 = 2 ∧ (sRest false).recOf 48 = some rec48 ∧ (sRest false).fr.tif + 16 ≤ (sRest false).frameLen ∧
    (nxt .restoreComplete (sRest false)).fr.cycle = 4 ∧ (nxt .restoreComplete (sRest false)).rg.recs = [] ∧
    (nxt .restoreLate { sRest false with fr := { sRef.fr with tif := 16369 } }).fr.haltDue = true ∧
    (nxt .restoreLate { sRest false with fr := { sRef.fr with tif := 16369 } }).en pgFrame = false := by decide +kernel

/-! ### Courier chain, tunnel, SMBus, calendar -/

/-- The module has chain address 5; a packet's head for it, for all, and for address 6. -/
def sChain : State := withRegs [(pgCour, 0x40, 0x105)] r0
def toUs : PktHead := ⟨5, 9, 3⟩
def toEvery : PktHead := ⟨255, 9, 3⟩
def toOther : PktHead := ⟨6, 9, 3⟩

theorem wit_chain : (nxt (.token 5) r0).chainAddr = 5 ∧ (nxt (.token 255) sChain).chainAddr = 0 ∧ (nxt (.token 254) r0).irq.cour.map (·.take 5) = [[255, 0, 0, 1, 255]] ∧
    sChain.toMe toUs = true ∧ sChain.toMe toOther = false ∧ sChain.toAll toEvery = true ∧ sChain.toAll toOther = false ∧
    (match (nxt (.courierRead toUs 0x3000#32 1) sChain).resp with | .msg b => b.take 12 | _ => []) = [9, 5, 0x33, 8, 0, 0, 0, 0] ++ leBytes 4 0x00120000 ∧
    (match (nxt (.courierRead toUs 0x3001#32 1) sChain).resp with | .msg b => b.take 8 | _ => []) = [9, 5, 0x33, 4, 2, 0, 0, 0] ∧
    (nxt (.courierRead toEvery 0x3000#32 1) sChain).cntLive pgCour 2 = 1 ∧ (nxt (.courierRead toOther 0x3000#32 1) sChain).cntLive pgCour 1 = 1 := by
  decide +kernel

theorem wit_courWrite : sChain.unpowered 0x301C = false ∧ (nxt (.courierWrite toUs 0x301C#32 [⟨7, none⟩]) sChain).evEn = [(3, 7)] ∧
    (match (nxt (.courierWrite toUs 0x301C#32 []) sChain).resp with | .msg b => b.getD 4 0 | _ => 0) = 2 ∧
    (nxt (.courierWrite toEvery 0x301C#32 [⟨7, none⟩]) sChain).evEn = [(3, 7)] ∧ (nxt (.courierWrite toOther 0x301C#32 [⟨7, none⟩]) sChain).evEn = [] ∧
    (nxt (.courierWake toEvery) sChain).irq.cour.length = 1 ∧ (nxt (.courierWake toOther) sChain).irq.cour.length = 1 ∧
    pktGood (mkPacket 6 9 1 3 [0, 0, 0, 0, 1]) = true ∧ pktGood [6, 9, 0x31, 0] = false ∧
    (nxt (.courierForward (mkPacket 6 9 1 3 [0, 0, 0, 0, 1])) sChain).cntLive pgCour 1 = 1 ∧ (nxt (.courierForward [6, 9, 0x31, 0]) sChain).cntLive pgCour 2 = 1 ∧
    pktGood (mkPacket 5 9 3 3 [0, 0, 0, 0]) = true ∧ sChain.toMe (pktHead (mkPacket 5 9 3 3 [0, 0, 0, 0])) = true ∧
    sChain.toMe (pktHead (mkPacket 6 9 1 3 [0, 0, 0, 0, 1])) = false ∧
    (nxt (.courierForward (mkPacket 5 9 3 3 [0, 0, 0, 0])) sChain).cntLive pgCour 0 = 1 := by
  decide +kernel

/-- Link 35 in state `x` of a module on the chain; an inner READ packet of 17 bytes. -/
def sTun (x : LinkS) : State := { withRegs [(pgLink 35, 0x10, 1)] sChain with link := [(35, x)] }
def innerRead : Bytes := mkPacket 2 1 1 4 [0, 0x30, 0, 0, 1]

theorem wit_tunnel : innerRead.length = 13 ∧ pktType innerRead = 1 ∧ pktType (mkPacket 2 1 6 4 [0]) = 6 ∧
    ((nxt (.tunnel toUs 35 innerRead) (sTun { st := .active, tunTx := 255 })).lnk 35).unacked.map (fun m => (m.seq, m.data.length)) = [(255, 12), (0, 12)] ∧
    ((nxt (.tunnel toUs 35 innerRead) (sTun { st := .active })).lnk 35).tunFor = [(9, 3, 4)] ∧
    (match (nxt (.tunnel toUs 35 innerRead) (sTun {})).resp with | .msg b => b.getD 4 0 | _ => 0) = 4 ∧
    (match (nxt (.tunnel toUs 35 (mkPacket 2 1 6 4 [0])) (sTun { st := .active })).resp with | .msg b => b.getD 4 0 | _ => 0) = 2 ∧
    (nxt (.tunnel toEvery 35 innerRead) (sTun { st := .active })).cntLive pgCour 2 = 1 ∧ (nxt (.tunnel toOther 35 innerRead) (sTun { st := .active })).irq.cour.length = 1 := by
  decide +kernel

theorem wit_mgmtRx : tunWhole [2, 1, 0x41, 5, 0, 0x30, 0, 0, 1, 7, 7, 7] = false ∧
    ((nxt (.mgmtRx 35 0 0 [2, 1, 0x41, 5, 0, 0x30, 0, 0, 1, 7, 7, 7]) (sTun { st := .active, unacked := [⟨0, [], 0⟩] })).lnk 35).tunRx = 0 ∧
    ((nxt (.mgmtRx 35 0 0 [2, 1, 0x41, 5, 0, 0x30, 0, 0, 1, 7, 7, 7]) (sTun { st := .active, unacked := [⟨0, [], 0⟩] })).lnk 35).unacked = [] ∧
    (nxt (.mgmtRx 35 1 0 [7]) (sTun { st := .active, tunRx := 0, tunIn := [2, 1, 0x41, 5, 0, 0x30, 0, 0, 1, 7, 7, 7] })).cntLive pgCour 2 = 1 ∧
    ((nxt (.mgmtRx 35 9 0 [7]) (sTun { st := .active })).lnk 35).tunRx = 255 := by decide +kernel

theorem wit_resend : ((nxt (.tunnelResendTimeout 35) (sTun { st := .active, unacked := [⟨3, [], 7⟩] })).lnk 35).unacked = [⟨3, [], 8⟩] ∧
    ((nxt (.tunnelResendTimeout 35) (sTun { st := .active, unacked := [⟨3, [], 8⟩], tunFor := [(9, 3, 4)] })).lnk 35).cause = 7 ∧
    (nxt (.tunnelResendTimeout 35) (sTun { st := .active, unacked := [⟨3, [], 8⟩], tunFor := [(9, 3, 4)] })).cntLive pgCour 4 = 1 ∧
    (nxt (.tunnelResendTimeout 35) (sTun { unacked := [⟨3, [], 8⟩], tunFor := [(9, 3, 4)] })).link = [] := by decide +kernel

/-- MCTP packets wait, and SMBALERT_N is asserted. -/
def sSmb : State := { r0 with mg := { r0.mg with mctpOut := [[1], [2]] }, irq := { r0.irq with smbAlert := true } }

theorem wit_smbus : (nxt (.blockWrite [1, 0x52, 0x20, 128, 0, 0x81, 2] false) r0).resp = .nack ∧
    (nxt (.blockWrite [1, 0x52, 0x20, 128, 0, 0x81, 2] true) r0).mg.mctpIn.map (·.2.2) = some [0, 0x81, 2] ∧
    (nxt .blockRead sSmb).resp = .msg [1] ∧ (nxt .blockRead sSmb).mg.mctpOut = [[2]] ∧ (nxt .blockRead r0).resp = .nack ∧
    (nxt .alertResponse sSmb).irq.smbAlert = false ∧ (nxt .alertResponse sSmb).resp = .msg [0x52] ∧ (nxt .alertResponse r0).resp = .nack ∧
    (nxt (.setEndpointId 9) r0).reg pgSmb 0x44 = 265 ∧ (nxt (.setEndpointId 255) r0).reg pgSmb 0x44 = r0.reg pgSmb 0x44 := by decide +kernel

/-- The alarm at 65,536 periods is enabled; TIME is 65,535 periods. -/
def sClock : State := { withRegs [(pgClock, 0x48, 65536), (pgClock, 0x50, 1)] r0 with mg := { r0.mg with time := 65535 } }

theorem wit_calendar : (nxt (.calendarSecond 1) sClock).mg.alarmDone = true ∧ bitOf ((nxt (.calendarSecond 1) sClock).raw pgClock) 0 = true ∧
    (nxt (.calendarSecond 3) { sClock with mg := { sClock.mg with timeNew := some 7 } }).mg.time = 9 ∧
    (nxt (.calendarSecond 3) { sClock with mg := { sClock.mg with timeNew := some 7 } }).mg.timeValid = true ∧
    r0.mayPath .pf pgClock = true ∧ r0.mayPath (.vf 0) pgClock = false ∧
    (nxt (.timeWrite .pf 7) r0).mg.timeNew = some 7 ∧ (nxt (.alarmWrite .pf 0x300000007) sClock).reg64 pgClock 0x48 = 0x300000007 ∧
    (nxt (.timeWrite (.vf 0) 7) r0).mg.timeNew = none ∧ (nxt (.vbatCheck true) r0).mg.vbatLow = true := by decide +kernel

/-! ### Housekeeping ADC, calibration store, firmware slots, loader -/

/-- HKADC enabled at tick 16,000, with TRIG_CFG and TRIG_PERIOD. -/
def sHk (cfg per : Nat) (m : Mgmt) : State := { withRegs [(pgHk, 0x10, 1), (pgHk, 0x44, cfg), (pgHk, 0x4C, per), (pgHk, 0x6C, 1000000)] r0 with
  tb := { r0.tb with tick := 16000 }, mg := m }

theorem wit_adc : (sHk 0xC3 0 {}).powered pgHk = true ∧ (nxt .trigger (sHk 0xC3 0 {})).mg.trig = some 3 ∧
    (nxt .trigger (sHk 0x83 8000 {})).mg.trig = some 3 ∧ (nxt .trigger (sHk 0xC3 0 { calBusy := 1 })).cntLive pgHk 2 = 1 ∧
    (nxt (.trigConversionDone 77) (sHk 0xC3 0 { trig := some 3 })).reg pgHk 0x50 = 77 ∧
    (nxt (.trigConversionDone 77) (sHk 0xFC 0 { trig := some 60 })).reg pgHk 0x50 = 0 ∧
    (nxt (.calZero .pf) (sHk 0 0 {})).mg.calBusy = 1 ∧ bitOf ((nxt (.calZero .pf) (sHk 0 0 { trig := some 1 })).raw pgHk) 3 = true ∧
    (nxt (.calFull .pf) (sHk 0 0 { zNew := some 4 })).mg.calBusy = 2 ∧ bitOf ((nxt (.calFull .pf) (sHk 0 0 {})).raw pgHk) 3 = true ∧
    (nxt (.calZeroDone 384) (sHk 0 0 { calBusy := 1 })).mg.zNew = some 2 ∧
    bitOf ((nxt (.calFullDone 512) (sHk 0 0 { calBusy := 2, zNew := some 2 })).raw pgHk) 3 = true := by decide +kernel

theorem wit_round : (nxt (.slowRoundEnd [] []) r0).mg.rounds = 0 ∧ (sHk 0 0 {}).en pgHk = true := by decide +kernel

/-- CALSTORE enabled, in state `cs`; the staged image of `n` bytes is the record `r` at 0x10000. -/
def stageRec : CsRec := ⟨5, 0, 9, 1, List.replicate 8 3⟩
def sCs (cs n : Nat) : State := { withRegs [(pgCs, 0x10, 1), (pgCs, 0x48, 0x10000), (pgCs, 0x50, n)] sMem with
  mem := (sMem.mem.write 0x10000 stageRec.toBytes).setMark 1024 false, mg := { r0.mg with cs := cs } }

theorem wit_image : (sCs 2 48).mayPath .pf pgCs = true ∧ (sCs 2 48).en pgCs = true ∧
    (sCs 2 48).staged.1.bind (fun bs => parseRecs bs.length bs) = some [(stageRec, true)] ∧ onceEach [stageRec] = true ∧ onceEach [stageRec, stageRec] = false ∧
    (sCs 2 0).staged.1 = none ∧ (nxt (.csLoad .pf) (sCs 2 48)).mg.csRecs = some [stageRec] ∧ (nxt (.csLoad .pf) (sCs 2 48)).mg.cs = 5 ∧
    (nxt (.csLoad .pf) (sCs 2 0)).mg.reason = 2 ∧ (nxt (.csImport .pf) (sCs 2 0)).mg.reason = 2 ∧ (nxt (.csCommit .pf) (sCs 3 0)).mg.cs = 4 ∧
    (nxt (.csCommit .pf) (sCs 0 0)).mg.reason = 1 := by decide +kernel

/-- A GQ4120 file with one link block, of link 35 and rising set temperatures. -/
def impBody : Bytes := [35, 0] ++ (List.range 4).flatMap (fun k => leBytes 2 (k + 1) ++ List.replicate 128 0)
def impFile : Bytes := leBytes 4 0x4C432041 ++ [3, 1, 0, 0] ++ leBytes 4 522 ++ leBytes 4 (crc32c impBody).toNat ++ impBody

theorem wit_import : (importFile impFile).map (fun bs => bs.map (fun b => (b.1, b.2.length))) = some [(35, 584)] := by decide +kernel

/-- A bank write is under way from state `prev` to bank B, in its flash sequence. -/
def sBank (prev : Nat) : State := { sCs 5 48 with mg := { r0.mg with cs := 5, csPrev := prev, csRecs := some [stageRec], seq := 7 }, sec := { r0.sec with seq := some .flash } }

theorem wit_bank : (nxt (.bankWriteDone .flashError) (sBank 2)).mg.cs = 2 ∧ (nxt (.bankWriteDone .badReadBack) (sBank 2)).mg.reason = 5 ∧
    (nxt (.bankWriteDone .flashError) (sBank 2)).cntLive pgCs 1 = 1 ∧ ((sBank 2).mg.csRecs.getD [] |>.flatMap CsRec.toBytes).length + 4096 ≤ bankSize := by
  decide +kernel

/-- Round 1,024 has ended; link 35 has a type 6 record of one value, 5 at each of its four temperatures. -/
def sInterp : State :=
  { sCs 2 0 with
    mg := { r0.mg with rounds := 1024 }
    link := [(35, { sets := [(0, [5]), (1, [5]), (2, [5]), (3, [5])] })] }

theorem wit_interp : (nxt (.laneInterpolate 35) sInterp).lnk 35 = { sets := [(0, [5]), (1, [5]), (2, [5]), (3, [5])], step := [(0, 1)], stepAt := 1024 } ∧
    nxt (.laneInterpolate 35) (nxt (.laneInterpolate 35) sInterp) = nxt (.laneInterpolate 35) sInterp := by decide +kernel

/-- Firmware started from slot 1 is being written to slot 0, `n` bytes of a page collected. -/
def sSlot (n : Nat) : State := { sCs 2 0 with sec := { r0.sec with started := some 1 }, mg := { r0.mg with fwSlot := some false, fwBuf := List.replicate n 7 } }

theorem wit_firmware : (nxt (.fwData .pf 0x04030201) (sSlot 8)).mg.fwBuf.length = 12 ∧ (nxt (.fwData .pf 0x04030201) (sSlot 252)).mg.fwWords = 64 ∧
    (nxt (.fwData .pf 0x04030201) (sSlot 252)).flashRead (slotBase false + 252) 4 = [1, 2, 3, 4] ∧
    (nxt (.fwFinish .pf false) (sSlot 4)).flashRead (slotBase false) 4 = [7, 7, 7, 7] ∧ (nxt (.fwErase .pf false) (sSlot 4)).mg.fwBuf = [] ∧
    bitOf ((nxt (.fwErase .pf true) (sSlot 4)).raw pgCs) 4 = true := by decide +kernel

/-- The loader cells ask for a copy of 64 bytes from tier-1 to `dst`. -/
def sLoad (dst : Nat) : State := { sB4 with
  sec := { r0.sec with started := some 0 }
  sy := { r0.sy with cells := [(8188, 64), (8189, dst), (8190, 64), (8191, 1)] } }

theorem wit_loader : (sLoad 0x40000000040).copyBad 64 0x40000000040 64 = false ∧ (nxt .loaderCopy (sLoad 0x40000000040)).mg.copy = some (64, 0x40000000040, 64) ∧
    (nxt .loaderCopy (sLoad 0x40000000020)).cell 8191 = 3 ∧ (sLoad 0).rangeAwake 64 64 = true ∧ (sLoad 0).mem.mark 1 = false ∧
    (nxt (.loaderCopyDone []) (nxt .loaderCopy (sLoad 0x40000000040))).cell 8191 = 2 ∧
    (nxt (.loaderCopyDone []) (nxt .loaderCopy (sLoad 0x40000000040))).mem.byte 0x40000000040 = 0xA5 := by decide +kernel

/-- Firmware has started and the calibration store is in SCAN. -/
def sBoot : State := { r0 with sec := { r0.sec with started := some 1 } }

theorem wit_startup : sBoot.sec.started = some 1 ∧ sBoot.mg.cs = 0 ∧ sBoot.sec.halted = false ∧ sBoot.pw.held = true := by decide +kernel

/-! ### Further clauses of the statements -/

/-- BASE_LO of PROTECT (0x050), the low half of an RWL quantity that the housekeeping core alone writes. -/
def offBase : BitVec 26 := BitVec.ofNat 26 (pageBase pgProt + 0x50)

theorem wit_lowLocked : isLow (locate offBase.toNat) = true ∧ r0.mayWrite .pf (locate offBase.toNat) = true ∧
    r0.lowLocked .pf (locate offBase.toNat) = true ∧ r0.lowLocked .core (locate offBase.toNat) = false ∧
    tget 0 6 (nxt (.writeLowHalf .pf offBase 1) r0).sec.viol = 1 ∧ (nxt (.writeLowHalf .pf offBase 1) r0).hif.staged = [] := by decide +kernel

/-- Wide writes of LOG_BASE, a register of a class that the host keeps, and of its high half. -/
theorem wit_contendWide : r0.contend .pf 0x5070 true 0x1000 ⟨.mgmt, 0x5070, true, 0x2000⟩ = true ∧
    (nxt (.write64 .pf 0x5070#26 ⟨0x1000, some ⟨.mgmt, 0x5070, true, 0x2000⟩⟩) r0).reg64 pgReg 0x70 = 0x1000 ∧
    (nxt (.write64 .mgmt 0x5070#26 ⟨0x1000, some ⟨.pf, 0x5070, true, 0x2000⟩⟩) r0).reg64 pgReg 0x70 = 0x2000 ∧
    (nxt (.write64 .mgmt 0x5070#26 ⟨0x1000, some ⟨.pf, 0x5070, true, 0x2000⟩⟩) r0).cntLive pgHost 5 = 1 ∧
    r0.contend .pf 0x5074 false 1 ⟨.mgmt, 0x5074, false, 2⟩ = true ∧
    (nxt (.writeHighHalf .pf 0x5074#26 ⟨1, some ⟨.mgmt, 0x5074, false, 2⟩⟩) r0).reg64 pgReg 0x70 = 0x100000000 := by decide +kernel

theorem wit_configRead : sUp.hif.cfgReady = true ∧
    tget false 3 (nxt (.configRequest 3 (.power true)) sUp).hif.d3 = true := by decide +kernel

/-- A committed staged write of granule 1 waits to be applied. -/
def sB4w : State := { sB4 with fr := { r0.fr with applying := [⟨0, 1, List.replicate 64 (some 9), false, 2, 0⟩] } }

theorem wit_bar4Waits : (nxt (.bar4Read 0 64 1 []) sB4w).resp = .waits ∧ (nxt (.bar4Read 0 64 1 []) sB4w).hif.barWait.map (·.fn) = [0] ∧
    (nxt (.bar4Write 0 128 (none :: List.replicate 63 (some 7)) []) sB4).mem.read 128 2 = [0, 7] ∧
    (nxt (.bar4Write 0 128 (none :: List.replicate 63 (some 7)) []) sB4).mem.mark 2 = true ∧
    (nxt (.pcieFlr 0) (nxt (.bar4Read 0 64 1 []) sB4w)).hif.barWait = [] := by decide +kernel

/-- T1 in entry with its stacks ACTIVE; tile 248 holds valid values while T1 cannot take its image. -/
def sT1 : State := sMem.setDom 38 3
def sImg : State := sNoVote.setTl 248 { ready := true, valid := true }

theorem wit_domainSteps : sT1.dom 38 = 3 ∧ sT1.entryDone .t1 = true ∧ (nxt (.domainEntryComplete .t1) sT1).dom 38 = 2 ∧
    ((nxt (.domainEntryComplete .t1) sT1).ctl 7).st = .selfRefresh ∧ ((nxt (.domainEntryComplete .t1) sT1).ctl 8).st = .active ∧
    (sNoVote.setDom 40 3).entryDone .hub = false ∧ ((nxt (.domainEntry (.tg 31)) sImg).tl 248).imgDue = true ∧
    ((nxt (.domainEntry (.tg 31)) sImg).tl 248).ready = false ∧ sImg.tier1Active = false ∧
    ((r0.setDom 40 3).setDom 32 2).target 32 < 2 ∧ ((r0.setDom 40 3).setDom 32 2).dom 32 = 2 := by decide +kernel

theorem wit_vsetDue : (withRegs [(pgGov, 0x40, 0)] sAdj).gov.adjusting = true ∧
    (nxt (.vsetWrite .pf 9) (withRegs [(pgGov, 0x40, 0)] sAdj)).gov.vsetDue = some 9 ∧
    (nxt (.vsetWrite .pf 9) sAdj).gov = sAdj.gov ∧ (nxt (.vsetWrite .pf 9) sAdj).reg pgGov 0x4C = 9 := by decide +kernel

/-- A halt is pending in the flash sequence of a bank write. -/
def sForce : State := { sDbg with sec := { sDbg.sec with haltPending := true, seq := some .flash }, mg := { r0.mg with cs := 5, csPrev := 2, csRecs := some [] } }

theorem wit_forcedFlash : (nxt .forcedHalt sForce).mg.cs = 2 ∧ (nxt .forcedHalt sForce).mg.reason = 4 ∧ (nxt .forcedHalt sForce).cntLive pgCs 1 = 1 ∧
    (nxt (.resume .pf) { sDbg with sec := { sDbg.sec with halted := true } }).sec.level = sDbg.sec.level := by decide +kernel

/-- The PF's aperture holds the low address; a byte of the general store is 7. -/
def sAp : State := { sDbg with hif := { r0.hif with staged := [(halfKey .pf (pageBase pgDbg + 0x100), some 0x1000)] }, mem := r0.mem.put 0x40000001000 7 }

theorem wit_aperture : 1 ≤ sAp.dbgLevel .pf ∧ sAp.mayPath (dbgPath .pf) pgDbg = true ∧
    tget none (halfKey (dbgPath .pf) (pageBase pgDbg + 0x100)) sAp.hif.staged = some 0x1000 ∧
    (nxt (.debugApertureRead .pf 0x80000400) sAp).reg64 pgDbg 0x108 = 7 := by decide +kernel

/-- HALTED with EN 1, the PLL locked and the reference lost. -/
def sBack : State := { withRegs [(pgFrame, 0x10, 1)] r0 with tb := { r0.tb with locked := true, holdover := true } }

theorem wit_refclkBack : sBack.tb.refOk = false ∧ sBack.fr.st = .halted ∧ sBack.fr.src = 0 ∧ (nxt .refclkReturn sBack).fr.st = .free ∧
    (nxt .refclkReturn r0).fr = r0.fr ∧ (nxt (.frameEnable .pf) sBack).fr.st = .halted ∧ (nxt (.frameEnable .pf) sBack).en pgFrame = true ∧
    (nxt .pllUnlock { sBack with tb := { sBack.tb with holdover := false } }).tb.fault = true := by decide +kernel

/-- The event of frame 50 has been judged missing. -/
def sJudged : State := { sRef with fr := { sRef.fr with refNext := 51 } }

theorem wit_refWindow : sRef.refExpected * 4 + sRef.frameLen < (sRef.fr.tif : Int) * 4 ∧ (nxt .referenceEventMissing sJudged).fr = sJudged.fr ∧
    (sRef.frameLen : Int) < 4 * (5000 + 100 - 120) ∧ (nxt (.markerRx 35 50 5000) sJudged).fr = sJudged.fr ∧
    ((nxt (.markerRx 35 50 5000) sJudged).lnk 35).marker = some 50 := by decide +kernel

theorem wit_applyAsleep : (sEnd.setCtl 0 { st := .selfRefresh }).asleep 2 = true ∧
    (nxt .commitGranuleApply ({ sEnd with fr := { sEnd.fr with applying := sEnd.fr.buf } }.setCtl 0 { st := .selfRefresh })).fr.applying = sEnd.fr.buf := by
  decide +kernel

/-- A zero-record slot before the head slot of `xVec`; one whose P code is not the run's. -/
def xZero : Tile := { run := some (runA 2 0), active := some (latA false), aSrc := [0, 0], sram := [(0x9000 + 0x6000 + 2, 1), (0x9000 + 0x6000 + 64, 3)] }

theorem wit_zeroSlot : (xZero.aAdvance 0 9).2 = 0 ∧ (xZero.aAdvance 0 9).1.aSrc = [0] ∧ (xZero.aAdvance 1 9).2 = 1 := by decide +kernel

theorem wit_outSlots : ((nxt (.outputRecordWrite 5) (sTile { outRec := some (List.replicate 4 1, false, false), oFill := 16382 })).tl 5).oLens = [16382] ∧
    ((nxt (.outputRecordWrite 5) (sTile { outRec := some (List.replicate 4 1, false, false), oFill := 16382 })).tl 5).oFill = 4 ∧
    ((nxt (.outputRecordWrite 5) (sTile { outRec := some (List.replicate 4 1, false, true), closing := 1 })).tl 5).oLens = [4] ∧
    ((nxt (.outputRecordWrite 5) (sTile { outRec := some (List.replicate 4 1, false, true), closing := 1 })).tl 5).closing = 0 := by decide +kernel

theorem wit_rowClauses : ({ rowDue := [(4, true)] } : Tile).substDue 4 = true ∧
    ((nxt (.rowFailure 5 4 true) (sTile { rowDue := [(4, true)] })).tl 5).rowDue = [(4, true)] ∧
    ((nxt (.rowFailure 5 4 true) (withRegs [(pgTile 5, 0x40, 5)] (sTile {}))).tl 5).rowDue = [] ∧
    (nxt (.rowFailure 5 4 false) (sTile { lowRuns := [(4, 2)] })).tl 5 = (sTile { lowRuns := [(4, 2)] }).tl 5 ∧
    (r0.mayPath vf3 (pgTile 5)) = false ∧ (nxt (.rowSubstReq vf3 5 0x80000303#32) (sTile {})).tl 5 = {} ∧
    (nxt (.tileScrubPass 5 [⟨0, true⟩]) (sTile { cal := trims })).tl 5 = { (nxt (.tileScrubPass 5 [⟨0, true⟩]) (sTile { cal := trims })).tl 5 with cal := trims } := by
  decide +kernel

/-- A zone due for a fault, and one whose warm-up has passed its limit at tick 32,000,000. -/
def sLate (x : Zone) : State := { sZone x with tb := { r0.tb with tick := 32000000 } }

theorem wit_zoneClauses : ((nxt (.zoneUpdate 9 [] []) (sCmd { st := .locked, en := true, due := 5 } 3 7 [])).zn 7).due = 5 ∧
    ((nxt (.zoneUpdate 9 [] []) (sCmd { st := .locked, due := 5 } 5 7 [])).zn 7).due = 5 ∧
    ((nxt .loopPeriodStart (sLate { st := .warm, en := true })).zn 7).st = .fault ∧ ((nxt .loopPeriodStart (sLate { st := .warm, en := true })).zn 7).cause = 3 ∧
    ((nxt .loopPeriodStart (sLate { st := .warm, en := true, warmAt := 16000 })).zn 7).st = .warm ∧
    (nxt .loopPeriodStart (nxt .loopPeriodStart (sZone {}))).cntLive pgLoop 0 = 1 ∧
    ((nxt .loopPeriodStart ((sZone { st := .locked, en := true }).setDom 0 2)).zn 7).st = .off := by decide +kernel

/-- The block that the list has come to is poisoned; one whose source A is in tier-1 in standby. -/
def sPoisBlk : State := sVsu { cur := some lPlan }
def wTier : List Nat := [0x38 + 7 * 2 ^ 8 + 7 * 2 ^ 12, 0x10000, 0, 0x40000050000, 3, 0x40000040000, 16, 0]
def sAsleep : State := (sBlk wTier).setCtl 0 { st := .selfRefresh }

theorem wit_blockClauses : (match sPoisBlk.peekBlk lPlan with | .inl _ => 0 | .inr c => c) = 7 ∧
    (nxt (.vsuListComplete 3) sPoisBlk).reg (pgVsu 3) 0x48 = 7 ∧ (nxt (.vsuListComplete 3) (sBlk wAdd)).vsu = (sBlk wAdd).vsu ∧
    (nxt (.vsuGather 3 []) sAsleep).vsu = sAsleep.vsu ∧ (nxt (.vsuGather 3 []) sAsleep).cntLive (pgVsu 3) 0 = 0 ∧
    (nxt (.vsuGather 3 []) { sBlk wTier with mem := clean (sBlk wTier).mem 0x10000 }).cntLive (pgVsu 3) 0 = 1 := by decide +kernel

/-- The header of a W4 weight block of one chunk and one column block (R105), and a WEIGHT descriptor that reads it through
check unit 4. -/
def hdrBody : Bytes := leBytes 2 0x4B57 ++ [0, 1] ++ leBytes 2 1 ++ leBytes 2 1 ++ leBytes 4 128 ++ leBytes 4 128 ++ leBytes 4 0x3F800000 ++ List.replicate 40 0
def hdrW : Bytes := hdrBody ++ leBytes 4 (crc32c hdrBody).toNat
def weightW : List Nat := [1 + 2 ^ 6 + 4 * 2 ^ 8, 0x10000, 0, 2 ^ 32 + 2 ^ 48, 1, 0, 0, 77]
def sWeight (h : Bytes) (bad : Bool) : State :=
  { sDesc weightW with mem := ((sDesc weightW).mem.write 0x10000 h).setMark (0x10000 / 64) bad }

theorem wit_weightHeader : (sWeight hdrW false).headerAwake 7 = true ∧ ((nxt (.streamDescCheck 7) (sWeight hdrW false)).cx 7).st = 2 ∧
    tget none 4 (nxt (.streamDescCheck 7) (sWeight hdrW false)).chk = some 7 ∧
    ((nxt (.streamDescCheck 7) (sWeight (hdrW.set 4 2) false)).cx 7).cause = 4 ∧
    ((nxt (.streamDescCheck 7) (sWeight hdrW true)).cx 7).cause = 7 ∧
    ((nxt (.streamDescCheck 7) ((sWeight hdrW false).setCtl 0 { st := .fault })).cx 7).cause = 6 ∧
    ((nxt (.streamDescCheck 7) { sWeight hdrW false with chk := [(4, some 9)] }).cx 7).cause = 3 := by decide +kernel

/-- A copy of 512 bytes of which `n` have been requested. -/
def cxLong (n : Nat) : Ctx := { cxRun with w := [0x30, 0x40000040000, 0x40000050000, 512, 0, 0, 0, 0], issued := n }

theorem wit_stopPlaces : (sSel (cxLong 256)).stopHere 7 = true ∧ (sSel (cxLong 128)).stopHere 7 = false ∧
    ((nxt (.streamStop .pf) (sSel (cxLong 128))).cx 7).stop = true ∧
    (nxt (.checkCompare .pf 4) (r0.setReg (pgCheck 4) 0x48 5)).cntLive (pgCheck 4) 1 = 0 ∧
    (nxt .streamEnvStart { sEnvS 2 with stm := { r0.stm with ctx := [(7, { st := 2 })] } }).stm.ctx.map (fun e => (e.2.st, e.2.cause)) = [(5, 2)] := by
  decide +kernel

/-- No other agent has written in the frame: a source granule is read as it stands. -/
theorem wit_unsynced (bs : Bytes) : (sRun cxRun).unsynced 7 (0x40000040000 / 64) bs = (bs, sRun cxRun) := rfl

/-- VF 3 owns the queue page and no sync cell; 1,024 watches are armed. -/
def sVf : State := { sCell 3 with sec := { r0.sec with owner := [(pgQueue, 256 + pathTenant vf3)] } }

theorem wit_cellClauses : sVf.mayPath vf3 pgQueue = true ∧ sVf.mayPathCell vf3 8191 = false ∧
    (nxt (.syncAdd (.reg vf3 (BitVec.ofNat 64 (opWord 0 2)))) sVf).cell 8191 = 3 ∧ (nxt (.syncCellWrite vf3 8191 4) sVf).cell 8191 = 3 ∧
    ((nxt (.syncArm .plan) { sSync (opWord 4 4) with sy := { (sSync (opWord 4 4)).sy with watches := List.replicate 1024 (0, 1) } }).actOf 0 0).map (·.never)
      = some true := by decide +kernel

/-- Queue memory in tier-1, in standby. -/
def sQSleep (k : Nat) : State := { withRegs [(pgQueue, 0x40, 0)] (sAdm k { kind := 1, tail := 2 }) with mem := ((sAdm k { kind := 1, tail := 2 }).setCtl 0 { st := .selfRefresh }).mem }

theorem wit_opWaits : (sAdm 5 { kind := 1, tail := 2 }).qmemAwake = true ∧ (sAdm 5 { kind := 1, tail := 2 }).mem.err = [] ∧
    (sQSleep 5).qmemAwake = false ∧ (nxt (.syncAdmit .plan) (sQSleep 5)).q.opDue = [(0, 0, rangeWord 5)] ∧
    (nxt (.syncRelease .plan) (sQSleep 6)).q.opDue = [(0, 0, rangeWord 6)] := by decide +kernel

theorem wit_linkOff : r0.en (pgLink 35) = false ∧ (nxt (.linkTrainTimeout 35) { r0 with link := [(35, { st := .train })] }).link = [(35, { st := .train })] ∧
    r0.mayPath vf3 (pgLink 35) = false ∧ ((nxt (.linkDown .pf 35) (sL { txq := [flitOf 3] })).lnk 35).st = .off ∧
    ((nxt (.linkLeadSlotRx 35 ⟨0, 0, 2⟩ none) (sL { st := .active, lostRun := 15, rxSlot := 3 })).lnk 35).lostRun = 15 := by decide +kernel

theorem wit_partnerClauses :
    ((nxt (.identRx 35 ⟨3, true, 2, 9⟩) { sL { st := .train, recorded := some (1, 2) } with frozen := true }).lnk 35).cause = 5 ∧
    ((nxt (.identRx 35 ⟨1, true, 2, 9⟩) { sL { st := .train, recorded := some (1, 2) } with frozen := true }).lnk 35).pDev = 1 ∧
    (nxt (.vetoRx 35 49 6 254) { sVeto with rg := { r0.rg with echo := some (49, 50) } }).cntLive pgReg 4 = 1 ∧
    sVeto.isCommitted 47 = true ∧ (nxt (.vetoRx 35 47 6 254) sVeto).cntLive (pgLink 35) 15 = 1 ∧
    (nxt (.linkSubst .pf 35 7) (sL {})).raw (pgLink 35) = 2 ^ 10 := by decide +kernel

/-- Tier-1 stack 0 in standby, and the general store. -/
def sSleepM : State := sM.setCtl 0 { st := .selfRefresh }

theorem wit_memClauses : sSleepM.rangeAwake 8192 64 = false ∧ (nxt (.memoryRead 3 8192#48 .clean) sSleepM).resp = sSleepM.resp ∧
    (nxt (.memoryWrite 3 8192#48 (List.replicate 64 5) 2 false .clean) sSleepM).mem.byte 8193 = 9 ∧
    (match (nxt (.memoryRead 3 0x40000000000#48 .clean) sM).resp with | .mem b p => (b.length, p) | _ => (0, false)) = (64, true) ∧
    ((nxt (.memoryScrub 23 .uncorrectable) (sC { st := .active })).mem.mark (granAddr 23 0 / 64)) = true ∧
    (nxt (.memoryScrub 23 .corrected) { sC { st := .active } with mem := (sC { st := .active }).mem.setMark (granAddr 23 0 / 64) false }).cntLive (pgMem 23) 2 = 1 := by
  decide +kernel

/-- A host write to the same register rivals a courier WRITE of one word: the arbiter keeps the host's. -/
def host48 : Rival := ⟨.pf, 0x50048, false, 2⟩

theorem wit_courRival : sChain.unpowered 0x50048 = false ∧ sChain.dropStaged.contend .mgmt 0x50048 false 7 host48 = true ∧
    firstWins .mgmt 0x50048 false 7 host48 = false ∧
    (match (nxt (.courierWrite toUs 0x50048#32 [⟨7, some host48⟩]) sChain).resp with | .msg b => b.getD 4 0 | _ => 0) = 1 := by decide +kernel

theorem wit_tunnelOff : (nxt (.tunnelResendTimeout 35) { sTun { st := .active, unacked := [⟨3, [], 7⟩] } with regs := r0.regs }).link
    = [(35, { st := .active, unacked := [⟨3, [], 7⟩] })] ∧ r0.en (pgLink 35) = false := by decide +kernel

/-- A round ends at this tick. -/
def sRound : State := { sHk 0 0 {} with mg := { r0.mg with roundEnd := 16000 } }

theorem wit_roundDue : sRound.roundDue = true ∧ sRound.en pgHk = true ∧ sRound.powered pgHk = true ∧ (sHk 0 0 {}).roundDue = false ∧
    (nxt (.slowRoundEnd [] []) (sHk 0 0 {})).mg.rounds = 0 ∧
    (nxt (.calZero vf3) (sHk 0 0 {})).mg.calBusy = 0 ∧ (nxt (.calZero .pf) (withRegs [(pgHk, 0x10, 0)] (sHk 0 0 {}))).mg.calBusy = 0 := by decide +kernel

theorem wit_stagedAsleep : (sCs 2 48).stageAwake = true ∧ ((sCs 2 48).setCtl 0 { st := .selfRefresh }).stageAwake = false ∧
    (nxt (.csImport .pf) ((sCs 2 48).setCtl 0 { st := .selfRefresh })).mg.csWait = some true ∧
    (nxt (.csLoad .pf) (sCs 2 48)).mg.bValid = false ∧ (nxt (.csLoad .pf) (sCs 2 48)).flashByte (bankBase true) = 0xFF ∧
    (nxt (.bankWriteDone .good) (sCs 2 48)).mg.cs = 2 ∧ (nxt (.fwErase .pf true) (sCs 2 0)).mg.fwSlot = none ∧
    (nxt (.fwErase .mgmt true) (sCs 2 0)).mg.fwSlot = some true := by decide +kernel

theorem wit_bankGood : (nxt (.bankWriteDone .good) (sBank 2)).mg.cs = 3 ∧ (nxt (.bankWriteDone .good) (sBank 2)).mg.seq = 8 ∧
    (nxt (.bankWriteDone .good) (sBank 2)).mg.bValid = true := by decide +kernel

/-- A copy that has made its first granule. -/
def sHalf : State := { sLoad 0x40000000040 with mg := { r0.mg with copy := some (64, 0x40000000040, 128), copied := 1 } }

theorem wit_copied : sHalf.copyBad 64 0x40000000040 128 = false ∧ (nxt (.loaderCopyDone []) sHalf).mem.byte 0x40000000040 = 0 ∧
    (nxt (.loaderCopyDone []) sHalf).mem.mark (0x40000000080 / 64) = true ∧ (nxt (.loaderCopyDone []) sHalf).cell 8191 = 2 ∧
    (nxt (.loaderCopyDone []) (sHalf.setCtl 0 { st := .selfRefresh })).mg.copied = 1 ∧
    r0.copyBad 64 0x40000C80000 64 = false ∧ (nxt .loaderCopy (sLoad (r0.reg64 pgReg 0x40))).cell 8191 = 3 := by decide +kernel

/-! ### Well-formed commands, reset -/

/-- One ill-formed command for each check of `Instr.wf`. -/
def illFormed : List Instr :=
  [.readLowHalf .pf 2 false, .readHighHalf .pf 1, .writeLowHalf .pf 2 0, .writeHighHalf .pf 3 ⟨0, none⟩, .write64 .pf 4 ⟨0, none⟩, .registerWrite .pf 2 0 none,
   .linkLeadSlotRx 0 ⟨0, 0, 0⟩ (some []), .linkLeadSlotRx 0 ⟨0, 1, 0⟩ none, .linkLeadSlotRx 0 ⟨2, 1, 0⟩ none, .linkFlitRx 0 [] 0, .memoryWrite 0 0 [] 0 false .clean, .bar4Read 0 0 0 [], .bar4Read 0 0 4097 []]
  ++ [.bar4Write 0 0 [] [], .bar4Write 0 0 (List.replicate 513 none) [], .challenge .doe 0 [], .keyExchange .doe [], .blockWrite [] true,
   .blockWrite (List.replicate 256 0) true, .courierWrite ⟨0, 0, 0⟩ 0 (List.replicate 16 ⟨0, none⟩), .tunnel ⟨0, 0, 0⟩ 0 (List.replicate 64 0),
   .mgmtRx 0 0 0 [], .darkCaptureDone 0 false [], .debugAccess 2 none]
  ++ [.calOffsetMeasure 0 (4096 * 512), .calGainMeasure 0 (-4096 * 512 - 1), .calDelayTrim 0 [⟨[], 0⟩], .calDriveTable 0 ⟨[[⟨[], 0⟩]], none⟩,
   .lockinWindowEnd 0 [] [], .acquisitionPassDone 0 [] [] [], .zoneUpdate 0 [] [], .slowRoundEnd [] []]

/-- The same commands well-formed. -/
def wellFormed : List Instr :=
  [.readLowHalf .pf 4 false, .readHighHalf .pf 4, .writeLowHalf .pf 4 0, .writeHighHalf .pf 4 ⟨0, none⟩, .write64 .pf 8 ⟨0, none⟩, .registerWrite .pf 4 0 none,
   .linkLeadSlotRx 0 ⟨1, 7, 0⟩ none, .linkLeadSlotRx 0 ⟨0, 0, 0⟩ (some (List.replicate 260 0)), .linkFlitRx 0 (List.replicate 256 0) 0,
   .memoryWrite 0 0 (List.replicate 64 0) 0 false .clean, .bar4Read 0 0 4096 [], .bar4Write 0 0 [none] []]
  ++ [.challenge .doe 0 (List.replicate 32 0), .keyExchange .doe (List.replicate 96 0), .blockWrite [0] true, .courierWrite ⟨0, 0, 0⟩ 0 [],
   .tunnel ⟨0, 0, 0⟩ 0 [], .mgmtRx 0 0 0 (List.replicate 12 0), .darkCaptureDone 0 true [], .darkCaptureDone 0 false (List.replicate 9 0),
   .debugAccess 4 none, .pllLock]
  ++ [.calOffsetMeasure 0 (4096 * 511), .calGainMeasure 0 (-4096 * 512), .calDelayTrim 0 [⟨List.replicate 1024 0, 0⟩],
   .calDriveTable 0 ⟨[[⟨List.replicate 512 0, 16384⟩]], none⟩, .zoneUpdate 0 (List.replicate 200 0) (List.replicate 200 0),
   .acquisitionPassDone 0 (List.replicate 130 ⟨0, 0, []⟩) (List.replicate 130 []) (List.replicate 130 []), .slowRoundEnd (List.replicate 64 0) []]

theorem test_illFormed : illFormed.all (fun c => !c.wf) = true := by decide +kernel
theorem test_wellFormed : wellFormed.all Instr.wf = true := by decide +kernel

theorem wit_invariants : r0.mem.wf = true ∧ r0.countersOk = true ∧ r0.pending = [] := by decide +kernel

/-- The table gives no command bits (log 49). -/
theorem test_noWord : decodeTableWord 32 0 = none ∧ (r0.withFetchWord 32 0).pending = [] := by decide +kernel

end Sys2Proof.Tests
end

section
/-!
PROOFS. The state after reset (O5, O60) and the malformed access (O8). An empty table reads its reset value everywhere, so
only what the register tables print is evaluated.
-/
namespace Sys2Proof.Machine

theorem reset_page_en : ∀ p, p < 382 → State.reset.en p = false := by decide +kernel

theorem reset_tile_regs : ∀ t : Fin 256, State.reset.reg (pgTile t.val) 0x40 = 7 ∧
    State.reset.reg (pgTile t.val) 0x50 = 0x40060 ∧ State.reset.reg (pgTile t.val) 0x58 = 0x40040 := by decide +kernel

theorem reset_link_regs : ∀ l : Fin 36, State.reset.reg (pgLink l.val) 0x40 = 0x03C00C00 ∧
    State.reset.reg (pgLink l.val) 0x54 = 8 ∧ State.reset.reg (pgLink l.val) 0x58 = l.val := by decide +kernel

theorem reset_mem_cfg : ∀ k, k < 24 →
    State.reset.reg (pgMem k) 0x40 = if k < 8 then 0x10001801 else 0x10011801 := by decide +kernel

/-- Settles O5: reset has empty tables. -/
theorem resetStateMeetsInvariants : Obligations.ResetStateMeetsInvariants := ⟨rfl, rfl, rfl⟩

/-- Settles O60: the units are at rest by their default values; the registers hold what their tables print. -/
theorem resetLeavesTabledValues : Obligations.ResetLeavesTabledValues := by
  refine ⟨rfl, rfl, rfl, rfl, reset_page_en, by decide +kernel, fun t => ?_, fun l => ?_, reset_mem_cfg, rfl, rfl, rfl,
    rfl, fun _ => rfl, fun _ => rfl, fun _ => rfl, fun _ => rfl, rfl, rfl, rfl, rfl, rfl, rfl⟩
  · obtain ⟨h40, h50, h58⟩ := reset_tile_regs t
    exact ⟨h40, h50, h58, rfl⟩
  · obtain ⟨h40, h54, h58⟩ := reset_link_regs l
    exact ⟨h40, h54, h58, rfl⟩

/-- Settles O8: the command counts and answers, and does nothing else. -/
theorem malformedAccessHasNoEffectButItsCount : Obligations.MalformedAccessHasNoEffectButItsCount :=
  fun _ _ _ _ => rfl

end Sys2Proof.Machine
end

section
/-!
PROOFS. No step lets a counter pass its largest value (O4). `State.Bounded` says that the four tables of counters are within
their widths. Only the counting operations touch those tables, so the rules say first what each of these does; then every
function of the model that gives a state has one lemma, that it keeps `Bounded`, whose proof follows the function's own
calls. A record update of other fields is `frame`, a condition `either`, a pair's state `ofFst` and `ofSnd`.
-/
namespace Sys2Proof.Machine

/-! ### The tables of counters and the operations that count -/

/-- Every entry of a table is below `b`. -/
def Below (b : Nat) (t : Tbl Nat) : Prop := ∀ e ∈ t, e.2 < b

theorem Below.nil (b : Nat) : Below b [] := by simp [Below]

theorem Below.filter {b : Nat} {t : Tbl Nat} (h : Below b t) (p : Nat × Nat → Bool) :
    Below b (t.filter p) :=
  fun e he => h e (List.mem_of_mem_filter he)

theorem Below.tdrop {b : Nat} {t : Tbl Nat} (h : Below b t) (p : Nat → Bool) : Below b (tdrop p t) := h.filter _

theorem Below.tins {b : Nat} {t : Tbl Nat} (h : Below b t) (k : Nat) {v : Nat} (hv : v < b) :
    Below b (tins k v t) := by
  induction t with
  | nil => simpa [Machine.tins, Below] using hv
  | cons e t ih =>
    obtain ⟨j, w⟩ := e
    have hw : w < b := h (j, w) (by simp)
    have ht : Below b t := fun e he => h e (List.mem_cons_of_mem _ he)
    unfold Machine.tins
    split
    · exact List.forall_mem_cons.2 ⟨hv, ht⟩
    · split
      · exact List.forall_mem_cons.2 ⟨hv, h⟩
      · exact List.forall_mem_cons.2 ⟨hw, ih ht⟩

theorem Below.tset {b : Nat} {t : Tbl Nat} (h : Below b t) (k : Nat) {v : Nat} (hv : v < b) :
    Below b (tset 0 k v t) := by
  unfold Machine.tset
  split
  · exact h.filter _
  · exact h.tins k hv

theorem Below.tget {b : Nat} {t : Tbl Nat} (h : Below b t) (hb : 0 < b) (k : Nat) : tget 0 k t < b := by
  induction t with
  | nil => exact hb
  | cons e t ih =>
    obtain ⟨j, w⟩ := e
    unfold Machine.tget
    split
    · exact h (j, w) (by simp)
    · exact ih fun e he => h e (List.mem_cons_of_mem _ he)

/-- The tables of counters, snapshots, violation counters and their snapshots are within their widths (R23, R444). -/
def Within (cnt snap viol violSnap : Tbl Nat) : Prop :=
  Below (2 ^ 64) cnt ∧ Below (2 ^ 64) snap ∧ Below (2 ^ 32) viol ∧ Below (2 ^ 32) violSnap

/-- `State.countersOk` as a proposition. -/
def State.Bounded (s : State) : Prop := Within s.cnt s.snap s.sec.viol s.sec.violSnap

theorem State.bounded_iff (s : State) : s.Bounded ↔ s.countersOk = true := by
  simp [State.Bounded, Within, Below, State.countersOk, and_assoc]

namespace State.Bounded

/-- An update of fields that hold no counter. -/
theorem frame {s : State} {pending freeCtr resp regs evRaw evEn soft hif irq tb fr gov rg q sy mem share link chk
    route
    frozen mg vsu stm tile lp pw} (h : s.Bounded) :
    State.Bounded { s with
      pending, freeCtr, resp, regs, evRaw, evEn, soft, hif, irq, tb, fr, gov, rg, q, sy
      mem, share, link, chk, route, frozen, mg, vsu, stm, tile, lp, pw } := h

/-- An update that leaves the violation counters too, whatever else it does to the protection unit. -/
theorem sameTables {s : State} (h : Within s.cnt s.snap s.sec.viol s.sec.violSnap) : s.Bounded := h

theorem forL {α : Type} {f : α → State → State} {l : List α} {s : State} (h : s.Bounded)
    (hf : ∀ a {t : State}, t.Bounded → (f a t).Bounded) :
    (forL l f s).Bounded := forL_keeps State.Bounded f (fun a _ => hf a) l s h

theorem forN {f : Nat → State → State} {s : State} {n : Nat} (h : s.Bounded)
    (hf : ∀ i {t : State}, t.Bounded → (f i t).Bounded) :
    (forN n f s).Bounded := forN_keeps State.Bounded f (fun i _ => hf i) n s h

theorem foldl {α : Type} {f : State → α → State} {l : List α} {s : State} (h : s.Bounded)
    (hf : ∀ a {t : State}, t.Bounded → (f t a).Bounded) :
    (l.foldl f s).Bounded := by
  induction l generalizing s with
  | nil => exact h
  | cons a l ih => exact ih (hf a h)

theorem countN {s : State} {p k n : Nat} (h : s.Bounded) : (s.countN p k n).Bounded := by
  obtain ⟨hc, hrest⟩ := h
  exact ⟨hc.tset _ (by omega), hrest⟩

theorem count {s : State} {p k : Nat} (h : s.Bounded) : (s.count p k).Bounded := h.countN

theorem reset : State.reset.Bounded := ⟨.nil _, .nil _, .nil _, .nil _⟩

theorem violate {s : State} {t src : Nat} (h : s.Bounded) : (s.violate t src).Bounded := by
  obtain ⟨hc, hs, hv, hvs⟩ := h
  unfold State.violate
  extract_lets n _ s1 s2
  have h1 : s1.Bounded := ⟨hc, hs, hv.tset _ (by omega), hvs⟩
  have h2 : s2.Bounded := h1.count
  split
  · exact h2.count
  · exact h2

theorem aonOnly {s : State} (h : s.Bounded) : s.aonOnly.Bounded := by
  obtain ⟨hc, hs, -⟩ := h
  exact ⟨hc.filter _, hs.filter _, .nil _, .nil _⟩

theorem cntClearAll {s : State} {p : Nat} {keep : Bool} (h : s.Bounded) : (s.cntClearAll p keep).Bounded := by
  obtain ⟨hc, hs, hv, hvs⟩ := h
  unfold State.cntClearAll
  extract_lets t
  have ht : t.Bounded := by
    refine ⟨hc.tdrop (fun k => k / 32 == p), ?_, hv, hvs⟩
    cases keep
    · exact hs.tdrop (fun k => k / 32 == p)
    · exact hs
  split
  · obtain ⟨htc, hts, -⟩ := ht
    refine ⟨htc, hts, .nil _, ?_⟩
    cases keep
    · exact .nil _
    · exact hvs
  · exact ht

/-- A snapshot takes the counters of a page, which are within their width. -/
theorem cntSnapAll {s : State} {p : Nat} (h : s.Bounded) : (s.cntSnapAll p).Bounded := by
  obtain ⟨hc, hs, hv, hvs⟩ := h
  have hsn : Below (2 ^ 64) (Machine.forN (cntPlace p).2 (fun k m => tset 0 (32 * p + k) (s.cntLive p k) m) s.snap) :=
    forN_keeps (Below (2 ^ 64)) _ (fun k m hm => hm.tset _ (hc.tget (by omega) _)) _ _ hs
  unfold State.cntSnapAll
  split
  · exact ⟨hc, hsn, hv, hv⟩
  · exact ⟨hc, hsn, hv, hvs⟩
  · exact ⟨hc, hsn, hv, hvs⟩
  · exact ⟨hc, hsn, hv, hvs⟩

/-- Whichever way a condition falls. -/
theorem either {c : Prop} [Decidable c] {a b : State} (ha : a.Bounded) (hb : b.Bounded) :
    (if c then a else b).Bounded := by
  split <;> assumption

theorem eitherSnd {α : Type} {c : Prop} [Decidable c] {a b : α × State} (ha : a.2.Bounded) (hb : b.2.Bounded) :
    (if c then a else b).2.Bounded := by
  split <;> assumption

theorem eitherFst {α : Type} {c : Prop} [Decidable c] {a b : State × α} (ha : a.1.Bounded) (hb : b.1.Bounded) :
    (if c then a else b).1.Bounded := by
  split <;> assumption

/-- The state of an answer and a state. -/
theorem ofSnd {α : Type} {a : α} {t : State} (h : t.Bounded) : (a, t).2.Bounded := h

theorem ofFst {α : Type} {a : α} {t : State} (h : t.Bounded) : (t, a).1.Bounded := h

/-! ### Sys2Proof/Machine/Ops.lean -/

theorem setReg {s : State} {p off v : Nat} (h : s.Bounded) : (s.setReg p off v).Bounded := frame h

theorem setReg64 {s : State} {p off v : Nat} (h : s.Bounded) : (s.setReg64 p off v).Bounded := h.setReg.setReg

theorem setRaw {s : State} {p v : Nat} (h : s.Bounded) : (s.setRaw p v).Bounded := frame h

theorem raise {s : State} {p bit : Nat} (h : s.Bounded) : (s.raise p bit).Bounded := h.setRaw

theorem countRaise {s : State} {p k bit : Nat} (h : s.Bounded) : (s.countRaise p k bit).Bounded := h.count.raise

theorem reject {s : State} {p bit : Nat} (h : s.Bounded) : (s.reject p bit).Bounded := h.raise

theorem draw {s : State} (h : s.Bounded) : s.draw.2.Bounded := frame h

theorem deny {s : State} {p : Path} {pg : Nat} (h : s.Bounded) : (s.deny p pg).Bounded := either h.violate h

theorem denyR {s : State} {p : Path} {pg : Nat} (h : s.Bounded) : (s.denyR p pg).Bounded := either h.violate h

theorem sendVec {s : State} {v : Nat} (h : s.Bounded) : (State.sendVec v s).Bounded :=
  either (frame h) (either (frame h).count h)

theorem rewrite {s : State} {s0 : State} {p : Nat} (h : s.Bounded) : (State.rewrite s0 s p).Bounded := by
  unfold State.rewrite
  split
  · exact h
  · exact either h.sendVec h

theorem sendCour {s : State} {pkt : Bytes} (h : s.Bounded) : (s.sendCour pkt).Bounded := frame h

theorem sendAlert {s : State} (h : s.Bounded) : s.sendAlert.Bounded := (frame h).raise.raise

theorem settle {s s0 : State} (h : s.Bounded) : (Machine.settle s0 s).Bounded := by
  unfold Machine.settle
  extract_lets s1 rise s2
  have h1 : s1.Bounded := either h.sendAlert h
  have h2 : s2.Bounded := h1.forL fun _ _ ht => ht.sendVec
  exact frame h2

theorem answer {s : State} {r : Resp} (h : s.Bounded) : (s.answer r).Bounded := frame h

/-! ### Sys2Proof/Machine/Memory.lean -/

theorem setCtl {s : State} {k : Nat} {c : Ctl} (h : s.Bounded) : (s.setCtl k c).Bounded := frame h

theorem setQd {s : State} {q : Nat} {d : QDesc} (h : s.Bounded) : (s.setQd q d).Bounded := frame h

theorem recErr {s : State} {p a src : Nat} (h : s.Bounded) : (s.recErr p a src).Bounded :=
  either h h.setReg.setReg.setReg

theorem unbacked {s : State} {a : Nat} (h : s.Bounded) : (s.unbacked a).Bounded := h.recErr.count.count.raise.raise

theorem recSram {s : State} {a src : Nat} (h : s.Bounded) : (s.recSram a src).Bounded :=
  either h h.setReg.setReg.setReg

theorem invalShare {s : State} {a : Nat} (h : s.Bounded) : (s.invalShare a).Bounded := frame h

theorem useLine {s : State} {k l : Nat} {dirty : Bool} (h : s.Bounded) : (s.useLine k l dirty).Bounded := by
  unfold State.useLine
  extract_lets c
  split
  · exact h.setCtl
  · exact h.setCtl.count

theorem touch {s : State} {k a : Nat} {write : Bool} (h : s.Bounded) : (s.touch k a write).Bounded :=
  either h.count.useLine h.count

theorem wbLine {s : State} {k g : Nat} (h : s.Bounded) : (s.wbLine k g).Bounded := either h.useLine h

theorem corrected {s : State} {k : Nat} (h : s.Bounded) : (s.corrected k).Bounded := h.count.raise.setCtl

theorem breakImage {s : State} {a : Nat} (h : s.Bounded) : (s.breakImage a).Bounded := either (frame h) h

theorem dropImages {s : State} (h : s.Bounded) : s.dropImages.Bounded := frame h

theorem decodeCtl {s : State} {k src g : Nat} {dec : Dec} (h : s.Bounded) : (s.decodeCtl k src g dec).2.Bounded := by
  unfold State.decodeCtl
  split
  · exact (frame h.recErr.count.raise).wbLine.invalShare.breakImage
  · exact eitherSnd (frame h).wbLine.count (frame h).wbLine.corrected
  · exact eitherSnd h.count h

theorem sramLost {s : State} {src a : Nat} (h : s.Bounded) : (s.sramLost src a).Bounded := h.recSram.count.raise

theorem sramFixed {s : State} (h : s.Bounded) : s.sramFixed.Bounded := h.count.raise

theorem decodeHub {s : State} {src g : Nat} {dec : Dec} (h : s.Bounded) : (s.decodeHub src g dec).2.Bounded := by
  unfold State.decodeHub
  split
  · exact eitherSnd (frame (h.sramLost.forN (fun _ _ ht => ht.setQd))) (frame h.sramLost)
  · exact eitherSnd (frame h) (frame h).sramFixed
  · exact h

theorem gRead {s : State} {src g : Nat} {dec : Dec} (h : s.Bounded) : (s.gRead src g dec).2.Bounded := by
  unfold State.gRead
  split
  · exact h.unbacked
  · exact eitherSnd h.unbacked h.touch.decodeCtl
  · exact h.decodeHub
  · exact h.decodeHub

theorem gReads {s : State} {src g n : Nat} (h : s.Bounded) : (s.gReads src g n).2.Bounded := by
  induction n generalizing s g with
  | zero => exact h
  | succ n ih => exact ih h.gRead

theorem engRead {s : State} {src a n : Nat} (h : s.Bounded) : (s.engRead src a n).2.Bounded := h.gReads

theorem lay {s : State} {src g : Nat} {data : List (Option Byte)} {poison : Bool} {dec : Dec} (h : s.Bounded) :
    (s.lay src g data poison dec).Bounded := either (frame h) (frame (by split; exacts [h.decodeCtl, h.decodeHub]))

theorem gWrite {s : State} {src g : Nat} {data : List (Option Byte)} {poison : Bool} {dec : Dec} (h : s.Bounded) :
    (s.gWrite src g data poison dec).Bounded := by
  unfold State.gWrite
  split
  · exact h.unbacked
  · exact h
  · exact h.lay
  · exact either h.unbacked (either (frame h) h.touch.invalShare.lay.breakImage)

theorem flushWaits {s : State} (h : s.Bounded) : s.flushWaits.Bounded := (frame h).forL (fun _ _ ht => ht.gWrite)

theorem engWrite {s : State} {src a : Nat} {bs : Bytes} (h : s.Bounded) : (s.engWrite src a bs).Bounded :=
  h.forL (fun _ _ ht => ht.gWrite)

theorem opMemoryRead {s : State} {src : Fin 8} {addr : BitVec 48} {dec : Dec} (h : s.Bounded) :
    (Machine.opMemoryRead src addr dec s).Bounded := either h.gRead.answer h

theorem opMemoryWrite {s : State} {src : Fin 8} {addr : BitVec 48} {data : Bytes} {en : BitVec 64} {poison : Bool}
    {dec : Dec} (h : s.Bounded) :
    (Machine.opMemoryWrite src addr data en poison dec s).Bounded := either h.gWrite.answer h

theorem opMemoryScrub {s : State} {k : Fin 24} {dec : Dec} (h : s.Bounded) :
    (Machine.opMemoryScrub k dec s).Bounded :=
  either (either (either h.useLine h).decodeCtl.count.setCtl (either h.useLine h).decodeCtl.count.setCtl.raise) h

theorem opCeRateWindow {s : State} {k : Fin 24} (h : s.Bounded) : (Machine.opCeRateWindow k s).Bounded :=
  either (either h.raise h).setCtl h

theorem opMemTrainingDone {s : State} {k : Fin 24} {ok : Bool} (h : s.Bounded) :
    (Machine.opMemTrainingDone k ok s).Bounded :=
  either (either (frame (either h.dropImages h)).setCtl h.setCtl.raise) h

theorem opMemPhyLockLost {s : State} {k : Fin 24} (h : s.Bounded) : (Machine.opMemPhyLockLost k s).Bounded :=
  either h h.setCtl.raise

theorem opDoubledRefresh {s : State} {k : Fin 24} {on : Bool} (h : s.Bounded) :
    (Machine.opDoubledRefresh k on s).Bounded := h.setCtl

/-! ### Sys2Proof/Machine/Bar4.lean -/

theorem barReport {s : State} {t : Nat} {js : List Nat} (h : s.Bounded) : (s.barReport t js).Bounded :=
  either (either (either h.violate h).countRaise (either h.violate h)).countRaise (either (either h.violate
    h).countRaise (either h.violate h))

theorem barReads {s : State} {t : Nat} {ps : List (Nat × Nat × Nat)} {dec : List Dec} (h : s.Bounded) :
    (s.barReads t ps dec).2.Bounded := by
  induction ps generalizing s dec with
  | nil => exact h
  | cons p ps ih => exact ih (eitherSnd h.gRead h)

theorem barServe {s : State} {f : Nat} {ps : List (Nat × Nat × Nat)} {dec : List Dec} (h : s.Bounded) :
    (s.barServe f ps dec).2.Bounded := either h.barReads.barReport h.barReads.barReport.countN.raise

theorem barRelease {s : State} (h : s.Bounded) : s.barRelease.Bounded :=
  (frame h).forL (fun _ _ ht => either (frame ht) (frame ht.barServe))

theorem opBar4Read {s : State} {fn : Fin 16} {off : BitVec 41} {len : BitVec 13} {dec : List Dec} (h : s.Bounded) :
    (Machine.opBar4Read fn off len dec s).Bounded := either h.answer (either (frame h).answer h.barServe.answer)

theorem barWrites {s : State} {t : Nat} {ps : List (Nat × Nat × Nat)} {bs : List (Option Byte)} {dec : List Dec}
    (h : s.Bounded) : (s.barWrites t ps bs dec).Bounded := by
  induction ps generalizing s bs dec with
  | nil => exact h
  | cons p ps ih => exact ih (either h.gWrite h)

theorem opBar4Write {s : State} {fn : Fin 16} {off : BitVec 41} {data : List (Option Byte)} {dec : List Dec}
    (h : s.Bounded) :
    (Machine.opBar4Write fn off data dec s).Bounded := either h h.barWrites.barReport

/-! ### Sys2Proof/Machine/Veto.lean -/

theorem setLnk {s : State} {l : Nat} {x : LinkS} (h : s.Bounded) : (s.setLnk l x).Bounded := frame h

theorem sendCtl {s : State} {l : Nat} {m : Bytes} (h : s.Bounded) : (s.sendCtl l m).Bounded := h.setLnk

theorem flood {s : State} {except : Option Nat} {m : Bytes} (h : s.Bounded) : (s.flood except m).Bounded :=
  h.forN (fun _ _ ht => either ht.sendCtl ht)

theorem log {s : State} {p code cls detail : Nat} (h : s.Bounded) : (s.log p code cls detail).Bounded :=
  either (frame h.engWrite).count h

theorem faultLog {s : State} {was : Bool} {p bit : Nat} (h : s.Bounded) : (s.faultLog was p bit).Bounded :=
  either h h.log

theorem regPut {s : State} {x : Nat} {bs : Bytes} (h : s.Bounded) : (s.regPut x bs).Bounded :=
  h.forL (fun _ _ ht => frame ht)

theorem regHeader {s : State} {r : Rec} (h : s.Bounded) : (s.regHeader r).Bounded := frame h

theorem regPeak {s : State} (h : s.Bounded) : s.regPeak.Bounded := frame h

theorem discardFrame {s : State} {f : Nat} (h : s.Bounded) : (s.discardFrame f).Bounded := either h (frame h).count

theorem discardFrom {s : State} {g : Nat} (h : s.Bounded) : (s.discardFrom g).Bounded :=
  either (h.forN (fun _ _ ht => ht.discardFrame)) h

theorem actVeto {s : State} {v : Veto} (h : s.Bounded) : (s.actVeto v).Bounded :=
  either
    (by split; exacts [either (frame h.countRaise.discardFrom) h.countRaise.discardFrom, frame
          h.countRaise.discardFrom]) h.countRaise.discardFrom

theorem holdVeto {s : State} {g : Nat} (h : s.Bounded) : (s.holdVeto g).Bounded := either h (frame h)

theorem declareVeto {s : State} {g : Nat} (h : s.Bounded) : (s.declareVeto g).Bounded :=
  either h (either h.countRaise.log.holdVeto.flood.countRaise.log h.countRaise.log.holdVeto.flood.actVeto)

theorem frameFault {s : State} {src g : Nat} (h : s.Bounded) : (s.frameFault src g).Bounded :=
  (either (either h.raise (frame h.raise).count) (frame (either h.raise (frame
    h.raise).count)).faultLog).log.declareVeto

theorem regHalt {s : State} {g cause : Nat} (h : s.Bounded) : (s.regHalt g cause).Bounded :=
  (frame h.setReg).countRaise.faultLog.log

theorem append {s : State} {u : Undo} (h : s.Bounded) : (s.append u).Bounded := by
  unfold State.append
  split
  · exact h
  · exact either (frame h.regPut).regHeader.regPeak h.countRaise.log.frameFault

theorem undo {s : State} {kind word id val : Nat} (h : s.Bounded) : (s.undo kind word id val).Bounded := by
  unfold State.undo
  split
  · exact h
  · exact either h h.append

theorem undoSlot {s : State} {qid pos : Nat} {env : Bytes} {pois : Bool} (h : s.Bounded) :
    (s.undoSlot qid pos env pois).Bounded := by
  unfold State.undoSlot
  split
  · exact h
  · exact either h h.append

theorem forget {s : State} {kind id : Nat} (h : s.Bounded) : (s.forget kind id).Bounded := frame h

theorem stageWrite {s : State} {src g : Nat} {data : List (Option Byte)} {poison : Bool} (h : s.Bounded) :
    (s.stageWrite src g data poison).Bounded := either (either (frame h) h.raise.frameFault) h.gWrite

theorem contest {s : State} {agent g : Nat} {data : List (Option Byte)} (h : s.Bounded) :
    (s.contest agent g data).2.Bounded := eitherSnd h (frame h)

theorem unsynced {s : State} {agent g : Nat} {bs : Bytes} (h : s.Bounded) : (s.unsynced agent g bs).2.Bounded :=
  eitherSnd h (frame h)

theorem agentWrite {s : State} {agent src g : Nat} {data : List (Option Byte)} {poison : Bool} (h : s.Bounded) :
    (s.agentWrite agent src g data poison).Bounded := h.contest.stageWrite

/-! ### Sys2Proof/Machine/Sync.lean -/

theorem fireWatch {s : State} {c : Nat} (h : s.Bounded) : (s.fireWatch c).Bounded :=
  either (frame h.countRaise) (frame h.countRaise).countRaise

theorem finishPart {s : State} {f i x : Nat} (h : s.Bounded) : (s.finishPart f i x).Bounded := frame h

theorem judgeCell {s : State} {c : Nat} (h : s.Bounded) : (s.judgeCell c).Bounded :=
  (frame ((frame h).forL (fun _ _ ht => ht.fireWatch))).forL (fun _ _ ht => ht.finishPart)

theorem setCell {s : State} {c v : Nat} (h : s.Bounded) : (s.setCell c v).Bounded := (frame h.undo).judgeCell

theorem addCell {s : State} {c : Nat} {n : Int} (h : s.Bounded) : (s.addCell c n).Bounded := h.count.setCell

theorem armWatch {s : State} {c imm : Nat} (h : s.Bounded) : (s.armWatch c imm).Bounded :=
  either h.count.fireWatch (frame h.count)

theorem syncRes {s : State} {p : Path} {met refused : Bool} {old : Nat} (h : s.Bounded) :
    (s.syncRes p met refused old).Bounded := frame h

theorem syncReg {s : State} {p : Path} {w : Nat} (h : s.Bounded) : (s.syncReg p w).Bounded := by
  unfold State.syncReg
  split
  · exact h.syncRes
  · split
    · exact either h.addCell.forget.syncRes h.deny.syncRes
    · exact either h.count.setCell.forget.syncRes h.deny.syncRes
    · exact either (either h.count.setCell.forget.syncRes h.count.syncRes) h.deny.syncRes
    · exact either h.count.syncRes h.deny.syncRes
    · exact either (either h.armWatch.syncRes h.raise.syncRes) h.deny.syncRes

theorem syncPlan {s : State} {w g idx : Nat} (h : s.Bounded) : (s.syncPlan w g idx).1.Bounded := by
  unfold State.syncPlan
  split
  · exact h.addCell
  · exact h.count.setCell
  · exact either h.count.setCell h.count
  · exact eitherFst h.count (frame h.count)
  · exact eitherFst h.armWatch h.raise

theorem opSyncCellWrite {s : State} {p : Path} {cell : Fin 8192} {val : BitVec 64} (h : s.Bounded) :
    (Machine.opSyncCellWrite p cell val s).Bounded := either h.count.setCell.forget h.deny

theorem opWatchPop {s : State} {p : Path} (h : s.Bounded) : (Machine.opWatchPop p s).Bounded :=
  either (by split <;> exact (either h (frame h)).answer) h.denyR.answer

/-! ### Sys2Proof/Machine/Queue.lean -/

theorem envAt {s : State} {d : QDesc} {x : Nat} (h : s.Bounded) : (s.envAt d x).2.Bounded := h.gRead

theorem envsAt {s : State} {d : QDesc} {x n : Nat} (h : s.Bounded) : (s.envsAt d x n).2.Bounded := by
  induction n generalizing s x with
  | zero => exact h
  | succ n ih => exact ih h.envAt

theorem putEnv {s : State} {q : Nat} {d : QDesc} {x : Nat} {e : Bytes} {pois : Bool} (h : s.Bounded) :
    (s.putEnv q d x e pois).Bounded := (either h.undoSlot h).gWrite

theorem putEnvs {s : State} {q : Nat} {d : QDesc} {x : Nat} {es : List (Bytes × Bool)} (h : s.Bounded) :
    (s.putEnvs q d x es).Bounded := by
  induction es generalizing s x with
  | nil => exact h
  | cons e es ih => exact ih h.putEnv

theorem moveQd {s : State} {q : Nat} {d : QDesc} (h : s.Bounded) : (s.moveQd q d).Bounded :=
  (either (either h.undo h).undo (either h.undo h)).setQd

theorem holdEnv {s : State} {q : Nat} {e : Bytes} {pois : Bool} (h : s.Bounded) : (s.holdEnv q e pois).Bounded :=
  either (frame h).raise (frame h)

theorem queueFault {s : State} (h : s.Bounded) : s.queueFault.Bounded := (frame h.raise.faultLog).frameFault

theorem postEnv {s : State} {t q : Nat} {e : Bytes} {pois : Bool} (h : s.Bounded) : (s.postEnv t q e pois).Bounded :=
  either h.violate (either h.count.queueFault (either (either h.count.putEnv.moveQd h.count.holdEnv).queueFault
    (either h.count.putEnv.moveQd h.count.holdEnv)))

theorem undoUnit {s : State} {u : Nat} (h : s.Bounded) : (s.undoUnit u).Bounded := by
  unfold State.undoUnit
  split
  · exact h
  · exact either h.undo h

theorem coverBytes {s : State} {u : Nat} {bs : Bytes} (h : s.Bounded) : (s.coverBytes u bs).Bounded :=
  h.undoUnit.setReg64.countN

theorem unitTakes {s : State} {u d : Nat} {e : Bytes} (h : s.Bounded) : (s.unitTakes u d e).Bounded :=
  either (either h.coverBytes (either h.countRaise h.countRaise.coverBytes)) h.coverBytes

theorem checkEnv {s : State} {q : Nat} {e : Bytes} (h : s.Bounded) : (s.checkEnv q e).Bounded :=
  either (h.forL (fun _ _ ht => ht.unitTakes)).moveQd (h.forL (fun _ _ ht => ht.unitTakes))

theorem consume {s : State} {q : Nat} (h : s.Bounded) : (s.consume q).2.Bounded := eitherSnd h h.envAt.checkEnv.moveQd

theorem consumeN {s : State} {q n : Nat} (h : s.Bounded) : (s.consumeN q n).Bounded := by
  induction n generalizing s with
  | zero => exact h
  | succ n ih => exact ih h.consume

theorem cands {s : State} {q : Nat} {late : Nat} (h : s.Bounded) : (s.cands q late).2.Bounded := by
  unfold State.cands
  exact eitherSnd (ofSnd h) (ofSnd h.envsAt)

theorem divert {s : State} {dlq : Nat} {c : Cand} (h : s.Bounded) : (s.divert dlq c).1.Bounded := by
  unfold State.divert
  extract_lets d can e s1 _ s2
  have h1 : s1.Bounded := h.countRaise.count
  have h2 : s2.Bounded := frame h1
  exact eitherFst (ofFst h.countRaise) (eitherFst (ofFst h2.putEnv.moveQd) (ofFst h2.holdEnv))

theorem divertAll {s : State} {dlq : Nat} {cs : List Cand} (h : s.Bounded) : (s.divertAll dlq cs).1.Bounded := by
  induction cs generalizing s with
  | nil => exact h
  | cons c cs ih => exact ih h.divert

theorem noteAdmit {s : State} {q x f : Nat} (h : s.Bounded) : (s.noteAdmit q x f).Bounded := frame h

theorem admitQ {s : State} {late : Tbl Nat} {q : Nat} (h : s.Bounded) : (s.admitQ late q).1.Bounded := by
  unfold State.admitQ
  refine eitherFst h ?_
  extract_lets p r s1 key elig n adm rest occ depth ex keep out s2 held _ s3 admPos tail _ s4 _ s5 s6 s7 s8 v late' s9
  have h2 : s2.Bounded := h.cands.putEnvs
  have h3 : s3.Bounded := either (frame h2) (either h2.putEnvs h2)
  have h5 : s5.Bounded := frame h3.moveQd
  have h6 : s6.Bounded := either h5 h5.noteAdmit
  have hv : v.1.Bounded := h6.countN.countN.divertAll
  exact either hv.addCell hv

theorem admitList {s : State} {late : Tbl Nat} {qs : List Nat} (h : s.Bounded) : (s.admitList late qs).1.Bounded := by
  induction qs generalizing s late with
  | nil => exact h
  | cons q qs ih => exact ih h.admitQ

theorem releaseRange {s : State} {first n : Nat} (h : s.Bounded) : (s.releaseRange first n).Bounded :=
  h.forL (fun _ _ ht => either ht.consumeN ht)

theorem admitOp {s : State} {w : Nat} (h : s.Bounded) : (s.admitOp w).Bounded :=
  either h.admitList.count h.admitList.addCell

theorem releaseOp {s : State} {w : Nat} (h : s.Bounded) : (s.releaseOp w).Bounded := h.releaseRange.count

theorem queueOp {s : State} {w g idx : Nat} (h : s.Bounded) : (s.queueOp w g idx).1.Bounded := by
  unfold State.queueOp
  exact eitherFst h (eitherFst (either h.admitOp h.releaseOp) (frame h))

theorem stampRange {s : State} {q x f n : Nat} (h : s.Bounded) : (s.stampRange q x f n).Bounded := by
  induction n generalizing s x with
  | zero => exact h
  | succ n ih => exact ih h.envAt.putEnv.count

theorem pendRange {s : State} {q x f n : Nat} (h : s.Bounded) : (s.pendRange q x f n).Bounded :=
  either h.stampRange (frame h)

theorem freshPending {s : State} {f : Nat} (h : s.Bounded) : (s.freshPending f).Bounded :=
  (frame h).forL (fun _ _ ht => ht.pendRange)

theorem judgeDesc {s : State} {f q : Nat} (h : s.Bounded) : (s.judgeDesc f q).Bounded := by
  unfold State.judgeDesc
  extract_lets h0 h1 o w by' wrong s1 w' s2 s3 lost s4
  have hs1 : s1.Bounded := either h.violate h
  have hs2 : s2.Bounded := hs1.setQd.forget
  have hs3 : s3.Bounded := either hs2 hs2.noteAdmit
  have hs4 : s4.Bounded := either hs1 hs1.countN.raise
  refine either (either (either hs3.pendRange hs3) hs1.reject) (either ?_ hs1.reject)
  exact forget (frame hs4)

theorem headMoves {s : State} (h : s.Bounded) : s.headMoves.Bounded :=
  (frame h).forL (fun _ _ ht => by split; exacts [ht.consumeN, ht])

theorem queueBoundary {s : State} {f : Nat} (h : s.Bounded) : (s.queueBoundary f).Bounded :=
  either (either (frame ((frame h).forL (fun _ _ ht => ht.judgeDesc))).headMoves (frame ((frame h).forL (fun _ _ ht =>
    ht.judgeDesc)))).freshPending (frame h)

theorem tryAdmit {s : State} (h : s.Bounded) : s.tryAdmit.Bounded := either h (frame h.admitList)

theorem admitBoundary {s : State} (h : s.Bounded) : s.admitBoundary.Bounded := either (frame h).tryAdmit h

theorem queueWake {s : State} (h : s.Bounded) : s.queueWake.Bounded :=
  either (((frame h).forL (fun _ _ ht => ht.stampRange)).forL (fun _ _ ht => (either ht.admitOp
    ht.releaseOp).finishPart)).tryAdmit h

theorem opQueueDescWrite {s : State} {p : Path} {q : Fin 262144} {half : Bool} {val : BitVec 64} (h : s.Bounded) :
    (Machine.opQueueDescWrite p q half val s).Bounded := either (frame h) h.deny

theorem opProfileWrite {s : State} {p : Path} {pr : Fin 256} {val : BitVec 64} (h : s.Bounded) :
    (Machine.opProfileWrite p pr val s).Bounded := by
  unfold Machine.opProfileWrite
  split
  · split
    · exact h.reject
    · exact frame h
  · exact h.deny

theorem dbOutcome {s : State} {q o k : Nat} (h : s.Bounded) : (s.dbOutcome q o k).Bounded := (frame h).count

theorem opDoorbell {s : State} {fn : Fin 16} {q : Fin 262144} {val : BitVec 64} (h : s.Bounded) :
    (Machine.opDoorbell fn q val s).Bounded :=
  either h.violate (either h.dbOutcome (either (either (frame h.dbOutcome) (either h.dbOutcome.raise h.dbOutcome))
    (either (either (frame h.dbOutcome) h.dbOutcome) h.dbOutcome)))

theorem opBar2BadAccess {s : State} {_fn : Fin 16} {write : Bool} (h : s.Bounded) :
    (Machine.opBar2BadAccess _fn write s).Bounded := h.countRaise.answer

theorem dlClose {s : State} (h : s.Bounded) : s.dlClose.Bounded := frame h

theorem opDlWindowEnd {s : State} (h : s.Bounded) : (Machine.opDlWindowEnd s).Bounded :=
  either (frame (either h.setReg.raise h.setReg)) h

theorem queueSoft {s : State} (h : s.Bounded) : s.queueSoft.Bounded := frame (either h h.countN.raise)

/-! ### Sys2Proof/Machine/Plan.lean -/

theorem fetchGrans {s : State} {g n : Nat} (h : s.Bounded) : (s.fetchGrans g n).Bounded :=
  h.forN (fun _ _ ht => either ht.draw.gRead ht.gRead)

theorem planFetch {s : State} (h : s.Bounded) : s.planFetch.Bounded := either h h.fetchGrans.fetchGrans

theorem takeRec {s : State} {r : ARec} (h : s.Bounded) : (s.takeRec r).Bounded := frame h

theorem badRec {s : State} {r : ARec} (h : s.Bounded) : (s.badRec r).Bounded :=
  (frame h).takeRec.count.raise.frameFault

theorem launch {s : State} {ty : Nat} {ok : ARec → Bool} {go : ARec → Nat → State → State × List Nat × Bool}
    (h : s.Bounded) (hgo : ∀ r i {t : State}, t.Bounded → (go r i t).1.Bounded) :
    (s.launch ty ok go).Bounded := by
  unfold State.launch
  split
  · exact h
  · exact either h (either h.badRec (either (frame (hgo _ _ h.takeRec)) h))

theorem opActionNop {s : State} (h : s.Bounded) : (Machine.opActionNop s).Bounded := by
  unfold Machine.opActionNop
  split
  · exact h
  · exact either h (either h.badRec (either h.takeRec h))

theorem neverAct {s : State} {f i : Nat} (h : s.Bounded) : (s.neverAct f i).Bounded := frame h

theorem overrunAct {s : State} {a : Act} (h : s.Bounded) : (s.overrunAct a).Bounded :=
  (either (frame (frame (either h h.setReg.setReg.setReg64))) (frame (either h
    h.setReg.setReg.setReg64))).countRaise.frameFault

theorem opActionOverrun {s : State} {g : BitVec 64} {idx : BitVec 16} (h : s.Bounded) :
    (Machine.opActionOverrun g idx s).Bounded := by
  unfold Machine.opActionOverrun
  split
  · exact either h.overrunAct h
  · exact h

theorem opActionComplete {s : State} {g : BitVec 64} {idx : BitVec 16} (h : s.Bounded) :
    (Machine.opActionComplete g idx s).Bounded := by
  unfold Machine.opActionComplete
  split
  · exact h
  · extract_lets s1 _ s2 v less
    have h1 : s1.Bounded := either h.overrunAct h
    have h2 : s2.Bounded := frame h1
    exact either h (either (either (frame h2) h2) h2)

theorem syncRow {s : State} {op : Nat} {src : SyncSrc} (h : s.Bounded) : (s.syncRow op src).Bounded := by
  cases src with
  | reg p w => exact either (either h.syncReg h.deny) h
  | plan => exact h.launch fun _ _ _ ht => ht.syncPlan

theorem syncAdmitRow {s : State} {src : SyncSrc} (h : s.Bounded) : (s.syncAdmitRow src).Bounded := by
  cases src with
  | reg p w => exact h.syncRow
  | plan => exact h.launch fun _ _ _ ht => ht.queueOp

theorem syncReleaseRow {s : State} {src : SyncSrc} (h : s.Bounded) : (s.syncReleaseRow src).Bounded := by
  cases src with
  | reg p w => exact h.syncRow
  | plan => exact h.launch fun _ _ _ ht => ht.queueOp

/-! ### Sys2Proof/Machine/Ctx.lean -/

theorem setCx {s : State} {c : Nat} {x : Ctx} (h : s.Bounded) : (s.setCx c x).Bounded := frame h

theorem undoCtx {s : State} {c : Nat} (h : s.Bounded) : (s.undoCtx c).Bounded := h.undo.undo

theorem unbindCtx {s : State} {c : Nat} (h : s.Bounded) : (s.unbindCtx c).Bounded := frame h

theorem unitCompare {s : State} {u : Nat} (h : s.Bounded) : (s.unitCompare u).Bounded :=
  either h.setReg.count h.setReg.count.countRaise

theorem coverCtx {s : State} {c : Nat} {bs : Bytes} (h : s.Bounded) : (s.coverCtx c bs).Bounded := by
  unfold State.coverCtx
  split
  · exact h.coverBytes
  · exact h

theorem dropFlits {s : State} {c : Nat} (h : s.Bounded) : (s.dropFlits c).Bounded := frame h

theorem streamFault {s : State} {c cause : Nat} (h : s.Bounded) : (s.streamFault c cause).Bounded :=
  h.undoCtx.dropFlits.setCx.unbindCtx.countRaise.faultLog.frameFault

theorem streamDone {s : State} {c : Nat} (h : s.Bounded) : (s.streamDone c).Bounded := by
  unfold State.streamDone
  extract_lets s1 x bad s2 s3
  have h1 : s1.Bounded := h.undoCtx
  have h2 : s2.Bounded := by
    dsimp only [s2]
    split
    · exact h1.unitCompare.unbindCtx
    · exact h1
  refine either h2.streamFault ?_
  split
  · exact either h2.setCx h2.setCx.finishPart
  · exact h2.setCx

theorem streamStopped {s : State} {c : Nat} (h : s.Bounded) : (s.streamStopped c).Bounded := h.undoCtx.setCx.unbindCtx

theorem poisonDelivered {s : State} {c n : Nat} (h : s.Bounded) : (s.poisonDelivered c n).Bounded :=
  either h h.setCx.countN.raise

theorem flitSent {s : State} {c : Nat} {f : Flit} (h : s.Bounded) : (s.flitSent c f).Bounded :=
  either h (either h.undoCtx.coverCtx.poisonDelivered.setCx.countN.streamDone (either
    h.undoCtx.coverCtx.poisonDelivered.setCx.countN.streamStopped h.undoCtx.coverCtx.poisonDelivered.setCx.countN))

/-! ### Sys2Proof/Machine/Link.lean -/

theorem undoLink {s : State} {l cls : Nat} (h : s.Bounded) : (s.undoLink l cls).Bounded :=
  either h.undo.undo h.undo.undo

theorem linkDo {s : State} {l : Nat} {f : State → State} (h : s.Bounded)
    (hf : ∀ {t : State}, t.Bounded → (f t).Bounded) :
    (s.linkDo l f).Bounded := either (hf h) h

theorem linkTo {s : State} {l : Nat} {st : LinkSt} (h : s.Bounded) : (s.linkTo l st).Bounded :=
  either h h.setLnk.raise

theorem linkFault {s : State} {l cause : Nat} (h : s.Bounded) : (s.linkFault l cause).Bounded :=
  either h h.setLnk.linkTo.raise.log

theorem linkOff {s : State} {l : Nat} (h : s.Bounded) : (s.linkOff l).Bounded := h.setLnk.linkTo

theorem linkCmd {s : State} {p : Path} {l : Nat} {ok : Bool} {go : State → State} (h : s.Bounded)
    (hgo : ∀ {t : State}, t.Bounded → (go t).Bounded) :
    (s.linkCmd p l ok go).Bounded := either (either (either (hgo h) h) h.reject) h.deny

theorem opLinkUp {s : State} {p : Path} {l : Fin 36} (h : s.Bounded) : (Machine.opLinkUp p l s).Bounded :=
  h.linkCmd fun ht => ht.linkTo

theorem opLinkDown {s : State} {p : Path} {l : Fin 36} (h : s.Bounded) : (Machine.opLinkDown p l s).Bounded :=
  either h.linkOff h.deny

theorem opLinkDoze {s : State} {p : Path} {l : Fin 36} (h : s.Bounded) : (Machine.opLinkDoze p l s).Bounded :=
  h.linkCmd fun ht => ht.draw.setLnk.sendCtl

theorem opLinkWake {s : State} {p : Path} {l : Fin 36} (h : s.Bounded) : (Machine.opLinkWake p l s).Bounded :=
  h.linkCmd fun ht => ht.setLnk.linkTo

theorem moveLane {s : State} {l ln : Nat} {tx : Bool} (h : s.Bounded) : (s.moveLane l ln tx).Bounded :=
  h.setLnk.sendCtl

theorem laneOnSpare {s : State} {l ln : Nat} {tx : Bool} (h : s.Bounded) : (s.laneOnSpare l ln tx).Bounded :=
  h.setLnk.countRaise

theorem opLinkSubst {s : State} {p : Path} {l : Fin 36} {ln : Fin 8} (h : s.Bounded) :
    (Machine.opLinkSubst p l ln s).Bounded := h.linkCmd fun ht => ht.moveLane

theorem opDarkCaptureDone {s : State} {l : Fin 36} {light : Bool} {base : List Int} (h : s.Bounded) :
    (Machine.opDarkCaptureDone l light base s).Bounded := either (either h.setLnk.raise h.setLnk).linkTo.sendCtl h

theorem opDeferredCaptureTaken {s : State} {l : Fin 36} {base : List Int} (h : s.Bounded) :
    (Machine.opDeferredCaptureTaken l base s).Bounded := either h.setLnk h

theorem opBaselineUpdate {s : State} {l : Fin 36} {base : List Int} (h : s.Bounded) :
    (Machine.opBaselineUpdate l base s).Bounded := either h.setLnk h

theorem takeIdent {s : State} {l : Nat} {i : Ident} (h : s.Bounded) : (s.takeIdent l i).Bounded :=
  either (by split; exacts [h.setLnk, either h.setLnk h.setLnk.linkFault]) h.setLnk

theorem opLinkTrainingDone {s : State} {l : Fin 36} {ident : Ident} {ts : List TsEx} (h : s.Bounded) :
    (Machine.opLinkTrainingDone l ident ts s).Bounded :=
  either (either h.setLnk.takeIdent.linkTo h.setLnk.takeIdent) h

theorem opLinkTrainTimeout {s : State} {l : Fin 36} (h : s.Bounded) : (Machine.opLinkTrainTimeout l s).Bounded :=
  either h.linkFault h

theorem opLinkWakeDone {s : State} {l : Fin 36} {pframe : BitVec 32} {ts : List TsEx} (h : s.Bounded) :
    (Machine.opLinkWakeDone l pframe ts s).Bounded := either (either h.setLnk.linkTo h.setLnk.linkTo.count.raise) h

theorem opAllLanesLoseSignal {s : State} {l : Fin 36} (h : s.Bounded) : (Machine.opAllLanesLoseSignal l s).Bounded :=
  either h.linkFault h

theorem sendLead {s : State} {l : Nat} (h : s.Bounded) : (s.sendLead l).Bounded := h.setLnk.countN

theorem sendData {s : State} {l : Nat} {f : Flit} (h : s.Bounded) : (s.sendData l f).Bounded := by
  unfold State.sendData
  extract_lets s1 x g seq hdr y1 y2 y3 s2 s3 s4 y4
  have h3 : s3.Bounded := h.undoLink.setLnk.count
  have h4 : s4.Bounded := either h3.count h3.flitSent
  refine either ?_ h4
  split
  · exact h4
  · exact either h4.setLnk.finishPart h4.setLnk

theorem askTsync {s : State} {l : Nat} (h : s.Bounded) : (s.askTsync l).Bounded := either h.sendCtl h

theorem opLinkSlot {s : State} {l : Fin 36} (h : s.Bounded) : (Machine.opLinkSlot l s).Bounded :=
  either h (either h.askTsync.sendLead
    (by split; exacts [h.askTsync.sendLead, either h.askTsync.sendData h.askTsync.sendLead])).setLnk

theorem bufferFlit {s : State} {l : Nat} {f : Flit} (h : s.Bounded) : (s.bufferFlit l f).Bounded :=
  either h.setLnk h.setLnk

theorem deliverFlit {s : State} {l : Nat} {f : Flit} (h : s.Bounded) : (s.deliverFlit l f).Bounded :=
  either (either h.count (either h.countRaise.frameFault (either h.countRaise.frameFault (either h.bufferFlit
    h.setLnk)))) (either h.count h.bufferFlit)

theorem insertLost {s : State} {l cls n : Nat} (h : s.Bounded) : (s.insertLost l cls n).Bounded := by
  induction n generalizing s with
  | zero => exact h
  | succ n ih => exact ih h.deliverFlit

theorem setExp {s : State} {l cls v : Nat} (h : s.Bounded) : (s.setExp l cls v).Bounded := either h.setLnk h.setLnk

theorem takeTrain {s : State} {l : Nat} {hdr : Bytes} (h : s.Bounded) : (s.takeTrain l hdr).Bounded :=
  either h.setLnk (either h.undoLink.linkFault (either h.undoLink h.undoLink.countN.raise.insertLost).setExp.setLnk)

theorem rxAdvance {s : State} {l : Nat} (h : s.Bounded) : (s.rxAdvance l).Bounded := h.setLnk

theorem takeFlit {s : State} {l : Nat} {payload : Bytes} {trailer : BitVec 32} (h : s.Bounded) :
    (s.takeFlit l payload trailer).Bounded := by
  unfold State.takeFlit
  extract_lets x
  split
  · exact h
  · extract_lets s1 w w' good s2 f f' s3 s4
    have h2 : s2.Bounded := either h.undoLink h.undoLink.count
    exact either h h2.setLnk.setExp.count.deliverFlit

theorem opLinkFlitRx {s : State} {l : Fin 36} {payload : Bytes} {trailer : BitVec 32} (h : s.Bounded) :
    (Machine.opLinkFlitRx l payload trailer s).Bounded := either h.takeFlit.rxAdvance h

theorem opVetoRx {s : State} {l : Fin 36} {g : BitVec 64} {origin : BitVec 10} {hops : BitVec 8} (h : s.Bounded) :
    (Machine.opVetoRx l g origin hops s).Bounded :=
  either h (either h.count (either h.count (either h.holdVeto.flood.raise.countRaise.countRaise.log
    h.holdVeto.flood.raise.actVeto.log)))

theorem opVetoHoldExpire {s : State} {g : BitVec 64} (h : s.Bounded) : (Machine.opVetoHoldExpire g s).Bounded :=
  frame h

theorem opCreditRx {s : State} {l : Fin 36} {freed : BitVec 16} (h : s.Bounded) :
    (Machine.opCreditRx l freed s).Bounded := either h.setLnk h

theorem opDozeReqRx {s : State} {l : Fin 36} {blk : BitVec 32} (h : s.Bounded) :
    (Machine.opDozeReqRx l blk s).Bounded := either h.setLnk.sendCtl h

theorem opDozeAckRx {s : State} {l : Fin 36} {blk : BitVec 32} (h : s.Bounded) :
    (Machine.opDozeAckRx l blk s).Bounded := either h.setLnk h

theorem opDozeEnter {s : State} {l : Fin 36} (h : s.Bounded) : (Machine.opDozeEnter l s).Bounded := by
  unfold Machine.opDozeEnter
  extract_lets x
  split
  · exact h
  · exact either h.setLnk.linkTo.count h

theorem opDozeBeacon {s : State} {l : Fin 36} (h : s.Bounded) : (Machine.opDozeBeacon l s).Bounded :=
  either h.setLnk h

theorem opTsyncRx {s : State} {l : Fin 36} {reply : Bool} {ta tb tc : BitVec 32} (h : s.Bounded) :
    (Machine.opTsyncRx l reply ta tb tc s).Bounded := either h (either h.setLnk h.sendCtl)

theorem opLaneMsgRx {s : State} {l : Fin 36} {tx : Bool} {ln : BitVec 4} {blk : BitVec 32} (h : s.Bounded) :
    (Machine.opLaneMsgRx l tx ln blk s).Bounded := either h (either h.linkFault (either h.setLnk h.setLnk))

theorem opLaneFail {s : State} {l : Fin 36} {ln : Fin 8} {tx : Bool} (h : s.Bounded) :
    (Machine.opLaneFail l ln tx s).Bounded := either h (either h.linkFault (either h.moveLane h.laneOnSpare))

theorem opLaneMove {s : State} {l : Fin 36} {tx : Bool} (h : s.Bounded) : (Machine.opLaneMove l tx s).Bounded := by
  unfold Machine.opLaneMove
  dsimp only
  generalize (if tx then (s.lnk l.val).moveTx else (s.lnk l.val).moveRx) = mv
  cases mv with
  | none => exact h
  | some e => exact either h.laneOnSpare h

theorem opIdentRx {s : State} {l : Fin 36} {ident : Ident} (h : s.Bounded) : (Machine.opIdentRx l ident s).Bounded :=
  either h.takeIdent h

theorem opMapFreeze {s : State} {p : Path} (h : s.Bounded) : (Machine.opMapFreeze p s).Bounded :=
  either (either h (either h.reject ((frame h).forN (fun _ _ ht => either ht.setLnk ht)))) h.deny

theorem opDevnumWrite {s : State} {p : Path} {val : BitVec 32} (h : s.Bounded) :
    (Machine.opDevnumWrite p val s).Bounded :=
  either (either h.reject (h.setReg.raise.forN (fun _ _ ht => either ht.sendCtl ht))) h.deny

theorem opActionLinkWin {s : State} (h : s.Bounded) : (Machine.opActionLinkWin s).Bounded :=
  h.launch fun _ _ _ ht => eitherFst ht (eitherFst ht.count.frameFault ht.setLnk)

theorem linkBoundary {s : State} {reentry run : Bool} (h : s.Bounded) : (s.linkBoundary reentry run).Bounded :=
  h.forN (fun _ _ ht => either ht (either ht.setLnk.linkTo ht.setLnk))

theorem freeEntries {s : State} {f : Nat} (h : s.Bounded) : (s.freeEntries f).Bounded :=
  h.forN (fun _ _ ht => either ht (either ht ht.undoLink).setLnk)

/-! ### Sys2Proof/Machine/Tile.lean -/

theorem setTl {s : State} {t : Nat} {x : Tile} (h : s.Bounded) : (s.setTl t x).Bounded := frame h

theorem watchHealth {s : State} {s0 : State} {t : Nat} (h : s.Bounded) : (Machine.watchHealth s0 t s).Bounded :=
  either h h.raise

theorem tileFault {s : State} {t bit : Nat} (h : s.Bounded) : (s.tileFault t bit).Bounded := h.setTl.raise.faultLog

theorem sramErr {s : State} {t : Nat} {e : SramErr} (h : s.Bounded) : (s.sramErr t e).Bounded :=
  either h.setTl.countRaise h.countRaise

theorem errIn {s : State} {t : Nat} {err : Option SramErr} {a n : Nat} (h : s.Bounded) :
    (s.errIn t err a n).Bounded := by
  unfold State.errIn
  split
  · exact either h.sramErr h
  · exact h

theorem nextRun {s : State} {t : Nat} {rs : List TRun} (h : s.Bounded) : (s.nextRun t rs).Bounded := by
  induction rs generalizing s with
  | nil => exact h.setTl
  | cons r rs ih => exact either (ih h.tileFault.neverAct.frameFault) h.setTl

theorem stopRun {s : State} {t src : Nat} (h : s.Bounded) : (s.stopRun t src).Bounded := by
  unfold State.stopRun
  split
  · exact h
  · exact h.tileFault.setTl.finishPart.frameFault.nextRun

theorem launchTiles {s : State} {r : ARec} {idx : Nat} {ts : List Nat} (h : s.Bounded) :
    (s.launchTiles r idx ts).1.Bounded := by
  induction ts generalizing s with
  | nil => exact h
  | cons t ts ih => exact ih (eitherFst h (eitherFst h.tileFault.frameFault h.setTl))

theorem opActionTileRun {s : State} (h : s.Bounded) : (Machine.opActionTileRun s).Bounded :=
  h.launch fun _ _ _ ht => ht.launchTiles

theorem opShadowLoadStart {s : State} {t : Fin 256} {err : Option SramErr} (h : s.Bounded) :
    (Machine.opShadowLoadStart t err s).Bounded := either h.errIn.setTl h

theorem opShadowLoadDone {s : State} {t : Fin 256} (h : s.Bounded) : (Machine.opShadowLoadDone t s).Bounded :=
  either h.setTl h

theorem opWeightSwitch {s : State} {t : Fin 256} (h : s.Bounded) : (Machine.opWeightSwitch t s).Bounded := by
  unfold Machine.opWeightSwitch
  extract_lets x
  split
  · exact either h (either h.stopRun (either h.stopRun h.setTl.count))
  · exact h

theorem cycle {s : State} {t : Nat} {r : TRun} {l : Latch} {pois : Bool} (h : s.Bounded) :
    (s.cycle t r l pois).Bounded := (frame h).setTl.count.countN

theorem opVectorCycle {s : State} {t : Fin 256} {err : Option SramErr} (h : s.Bounded) :
    (Machine.opVectorCycle t err s).Bounded := by
  unfold Machine.opVectorCycle
  extract_lets x s1
  have h1 : s1.Bounded := h.errIn
  split
  · extract_lets q s2 s3
    have h2 : s2.Bounded := h1.setTl
    have h3 : s3.Bounded := h2.errIn
    refine either h (either h2.stopRun (either h2.streamFault.stopRun ?_))
    split
    · exact h2
    · exact either (either h3.cycle h3.streamFault.stopRun) h3.cycle
  · exact h

theorem swapAbandoned {s : State} {t : Nat} (h : s.Bounded) : (s.swapAbandoned t).Bounded := h.setTl.countRaise

theorem verdict {s : State} {t : Nat} {pass : Bool} (h : s.Bounded) : (s.verdict t pass).Bounded :=
  either h.setTl h.swapAbandoned

theorem compareVec {s : State} {t : Nat} {r : TRes} (h : s.Bounded) : (s.compareVec t r).Bounded := by
  unfold State.compareVec
  split
  · exact h
  · exact either h (either h.setTl h.setTl.setTl.verdict)

theorem opResultAccumulate {s : State} {t : Fin 256} (h : s.Bounded) : (Machine.opResultAccumulate t s).Bounded := by
  unfold Machine.opResultAccumulate
  extract_lets x
  split
  · exact h
  · extract_lets q pf _ y s1 s2
    have h2 : s2.Bounded := h.setTl.countN.compareVec
    exact either h (either h2.setTl h2.setTl)

theorem opOutputRecordWrite {s : State} {t : Fin 256} (h : s.Bounded) :
    (Machine.opOutputRecordWrite t s).Bounded := by
  unfold Machine.opOutputRecordWrite
  extract_lets x
  split
  · exact h
  · exact either h (either h.setTl h.setTl)

theorem opTileRunComplete {s : State} {t : Fin 256} (h : s.Bounded) : (Machine.opTileRunComplete t s).Bounded := by
  unfold Machine.opTileRunComplete
  extract_lets x
  split
  · exact h
  · exact either h.setTl.finishPart.nextRun h

theorem route1 {s : State} {t : Nat} (h : s.Bounded) : (s.route1 t).Bounded := (either h.raise h).setTl

theorem opRoutingChange {s : State} {t : Fin 256} (h : s.Bounded) : (Machine.opRoutingChange t s).Bounded :=
  either h.route1 h

theorem rowFails {s : State} {t p : Nat} (h : s.Bounded) : (s.rowFails t p).Bounded := by
  unfold State.rowFails
  extract_lets x s0 s1 auto
  have h1 : s1.Bounded := h.setTl
  refine either h ?_
  split
  · exact h1
  · extract_lets free s2 s3
    have h2 : s2.Bounded := either h1 (either h1.setTl (either h1 h1.raise))
    have h3 : s3.Bounded := h2.watchHealth
    exact either h3.frameFault h3

theorem opRowFailure {s : State} {t : Fin 256} {row : Fin 132} {driver : Bool} (h : s.Bounded) :
    (Machine.opRowFailure t row driver s).Bounded := either (either h.tileFault h).rowFails h

theorem colFails {s : State} {t c : Nat} (h : s.Bounded) : (s.colFails t c).Bounded :=
  either h (either h.tileFault.setTl.frameFault h.tileFault.setTl)

theorem opColumnFailure {s : State} {t : Fin 256} {col : Fin 130} (h : s.Bounded) :
    (Machine.opColumnFailure t col s).Bounded := either h.colFails h

theorem opRowSubstReq {s : State} {p : Path} {t : Fin 256} {val : BitVec 32} (h : s.Bounded) :
    (Machine.opRowSubstReq p t val s).Bounded := either (either h (either h.setTl.watchHealth h.reject)) h.deny

theorem ringCfg {s : State} {p : Path} {t off lim v : Nat} (h : s.Bounded) : (s.ringCfg p t off lim v).Bounded :=
  either (either h.reject h.setReg.setTl) h.deny

theorem opAringCfgWrite {s : State} {p : Path} {t : Fin 256} {val : BitVec 32} (h : s.Bounded) :
    (Machine.opAringCfgWrite p t val s).Bounded := h.ringCfg

theorem opOringCfgWrite {s : State} {p : Path} {t : Fin 256} {val : BitVec 32} (h : s.Bounded) :
    (Machine.opOringCfgWrite p t val s).Bounded := h.ringCfg

theorem ringsBoundary {s : State} {t : Nat} (h : s.Bounded) : (s.ringsBoundary t).Bounded := either h h.setTl

theorem opTileScrubPass {s : State} {t : Fin 256} {errs : List SramErr} (h : s.Bounded) :
    (Machine.opTileScrubPass t errs s).Bounded := either (h.forL (fun _ _ ht => ht.sramErr)) h

/-! ### Sys2Proof/Machine/Stream.lean -/

theorem startBusy {s : State} {c : Nat} (h : s.Bounded) : (s.startBusy c).Bounded := h.streamFault

theorem startStream {s : State} {c desc tenant : Nat} {act env : Option (Nat × Nat)} (h : s.Bounded) :
    (s.startStream c desc tenant act env).Bounded := h.undoCtx.setCx

theorem opActionStream {s : State} (h : s.Bounded) : (Machine.opActionStream s).Bounded :=
  h.launch fun _ _ _ ht => eitherFst ht (eitherFst ht.startBusy (eitherFst ht ht.startStream))

theorem opStreamEnvStart {s : State} (h : s.Bounded) : (Machine.opStreamEnvStart s).Bounded :=
  either
    (by split; exacts [h.consume, either h.consume (either h.consume.startBusy (either h.consume
          h.consume.startStream))]) h

theorem bindUnit {s : State} {c u : Nat} {x : Ctx} {cont : Bool} (h : s.Bounded) : (s.bindUnit c u x cont).Bounded :=
  frame (either h.setReg64.setReg h.setReg64.setReg.setReg64)

theorem readDesc {s : State} {src tenant vsrc a : Nat} (h : s.Bounded) : (s.readDesc src tenant vsrc a).2.Bounded :=
  eitherSnd h (eitherSnd h.violate (eitherSnd h.gRead h.gRead))

theorem headerLook {s : State} {a : Nat} (h : s.Bounded) : (s.headerLook a).Bounded :=
  either (frame h.count) (either (frame h.count) h.count)

theorem descCheck {s : State} {c : Nat} {cont : Bool} (h : s.Bounded) : (s.descCheck c cont).Bounded := by
  unfold State.descCheck
  extract_lets x r s1
  have h1 : s1.Bounded := h.readDesc
  split
  · exact h1.streamFault
  · extract_lets x1 x2 s2 hd lost s3 x3 u chk s4 s5
    have h2 : s2.Bounded := h1.setCx
    have h3 : s3.Bounded := eitherSnd (ofSnd h2) (eitherSnd h2.headerLook.gRead (ofSnd h2.violate))
    have h4 : s4.Bounded := either h3.bindUnit h3
    have h5 : s5.Bounded := h4.setCx.count
    refine either h2.streamFault (either h3.streamFault (either h3.streamFault (either h3.streamFault ?_)))
    split
    · exact either h5.finishPart h5
    · exact h5

theorem opStreamDescCheck {s : State} {c : Fin 4096} (h : s.Bounded) : (Machine.opStreamDescCheck c s).Bounded :=
  either h.descCheck h

theorem opStreamReadIssue {s : State} {c : Fin 4096} (h : s.Bounded) : (Machine.opStreamReadIssue c s).Bounded := by
  unfold Machine.opStreamReadIssue
  refine either h ?_
  split
  · exact h
  · extract_lets x y s1 s2 look s3 _ s4
    have h2 : s2.Bounded := either h.setCx.count h.setCx
    have h3 : s3.Bounded := either (frame h2) (either (frame h2) h2)
    have h4 : s4.Bounded := either (frame h3) h3
    exact either h (either (frame h4) h4)

theorem sReads {s : State} {c g n : Nat} {dec : List Dec} (h : s.Bounded) : (s.sReads c g n dec).2.Bounded := by
  induction n generalizing s g dec with
  | zero => exact h
  | succ n ih => exact ih h.gRead.unsynced

theorem landData {s : State} {c : Nat} {r : SReq} {dec : List Dec} (h : s.Bounded) : (s.landData c r dec).2.Bounded :=
  eitherSnd h (eitherSnd (by split <;> exact h) (eitherSnd h.violate (eitherSnd h h.sReads)))

theorem ringCell {s : State} {c cell : Nat} (h : s.Bounded) : (s.ringCell c cell).Bounded :=
  either h.addCell h.violate

theorem srcFree {s : State} {c len : Nat} (h : s.Bounded) : (s.srcFree c len).Bounded :=
  either (either h.setTl.setCx h.setCx) (either (by split; exacts [h, either h.undoLink.setLnk.setCx h.setCx]) (either
    h.setCx.ringCell h))

theorem writePiece {s : State} {c tenant a : Nat} {bs : Bytes} {ms : List Bool} (h : s.Bounded) :
    (s.writePiece c tenant a bs ms).Bounded :=
  either (h.forL (fun _ _ ht => either ht.agentWrite ht)) (h.forL (fun _ _ ht => either ht.agentWrite ht)).violate

theorem toMemory {s : State} {c : Nat} {bs : Bytes} {ms : List Bool} (h : s.Bounded) : (s.toMemory c bs ms).Bounded :=
  either h.writePiece.coverCtx.setCx.setCx.ringCell h.writePiece.coverCtx.setCx

theorem toTiles {s : State} {c : Nat} {bs : Bytes} {ms : List Bool} (h : s.Bounded) : (s.toTiles c bs ms).Bounded :=
  (h.forL (fun _ _ ht => ht.setTl)).coverCtx.setCx

theorem toLink {s : State} {c : Nat} {bs : Bytes} {ms : List Bool} (h : s.Bounded) : (s.toLink c bs ms).Bounded :=
  either h.setLnk.setCx h.setCx

theorem toWeights {s : State} {c : Nat} {bs : Bytes} (h : s.Bounded) : (s.toWeights c bs).Bounded :=
  either h.coverCtx.setCx h.coverCtx.setTl.setCx

theorem landHead {s : State} {c : Nat} (h : s.Bounded) : (s.landHead c).Bounded := by
  unfold State.landHead
  split
  · exact h
  · exact h.setCx

theorem opStreamReadData {s : State} {c : Fin 4096} {dec : List Dec} (h : s.Bounded) :
    (Machine.opStreamReadData c dec s).Bounded := by
  unfold Machine.opStreamReadData
  extract_lets +onlyGivenNames x
  split
  · exact h
  · refine either h (either h.landHead ?_)
    extract_lets +onlyGivenNames _ s1 s2 q bs ms s3 o
    have h1 : s1.Bounded := by
      dsimp only [s1]
      split
      · exact either (frame h) h
      · exact h
    have h3 : s3.Bounded := h1.undoCtx.landData
    refine either h3.streamFault (either h3.streamFault ?_)
    extract_lets keep _ sh s4 _ s5 s6 s7 s8 y
    have h4 : s4.Bounded := either (frame h3) h3
    have h6 : s6.Bounded := h4.setCx.srcFree
    have h7 : s7.Bounded := either h6 h6.poisonDelivered.countN
    have h8 : s8.Bounded := either h7.toWeights (either h7.toTiles (either h7.toLink h7.toMemory))
    exact either h8 (either h8.streamDone (either h8.streamStopped h8))

theorem streamTick {s : State} {c : Nat} (h : s.Bounded) : (s.streamTick c).Bounded :=
  either h (by split; exacts [count (setCx (eitherSnd (draw h) h)), setCx h])

theorem landTick {s : State} {c : Nat} (h : s.Bounded) : (s.landTick c).Bounded := by
  unfold State.landTick
  extract_lets x
  split
  · exact h
  · exact either h (either h.draw.landHead h.draw)

theorem opStreamStop {s : State} {p : Path} (h : s.Bounded) : (Machine.opStreamStop p s).Bounded :=
  either (either (either h.setCx.streamStopped h.setCx) h.reject) h.deny

theorem opStreamClear {s : State} {p : Path} (h : s.Bounded) : (Machine.opStreamClear p s).Bounded :=
  either (either h.undoCtx.setCx h.reject) h.deny

theorem opShareFlush {s : State} {p : Path} (h : s.Bounded) : (Machine.opShareFlush p s).Bounded :=
  either (frame h) h.deny

theorem opCheckCompare {s : State} {p : Path} {u : Fin 32} (h : s.Bounded) : (Machine.opCheckCompare p u s).Bounded :=
  either (either h.unitCompare h) h.deny

theorem opCheckInit {s : State} {p : Path} {u : Fin 32} (h : s.Bounded) : (Machine.opCheckInit p u s).Bounded :=
  either (either h.reject h.undoUnit.setReg64.setReg) h.deny

theorem streamSoft {s : State} (h : s.Bounded) : s.streamSoft.Bounded :=
  frame (h.forL (fun _ _ ht => ht.undoCtx.dropFlits))

/-! ### Sys2Proof/Machine/Operands.lean -/

theorem laneWrite {s : State} {j tenant a : Nat} {bs : List (Byte × Bool)} (h : s.Bounded) :
    (s.laneWrite j tenant a bs).Bounded := h.forL (fun _ _ ht => either ht.agentWrite ht.violate)

/-! ### Sys2Proof/Machine/VsuList.lean -/

theorem setLane {s : State} {j : Nat} {x : Lane} (h : s.Bounded) : (s.setLane j x).Bounded := frame h

theorem beginList {s : State} {j : Nat} {l : VList} (h : s.Bounded) : (s.beginList j l).Bounded := h.setLane.setReg64

theorem planList {s : State} {j : Nat} {l : VList} (h : s.Bounded) : (s.planList j l).Bounded := by
  unfold State.planList
  extract_lets x
  split
  · exact h.beginList
  · exact either h.setLane (either h.beginList h.setLane.beginList.countRaise)

theorem opActionVsu {s : State} (h : s.Bounded) : (Machine.opActionVsu s).Bounded :=
  h.launch fun _ _ _ ht => ht.forL fun _ _ hu => either hu.planList hu

theorem opVsuEnvListStart {s : State} {lane : Fin 16} (h : s.Bounded) : (Machine.opVsuEnvListStart lane s).Bounded :=
  either (by split; exacts [h.consume, either h.consume.countRaise h.consume.beginList]) h

theorem fetchBlk {s : State} {l : VList} {dec : Dec} (h : s.Bounded) : (s.fetchBlk l dec).Bounded :=
  either h (either h.violate h.gRead)

theorem laneFault {s : State} {j : Nat} {l : VList} {op cause : Nat} (h : s.Bounded) :
    (s.laneFault j l op cause).Bounded := by
  unfold State.laneFault
  split
  · exact (either h h.setReg.setReg64).setLane.countRaise.faultLog.frameFault
  · exact (either h h.setReg.setReg64).setLane.countRaise.faultLog

theorem tally {s : State} {p k bit n : Nat} (h : s.Bounded) : (s.tally p k bit n).Bounded := either h h.countN.raise

theorem commitOp {s : State} {j : Nat} {l : VList} {b : VBlk} {v : VEnv} (h : s.Bounded) :
    (s.commitOp j l b v).Bounded := by
  unfold State.commitOp
  extract_lets p s1 s2 s3 s4 s5 s6 s7
  have h2 : s2.Bounded := (h.forL fun _ _ ht => ht.laneWrite).forL fun _ _ ht => ht.postEnv
  have h3 : s3.Bounded := either h2 h2.laneWrite
  have h6 : s6.Bounded := h3.count.countN.tally.tally.tally.tally.tally
  have h7 : s7.Bounded := either (either h6.addCell h6.violate) h6
  exact h7.setLane

/-! ### Sys2Proof/Machine/Operands.lean, Sys2Proof/Machine/Vsu.lean: the operations work on a copy of the state -/

end State.Bounded

section
namespace VEnv
variable (v : VEnv)

@[simp] theorem fault_s (c : Nat) : (v.fault c).s = v.s := by
  unfold fault
  split <;> rfl

@[simp] theorem need_s (ok : Bool) (c : Nat) : (v.need ok c).s = v.s := by
  unfold need
  split
  · rfl
  · exact v.fault_s c

@[simp] theorem inval_s : v.inval.s = v.s := by
  unfold inval
  split
  · split <;> rfl
  · rfl

@[simp] theorem arr_s (a n size : Nat) (far : Bool) : (v.arr a n size far).s = v.s := v.need_s _ _

@[simp] theorem types_s (b : VBlk) : (v.types b).s = v.s := v.need_s _ _

@[simp] theorem seg_s (b : VBlk) : (v.seg b).s = v.s := v.need_s _ _

@[simp] theorem hash_s (b : VBlk) : (v.hash b).s = v.s := by simp [hash]

@[simp] theorem put_s (a : Nat) (bs : List (Byte × Bool)) : (v.put a bs).s = v.s := rfl

@[simp] theorem narrows_s (t : Nat) (es : List El) : (v.narrows t es).2.s = v.s := by
  induction es generalizing v with
  | nil => rfl
  | cons e es ih =>
    unfold narrows
    extract_lets r v1 v2 p v3 q
    have h1 : v1.s = v.s := by
      dsimp only [v1]
      split <;> rfl
    have h2 : v2.s = v1.s := by
      dsimp only [v2]
      split <;> simp
    have h3 : v3.s = v2.s := by
      dsimp only [v3]
      split <;> rfl
    exact (ih v3).trans (h3.trans (h2.trans h1))

@[simp] theorem store_s (a t : Nat) (es : List El) : (v.store a t es).s = v.s := v.narrows_s t es

@[simp] theorem capped_s (b : VBlk) (t : Nat) (xs : List El) : (v.capped b t xs).s = v.s := by simp [capped]

theorem foldl_arr_s (srcs : List (Nat × Nat)) (n : Nat) :
    (srcs.foldl (fun v s => v.arr s.1 n (tySize s.2) false) v).s = v.s := by
  induction srcs generalizing v with
  | nil => rfl
  | cons s srcs ih => exact (ih _).trans (v.arr_s _ _ _ _)

end VEnv
end

namespace State.Bounded

section
variable {v : VEnv} {b : VBlk} {a n t g : Nat}

theorem gran (h : v.s.Bounded) : (v.gran g).2.s.Bounded := by
  unfold VEnv.gran
  split
  · exact h.violate
  · split
    · exact h
    · extract_lets d lost r q v1
      have h1 : v1.s.Bounded := h.gRead.unsynced
      dsimp only
      split
      · rwa [VEnv.fault_s]
      · exact h1

theorem grans (h : v.s.Bounded) : (v.grans g n).2.s.Bounded := by
  induction n generalizing v g with
  | zero => exact h
  | succ n ih => exact ih h.gran

theorem rd (h : v.s.Bounded) : (v.rd a n).2.s.Bounded := by
  unfold VEnv.rd
  split
  · exact h
  · exact h.grans

theorem load (h : v.s.Bounded) : (v.load a n t).2.s.Bounded := h.rd

theorem array (h : v.s.Bounded) : (v.array a n t).2.s.Bounded := by
  have ha : (v.arr a n (tySize t) false).s.Bounded := by rwa [VEnv.arr_s]
  exact ha.load

theorem see (h : v.s.Bounded) : (v.see a n).2.s.Bounded := by
  unfold VEnv.see
  split
  · exact h.rd
  · split
    · exact h.rd
    · exact h.rd

theorem arrays {ss : List (Nat × Nat)} (h : v.s.Bounded) : (v.arrays n ss).2.s.Bounded := by
  induction ss generalizing v with
  | nil => exact h
  | cons s ss ih => exact ih h.load

theorem ew {srcs : List (Nat × Nat)} {extra : Bool} {fn : List VNum → VNum} (h : v.s.Bounded) :
    (v.ew b srcs extra fn).s.Bounded := by
  unfold VEnv.ew
  extract_lets v1 v2 r es
  have h2 : v2.s.Bounded := by rwa [VEnv.arr_s, VEnv.foldl_arr_s]
  have hr : (r.2.store b.dst b.oty es).s.Bounded := by
    rw [VEnv.store_s]
    exact h2.arrays
  exact hr

theorem stored {es : List El} (h : v.s.Bounded) : State.Bounded { v.store a t es with count := n }.s := by
  show (v.store a t es).s.Bounded
  rwa [VEnv.store_s]

theorem segLoad (h : v.s.Bounded) : (v.segLoad b).2.s.Bounded := h.array

theorem probe {key first q fuel : Nat} {p : Bool} (h : v.s.Bounded) : (v.probe b key first q p fuel).2.2.s.Bounded := by
  induction fuel generalizing v q p with
  | zero => exact h
  | succ fuel ih =>
    unfold VEnv.probe
    extract_lets n a v1 r k p1
    have h1 : v1.s.Bounded := by rwa [VEnv.arr_s]
    have hr : r.2.s.Bounded := h1.see
    split
    · exact h1
    · split
      · exact hr
      · split
        · exact hr
        · exact ih hr

theorem foldlSnd {α β : Type} {f : β × VEnv → α → β × VEnv} {l : List α} {r : β × VEnv} (h : r.2.s.Bounded)
    (hf : ∀ a {r : β × VEnv}, r.2.s.Bounded → (f r a).2.s.Bounded) : (l.foldl f r).2.s.Bounded := by
  induction l generalizing r with
  | nil => exact h
  | cons a l ih => exact ih (hf a h)

theorem foldlEnv {α : Type} {f : VEnv → α → VEnv} {l : List α} {v : VEnv} (h : v.s.Bounded)
    (hf : ∀ a {v : VEnv}, v.s.Bounded → (f v a).s.Bounded) : (l.foldl f v).s.Bounded := by
  induction l generalizing v with
  | nil => exact h
  | cons a l ih => exact ih (hf a h)

theorem vAdd (h : v.s.Bounded) : (vAdd b v).s.Bounded := ew (by simpa using h)
theorem vMul (h : v.s.Bounded) : (vMul b v).s.Bounded := ew (by simpa using h)
theorem vFma (h : v.s.Bounded) : (vFma b v).s.Bounded := ew (by simpa using h)
theorem vConvert (h : v.s.Bounded) : (vConvert b v).s.Bounded := ew (by simpa using h)

theorem vScale (h : v.s.Bounded) : (vScale b v).s.Bounded := by
  have ht : (v.types b).s.Bounded := by simpa using h
  unfold Machine.vScale
  refine ew ?_
  split
  · exact ht.array
  · exact ht

theorem vTopk (h : v.s.Bounded) : (vTopk b v).s.Bounded := by
  unfold Machine.vTopk
  simpa using segLoad (by simpa using h)

theorem vSoftmax (h : v.s.Bounded) : (vSoftmax b v).s.Bounded := by
  unfold Machine.vSoftmax
  extract_lets v1 v2 r tau step o _
  have hr : r.2.s.Bounded := segLoad (by simpa [v1, v2] using h)
  have ho : o.2.s.Bounded := foldlSnd (r := ([], r.2)) hr fun xs acc hacc => by
    dsimp only [step]
    split
    · rwa [VEnv.inval_s]
    · exact hacc
  exact stored ho

theorem vNorm (h : v.s.Bounded) : (vNorm b v).s.Bounded := by
  unfold Machine.vNorm
  extract_lets v1 v2 r g eps len one _
  have h2 : v2.s.Bounded := by simpa [v1, v2] using h
  have hg : g.2.s.Bounded := h2.segLoad.load
  exact stored hg

theorem vRope (h : v.s.Bounded) : (vRope b v).s.Bounded := by
  unfold Machine.vRope
  extract_lets v1 v2 v3 r ps th pair one _
  have h3 : v3.s.Bounded := by simpa [v1, v2, v3] using h
  have hth : th.2.s.Bounded := h3.segLoad.load.load
  exact stored hth

theorem vSample (h : v.s.Bounded) : (vSample b v).s.Bounded := by
  unfold Machine.vSample
  extract_lets v1 v2 r step o _
  have hr : r.2.s.Bounded := segLoad (by simpa [v1, v2] using h)
  have ho : o.2.s.Bounded := foldlSnd (r := ([], r.2)) hr fun e acc hacc => by
    dsimp -zeta only [step]
    extract_lets xs cs
    split
    · rwa [VEnv.inval_s]
    · exact hacc
  exact stored ho

theorem vSegred (h : v.s.Bounded) : (vSegred b v).s.Bounded := by
  unfold Machine.vSegred
  extract_lets mode v1 byOff m v2 v3 v4 o off v5 r one es _
  have h2 : v2.s.Bounded := by simpa [v1, v2] using h
  have h4 : v4.s.Bounded := by
    dsimp only [v4, v3]
    split <;> simpa using h2
  have ho : o.2.s.Bounded := by
    dsimp only [o]
    split
    · exact h4.load
    · exact h4
  have h5 : v5.s.Bounded := by rwa [VEnv.need_s]
  exact stored h5.load

theorem vSet {f : List Nat → List Nat → List Nat} (h : v.s.Bounded) : (vSet b v f).s.Bounded := by
  unfold Machine.vSet
  extract_lets v1 v2 x y ka kb bad v3 p
  have h2 : v2.s.Bounded := by simpa [v1, v2] using h
  have hy : y.2.s.Bounded := h2.load.load
  rw [VEnv.capped_s]
  dsimp only [v3]
  split
  · rwa [VEnv.fault_s]
  · exact hy

theorem vIsect (h : v.s.Bounded) : (vIsect b v).s.Bounded := h.vSet
theorem vDiff (h : v.s.Bounded) : (vDiff b v).s.Bounded := h.vSet
theorem vUnion (h : v.s.Bounded) : (vUnion b v).s.Bounded := h.vSet

theorem vCsr (h : v.s.Bounded) : (vCsr b v).s.Bounded := by
  unfold Machine.vCsr
  extract_lets v1 v2 fr step r
  have h2 : v2.s.Bounded := by simpa [v1, v2] using h
  have hfr : fr.2.s.Bounded := h2.load
  have hstep e (acc : List El × Bool × VEnv) (hacc : acc.2.2.s.Bounded) : (step acc e).2.2.s.Bounded := by
    dsimp -zeta only [step]
    extract_lets v3 k v4 o lo hi v5 c
    split
    · split
      · rwa [VEnv.fault_s]
      · exact hacc
    · have h4 : v4.s.Bounded := by rwa [VEnv.arr_s]
      have h5 : v5.s.Bounded := by rw [VEnv.arr_s]; exact h4.load
      split
      · exact h5
      · exact h5.load
  have hr : r.2.2.s.Bounded :=
    List.foldlRecOn (motive := fun acc => acc.2.2.s.Bounded) fr.1 step (b := ([], false, fr.2)) hfr
      fun acc hacc e _ => hstep e acc hacc
  rwa [VEnv.capped_s]

theorem vHprobe (h : v.s.Bounded) : (vHprobe b v).s.Bounded := by
  unfold Machine.vHprobe
  extract_lets v1 v2 ks step o _
  have hk : ks.2.s.Bounded := load (by simpa [v1, v2] using h)
  have hstep (acc : List El × VEnv) (hacc : acc.2.s.Bounded) (e : El) : (step acc e).2.s.Bounded := by
    dsimp only [step]
    split
    · exact hacc.probe.rd
    · exact hacc.probe
  have ho : o.2.s.Bounded := by
    dsimp only [o]
    split
    · exact foldlSnd (r := ([], ks.2)) hk fun e acc hacc => hstep acc hacc e
    · exact hk
  exact stored ho

theorem vStats (h : v.s.Bounded) : (vStats b v).s.Bounded := by
  unfold Machine.vStats
  extract_lets v1 r m _
  have hr : r.2.s.Bounded := load (by simpa [v1] using h)
  exact stored hr

theorem vGather (h : v.s.Bounded) : (vGather b v).s.Bounded := by
  unfold Machine.vGather
  extract_lets v1 v2 xs step o _
  have hx : xs.2.s.Bounded := load (by simpa [v1, v2] using h)
  have ho : o.2.s.Bounded := foldlSnd (r := ([], xs.2)) hx fun e acc hacc => by
    dsimp only [step]
    split
    · exact hacc
    · split
      · split
        · rwa [VEnv.fault_s]
        · exact hacc
      · exact load (by rwa [VEnv.arr_s])
  exact stored ho

theorem vHinsert (h : v.s.Bounded) : (vHinsert b v).s.Bounded := by
  unfold Machine.vHinsert
  extract_lets mode v1 v2 ks vs w step
  have hv : vs.2.s.Bounded := load (load (by simpa [v1, v2] using h))
  have hw {a x p} {u : VEnv} (hu : u.s.Bounded) : (w a x p u).s.Bounded := hu
  clear_value w
  have hstep (e : El × El) {v : VEnv} (hv : v.s.Bounded) : (step v e).s.Bounded := by
    dsimp -zeta only [step]
    extract_lets k r v3 v4
    have h3 : v3.s.Bounded := hv.probe
    have h4 : v4.s.Bounded := h3
    clear_value v4 v3 r
    split
    · exact hv
    · split
      · rwa [VEnv.inval_s]
      · split
        · split
          · exact h4
          · split
            · exact hw h4
            · exact hw h4.see
        · exact hw h3
        · split <;> exact h3
  split
  · exact foldlEnv hv hstep
  · exact hv

theorem vScatterAdd (h : v.s.Bounded) : (vScatterAdd b v).s.Bounded := by
  unfold Machine.vScatterAdd
  extract_lets v1 v2 xs as t step
  have ha : as.2.s.Bounded := load (load (by simpa [v1, v2] using h))
  refine foldlEnv ha fun e v hv => ?_
  dsimp -zeta only [step]
  extract_lets i a v3 r old sum n p _ v4 v5 v6
  have h3 : v3.s.Bounded := by rwa [VEnv.arr_s]
  have hr : r.2.s.Bounded := h3.see
  have h4 : v4.s.Bounded := by
    dsimp only [v4]
    split <;> exact hr
  have h5 : v5.s.Bounded := by
    dsimp only [v5]
    split
    · rwa [VEnv.inval_s]
    · exact h4
  have h6 : v6.s.Bounded := by
    dsimp only [v6]
    split <;> exact h5
  split
  · exact hv
  · split
    · exact hv
    · split
      · split
        · rwa [VEnv.fault_s]
        · exact hv
      · split
        · exact h3
        · exact h6

theorem vQuant (h : v.s.Bounded) : (vQuant b v).s.Bounded := by
  unfold Machine.vQuant
  extract_lets pc p uns v1 v2 v3 m r zp top lim m0 ex all cs nan _ v4 v5 one recs head np v6 _
  have h3 : v3.s.Bounded := by simpa [v1, v2, v3] using h
  have h4 : v4.s.Bounded := h3.load.load
  have h5 : v5.s.Bounded := by
    dsimp only [v5]
    split
    · exact h4
    · split
      · rwa [VEnv.inval_s]
      · exact h4
  exact stored h5

theorem vPost (h : v.s.Bounded) : (vPost b v).s.Bounded := by
  unfold Machine.vPost
  extract_lets w v1 v2 t xs qs tp step
  have hq : qs.2.s.Bounded := load (load (rd (by simpa [v1, v2] using h)))
  have hstep (v : VEnv) (hv : v.s.Bounded) (e : El × El) : (step v e).s.Bounded := by
    dsimp only [step]
    split
    · split
      · rwa [VEnv.fault_s]
      · exact hv
    · exact hv
  split
  · exact foldlEnv hq fun e v hv => hstep v hv e
  · exact hq

end

/-! ### Sys2Proof/Machine/VsuList.lean, the list operations -/

theorem vsuRow {s : State} {op : Nat} {sem : VBlk → VEnv → VEnv} {j : Nat} {bad : List Nat} (h : s.Bounded)
    (hsem : ∀ {b : VBlk} {v : VEnv}, v.s.Bounded → (sem b v).s.Bounded) : (s.vsuRow op sem j bad).Bounded := by
  unfold State.vsuRow
  extract_lets p
  split
  · exact h
  · rename_i l _
    split
    · exact h
    · split
      · exact h
      · extract_lets s1 v1 v2 v3 v4
        have h1 : s1.Bounded := h.setReg.fetchBlk
        have h3 : v3.s.Bounded := by simpa [v3, v2, v1] using h1
        have h4 : v4.s.Bounded := hsem h3
        clear_value v4 s1
        split
        · exact h
        · split
          · exact h
          · split
            · exact h4.tally.laneFault
            · exact h4.commitOp

theorem nextList {s : State} {j : Nat} (h : s.Bounded) : (s.nextList j).Bounded := by
  unfold State.nextList
  extract_lets x
  split
  · exact h.setLane.beginList
  · split
    · exact h.setLane.beginList
    · exact h.setLane

theorem endList {s : State} {j : Nat} {l : VList} (h : s.Bounded) : (s.endList j l).Bounded :=
  nextList (by split; exacts [finishPart h, h])

theorem opVsuListComplete {s : State} {lane : Fin 16} (h : s.Bounded) :
    (Machine.opVsuListComplete lane s).Bounded := by
  unfold Machine.opVsuListComplete
  extract_lets j
  split
  · exact h
  · refine either h (either h.endList (either h.laneFault.endList ?_))
    split
    · exact h.fetchBlk.laneFault.endList
    · exact either h h.fetchBlk.laneFault.endList

theorem laneSoft {s : State} {j : Nat} (h : s.Bounded) : (s.laneSoft j).Bounded := h.setLane

theorem laneTick {s : State} {j : Nat} (h : s.Bounded) : (s.laneTick j).Bounded := either h.count h

/-! ### Sys2Proof/Machine/Cal.lean -/

theorem colStep {s : State} {t : Nat} {o : Option ColRun} (h : s.Bounded) : (s.colStep t o).Bounded := by
  unfold State.colStep
  split
  · exact h
  · exact either h.setTl (either h.setTl h.setTl)

theorem opCalOffsetMeasure {s : State} {t : Fin 256} {sum : Int} (h : s.Bounded) :
    (Machine.opCalOffsetMeasure t sum s).Bounded := either h.colStep h

theorem opCalGainMeasure {s : State} {t : Fin 256} {sum : Int} (h : s.Bounded) :
    (Machine.opCalGainMeasure t sum s).Bounded := either h.colStep h

theorem opCalDelayTrim {s : State} {t : Fin 256} {resp : List Samples} (h : s.Bounded) :
    (Machine.opCalDelayTrim t resp s).Bounded := either h.colStep h

theorem opLockinWindowEnd {s : State} {t : Fin 256} {raw : List (List (BitVec 10))} {lit : List Nat} (h : s.Bounded) :
    (Machine.opLockinWindowEnd t raw lit s).Bounded := either h.colStep h

theorem opCalDriveTable {s : State} {t : Fin 256} {m : TabSweep} (h : s.Bounded) :
    (Machine.opCalDriveTable t m s).Bounded :=
  either (by split; exacts [either h.errIn h.errIn.colStep, h.errIn.colStep]) h

theorem forceVals {s : State} {t : Nat} {vs : List (Nat × Int)} {n : Nat} (h : s.Bounded) :
    (s.forceVals t vs n).Bounded := h.setTl

theorem promote {s : State} {t : Nat} (h : s.Bounded) : (s.promote t).Bounded := by
  unfold State.promote
  extract_lets x
  split
  · exact h.forceVals.setTl
  · exact h.setTl

theorem retire {s : State} {t c : Nat} (h : s.Bounded) : (s.retire t c).Bounded := either h h.setTl.raise

theorem failover {s : State} {t c : Nat} (h : s.Bounded) : (s.failover t c).Bounded :=
  either h.retire.promote.setTl (either h.retire.setTl
    (by split; exacts [h.retire, either h.retire.setTl.promote.setTl (either
          (by split; exacts [h.setTl, either h h.retire.setTl]) h.retire.setTl)]))

theorem substAt {s : State} {t : Nat} {e : Nat × Bool} (h : s.Bounded) : (s.substAt t e).Bounded :=
  either h (either h.setTl h.raise)

theorem substRows {s : State} {t : Nat} (h : s.Bounded) : (s.substRows t).Bounded :=
  h.setTl.forL (fun _ _ ht => ht.substAt)

theorem swap {s : State} {t : Nat} (h : s.Bounded) : (s.swap t).Bounded := h.promote.setTl.count

theorem exchange {s : State} {t : Nat} (h : s.Bounded) : (s.exchange t).Bounded := h.promote.setTl

theorem acquired {s : State} {t : Nat} {vals : List (Nat × Int)} {cols : List Nat} (h : s.Bounded) :
    (s.acquired t vals cols).Bounded := (h.forceVals.setTl.forL (fun _ _ ht => ht.retire)).setTl

theorem rotStop {s : State} {t : Nat} (h : s.Bounded) : (s.rotStop t).Bounded := h.setTl.watchHealth

theorem tileZoneFault {s : State} {t : Nat} (h : s.Bounded) : (s.tileZoneFault t).Bounded := h.rotStop.setTl

theorem tileLeaves {s : State} {t : Nat} (h : s.Bounded) : (s.tileLeaves t).Bounded := h.rotStop.setTl

theorem satWarn {s : State} {t : Nat} (h : s.Bounded) : (s.satWarn t).Bounded := (either h.raise h).setTl

theorem newU {s : State} {t : Nat} {u : Tbl Int} (h : s.Bounded) : (s.newU t u).Bounded := either h.setTl h.setTl

theorem bringU {s : State} {t : Nat} {u : Tbl Int} (h : s.Bounded) : (s.bringU t u).Bounded := either h.setTl h.newU

theorem uBoundary {s : State} {t : Nat} (h : s.Bounded) : (s.uBoundary t).Bounded := by
  unfold State.uBoundary
  split
  · exact h.newU
  · exact h

theorem commitT {s : State} {t : Nat} (h : s.Bounded) : (s.commitT t).Bounded := h.setTl

theorem writeImage {s : State} {t : Nat} (h : s.Bounded) : (s.writeImage t).Bounded := (frame h).engWrite.setTl

theorem writeDue {s : State} {t : Nat} (h : s.Bounded) : (s.writeDue t).Bounded := either h.writeImage h

theorem tileRestore {s : State} {t : Nat} (h : s.Bounded) : (s.tileRestore t).Bounded :=
  either h (by split; exacts [h.setTl, either h (either h.setTl.watchHealth h.setTl)])

theorem rolesBoundary {s : State} {t : Nat} (h : s.Bounded) : (s.rolesBoundary t).Bounded := by
  unfold State.rolesBoundary
  extract_lets x
  split
  · exact h.acquired
  · exact either h (either h.swap (either h.promote.setTl (either h.exchange (either h.setTl (either h.setTl h)))))

theorem failBoundary {s : State} {t : Nat} (h : s.Bounded) : (s.failBoundary t).Bounded :=
  either h (either (h.forL (fun _ _ ht => ht.failover)).setTl.frameFault (h.forL (fun _ _ ht => ht.failover)).setTl)

theorem tileBoundary {s : State} {t : Nat} (h : s.Bounded) : (s.tileBoundary t).Bounded := by
  unfold State.tileBoundary
  extract_lets s0 s1 noRun s2 r s3 failed s4 s5 x s6 s7
  have h1 : s1.Bounded := h.uBoundary
  have h2 : s2.Bounded := h1.satWarn.ringsBoundary.tileRestore
  have h3 : s3.Bounded := either h2.draw.verdict h2
  have h4 : s4.Bounded := h3.failBoundary.substRows
  have h5 : s5.Bounded := either h4 h4.rolesBoundary
  have h6 : s6.Bounded := either h5.setTl h5
  have h7 : s7.Bounded := either h6.route1 h6
  exact either h1 h7.watchHealth

theorem opAcquisitionPassStart {s : State} {t : Fin 256} (h : s.Bounded) :
    (Machine.opAcquisitionPassStart t s).Bounded := either (frame h.tileRestore.setTl).watchHealth h.tileRestore

theorem opAcquisitionPassDone {s : State} {t : Fin 256} {cols : List ColMeas} {wins : List (List LockWin)}
    {tabs : List (List Sweep)} (h : s.Bounded) :
    (Machine.opAcquisitionPassDone t cols wins tabs s).Bounded := either (by split; exacts [h, h.setTl]) h

theorem tileSoft {s : State} {t : Nat} (h : s.Bounded) : (s.tileSoft t).Bounded := h.setTl

/-! ### Sys2Proof/Machine/Loop.lean -/

theorem setZn {s : State} {z : Nat} {x : Zone} (h : s.Bounded) : (s.setZn z x).Bounded := frame h

theorem testPeriod {s : State} (h : s.Bounded) : s.testPeriod.Bounded :=
  either (frame h) (either (either (either (frame h) (frame h)) (frame h)) h)

theorem capStat {s : State} {active done refused : Bool} {n : Nat} (h : s.Bounded) :
    (s.capStat active done refused n).Bounded := h.setReg

theorem capEnd {s : State} (h : s.Bounded) : s.capEnd.Bounded := either (frame h).capStat.raise h

theorem capSample {s : State} {z u : Nat} {y : Option Nat} {x : List Nat} {inj : Nat} {clamp : Bool} (h : s.Bounded) :
    (s.capSample z u y x inj clamp).Bounded :=
  either (either (frame h) (either (frame h.engWrite).capStat.capEnd (frame h.engWrite).capStat)) h

theorem zoneCmd {s : State} {cmd z : Nat} (h : s.Bounded) : (s.zoneCmd cmd z).2.Bounded := by
  unfold State.zoneCmd
  split
  · exact eitherSnd h.setZn.watchHealth h.raise
  · exact h.setZn.watchHealth
  · exact h.setZn.watchHealth
  · exact eitherSnd h.setZn h
  · exact eitherSnd h.setZn h
  · exact h

theorem zoneCmds {s : State} {cmd : Nat} {zs : List Nat} (h : s.Bounded) : (State.zoneCmds cmd zs s).2.Bounded := by
  induction zs generalizing s with
  | nil => exact h
  | cons z zs ih => exact ih h.zoneCmd

theorem runZoneCmd {s : State} (h : s.Bounded) : s.runZoneCmd.Bounded := by
  unfold State.runZoneCmd
  split
  · exact h
  · extract_lets _ r
    have hr : r.2.Bounded := zoneCmds (frame h)
    split
    · exact hr.setReg
    · exact hr.setReg

theorem zoneCmdWrite {s : State} {p : Path} {cmd z : Nat} {all : Bool} (h : s.Bounded) :
    (s.zoneCmdWrite p cmd z all).Bounded := either (either h (frame h.setReg)) h.deny

theorem opZoneLoad {s : State} {p : Path} {z : Fin 1024} {all : Bool} (h : s.Bounded) :
    (Machine.opZoneLoad p z all s).Bounded := h.zoneCmdWrite

theorem opZoneEnable {s : State} {p : Path} {z : Fin 1024} {all : Bool} (h : s.Bounded) :
    (Machine.opZoneEnable p z all s).Bounded := h.zoneCmdWrite

theorem opZoneDisable {s : State} {p : Path} {z : Fin 1024} {all : Bool} (h : s.Bounded) :
    (Machine.opZoneDisable p z all s).Bounded := h.zoneCmdWrite

theorem opZoneClear {s : State} {p : Path} {z : Fin 1024} {all : Bool} (h : s.Bounded) :
    (Machine.opZoneClear p z all s).Bounded := h.zoneCmdWrite

theorem opZoneReinit {s : State} {p : Path} {z : Fin 1024} {all : Bool} (h : s.Bounded) :
    (Machine.opZoneReinit p z all s).Bounded := h.zoneCmdWrite

theorem opZoneUpdate {s : State} {z : Fin 1024} {q0 q1 : List (BitVec 12)} (h : s.Bounded) :
    (Machine.opZoneUpdate z q0 q1 s).Bounded := by
  unfold Machine.opZoneUpdate
  extract_lets s1 x x' y s2 w _ _ s3 inj r s4 s5 cfg
  have h1 : s1.Bounded := h.runZoneCmd
  have h2 : s2.Bounded := either h1.count h1
  have h3 : s3.Bounded := either (frame h2.countRaise) h2
  have h4 : s4.Bounded := either h3.count h3
  exact either h4.capSample.setZn h1.setZn

theorem zoneFaults {s : State} {z cause : Nat} (h : s.Bounded) : (s.zoneFaults z cause).Bounded :=
  either h.setZn.countRaise.faultLog.tileZoneFault.watchHealth.frameFault
    h.setZn.countRaise.faultLog.tileZoneFault.watchHealth

theorem zoneWarm {s : State} {z : Nat} (h : s.Bounded) : (s.zoneWarm z).Bounded := h.setZn

theorem outerStep {s : State} {t : Nat} (h : s.Bounded) : (s.outerStep t).Bounded :=
  (either h.count h).forN (fun _ _ ht => ht.setZn)

theorem zoneOff {s : State} {z : Nat} (h : s.Bounded) : (s.zoneOff z).Bounded := h.setZn.watchHealth

theorem zonePeriod {s : State} {z : Nat} (h : s.Bounded) : (s.zonePeriod z).Bounded := by
  unfold State.zonePeriod
  extract_lets x slow _ x1 late s1 x2 x3 s2
  have h2 : s2.Bounded := (either h.countRaise h).setZn
  exact either h2.zoneFaults (either h2.zoneOff (either h2.zoneOff (either h2.setZn (either h2.setZn.raise
    (either h2.zoneWarm h2.setZn)))))

theorem relight {s : State} (h : s.Bounded) : s.relight.Bounded :=
  h.forN (fun _ _ ht => either (either (frame ht.draw) ht.draw) ht)

theorem opLoopPeriodStart {s : State} (h : s.Bounded) : (Machine.opLoopPeriodStart s).Bounded := by
  unfold Machine.opLoopPeriodStart
  split
  · exact h
  · extract_lets old s0 z s1 s2 s3 s4 s5 _ s6 s7 was s8 cfg t9 _ s9 s10
    have h2 : s2.Bounded := (either h h.capSample).relight
    have h3 : s3.Bounded := either (h2.forL fun _ _ ht => ht.outerStep) h2
    have h5 : s5.Bounded := h3.runZoneCmd.forL fun _ _ ht => ht.zonePeriod
    clear_value s5
    have h6 : s6.Bounded := frame h5
    have h8 : s8.Bounded := (h6.forL fun _ _ ht => ht.setZn).testPeriod
    clear_value s8
    have ht9 : t9.Bounded := h8.capStat
    clear_value t9
    have h9 : s9.Bounded := either (frame ht9) h8
    have h10 : s10.Bounded := either h9.capEnd h9
    exact either h10.count h10

theorem opStageShort {s : State} {z : Fin 1024} {col : Option (Fin 130)} (h : s.Bounded) :
    (Machine.opStageShort z col s).Bounded := by
  unfold Machine.opStageShort
  split
  · exact either h (frame h).countRaise.colFails
  · exact either h h.countRaise.setZn

theorem opTestCfgWrite {s : State} {p : Path} {val : BitVec 32} (h : s.Bounded) :
    (Machine.opTestCfgWrite p val s).Bounded := either (frame h.setReg) h.deny

theorem opCapArm {s : State} {p : Path} (h : s.Bounded) : (Machine.opCapArm p s).Bounded :=
  either (either (frame h.capStat) h.capStat) h.deny

theorem opCapStop {s : State} {p : Path} (h : s.Bounded) : (Machine.opCapStop p s).Bounded := either h.capEnd h.deny

theorem loopSoft {s : State} (h : s.Bounded) : s.loopSoft.Bounded :=
  (frame (either (h.forL (fun _ _ ht => ht.setZn.zoneOff)).setReg (h.forL (fun _ _ ht => ht.setZn.zoneOff)))).capEnd

/-! ### Sys2Proof/Machine/Power.lean -/

theorem setDom {s : State} {d v : Nat} (h : s.Bounded) : (s.setDom d v).Bounded := frame h

theorem a1Follow {s : State} (h : s.Bounded) : s.a1Follow.Bounded := h.forN (fun _ _ ht => either ht.setDom ht)

theorem votesChanged {s : State} {s0 : State} (h : s.Bounded) : (State.votesChanged s0 s).Bounded :=
  h.a1Follow.forN (fun _ _ ht => either (either ht.draw.setDom.countRaise ht.draw) ht)

theorem opVoteWrite {s : State} {p : Path} {client : Fin 4} {word : Fin 3} {val : BitVec 32} (h : s.Bounded) :
    (Machine.opVoteWrite p client word val s).Bounded := either h.deny (either h.reject h.setReg.votesChanged)

theorem mgmtVotes {s : State} {ds : List Nat} (h : s.Bounded) : (s.mgmtVotes ds).Bounded :=
  (h.forL (fun _ _ ht => ht.setReg)).votesChanged

theorem allDoms {s : State} {v : Nat} (h : s.Bounded) : (s.allDoms v).Bounded := frame h

theorem warmReset {s : State} (h : s.Bounded) : s.warmReset.Bounded :=
  (frame (frame h.count.aonOnly)).allDoms.forN (fun _ _ ht => ht.setDom)

theorem railsOff {s : State} (h : s.Bounded) : s.railsOff.Bounded := frame h.aonOnly.allDoms

theorem opWarmReset {s : State} {p : Path} {val : BitVec 32} (h : s.Bounded) :
    (Machine.opWarmReset p val s).Bounded := either h.deny (either h.warmReset h.countRaise)

theorem opPowerOn {s : State} (h : s.Bounded) : (Machine.opPowerOn s).Bounded :=
  either h (frame (h.forN (fun _ _ ht => ht.forN (fun _ _ h2 => h2.setReg)))).allDoms

theorem wakeEdge {s : State} {bit link : Nat} (h : s.Bounded) : (s.wakeEdge bit link).Bounded :=
  either (either h.mgmtVotes.warmReset h) (either (either (frame (eitherSnd h.draw h).setReg) (eitherSnd h.draw h))
    (either (eitherSnd h.draw h).setReg (eitherSnd h.draw h)).mgmtVotes)

theorem mgmtWake {s : State} (h : s.Bounded) : s.mgmtWake.Bounded := h.wakeEdge

theorem opPcieWakeEvent {s : State} (h : s.Bounded) : (Machine.opPcieWakeEvent s).Bounded := either h.wakeEdge h

theorem replayWakes {s : State} (h : s.Bounded) : s.replayWakes.Bounded := by
  unfold State.replayWakes
  extract_lets go s1
  have hgo (bit : Nat) {t : State} (ht : t.Bounded) : (go bit t).Bounded := either ht.countRaise.setReg.mgmtVotes ht
  have h1 : s1.Bounded := hgo 3 (hgo 2 (hgo 1 h))
  exact frame h1

theorem opDomainEntry {s : State} {d : Dom} (h : s.Bounded) : (Machine.opDomainEntry d s).Bounded :=
  either (by split; exacts [h.setDom.forN (fun _ _ ht => ht.tileLeaves.setTl.writeDue), h.setDom]) h

theorem tileOff {s : State} {t : Nat} (h : s.Bounded) : (s.tileOff t).Bounded := h.setTl

theorem hubOff {s : State} (h : s.Bounded) : s.hubOff.Bounded := frame h.aonOnly

theorem tierStandby {s : State} {first n : Nat} (h : s.Bounded) : (s.tierStandby first n).Bounded :=
  h.forN (fun _ _ ht => either ht.setCtl ht)

theorem opDomainEntryComplete {s : State} {d : Dom} (h : s.Bounded) : (Machine.opDomainEntryComplete d s).Bounded :=
  either (replayWakes (countRaise (setDom
    (by split; exacts [forN h (fun _ _ ht => tileOff ht), forN h (fun _ _ ht => linkOff ht), tierStandby h,
          tierStandby h, hubOff h])))) h

theorem startTraining {s : State} (h : s.Bounded) : s.startTraining.Bounded :=
  either (h.forN (fun _ _ ht => either ht.setCtl ht)) h

theorem opDomainWake {s : State} {d : Dom} (h : s.Bounded) : (Machine.opDomainWake d s).Bounded :=
  either (either (either h.draw.setDom.setDom.countRaise h.draw) h.setDom) h

theorem tileBack {s : State} {t : Nat} (h : s.Bounded) : (s.tileBack t).Bounded := either h.setTl h.tileRestore

theorem tierBack {s : State} {first n : Nat} (h : s.Bounded) : (s.tierBack first n).Bounded :=
  h.forN (fun _ _ ht => either ht.setCtl (either (frame ht).setCtl ht))

theorem opDomainWakeComplete {s : State} {d : Dom} (h : s.Bounded) : (Machine.opDomainWakeComplete d s).Bounded := by
  unfold Machine.opDomainWakeComplete
  split
  · split
    · exact either (h.setDom.forN (fun _ _ ht => ht.tileBack)).countRaise h
    · exact either (h.setDom.tierBack.startTraining.forN (fun _ _ ht => ht.writeDue)).flushWaits.queueWake.countRaise
          h
    · exact either h.setDom.tierBack.startTraining.flushWaits.queueWake.countRaise h
    · exact either (h.setDom.forN (fun _ _ ht => ht.tileBack)).countRaise h
  · split
    · exact either (h.setDom.forN (fun _ _ ht => ht.tileBack)).countRaise h
    · exact either (h.setDom.tierBack.startTraining.forN (fun _ _ ht => ht.writeDue)).flushWaits.queueWake.countRaise
          h
    · exact either h.setDom.tierBack.startTraining.flushWaits.queueWake.countRaise h
    · exact either h.setDom.countRaise h

theorem opFullLaserPowerRestored {s : State} {g : Fin 32} (h : s.Bounded) :
    (Machine.opFullLaserPowerRestored g s).Bounded := either h.setDom h

theorem opA3Cmd {s : State} {p : Path} {val : BitVec 32} (h : s.Bounded) : (Machine.opA3Cmd p val s).Bounded :=
  either h.deny (either h (either h.railsOff h.reject))

theorem opVinFault {s : State} (h : s.Bounded) : (Machine.opVinFault s).Bounded := frame h.setReg.railsOff

theorem opAuxLoss {s : State} {vbat : Bool} : (Machine.opAuxLoss vbat s).Bounded :=
  allDoms reset

theorem startAdjust {s : State} {c : Nat} (h : s.Bounded) : (s.startAdjust c).Bounded := frame h

theorem holdVmax {s : State} (h : s.Bounded) : s.holdVmax.Bounded := either h.startAdjust h

theorem goVset {s : State} {c : Nat} (h : s.Bounded) : (s.goVset c).Bounded := either h h.startAdjust

theorem adjusted {s : State} (h : s.Bounded) : s.adjusted.Bounded := by
  unfold State.adjusted
  split
  · exact (frame h).goVset.holdVmax
  · exact h.holdVmax

theorem opVcoreWriteAck {s : State} {bus : BusLine} {ack : Bool} (h : s.Bounded) :
    (Machine.opVcoreWriteAck bus ack s).Bounded := by
  unfold Machine.opVcoreWriteAck
  extract_lets s1 r s2
  have h1 : s1.Bounded := by
    dsimp only [s1]
    split
    · exact h.setReg
    · exact h.count.setReg
    · exact h.countRaise.setReg
  have h2 : s2.Bounded := h1.draw.setReg
  exact either (either (frame h2) (either (frame h2) (adjusted (countRaise (frame h2))))) h

theorem opVcoreSettle {s : State} (h : s.Bounded) : (Machine.opVcoreSettle s).Bounded :=
  either (either (frame h).raise (frame h)).adjusted h

theorem opVsetWrite {s : State} {p : Path} {val : BitVec 32} (h : s.Bounded) :
    (Machine.opVsetWrite p val s).Bounded := either (either (either (frame h.setReg) h.setReg.goVset) h.setReg) h.deny

theorem thermalAlarm {s : State} (h : s.Bounded) : s.thermalAlarm.Bounded := h.countRaise.wakeEdge

theorem setLevel {s : State} (h : s.Bounded) : s.setLevel.Bounded := frame h

theorem judgeInlet {s : State} {above : Bool} (h : s.Bounded) : (s.judgeInlet above).Bounded :=
  (either (frame (either (frame (either h.raise h)).thermalAlarm (frame (either h.raise h)))).holdVmax (either (frame
    (either h.raise h)).thermalAlarm (frame (either h.raise h)))).setLevel

theorem judgeThermal {s : State} (h : s.Bounded) : s.judgeThermal.Bounded := by
  unfold State.judgeThermal
  extract_lets l1 hyst tAlarm tThr tWarn vmin vmax warn s1 v1 s2 _ _ _ _ s3 was al _ s4 s5 _ s6
  have h1 : s1.Bounded := either h.raise h
  have h2 : s2.Bounded := either h1.count h1
  have h3 : s3.Bounded := either (either (frame h2) (countRaise (frame h1))) (either (frame h1) h1)
  have h4 : s4.Bounded := frame h3
  have h5 : s5.Bounded := either h4.thermalAlarm h4
  have h6 : s6.Bounded := either (frame h5) h5
  exact either h.setReg.railsOff h6.setLevel.holdVmax

theorem opAonInletCheck {s : State} {above : Bool} (h : s.Bounded) : (Machine.opAonInletCheck above s).Bounded :=
  either h.judgeInlet h

theorem govDecide {s : State} (h : s.Bounded) : s.govDecide.Bounded := by
  unfold State.govDecide
  extract_lets r vmin top c s1 s2 s3 s4 _ s5
  have h2 : s2.Bounded := either h.count.countRaise h.count
  have h3 : s3.Bounded := either h2.raise h2
  have h4 : s4.Bounded := either h3.count (either h3.count h3)
  have h5 : s5.Bounded := frame h4
  exact either h5 h5.startAdjust

theorem opGovernorDecision {s : State} (h : s.Bounded) : (Machine.opGovernorDecision s).Bounded :=
  either (either (frame h).judgeThermal (frame h).judgeThermal.govDecide) h

/-! ### Sys2Proof/Machine/Time.lean -/

theorem applyOsc {s : State} (h : s.Bounded) : s.applyOsc.Bounded := either (frame h) h

theorem applyCfg {s : State} (h : s.Bounded) : s.applyCfg.Bounded := frame h

theorem applyPlan {s : State} (h : s.Bounded) : s.applyPlan.Bounded := frame h

theorem realign {s : State} (h : s.Bounded) : s.realign.Bounded := frame h

theorem applyAlign {s : State} (h : s.Bounded) : s.applyAlign.Bounded := either h (frame h).realign

theorem tryStart {s : State} (h : s.Bounded) : s.tryStart.Bounded := either (either h.reject (frame h)) h

theorem opPllLock {s : State} (h : s.Bounded) : (Machine.opPllLock s).Bounded :=
  either h (frame h).startTraining.tryStart

theorem opPllUnlock {s : State} (h : s.Bounded) : (Machine.opPllUnlock s).Bounded := either (frame h).raise.faultLog h

theorem opRefclkLost {s : State} (h : s.Bounded) : (Machine.opRefclkLost s).Bounded :=
  either (either (frame (frame h).countRaise) (frame (frame h).countRaise).frameFault) h

theorem opRefclkReturn {s : State} (h : s.Bounded) : (Machine.opRefclkReturn s).Bounded :=
  either h (frame h).raise.tryStart

theorem opHoldoverExpire {s : State} (h : s.Bounded) : (Machine.opHoldoverExpire s).Bounded := either (frame h) h

theorem toResync {s : State} (h : s.Bounded) : s.toResync.Bounded := frame (frame h.countRaise.discardFrom).realign

theorem slip {s : State} (h : s.Bounded) : s.slip.Bounded :=
  either (either (frame h.countRaise).frameFault.toResync (frame h.countRaise)) (frame h.countRaise).realign

theorem judgeRef {s : State} {e : Int} (h : s.Bounded) : (s.judgeRef e).Bounded :=
  either (frame (frame h)) (frame h).slip

theorem dropFrame {s : State} {f : Nat} (h : s.Bounded) : (s.dropFrame f).Bounded := frame h

theorem skipRecs {s : State} (h : s.Bounded) : s.skipRecs.Bounded := h.countN

theorem setPhase {s : State} {f : Nat} {t : Int} (h : s.Bounded) : (s.setPhase f t).Bounded :=
  frame (either h h.skipRecs.dropFrame)

theorem refEvent {s : State} {f : Nat} {e : Int} (h : s.Bounded) : (s.refEvent f e).Bounded :=
  either h (either h (frame h)).judgeRef

theorem opMarkerRx {s : State} {l : Fin 36} {g : BitVec 64} {late : BitVec 16} (h : s.Bounded) :
    (Machine.opMarkerRx l g late s).Bounded :=
  either (either h.setLnk (either (either h.setLnk.setPhase h.setLnk.refEvent) (either h.setLnk.countRaise h.setLnk)))
    h

theorem opFrameSyncPulse {s : State} (h : s.Bounded) : (Machine.opFrameSyncPulse s).Bounded := by
  unfold Machine.opFrameSyncPulse
  refine either (either ?_ h.refEvent) h
  extract_lets o
  split
  · exact h.setPhase
  · exact h.setPhase

theorem opReferenceEventMissing {s : State} (h : s.Bounded) : (Machine.opReferenceEventMissing s).Bounded :=
  either (frame h).slip h

theorem opSlewJudge {s : State} (h : s.Bounded) : (Machine.opSlewJudge s).Bounded :=
  either (either (frame h) (frame h).count) h

theorem opFrameEnable {s : State} {p : Path} (h : s.Bounded) : (Machine.opFrameEnable p s).Bounded :=
  either (either h h.setReg.tryStart) h.deny

theorem opFrameCfgWrite {s : State} {p : Path} {val : BitVec 32} (h : s.Bounded) :
    (Machine.opFrameCfgWrite p val s).Bounded := either (either (either h.setReg.applyCfg h.setReg) h.reject) h.deny

theorem armSwitch {s : State} {f : Nat} (h : s.Bounded) : (s.armSwitch f).Bounded :=
  either h.setReg64.applyPlan.raise (either (frame h.setReg64) h.setReg64.reject)

theorem opPlanSwitchArm {s : State} {p : Path} {val : BitVec 32} (h : s.Bounded) :
    (Machine.opPlanSwitchArm p val s).Bounded := either (frame h).armSwitch h.deny

/-! ### Sys2Proof/Machine/Soft.lean -/

theorem softRow {s : State} {p : Nat} {r : RegRow} (h : s.Bounded) : (s.softRow p r).Bounded :=
  h.forN (fun _ _ ht => ht.setReg)

theorem clearRecords {s : State} {p cleared : Nat} (h : s.Bounded) : (s.clearRecords p cleared).Bounded := by
  unfold State.clearRecords
  split
  · exact either h.setReg.setReg64 h
  · exact either h.setReg64.setReg h
  · exact either h.setReg64.setReg h
  · exact either h.setReg64.setReg h
  · exact either h.setReg.setReg.setReg64 h
  · exact either h.setReg h
  · exact h

theorem softFields {s : State} {p : Nat} (h : s.Bounded) : (s.softFields p).Bounded :=
  frame (h.forL (fun _ _ ht => ht.softRow)).clearRecords

theorem softEvents {s : State} {p : Nat} (h : s.Bounded) : (s.softEvents p).Bounded := frame h

theorem softLink {s : State} {l : Nat} (h : s.Bounded) : (s.softLink l).Bounded :=
  (either (frame (either h h.setReg)) (either h h.setReg)).linkOff

theorem softMem {s : State} {k : Nat} (h : s.Bounded) : (s.softMem k).Bounded := h.setReg.setReg.setReg.setCtl

theorem softMgmt {s : State} {b : Blk} (h : s.Bounded) : (s.softMgmt b).Bounded := by
  unfold State.softMgmt
  split
  · exact h.forN (fun _ _ ht => either ht ht.setLnk)
  · exact frame h
  · exact frame h
  · exact frame h
  · exact sameTables h
  · exact h

theorem softPage {s : State} {p : Nat} (h : s.Bounded) : (s.softPage p).Bounded := by
  unfold State.softPage
  extract_lets +onlyGivenNames s1
  have h1 : s1.Bounded := frame h
  have hf : (s1.softFields p).Bounded := h1.softFields
  split
  · exact hf
  · exact either hf.setReg hf
  · exact hf.applyOsc
  · exact frame hf
  · exact frame hf
  · exact frame h1
  · exact hf.votesChanged
  · exact h1.softEvents.softMgmt
  · exact h1.softEvents.softMgmt
  · exact h1.softEvents.softMgmt
  · exact h1.softEvents.softMgmt
  · exact h1.softEvents.softMgmt
  · obtain ⟨hc, hs, -⟩ := h1
    exact ⟨hc, hs, .nil _, .nil _⟩
  · exact frame hf
  · exact frame hf
  · exact hf.loopSoft
  · exact h1.setReg
  · exact hf.laneSoft
  · exact hf.streamSoft
  · exact hf.queueSoft
  · exact hf.tileSoft
  · exact hf.softLink
  · exact hf.softMem
  · exact hf.softMem

theorem softBoundary {s : State} (h : s.Bounded) : s.softBoundary.Bounded :=
  h.forL fun _ _ ht => either ht.softPage ht

theorem opSoftReset {s : State} {p : Path} {page : Fin 382} (h : s.Bounded) :
    (Machine.opSoftReset p page s).Bounded := either (frame h) h.deny

theorem opSoftResetComplete {s : State} {page : Fin 382} (h : s.Bounded) :
    (Machine.opSoftResetComplete page s).Bounded := by
  unfold Machine.opSoftResetComplete
  have ht {p} : (s.softPage p).Bounded := h.softPage
  exact either h (either (either (either (frame ht.applyCfg.applyAlign.applyPlan) ht) h) (either h ht))

/-! ### Sys2Proof/Machine/CalStore.lean -/

theorem flashWrite {s : State} {a : Nat} {bs : Bytes} (h : s.Bounded) : (s.flashWrite a bs).Bounded := by
  induction bs generalizing s a with
  | nil => exact h
  | cons b bs ih => exact ih (frame h)

theorem flashErase {s : State} {a n : Nat} (h : s.Bounded) : (s.flashErase a n).Bounded := frame h

theorem goodRecs {s : State} {rs : List (CsRec × Bool)} (h : s.Bounded) : (s.goodRecs rs).2.Bounded :=
  (either h h.countN.raise).countN

theorem laneChanged {s : State} {l : Nat} {x : LinkS} (h : s.Bounded) : (s.laneChanged l x).Bounded := h.setLnk

theorem applyU {s : State} {rs : List CsRec} (h : s.Bounded) : (s.applyU rs).Bounded :=
  frame ((h.forN (fun _ _ ht => ht.bringU)).forN (fun _ _ ht => either ht.setLnk ht.laneChanged))

theorem selectBank {s : State} (h : s.Bounded) : s.selectBank.Bounded := by
  unfold State.selectBank
  extract_lets a b pick _ s1 _
  clear_value pick
  have h1 : s1.Bounded := frame h
  split
  · exact applyU (raise (frame h1))
  · exact applyU (frame h1.goodRecs)

theorem csRefuse {s : State} {why : Nat} (h : s.Bounded) : (s.csRefuse why).Bounded := (frame h).raise

theorem csCmd {s : State} {p : Path} {go : State → State} (h : s.Bounded)
    (hgo : ∀ {t : State}, t.Bounded → (go t).Bounded) :
    (s.csCmd p go).Bounded := either h.deny (either h (either h.csRefuse (hgo h)))

theorem csErase {s : State} (h : s.Bounded) : s.csErase.Bounded := either (frame h.flashErase) h

theorem csBegin {s : State} {recs : Option (List CsRec)} {load : Bool} {q : Seq} (h : s.Bounded) :
    (s.csBegin recs load q).Bounded := csErase (sameTables h)

theorem opCsCommit {s : State} {p : Path} (h : s.Bounded) : (Machine.opCsCommit p s).Bounded :=
  h.csCmd fun ht => ht.csBegin

theorem staged {s : State} (h : s.Bounded) : s.staged.2.Bounded := eitherSnd h h.engRead

theorem csLoadNow {s : State} (h : s.Bounded) : s.csLoadNow.Bounded := by
  unfold State.csLoadNow
  extract_lets r
  split
  · exact either h.staged.csBegin h.staged.csRefuse
  · exact h.staged.csRefuse

theorem csImportNow {s : State} (h : s.Bounded) : s.csImportNow.Bounded := by
  unfold State.csImportNow
  extract_lets r
  split
  · exact h.staged.count.csBegin
  · exact h.staged.csRefuse

theorem csStage {s : State} {imp : Bool} (h : s.Bounded) : (s.csStage imp).Bounded :=
  either (either h.csImportNow h.csLoadNow) (frame h)

theorem csRetry {s : State} (h : s.Bounded) : s.csRetry.Bounded := by
  unfold State.csRetry
  split
  · exact h
  · exact either (frame h).csStage h

theorem opCsLoad {s : State} {p : Path} (h : s.Bounded) : (Machine.opCsLoad p s).Bounded :=
  h.csCmd fun ht => ht.csStage

theorem opCsImport {s : State} {p : Path} (h : s.Bounded) : (Machine.opCsImport p s).Bounded :=
  h.csCmd fun ht => ht.csStage

theorem csBoundary {s : State} (h : s.Bounded) : s.csBoundary.Bounded := by
  unfold State.csBoundary
  generalize 256 = n
  extract_lets s1
  have h1 : s1.Bounded := h.forN fun _ _ ht => ht.commitT
  exact either (csErase (sameTables h1)) h

theorem csFail {s : State} {why : Nat} (h : s.Bounded) : (s.csFail why).Bounded := countRaise (sameTables h)

theorem opBankWriteDone {s : State} {outcome : BankOutcome} (h : s.Bounded) :
    (Machine.opBankWriteDone outcome s).Bounded := by
  unfold Machine.opBankWriteDone
  split
  · exact h
  · exact either h
        (by split; exacts [csFail h, csFail h, either (applyU (countRaise (sameTables (flashWrite (flashWrite
              (flashErase h)))))) (countRaise (sameTables (flashWrite (flashWrite (flashErase h)))))])

theorem opLaneInterpolate {s : State} {l : Fin 36} (h : s.Bounded) : (Machine.opLaneInterpolate l s).Bounded :=
  either h h.setLnk

theorem laneBoundary {s : State} (h : s.Bounded) : s.laneBoundary.Bounded :=
  h.forN (fun _ _ ht => either ht ht.laneChanged.count)

theorem opFwErase {s : State} {p : Path} {slot : Bool} (h : s.Bounded) : (Machine.opFwErase p slot s).Bounded :=
  either h.deny (either h.reject (frame h.flashErase))

theorem opFwData {s : State} {p : Path} {val : BitVec 32} (h : s.Bounded) : (Machine.opFwData p val s).Bounded :=
  either h.deny (either h.reject
    (by split; exacts [h.reject, either (frame h) (either (frame h) (frame h.flashWrite))]))

theorem opFwFinish {s : State} {p : Path} {slot : Bool} (h : s.Bounded) : (Machine.opFwFinish p slot s).Bounded :=
  either h.deny (either (frame h.flashWrite) h.reject)

theorem opStartupCalLoad {s : State} (h : s.Bounded) : (Machine.opStartupCalLoad s).Bounded := by
  unfold Machine.opStartupCalLoad
  -- the loops' lengths do not matter, and the kernel must not unfold them
  generalize 1024 = n, 256 = m, 36 = k, 64 = i
  split
  · extract_lets s1 s2 bad s3 s4 mem _ s5 r s6 s7 s8 _
    have h2 : s2.Bounded := (h.forN fun _ _ ht => ht.setTl).forN fun _ _ ht => ht.setLnk
    have h4 : s4.Bounded := (either h2 h2.countN.raise).selectBank
    have h5 : s5.Bounded := frame h4
    have hr : r.2.Bounded := h5.zoneCmds
    have h6 : s6.Bounded := by
      dsimp only [s6]
      split
      · exact hr.setReg
      · exact hr.setReg
    have h8 : s8.Bounded := h6.zoneCmds.setReg
    clear_value s8
    exact frame h8
  · exact h

/-! ### Sys2Proof/Machine/Boundary.lean -/

theorem applyWins {s : State} (h : s.Bounded) : s.applyWins.Bounded := frame h

theorem applyLog {s : State} (h : s.Bounded) : s.applyLog.Bounded := frame h

theorem govFrame {s : State} (h : s.Bounded) : s.govFrame.Bounded := frame h

theorem closeFrame {s : State} (h : s.Bounded) : s.closeFrame.Bounded :=
  frame (either (h.forL (fun _ _ ht => ht.overrunAct)) (h.forL (fun _ _ ht =>
    ht.overrunAct)).skipRecs).setReg.govFrame

theorem turn {s : State} {n : Nat} (h : s.Bounded) : (s.turn n).Bounded := frame h

theorem commitFrame {s : State} {p : Nat} (h : s.Bounded) : (s.commitFrame p).Bounded := (frame h).count.freeEntries

theorem commits {s : State} {f : Nat} (h : s.Bounded) : (s.commits f).Bounded :=
  h.forN (fun _ _ ht => either (frame ht) ht.commitFrame)

theorem openRecord {s : State} (h : s.Bounded) : s.openRecord.Bounded :=
  either (either (frame h).regPut.regPeak.count h.countRaise.log.frameFault) h

theorem reenter {s : State} (h : s.Bounded) : s.reenter.Bounded := by
  unfold State.reenter
  extract_lets s1 v src l same
  have h1 : s1.Bounded := h.applyCfg
  split
  · exact either (frame h1) (either h1.setReg.reject (raise (frame h1)))
  · exact either h1 (either (frame h1) (frame h1))
  · exact either h1.applyAlign (either (raise (frame h1)) h1)

theorem startFrame {s : State} {ended reentry : Bool} (h : s.Bounded) : (s.startFrame ended reentry).Bounded := by
  unfold State.startFrame
  extract_lets n s1 s2 s3 dl s4 s5 s6 gv
  have h2 : s2.Bounded := h.count.linkBoundary.laneBoundary.csBoundary
  have h3 : s3.Bounded := (h2.forL fun _ _ ht => ht.tileBoundary).a1Follow
  have h4 : s4.Bounded := either h3.opDlWindowEnd.dlClose h3
  have h5 : s5.Bounded := h4.openRecord.queueBoundary.admitBoundary
  have h6 : s6.Bounded := either h5.planFetch h5
  exact frame h6

theorem applyBoundary {s : State} (h : s.Bounded) : s.applyBoundary.Bounded :=
  applyLog (by split; exacts [either (raise (applyPlan (applyWins h))) (applyWins h), applyWins h])

theorem haltNow {s : State} (h : s.Bounded) : s.haltNow.Bounded := by
  unfold State.haltNow
  extract_lets s1 s2 _ _ _ _ _ s3 s4 _ s5 s6 s7 s8
  have h2 : s2.Bounded := discardFrom (either h.regHalt h)
  have h3 : s3.Bounded := frame h2
  have h4 : s4.Bounded := either h3.softPage h3
  have h5 : s5.Bounded := frame h4
  have h7 : s7.Bounded := h5.applyCfg.applyAlign.applyPlan.applyOsc.applyBoundary.laneBoundary.csBoundary
  have h8 : s8.Bounded := (h7.forL fun _ _ ht => ht.tileBoundary).a1Follow
  exact h8.queueBoundary

theorem plainBoundary {s : State} {f : Nat} (h : s.Bounded) : (s.plainBoundary f).Bounded := by
  unfold State.plainBoundary
  extract_lets vetoed _ s1 s2 re s3
  have h1 : s1.Bounded := frame h
  have h2 : s2.Bounded := either (commits (either h1.discardFrame h1)) h1.dropFrame
  have h3 : s3.Bounded := either h2.reenter h2
  exact h3.applyBoundary.startFrame

theorem restoreBoundary {s : State} {f : Nat} {v : Veto} (h : s.Bounded) : (s.restoreBoundary f v).Bounded := by
  unfold State.restoreBoundary
  -- the number of links does not matter, and the kernel must not unfold the loop
  generalize 36 = links
  extract_lets lim made lag s1 n _ _
  split
  · exact h.regHalt.haltNow
  · extract_lets s2 s3 s4 s5 s6
    have h2 : s2.Bounded := frame h.discardFrame
    have h4 : s4.Bounded := h2.applyBoundary.count.forN fun _ _ ht => either ht.setLnk ht
    have h6 : s6.Bounded := (h4.linkBoundary.laneBoundary.csBoundary.forL fun _ _ ht => ht.tileBoundary).a1Follow
    exact either h.regHalt.haltNow (queueBoundary (frame h6))

theorem opFrameBoundary {s : State} (h : s.Bounded) : (Machine.opFrameBoundary s).Bounded := by
  unfold Machine.opFrameBoundary
  split
  · exact h
  · split
    · exact either (either h.softBoundary.haltNow (either (frame h.softBoundary).reenter (frame
          h.softBoundary)).applyBoundary.startFrame) h
    · exact either (either h.closeFrame.softBoundary.turn.haltNow
          (by split; exacts [h.closeFrame.softBoundary.turn.restoreBoundary,
                h.closeFrame.softBoundary.turn.plainBoundary])) h

theorem unstage {s : State} {w : Staged} (h : s.Bounded) : (s.unstage w).2.Bounded :=
  eitherSnd h (eitherSnd h.sramFixed h.draw.sramLost)

theorem opCommitGranuleApply {s : State} (h : s.Bounded) : (Machine.opCommitGranuleApply s).Bounded := by
  unfold Machine.opCommitGranuleApply
  split
  · exact h
  · exact either (frame h).unstage.gWrite.barRelease.tryAdmit h

theorem applyUndo {s : State} {u : Undo} (h : s.Bounded) : (State.applyUndo u s).Bounded := by
  unfold State.applyUndo
  split
  · exact h.setQd
  · exact (frame h).judgeCell
  · exact either h.setCx h.setCx
  · exact either h.setLnk (either h.setLnk h.setLnk)
  · exact h.setReg64
  · exact h.gWrite
  · exact h

theorem restartCtx {s : State} {backs : List (Nat × Nat)} {c : Nat} (h : s.Bounded) :
    (s.restartCtx backs c).Bounded :=
  either (either (frame (either (frame h.setCx) h.setCx)).judgeCell (either (frame h.setCx) h.setCx))
    h.setCx.unbindCtx

theorem restampFrom {s : State} {q g : Nat} (h : s.Bounded) : (s.restampFrom q g).Bounded :=
  either (h.forN (fun _ _ ht => either ht.gRead.gWrite ht.gRead)) h

theorem abandon {s : State} {g : Nat} (h : s.Bounded) : (s.abandon g).Bounded :=
  (frame h).forN (fun _ _ ht => ht.setLnk)

theorem opRestore {s : State} (h : s.Bounded) : (Machine.opRestore s).Bounded := by
  unfold Machine.opRestore
  extract_lets g us s1 s2 r s3 s4 adm tiles _ s5 s6
  have h2 : s2.Bounded := (h.abandon.forL fun _ _ ht => ht.applyUndo).countN
  have h3 : s3.Bounded := h2.forL fun _ _ ht => ht.setQd
  have h4 : s4.Bounded := h3.forL fun _ _ ht => ht.restampFrom
  have h5 : s5.Bounded := frame h4
  have h6 : s6.Bounded := h5.forL fun _ _ ht => ht.restartCtx
  exact either (frame h6) h

theorem opRestoreComplete {s : State} (h : s.Bounded) : (Machine.opRestoreComplete s).Bounded := by
  unfold Machine.opRestoreComplete
  refine either ?_ h
  extract_lets g
  split
  · exact h
  · extract_lets again s1 s2
    have h1 : s1.Bounded := frame h
    exact h1.countRaise.log

theorem opRestoreLate {s : State} (h : s.Bounded) : (Machine.opRestoreLate s).Bounded := either (frame h.regHalt) h

/-! ### Sys2Proof/Machine/Secure.lean -/

theorem startSlot {s : State} {b : Bool} {v : Nat × Nat × Nat} (h : s.Bounded) : (s.startSlot b v).Bounded :=
  startTraining (setReg (sameTables h))

theorem opBootVerify {s : State} (h : s.Bounded) : (Machine.opBootVerify s).Bounded := by
  unfold Machine.opBootVerify
  extract_lets a b _ s1 _
  clear_value a b
  have h1 : s1.Bounded := sameTables h
  refine either ?_ h
  split
  · exact either h1.startSlot h1.startSlot
  · exact h1.startSlot
  · exact h1.startSlot
  · exact frame h1

theorem opBootLock {s : State} {core : Bool} (h : s.Bounded) : (Machine.opBootLock core s).Bounded :=
  either (raise (sameTables h)) (violate h)

theorem setSpdm {s : State} {tr : Tr} {x : Spdm} (h : s.Bounded) : (s.setSpdm tr x).Bounded := by
  unfold State.setSpdm
  exact by split <;> exact sameTables h

theorem mctpSend {s : State} {ty : Nat} {body : Bytes} (h : s.Bounded) : (s.mctpSend ty body).Bounded :=
  (frame h).count.answer

theorem spdmAnswer {s : State} {tr : Tr} {body : Bytes} (h : s.Bounded) : (s.spdmAnswer tr body).Bounded := by
  unfold State.spdmAnswer
  split
  · exact h.answer
  · exact h.count.mctpSend

theorem spdmError {s : State} {tr : Tr} {why : Nat} (h : s.Bounded) : (s.spdmError tr why).Bounded := h.spdmAnswer

theorem spdmStep {s : State} {tr : Tr} {ok : Bool} {go : State → State} (h : s.Bounded)
    (hgo : ∀ {t : State}, t.Bounded → (go t).Bounded) :
    (s.spdmStep tr ok go).Bounded := either h (either (hgo h) h.spdmError)

theorem opGetVersion {s : State} {tr : Tr} (h : s.Bounded) : (Machine.opGetVersion tr s).Bounded :=
  h.spdmStep fun ht => ht.setSpdm.spdmAnswer

theorem opGetCapabilities {s : State} {tr : Tr} (h : s.Bounded) : (Machine.opGetCapabilities tr s).Bounded :=
  h.spdmStep fun ht => ht.setSpdm.spdmAnswer

theorem opNegotiateAlgorithms {s : State} {tr : Tr} {offers : Bool} (h : s.Bounded) :
    (Machine.opNegotiateAlgorithms tr offers s).Bounded := h.spdmStep fun ht => ht.setSpdm.spdmAnswer

theorem opGetDigests {s : State} {tr : Tr} (h : s.Bounded) : (Machine.opGetDigests tr s).Bounded :=
  h.spdmStep fun ht => ht.spdmAnswer

theorem opGetCertificate {s : State} {tr : Tr} {slot : BitVec 4} (h : s.Bounded) :
    (Machine.opGetCertificate tr slot s).Bounded := h.spdmStep fun ht => ht.spdmAnswer

theorem opChallenge {s : State} {tr : Tr} {slot : BitVec 4} {nonce : List (BitVec 8)} (h : s.Bounded) :
    (Machine.opChallenge tr slot nonce s).Bounded := h.spdmStep fun ht => ht.spdmAnswer

theorem opGetMeasurements {s : State} {tr : Tr} {index : BitVec 8} (h : s.Bounded) :
    (Machine.opGetMeasurements tr index s).Bounded := h.spdmStep fun ht => ht.spdmAnswer

theorem opKeyExchange {s : State} {tr : Tr} {pub : List (BitVec 8)} (h : s.Bounded) :
    (Machine.opKeyExchange tr pub s).Bounded := h.spdmStep fun ht => ht.setSpdm.spdmAnswer

theorem opFinish {s : State} {tr : Tr} {sid : BitVec 3} {ok : Bool} (h : s.Bounded) :
    (Machine.opFinish tr sid ok s).Bounded := h.spdmStep fun ht => either ht.setSpdm.spdmAnswer ht.setSpdm.spdmError

theorem opKeyUpdate {s : State} {tr : Tr} {sid : BitVec 3} (h : s.Bounded) : (Machine.opKeyUpdate tr sid s).Bounded :=
  h.spdmStep fun ht => ht.spdmAnswer

theorem opEndSession {s : State} {tr : Tr} {sid : BitVec 3} (h : s.Bounded) :
    (Machine.opEndSession tr sid s).Bounded := h.spdmStep fun ht => ht.setSpdm.spdmAnswer

theorem opDoeDiscovery {s : State} {index : BitVec 8} (h : s.Bounded) : (Machine.opDoeDiscovery index s).Bounded :=
  either h.answer h

theorem opIdeKmMessage {s : State} {m : IdeKm} (h : s.Bounded) : (Machine.opIdeKmMessage m s).Bounded :=
  either (by split; exacts [(frame h).answer, either (frame h).answer h.answer, either (frame h).answer h.answer]) h

theorem dbgResult {s : State} {dp : Nat} {res why : Nat} (h : s.Bounded) : (s.dbgResult dp res why).Bounded :=
  sameTables h

theorem dbgRefuse {s : State} {dp : DPath} {why : Nat} (h : s.Bounded) : (s.dbgRefuse dp why).Bounded :=
  h.dbgResult.raise

theorem dbgCmd {s : State} {go : State → State} (h : s.Bounded) (hgo : ∀ {t : State}, t.Bounded → (go t).Bounded) :
    (s.dbgCmd go).Bounded := either (hgo h) h

theorem opGenChallenge {s : State} {dp : DPath} (h : s.Bounded) : (Machine.opGenChallenge dp s).Bounded :=
  dbgCmd h fun ht => dbgResult (sameTables (draw ht))

theorem opUnlock {s : State} {dp : DPath} {level : BitVec 2} (h : s.Bounded) :
    (Machine.opUnlock dp level s).Bounded := by
  refine h.dbgCmd fun {t} ht => ?_
  extract_lets why _ t1 _ lv t2
  clear_value why
  have h1 : t1.Bounded := sameTables ht
  have h2 : t2.Bounded := sameTables h1
  split
  · exact count (dbgRefuse (sameTables h1))
  · exact h2.dbgResult.countRaise

theorem opRelock {s : State} {dp : DPath} (h : s.Bounded) : (Machine.opRelock dp s).Bounded :=
  dbgCmd h fun ht => either (dbgResult (sameTables ht)) (dbgResult (sameTables ht))

theorem opNonceExpire {s : State} (h : s.Bounded) : (Machine.opNonceExpire s).Bounded := sameTables h

theorem opDebugHalt {s : State} {dp : DPath} (h : s.Bounded) : (Machine.opDebugHalt dp s).Bounded :=
  dbgCmd h fun ht => either (dbgRefuse ht) (either (dbgResult ht) (either (dbgResult ht) (dbgResult (sameTables ht))))

theorem opHaltDone {s : State} (h : s.Bounded) : (Machine.opHaltDone s).Bounded :=
  either (raise (dbgResult (sameTables h))) h

theorem opForcedHalt {s : State} (h : s.Bounded) : (Machine.opForcedHalt s).Bounded :=
  either (countRaise (dbgResult (either (sameTables (sameTables h)) (csFail (sameTables h))))) h

theorem opResume {s : State} {dp : DPath} (h : s.Bounded) : (Machine.opResume dp s).Bounded :=
  dbgCmd h fun ht => either (dbgRefuse ht) (either (dbgRefuse ht) (dbgResult (csErase (either (dbgResult (sameTables
    ht)) (sameTables ht)))))

theorem tap {s : State} {i : Nat} (h : s.Bounded) : (s.tap i).Bounded := sameTables h

theorem opBypass {s : State} (h : s.Bounded) : (Machine.opBypass s).Bounded := h.tap

theorem opIdcode {s : State} (h : s.Bounded) : (Machine.opIdcode s).Bounded := h.tap.answer

theorem opSamplePreload {s : State} {cells : List Bool} (h : s.Bounded) :
    (Machine.opSamplePreload cells s).Bounded := by
  have h2 : (s.tap 2).Bounded := h.tap
  exact either (answer (sameTables h2)) h.tap

theorem opExtest {s : State} (h : s.Bounded) : (Machine.opExtest s).Bounded := either (sameTables h) h.tap

theorem opJtagReset {s : State} (h : s.Bounded) : (Machine.opJtagReset s).Bounded := h.tap

/-! ### Sys2Proof/Machine/HkAdc.lean -/

theorem judgeAlarm {s : State} (h : s.Bounded) : s.judgeAlarm.Bounded :=
  either (either (frame h).countRaise.wakeEdge (frame h).countRaise) h

theorem opCalendarSecond {s : State} {counts : BitVec 16} (h : s.Bounded) :
    (Machine.opCalendarSecond counts s).Bounded :=
  either h (by split; exacts [(frame h).countRaise.judgeAlarm, either (frame h).judgeAlarm (frame h)])

theorem opTimeWrite {s : State} {p : Path} {val : BitVec 64} (h : s.Bounded) :
    (Machine.opTimeWrite p val s).Bounded := either (frame h) h.deny

theorem opAlarmWrite {s : State} {p : Path} {val : BitVec 64} (h : s.Bounded) :
    (Machine.opAlarmWrite p val s).Bounded := either (frame h.setReg64) h.deny

theorem opVbatCheck {s : State} {low : Bool} (h : s.Bounded) : (Machine.opVbatCheck low s).Bounded :=
  either (frame h).raise (frame h)

theorem roundInlet {s : State} {code : Nat} (h : s.Bounded) : (s.roundInlet code).Bounded := by
  unfold State.roundInlet
  split
  · exact h.countRaise
  · exact (frame h).judgeInlet

theorem roundPower {s : State} {u i : Nat} (h : s.Bounded) : (s.roundPower u i).Bounded :=
  either (frame h.setReg).raise (frame h.setReg)

theorem roundRows {s : State} {taps : List TapRead} (h : s.Bounded) : (s.roundRows taps).Bounded :=
  h.forN (fun _ _ ht => either ht ht.setTl)

theorem opSlowRoundEnd {s : State} {codes : List (BitVec 24)} {taps : List TapRead} (h : s.Bounded) :
    (Machine.opSlowRoundEnd codes taps s).Bounded := either (frame h).count.roundPower.roundInlet.roundRows h

theorem opTrigger {s : State} (h : s.Bounded) : (Machine.opTrigger s).Bounded :=
  either (either h.countRaise (frame h)) h

theorem opTrigConversionDone {s : State} {code : BitVec 24} (h : s.Bounded) :
    (Machine.opTrigConversionDone code s).Bounded := by
  unfold Machine.opTrigConversionDone
  split
  · exact (frame h).setReg.setReg64.countRaise
  · exact h

theorem calCmd {s : State} {p : Path} {go : State → State} (h : s.Bounded)
    (hgo : ∀ {t : State}, t.Bounded → (go t).Bounded) :
    (s.calCmd p go).Bounded := either (either h (either h.raise (hgo h))) h.deny

theorem opCalZero {s : State} {p : Path} (h : s.Bounded) : (Machine.opCalZero p s).Bounded :=
  h.calCmd fun ht => frame ht

theorem opCalZeroDone {s : State} {sum : Int} (h : s.Bounded) : (Machine.opCalZeroDone sum s).Bounded :=
  either (frame h) h

theorem opCalFull {s : State} {p : Path} (h : s.Bounded) : (Machine.opCalFull p s).Bounded :=
  h.calCmd fun ht => either ht.raise (frame ht)

theorem opCalFullDone {s : State} {sum : Int} (h : s.Bounded) : (Machine.opCalFullDone sum s).Bounded :=
  either (either (frame (frame h)).raise (frame h).raise) h

theorem setLcmd {s : State} {v : Nat} (h : s.Bounded) : (s.setLcmd v).Bounded := h.setCell.forget

theorem opLoaderCopy {s : State} (h : s.Bounded) : (Machine.opLoaderCopy s).Bounded :=
  either (either h.setLcmd (frame h)) h

theorem copyGrans {s : State} {src dst n : Nat} {dec : List Dec} (h : s.Bounded) :
    (s.copyGrans src dst n dec).Bounded := by
  induction n generalizing s src dst dec with
  | zero => exact h
  | succ n ih => exact ih h.gRead.gWrite

theorem copyTick {s : State} (h : s.Bounded) : s.copyTick.Bounded := by
  unfold State.copyTick
  split
  · exact h
  · exact either (frame h.draw.copyGrans) h

theorem opLoaderCopyDone {s : State} {dec : List Dec} (h : s.Bounded) : (Machine.opLoaderCopyDone dec s).Bounded := by
  unfold Machine.opLoaderCopyDone
  split
  · exact h
  · exact either (frame h.copyGrans).setLcmd h

/-! ### Sys2Proof/Machine/RegWrite.lean -/

theorem mapWrite {s : State} {p : Path} {go : State → State} (h : s.Bounded)
    (hgo : ∀ {t : State}, t.Bounded → (go t).Bounded) :
    (s.mapWrite p go).Bounded := either h.violate (hgo h)

theorem rwlWrite {s : State} {p : Path} {go : State → State} (h : s.Bounded)
    (hgo : ∀ {t : State}, t.Bounded → (go t).Bounded) :
    (s.rwlWrite p go).Bounded := either h.violate (hgo h)

theorem putReg {s : State} {p : Path} {pg off v : Nat} (h : s.Bounded) : (s.putReg p pg off v).Bounded := by
  unfold State.putReg
  split
  · exact h
  · exact either (h.rwlWrite fun ht => ht.setReg) (either h.setReg h)

theorem setSel {s : State} {p : Path} {pg off v m : Nat} (h : s.Bounded) : (s.setSel p pg off v m).Bounded := frame h

theorem rawClear {s : State} {p v hw : Nat} (h : s.Bounded) : (s.rawClear p v hw).Bounded :=
  h.clearRecords.setRaw.rewrite

theorem evEnWrite {s : State} {p v : Nat} (h : s.Bounded) : (s.evEnWrite p v).Bounded := (frame h).rewrite

theorem rawForce {s : State} {p v : Nat} (h : s.Bounded) : (s.rawForce p v).Bounded := h.setRaw

theorem cntCtrl {s : State} {p v : Nat} (h : s.Bounded) : (s.cntCtrl p v).Bounded :=
  either (either h.cntSnapAll h).cntClearAll (either h.cntSnapAll h)

theorem enWrite {s : State} {p : Nat} {on : Bool} (h : s.Bounded) : (s.enWrite p on).Bounded := by
  unfold State.enWrite
  split
  · exact either h.setReg.setReg h.setReg
  · exact either h.setReg.tryStart h.setReg
  · exact either h.setReg.flushWaits.queueWake h.setReg
  · exact either h.setReg.flushWaits.queueWake h.setReg
  · exact h.setReg

theorem ctrlWrite {s : State} {p v : Nat} (h : s.Bounded) : (s.ctrlWrite p v).Bounded :=
  either (frame h.enWrite) h.enWrite

theorem hdrWrite {s : State} {p off v : Nat} (h : s.Bounded) : (s.hdrWrite p off v).Bounded :=
  either h.ctrlWrite (either h.rawClear (either h.evEnWrite (either h.rawForce (either h.cntCtrl h))))

theorem loopWrite {s : State} {p : Path} {off v : Nat} (h : s.Bounded) : (s.loopWrite p off v).Bounded :=
  either (either h.zoneCmdWrite h) (either h.opTestCfgWrite (either (either (either h.opCapStop h).opCapArm (either
    h.opCapStop h)) h.putReg))

theorem streamWrite {s : State} {p : Path} {off v : Nat} (h : s.Bounded) : (s.streamWrite p off v).Bounded :=
  either (either h.putReg.opShareFlush h.putReg) (either (either h (either h.opStreamStop (either h.opStreamClear
    h.raise))) h.putReg)

theorem checkWrite {s : State} {p : Path} {u off v : Nat} (h : s.Bounded) : (s.checkWrite p u off v).Bounded :=
  either (either h.reject h.putReg) (either (either (either h.opCheckCompare h).opCheckInit (either h.opCheckCompare
    h)) h.putReg)

theorem frameWrite {s : State} {p : Path} {off v : Nat} (h : s.Bounded) : (s.frameWrite p off v).Bounded :=
  either h.opFrameCfgWrite (either (either h.reject (either h.setReg.applyAlign h.setReg)) (either (either h.reject
    (either h.setReg.applyPlan h.setReg)) h.putReg))

theorem govWrite {s : State} {p : Path} {off v : Nat} (h : s.Bounded) : (s.govWrite p off v).Bounded :=
  either (h.rwlWrite fun ht => either ht (either (frame ht.setReg).startAdjust (frame ht.setReg).holdVmax)) (either
    h.opVsetWrite h.putReg)

theorem linkCmdWrite {s : State} {p : Path} {l v : Nat} (h : s.Bounded) : (s.linkCmdWrite p l v).Bounded := by
  unfold State.linkCmdWrite
  refine either h ?_
  split
  · exact h.opLinkUp
  · exact h.opLinkDown
  · exact h.opLinkDoze
  · exact h.opLinkWake
  · exact either h.opLinkSubst (h.linkCmd fun ht => ht)
  · exact h.linkCmd fun ht => ht

theorem linkWrite {s : State} {p : Path} {l off v : Nat} (h : s.Bounded) : (s.linkWrite p l off v).Bounded :=
  either (either h.reject h.setReg) (either h.linkCmdWrite (either (either h.reject h.setReg) (either (either
    h.opMapFreeze h) (either (either h (either h.reject (frame h))) h.putReg))))

theorem memCfgWrite {s : State} {p : Path} {k off v : Nat} (h : s.Bounded) : (s.memCfgWrite p k off v).Bounded :=
  either h.putReg h.putReg

theorem hostWrite {s : State} {p : Path} {off v : Nat} (h : s.Bounded) : (s.hostWrite p off v).Bounded :=
  either (either h.reject h.putReg) h.putReg

theorem powerWrite {s : State} {p : Path} {off v : Nat} (h : s.Bounded) : (s.powerWrite p off v).Bounded :=
  either (either h.opVoteWrite h) (either h.setReg (either h.setReg (either (either h.putReg h.reject) (either
    (h.rwlWrite fun ht => either ht.setReg ht.reject) (either h.opA3Cmd h.putReg)))))

theorem regWrite {s : State} {p : Path} {off v : Nat} (h : s.Bounded) : (s.regWrite p off v).Bounded :=
  either (either h.setReg h.reject) (either (either h.reject h.setReg) (either (either h.reject (either
    h.setReg.applyLog h.setReg)) h.putReg))

theorem tagWrite {s : State} {g v : Nat} (h : s.Bounded) : (s.tagWrite g v).Bounded := sameTables h

theorem winWrite {s : State} {p : Path} {go : PWin → PWin} (h : s.Bounded) : (s.winWrite p go).Bounded :=
  h.mapWrite fun ht => sameTables ht

theorem protWrite {s : State} {p : Path} {off v : Nat} (h : s.Bounded) : (s.protWrite p off v).Bounded := by
  unfold State.protWrite
  split
  · exact either h.violate (either h.opBootLock h)
  · exact either (h.mapWrite fun ht => ht.setReg) (either h.winWrite (either h.winWrite (either (h.mapWrite fun ht =>
        ht.tagWrite) (either (h.mapWrite fun ht => either (sameTables ht) ht) h.putReg))))

theorem dbgWrite {s : State} {p : Path} {off v : Nat} (h : s.Bounded) : (s.dbgWrite p off v).Bounded := by
  unfold State.dbgWrite
  split
  · exact h
  · exact either (either h
        (by split; exacts [h.opGenChallenge, h.opUnlock, h.opRelock, h.opDebugHalt, h.opResume, h.dbgCmd fun ht =>
              ht.dbgRefuse])) (either (sameTables h) h)

theorem hkWrite {s : State} {p : Path} {off v : Nat} (h : s.Bounded) : (s.hkWrite p off v).Bounded :=
  either (either h h.putReg) (either (either (frame h.putReg) h.putReg) (either (either h.opCalZero (either
    h.opCalFull h)) h.putReg))

theorem csWrite {s : State} {p : Path} {off v : Nat} (h : s.Bounded) : (s.csWrite p off v).Bounded := by
  unfold State.csWrite
  split
  · exact either h (by split; exacts [h.opCsCommit, h.opCsLoad, h.opCsImport, h.csCmd fun ht => ht.csRefuse])
  · exact either (either h (by split; exacts [h.opFwErase, h.opFwFinish, h.reject])) (either h.opFwData h.putReg)

theorem blockWrite {s : State} {p : Path} {pg off v : Nat} (h : s.Bounded) : (s.blockWrite p pg off v).Bounded := by
  unfold State.blockWrite
  split
  · exact h
  · exact either h.opDevnumWrite (either h.opWarmReset h.putReg)
  · exact either h.putReg.applyOsc h.putReg.applyOsc.tryStart
  · exact h.frameWrite
  · exact h.govWrite
  · exact h.regWrite
  · exact h.powerWrite
  · exact h.hkWrite
  · exact h.csWrite
  · exact h.protWrite
  · exact h.dbgWrite
  · exact h.hostWrite
  · exact h.loopWrite
  · exact h.checkWrite
  · exact h.streamWrite
  · exact either h.opAringCfgWrite (either h.opOringCfgWrite (either h.opRowSubstReq (either h.putReg.rotStop.a1Follow
        h.putReg)))
  · exact h.linkWrite
  · exact h.memCfgWrite
  · exact h.memCfgWrite
  · exact h.putReg
  · exact h.putReg
  · exact h.putReg
  · exact h.putReg
  · exact h.putReg

theorem frameQuad {s : State} {off v : Nat} (h : s.Bounded) : (s.frameQuad off v).Bounded :=
  either (either (frame h) h) (either (either h.setReg64.applyPlan h.setReg64) (either h.armSwitch (either h.setReg64
    h)))

theorem aperture {s : State} {dp : DPath} {v : Nat} (h : s.Bounded) : (s.aperture dp v).Bounded :=
  either h.setReg64.setReg64 h.setReg64

theorem pageQuadWrite {s : State} {p : Path} {pg off v : Nat} (h : s.Bounded) :
    (s.pageQuadWrite p pg off v).Bounded := by
  unfold State.pageQuadWrite
  split
  · exact h.frameQuad
  · exact either (either h.setReg64 h.reject) (either (either h.setReg64.applyLog h.setReg64) h)
  · exact either h.setReg64 h
  · exact either h.opTimeWrite (either h.opAlarmWrite h)
  · exact h.winWrite
  · exact by split; exacts [either h.aperture h, h]
  · exact either (either (frame h) h.reject) h
  · exact either h.setReg64 h
  · exact either (either h.reject (either h.undoUnit h).setReg64) h
  · exact either h.syncReg (either h.opProfileWrite h)
  · exact h

theorem quadWrite {s : State} {p : Path} {l : Loc} {v : Nat} (h : s.Bounded) : (s.quadWrite p l v).Bounded := by
  unfold State.quadWrite
  split
  · exact h.pageQuadWrite
  · exact h.opQueueDescWrite
  · exact h.opSyncCellWrite
  · exact h
  · exact h

theorem wordWrite {s : State} {p : Path} {l : Loc} {v : Nat} (h : s.Bounded) : (s.wordWrite p l v).Bounded := by
  unfold State.wordWrite
  split
  · exact by split; exacts [h.setSel, either h.hdrWrite h.blockWrite]
  · exact frame h
  · exact h

theorem badAccess {s : State} (h : s.Bounded) : s.badAccess.Bounded := h.countRaise

theorem write4 {s : State} {p : Path} {off v : Nat} (h : s.Bounded) : (s.write4 p off v).Bounded :=
  either h.badAccess (either h.deny (either h.violate (either (frame h) (either (frame h).quadWrite h.wordWrite))))

theorem write8 {s : State} {p : Path} {off v : Nat} (h : s.Bounded) : (s.write8 p off v).Bounded :=
  either h.badAccess (either h.deny h.quadWrite)

/-! ### Sys2Proof/Machine/Access.lean -/

theorem read4 {s : State} {p : Path} {off : Nat} (h : s.Bounded) : (s.read4 p off).Bounded :=
  either h.badAccess.answer (either h.denyR.answer (either (frame h).answer (either (frame h).answer (either
    h.opWatchPop h.answer))))

theorem read8 {s : State} {p : Path} {off : Nat} (h : s.Bounded) : (s.read8 p off).Bounded :=
  either h.badAccess.answer (either h.denyR.answer h.answer)

theorem opMalformedAccess {s : State} {_p : Path} {_off : BitVec 26} {write : Bool} (h : s.Bounded) :
    (Machine.opMalformedAccess _p _off write s).Bounded := h.badAccess.answer

theorem opReadLowHalf {s : State} {p : Path} {off : BitVec 26} {wide : Bool} (h : s.Bounded) :
    (Machine.opReadLowHalf p off wide s).Bounded := either h.read8 h.read4

theorem opReadHighHalf {s : State} {p : Path} {off : BitVec 26} (h : s.Bounded) :
    (Machine.opReadHighHalf p off s).Bounded := h.read4

theorem put {s : State} {p : Path} {off : Nat} {wide : Bool} {v : Nat} (h : s.Bounded) :
    (s.put p off wide v).Bounded := either h.write8 h.write4

theorem overridden {s : State} {loser host : Path} {off : Nat} (h : s.Bounded) :
    (s.overridden loser host off).Bounded := (either h h.setReg).countRaise

theorem arbWrite {s : State} {p : Path} {off : Nat} {wide : Bool} {v : Nat} {rival : Option Rival} (h : s.Bounded) :
    (s.arbWrite p off wide v rival).1.Bounded := by
  unfold State.arbWrite
  split
  · exact h.put
  · exact eitherFst (eitherFst h.overridden.put h.overridden.put) h.put.put

theorem opWriteLowHalf {s : State} {p : Path} {off : BitVec 26} {val : BitVec 32} (h : s.Bounded) :
    (Machine.opWriteLowHalf p off val s).Bounded := h.write4

theorem opWriteHighHalf {s : State} {p : Path} {off : BitVec 26} {w : Put 32} (h : s.Bounded) :
    (Machine.opWriteHighHalf p off w s).Bounded := h.arbWrite

theorem opWrite64 {s : State} {p : Path} {off : BitVec 26} {w : Put 64} (h : s.Bounded) :
    (Machine.opWrite64 p off w s).Bounded := h.arbWrite

theorem opRegisterWrite {s : State} {p : Path} {off : BitVec 26} {val : BitVec 32} {rival : Option Rival}
    (h : s.Bounded) :
    (Machine.opRegisterWrite p off val rival s).Bounded := h.arbWrite

theorem opEvtRawClear {s : State} {p : Path} {page : Fin 382} {val hw : BitVec 32} (h : s.Bounded) :
    (Machine.opEvtRawClear p page val hw s).Bounded := either h.rawClear h.deny.rawForce

theorem opEvtForce {s : State} {p : Path} {page : Fin 382} {val : BitVec 32} (h : s.Bounded) :
    (Machine.opEvtForce p page val s).Bounded := either h.rawForce h.deny

theorem opCounterSnap {s : State} {p : Path} {page : Fin 382} {clear : Bool} (h : s.Bounded) :
    (Machine.opCounterSnap p page clear s).Bounded := either h.cntCtrl h.deny

theorem opCounterClear {s : State} {p : Path} {page : Fin 382} {incs : List (Fin 17)} (h : s.Bounded) :
    (Machine.opCounterClear p page incs s).Bounded := (either h.cntCtrl h.deny).forL (fun _ _ ht => ht.count)

theorem sendPending {s : State} {f : Nat} (h : s.Bounded) : (s.sendPending f).Bounded :=
  h.forL fun _ _ ht => ht.sendVec

theorem opMsixUnmask {s : State} {fn : Fin 16} {vec : Option (Fin 128)} (h : s.Bounded) :
    (Machine.opMsixUnmask fn vec s).Bounded := sendPending (by split <;> exact frame h)

theorem opAlertRepeat {s : State} (h : s.Bounded) : (Machine.opAlertRepeat s).Bounded := either h.sendAlert h

theorem opPerstDeassert {s : State} (h : s.Bounded) : (Machine.opPerstDeassert s).Bounded := frame h

theorem opConfigRequest {s : State} {fn : Fin 16} {req : CfgReq} (h : s.Bounded) :
    (Machine.opConfigRequest fn req s).Bounded :=
  either h.answer
    (by split; exacts [either h.answer (either h.answer h.draw.answer), (frame h).answer, (frame
          h).sendPending.answer, (frame h).answer, (frame h).answer])

theorem resetFn {s : State} {f : Nat} (h : s.Bounded) : (s.resetFn f).Bounded := frame h

theorem opPcieFlr {s : State} {fn : Fin 16} (h : s.Bounded) : (Machine.opPcieFlr fn s).Bounded := h.resetFn.count

theorem opPcieLinkDown {s : State} {d3' : Bool} (h : s.Bounded) : (Machine.opPcieLinkDown d3' s).Bounded :=
  either (frame h) (either ((frame (frame h)).forN (fun _ _ ht => ht.resetFn)).raise ((frame (frame h)).forN (fun _ _
    ht => ht.resetFn)))

theorem opPcieLinkUp {s : State} {x8 : Bool} {rate : PcieRate} (h : s.Bounded) :
    (Machine.opPcieLinkUp x8 rate s).Bounded := either (frame h) h

theorem opPcieRateChange {s : State} {x8 : Bool} {rate : PcieRate} (h : s.Bounded) :
    (Machine.opPcieRateChange x8 rate s).Bounded := either h (frame h).raise

theorem opBar4Resize {s : State} {fn : Fin 16} {k : BitVec 6} (h : s.Bounded) :
    (Machine.opBar4Resize fn k s).Bounded := either h (frame h)

theorem opDebugApertureRead {s : State} {dp : DPath} {val : BitVec 32} (h : s.Bounded) :
    (Machine.opDebugApertureRead dp val s).Bounded := h.write4

theorem opDebugAccess {s : State} {off : BitVec 26} {write : Option (BitVec 32)} (h : s.Bounded) :
    (Machine.opDebugAccess off write s).Bounded := by
  unfold Machine.opDebugAccess
  split
  · exact h.tap.write4
  · exact h.tap.read4

/-! ### Sys2Proof/Machine/Chain.lean -/

theorem badPacket {s : State} (h : s.Bounded) : s.badPacket.Bounded := h.countRaise

theorem forwardPkt {s : State} {pkt : Bytes} (h : s.Bounded) : (s.forwardPkt pkt).Bounded := h.sendCour.count

theorem respond {s : State} {dst tag : Nat} {payload : Bytes} (h : s.Bounded) :
    (s.respond dst tag payload).2.Bounded := either h h.count

theorem dropStaged {s : State} (h : s.Bounded) : s.dropStaged.Bounded := frame h

theorem courReads {s : State} {off n i : Nat} {st : Nat × Nat} {acc : Bytes} (h : s.Bounded) :
    (s.courReads off n i st acc).2.2.Bounded := by
  induction n generalizing s off i st acc with
  | zero => exact h
  | succ n ih => exact ih h.read4

theorem courWrites {s : State} {off i : Nat} {ws : List (Put 32)} {st : Nat × Nat} (h : s.Bounded) :
    (s.courWrites off ws i st).2.Bounded := by
  induction ws generalizing s off i st with
  | nil => exact h
  | cons w ws ih => exact ih h.arbWrite

theorem courRead {s : State} {off count : Nat} (h : s.Bounded) : (s.courRead off count).2.Bounded :=
  eitherSnd h h.courReads

theorem courWrite {s : State} {off : Nat} {ws : List (Put 32)} (h : s.Bounded) : (s.courWrite off ws).2.Bounded :=
  eitherSnd h h.dropStaged.courWrites.dropStaged

theorem courDo {s : State} {ty : Nat} {b : Bytes} {rs : List (Nat × Rival)} (h : s.Bounded) :
    (s.courDo ty b rs).2.Bounded :=
  eitherSnd (eitherSnd h h.courRead) (eitherSnd (eitherSnd h h.courWrite) (eitherSnd h.mgmtWake h))

theorem courAnswer {s : State} {hdr : PktHead} {payload : Bytes} (h : s.Bounded) :
    (s.courAnswer hdr payload).Bounded := h.respond.sendCour.answer

theorem passOn {s : State} {hdr : PktHead} {ty : Nat} {payload : Bytes} (h : s.Bounded) :
    (s.passOn hdr ty payload).Bounded := h.forwardPkt

theorem takeToken {s : State} {n : Nat} (h : s.Bounded) : (s.takeToken n).Bounded :=
  either h.setReg (either h.setReg.raise h.setReg.raise)

theorem opToken {s : State} {next : BitVec 8} (h : s.Bounded) : (Machine.opToken next s).Bounded :=
  h.takeToken.forwardPkt

theorem opCourierRead {s : State} {hdr : PktHead} {off : BitVec 32} {count : BitVec 8} (h : s.Bounded) :
    (Machine.opCourierRead hdr off count s).Bounded :=
  either h.courRead.count.courAnswer (either h.badPacket h.passOn)

theorem opCourierWrite {s : State} {hdr : PktHead} {off : BitVec 32} {words : List (Put 32)} (h : s.Bounded) :
    (Machine.opCourierWrite hdr off words s).Bounded :=
  either h.courWrite.count.courAnswer (either h.courWrite.passOn h.passOn)

theorem opCourierWake {s : State} {hdr : PktHead} (h : s.Bounded) : (Machine.opCourierWake hdr s).Bounded :=
  either h.mgmtWake.count (either h.mgmtWake.passOn h.passOn)

theorem sendSlow {s : State} {l : Nat} {m : Bytes} (h : s.Bounded) : (s.sendSlow l m).Bounded := h.setLnk

theorem sendTun {s : State} {l a b : Nat} (h : s.Bounded) : (s.sendTun l a b).Bounded :=
  h.forL (fun _ _ ht => ht.sendSlow)

theorem tunnelSend {s : State} {l : Nat} {pkt : Bytes} (h : s.Bounded) : (s.tunnelSend l pkt).Bounded :=
  h.setLnk.sendTun

theorem tunnelFail {s : State} {src tag : Nat} (h : s.Bounded) : (s.tunnelFail src tag).Bounded :=
  h.countRaise.respond.sendCour

theorem tunnelFailAll {s : State} {l : Nat} (h : s.Bounded) : (s.tunnelFailAll l).Bounded :=
  h.setLnk.forL (fun _ _ ht => ht.tunnelFail)

theorem opTunnel {s : State} {hdr : PktHead} {link : BitVec 8} {inner : Bytes} (h : s.Bounded) :
    (Machine.opTunnel hdr link inner s).Bounded :=
  either (either h.count.countRaise.courAnswer (either h.count.courAnswer (either h.count.setLnk h.count).tunnelSend))
    (either h.badPacket h.passOn)

theorem consumePkt {s : State} {pkt : Bytes} (h : s.Bounded) : (s.consumePkt pkt).Bounded := by
  unfold State.consumePkt
  split
  · exact h.opTunnel
  · exact h.opCourierWake
  · exact h.count
  · exact h.count
  · exact h.count
  · exact h.courDo.count.courAnswer

theorem opCourierForward {s : State} {pkt : Bytes} (h : s.Bounded) : (Machine.opCourierForward pkt s).Bounded :=
  either h.badPacket (either h.consumePkt h.forwardPkt)

theorem tunnelBack {s : State} {l : Nat} {pkt : Bytes} (h : s.Bounded) : (s.tunnelBack l pkt).Bounded := by
  unfold State.tunnelBack
  extract_lets x
  split
  · exact h
  · exact either h.setLnk.sendCour h.setLnk.respond.sendCour

theorem tunnelled {s : State} {l : Nat} {pkt : Bytes} (h : s.Bounded) : (s.tunnelled l pkt).Bounded :=
  either h.badPacket (either h (either h.count.takeToken (either h.count.tunnelBack (either h.count.mgmtWake (either
    h.count h.count.courDo.respond.tunnelSend)))))

theorem mgmtRx {s : State} {l seq ack : Nat} {data : Bytes} (h : s.Bounded) : (s.mgmtRx l seq ack data).Bounded :=
  either h (either (either h.setLnk.sendTun.setLnk.sendSlow.tunnelled h.setLnk.sendTun.setLnk.sendSlow) (either
    h.setLnk.sendTun h.setLnk.sendTun.sendSlow))

theorem opMgmtRx {s : State} {l : Fin 36} {seq ack : BitVec 8} {data : Bytes} (h : s.Bounded) :
    (Machine.opMgmtRx l seq ack data s).Bounded := h.mgmtRx

theorem opTunnelResendTimeout {s : State} {l : Fin 36} (h : s.Bounded) :
    (Machine.opTunnelResendTimeout l s).Bounded :=
  either h.tunnelFailAll (by split; exacts [h, either h.tunnelFailAll.linkFault h.setLnk.sendTun])

theorem takeCtl {s : State} {l : Fin 36} {m : Bytes} (h : s.Bounded) : (s.takeCtl l m).Bounded := by
  unfold State.takeCtl
  split
  · exact h
  · exact h.opMarkerRx
  · exact h.opVetoRx
  · exact h.opCreditRx
  · exact h.opDozeReqRx
  · exact h.opDozeAckRx
  · exact h.opTsyncRx
  · exact h.draw.opLaneMsgRx
  · exact h.mgmtRx
  · exact h.opIdentRx
  · exact h.count

theorem loseLead {s : State} {l : Nat} (h : s.Bounded) : (s.loseLead l).Bounded :=
  either h.count.setLnk.linkFault h.count.setLnk

theorem fecCount {s : State} {l : Nat} {f : Fec} {lost : Bool} (h : s.Bounded) : (s.fecCount l f lost).Bounded :=
  either h.countN.countN h.countN.countN.countN.raise

theorem opLinkLeadSlotRx {s : State} {l : Fin 36} {fec : Fec} {slot : Option Bytes} (h : s.Bounded) :
    (Machine.opLinkLeadSlotRx l fec slot s).Bounded := by
  unfold Machine.opLinkLeadSlotRx
  extract_lets s1 x s2 s3
  have h1 : s1.Bounded := h.fecCount
  have h2 : s2.Bounded := h1.setLnk
  have h3 : s3.Bounded := by
    dsimp -zeta only [s3]
    split
    · exact h1.loseLead
    · refine either ?_ h1.loseLead
      extract_lets s4
      have h4 : s4.Bounded := h2.forL fun _ _ ht => ht.takeCtl
      exact either h4.takeTrain h4
  exact either h (either h3.rxAdvance h3)

theorem opWakeBeaconRx {s : State} {l : Fin 36} {b : BitVec 64} (h : s.Bounded) :
    (Machine.opWakeBeaconRx l b s).Bounded := either h.setLnk.linkTo.wakeEdge h

theorem mctpTake {s : State} {pkt : Bytes} (h : s.Bounded) : (s.mctpTake pkt).1.Bounded := frame h

theorem opBlockWrite {s : State} {pkt : Bytes} {pecOk : Bool} (h : s.Bounded) :
    (Machine.opBlockWrite pkt pecOk s).Bounded := either h.mctpTake.answer h.countRaise.answer

theorem opBlockRead {s : State} (h : s.Bounded) : (Machine.opBlockRead s).Bounded := by
  unfold Machine.opBlockRead
  split
  · exact h.answer
  · exact (frame h).answer

theorem opAlertResponse {s : State} (h : s.Bounded) : (Machine.opAlertResponse s).Bounded :=
  either (frame h).answer h.answer

theorem opSmbusTimeout {s : State} (h : s.Bounded) : (Machine.opSmbusTimeout s).Bounded := (frame h).countRaise

theorem mctpReply {s : State} {ty : Nat} {body : Bytes} (h : s.Bounded) : (s.mctpReply ty body).Bounded :=
  h.count.mctpSend

theorem opSetEndpointId {s : State} {eid : BitVec 8} (h : s.Bounded) : (Machine.opSetEndpointId eid s).Bounded :=
  (either h.setReg h).mctpReply

theorem opGetEndpointId {s : State} (h : s.Bounded) : (Machine.opGetEndpointId s).Bounded := h.mctpReply

theorem opGetMctpVersionSupport {s : State} (h : s.Bounded) : (Machine.opGetMctpVersionSupport s).Bounded :=
  h.mctpReply

theorem opGetMessageTypeSupport {s : State} (h : s.Bounded) : (Machine.opGetMessageTypeSupport s).Bounded :=
  h.mctpReply

theorem opGetVendorDefinedMessageSupport {s : State} (h : s.Bounded) :
    (Machine.opGetVendorDefinedMessageSupport s).Bounded := h.mctpReply

theorem opMctpVendorDefined {s : State} {m : VendorMsg} (h : s.Bounded) : (Machine.opMctpVendorDefined m s).Bounded :=
  h.courDo.respond.mctpReply

theorem opMctpUnsupportedType {s : State} {ty : BitVec 8} (h : s.Bounded) :
    (Machine.opMctpUnsupportedType ty s).Bounded := h.mctpReply

/-! ### Sys2Proof/Machine/Tick.lean -/

theorem tickTime {s : State} (h : s.Bounded) : s.tickTime.Bounded := either (frame h).count (frame h)

theorem tickTile {s : State} {t : Nat} (h : s.Bounded) : (s.tickTile t).Bounded :=
  either h (by split; exacts [h, either h.count.count.raise h.count.count])

theorem tickLink {s : State} {l : Nat} (h : s.Bounded) : (s.tickLink l).Bounded := either h.count h

theorem tickRound {s : State} (h : s.Bounded) : s.tickRound.Bounded := either (frame h) h

theorem strike {s : State} (h : s.Bounded) : s.strike.Bounded := either (frame h.draw) (either (frame h.draw) h.draw)

theorem tick {s : State} (h : s.Bounded) : s.tick.Bounded := by
  unfold State.tick
  extract_lets s1 s2 s3 s4
  have h1 : s1.Bounded := h.forL fun _ _ ht => ht.streamTick.landTick
  have h2 : s2.Bounded := h1.forL fun _ _ ht => ht.tickTile
  have h3 : s3.Bounded := h2.forL fun _ _ ht => ht.laneTick
  have h4 : s4.Bounded := h3.forL fun _ _ ht => ht.tickLink
  exact either h h4.tickTime.tickRound.copyTick.csRetry.strike

/-! ### The dispatch and the step -/

/-- A command that leaves `t` answers it with its interrupt outputs settled. -/
theorem answered {s t : State} (ht : t.Bounded) : Answers (done s t) State.Bounded := ⟨_, rfl, ht.settle⟩

/-- As `answered`, for a command of a link row. -/
theorem onLink {s : State} {l : Nat} {f : State → State} (h : s.Bounded)
    (hf : ∀ {t : State}, t.Bounded → (f t).Bounded) :
    Answers (done s (s.linkDo l f)) State.Bounded := answered (h.linkDo hf)

/-- As `answered`, for a list operation of the vector and set unit. -/
theorem onLane {s : State} {op : Nat} {sem : VBlk → VEnv → VEnv} {j : Nat} {bad : List Nat} (h : s.Bounded)
    (hsem : ∀ {b : VBlk} {v : VEnv}, v.s.Bounded → (sem b v).s.Bounded) :
    Answers (done s (s.vsuRow op sem j bad)) State.Bounded := answered (h.vsuRow hsem)

/-- Every command answers a state whose counters are within their widths, when those before are. -/
theorem exec {s : State} (c : Instr) (h : s.Bounded) : Answers (Machine.exec c s) State.Bounded :=
  match c with
  | .malformedAccess .. => answered h.opMalformedAccess
  | .readLowHalf .. => answered h.opReadLowHalf
  | .readHighHalf .. => answered h.opReadHighHalf
  | .writeLowHalf .. => answered h.opWriteLowHalf
  | .writeHighHalf .. => answered h.opWriteHighHalf
  | .write64 .. => answered h.opWrite64
  | .registerWrite .. => answered h.opRegisterWrite
  | .evtRawClear .. => answered h.opEvtRawClear
  | .evtForce .. => answered h.opEvtForce
  | .msixUnmask .. => answered h.opMsixUnmask
  | .alertRepeat => answered h.opAlertRepeat
  | .softReset .. => answered h.opSoftReset
  | .softResetComplete .. => answered h.opSoftResetComplete
  | .counterSnap .. => answered h.opCounterSnap
  | .counterClear .. => answered h.opCounterClear
  | .powerOn => answered h.opPowerOn
  | .perstDeassert => answered h.opPerstDeassert
  | .configRequest .. => answered h.opConfigRequest
  | .bootVerify => answered h.opBootVerify
  | .startupCalLoad => answered h.opStartupCalLoad
  | .pllLock => answered h.opPllLock
  | .refclkLost => answered h.opRefclkLost
  | .refclkReturn => answered h.opRefclkReturn
  | .holdoverExpire => answered h.opHoldoverExpire
  | .frameBoundary => answered h.opFrameBoundary
  | .commitGranuleApply => answered h.opCommitGranuleApply
  | .dlWindowEnd => answered h.opDlWindowEnd
  | .slewJudge => answered h.opSlewJudge
  | .markerRx .. => onLink h opMarkerRx
  | .frameSyncPulse => answered h.opFrameSyncPulse
  | .referenceEventMissing => answered h.opReferenceEventMissing
  | .frameEnable .. => answered h.opFrameEnable
  | .frameCfgWrite .. => answered h.opFrameCfgWrite
  | .planSwitchArm .. => answered h.opPlanSwitchArm
  | .actionNop => answered h.opActionNop
  | .actionTileRun => answered h.opActionTileRun
  | .actionStream => answered h.opActionStream
  | .actionLinkWin => answered h.opActionLinkWin
  | .actionVsu => answered h.opActionVsu
  | .actionComplete .. => answered h.opActionComplete
  | .actionOverrun .. => answered h.opActionOverrun
  | .governorDecision => answered h.opGovernorDecision
  | .vcoreWriteAck .. => answered h.opVcoreWriteAck
  | .vcoreSettle => answered h.opVcoreSettle
  | .vsetWrite .. => answered h.opVsetWrite
  | .shadowLoadStart .. => answered h.opShadowLoadStart
  | .shadowLoadDone .. => answered h.opShadowLoadDone
  | .weightSwitch .. => answered h.opWeightSwitch
  | .vectorCycle .. => answered h.opVectorCycle
  | .resultAccumulate .. => answered h.opResultAccumulate
  | .outputRecordWrite .. => answered h.opOutputRecordWrite
  | .tileRunComplete .. => answered h.opTileRunComplete
  | .routingChange .. => answered h.opRoutingChange
  | .rowFailure .. => answered h.opRowFailure
  | .columnFailure .. => answered h.opColumnFailure
  | .rowSubstReq .. => answered h.opRowSubstReq
  | .aringCfgWrite .. => answered h.opAringCfgWrite
  | .oringCfgWrite .. => answered h.opOringCfgWrite
  | .tileScrubPass .. => answered h.opTileScrubPass
  | .calOffsetMeasure .. => answered h.opCalOffsetMeasure
  | .calGainMeasure .. => answered h.opCalGainMeasure
  | .calDelayTrim .. => answered h.opCalDelayTrim
  | .lockinWindowEnd .. => answered h.opLockinWindowEnd
  | .calDriveTable .. => answered h.opCalDriveTable
  | .acquisitionPassStart .. => answered h.opAcquisitionPassStart
  | .acquisitionPassDone .. => answered h.opAcquisitionPassDone
  | .loopPeriodStart => answered h.opLoopPeriodStart
  | .zoneUpdate .. => answered h.opZoneUpdate
  | .zoneLoad .. => answered h.opZoneLoad
  | .zoneEnable .. => answered h.opZoneEnable
  | .zoneDisable .. => answered h.opZoneDisable
  | .zoneClear .. => answered h.opZoneClear
  | .zoneReinit .. => answered h.opZoneReinit
  | .stageShort .. => answered h.opStageShort
  | .testCfgWrite .. => answered h.opTestCfgWrite
  | .capArm .. => answered h.opCapArm
  | .capStop .. => answered h.opCapStop
  | .vsuEnvListStart .. => answered h.opVsuEnvListStart
  | .vsuListComplete .. => answered h.opVsuListComplete
  | .vsuAdd .. => onLane h vAdd
  | .vsuMul .. => onLane h vMul
  | .vsuFma .. => onLane h vFma
  | .vsuScale .. => onLane h vScale
  | .vsuTopk .. => onLane h vTopk
  | .vsuSoftmax .. => onLane h vSoftmax
  | .vsuNorm .. => onLane h vNorm
  | .vsuRope .. => onLane h vRope
  | .vsuSample .. => onLane h vSample
  | .vsuIsect .. => onLane h vIsect
  | .vsuUnion .. => onLane h vUnion
  | .vsuDiff .. => onLane h vDiff
  | .vsuHprobe .. => onLane h vHprobe
  | .vsuHinsert .. => onLane h vHinsert
  | .vsuCsr .. => onLane h vCsr
  | .vsuGather .. => onLane h vGather
  | .vsuScatterAdd .. => onLane h vScatterAdd
  | .vsuSegred .. => onLane h vSegred
  | .vsuConvert .. => onLane h vConvert
  | .vsuStats .. => onLane h vStats
  | .vsuQuant .. => onLane h vQuant
  | .vsuPost .. => onLane h vPost
  | .streamEnvStart => answered h.opStreamEnvStart
  | .streamDescCheck .. => answered h.opStreamDescCheck
  | .streamReadIssue .. => answered h.opStreamReadIssue
  | .streamReadData .. => answered h.opStreamReadData
  | .streamStop .. => answered h.opStreamStop
  | .streamClear .. => answered h.opStreamClear
  | .shareFlush .. => answered h.opShareFlush
  | .checkCompare .. => answered h.opCheckCompare
  | .checkInit .. => answered h.opCheckInit
  | .queueDescWrite .. => answered h.opQueueDescWrite
  | .profileWrite .. => answered h.opProfileWrite
  | .doorbell .. => answered h.opDoorbell
  | .bar2BadAccess .. => answered h.opBar2BadAccess
  | .syncAdd .. => answered h.syncRow
  | .syncSet .. => answered h.syncRow
  | .syncCas .. => answered h.syncRow
  | .syncWaitGe .. => answered h.syncRow
  | .syncArm .. => answered h.syncRow
  | .syncAdmit .. => answered h.syncAdmitRow
  | .syncRelease .. => answered h.syncReleaseRow
  | .syncCellWrite .. => answered h.opSyncCellWrite
  | .watchPop .. => answered h.opWatchPop
  | .linkUp .. => answered h.opLinkUp
  | .linkDown .. => answered h.opLinkDown
  | .linkDoze .. => answered h.opLinkDoze
  | .linkWake .. => answered h.opLinkWake
  | .linkSubst .. => answered h.opLinkSubst
  | .darkCaptureDone .. => onLink h opDarkCaptureDone
  | .linkTrainingDone .. => onLink h opLinkTrainingDone
  | .linkTrainTimeout .. => onLink h opLinkTrainTimeout
  | .linkSlot .. => onLink h opLinkSlot
  | .linkLeadSlotRx .. => onLink h opLinkLeadSlotRx
  | .linkFlitRx .. => onLink h opLinkFlitRx
  | .vetoRx .. => onLink h opVetoRx
  | .vetoHoldExpire .. => answered h.opVetoHoldExpire
  | .creditRx .. => onLink h opCreditRx
  | .dozeReqRx .. => onLink h opDozeReqRx
  | .dozeAckRx .. => onLink h opDozeAckRx
  | .dozeEnter .. => onLink h opDozeEnter
  | .dozeBeacon .. => onLink h opDozeBeacon
  | .wakeBeaconRx .. => onLink h opWakeBeaconRx
  | .linkWakeDone .. => onLink h opLinkWakeDone
  | .tsyncRx .. => onLink h opTsyncRx
  | .laneMsgRx .. => onLink h opLaneMsgRx
  | .laneFail .. => onLink h opLaneFail
  | .laneMove .. => onLink h opLaneMove
  | .mgmtRx .. => onLink h opMgmtRx
  | .tunnelResendTimeout .. => onLink h opTunnelResendTimeout
  | .identRx .. => onLink h opIdentRx
  | .baselineUpdate .. => onLink h opBaselineUpdate
  | .mapFreeze .. => answered h.opMapFreeze
  | .devnumWrite .. => answered h.opDevnumWrite
  | .memoryRead .. => answered h.opMemoryRead
  | .memoryWrite .. => answered h.opMemoryWrite
  | .memoryScrub .. => answered h.opMemoryScrub
  | .ceRateWindow .. => answered h.opCeRateWindow
  | .memTrainingDone .. => answered h.opMemTrainingDone
  | .memPhyLockLost .. => answered h.opMemPhyLockLost
  | .bar4Read .. => answered h.opBar4Read
  | .bar4Write .. => answered h.opBar4Write
  | .pcieFlr .. => answered h.opPcieFlr
  | .pcieLinkDown .. => answered h.opPcieLinkDown
  | .bar4Resize .. => answered h.opBar4Resize
  | .warmReset .. => answered h.opWarmReset
  | .voteWrite .. => answered h.opVoteWrite
  | .domainEntry .. => answered h.opDomainEntry
  | .domainEntryComplete .. => answered h.opDomainEntryComplete
  | .domainWake .. => answered h.opDomainWake
  | .domainWakeComplete .. => answered h.opDomainWakeComplete
  | .pcieWakeEvent => answered h.opPcieWakeEvent
  | .a3Cmd .. => answered h.opA3Cmd
  | .aonInletCheck .. => answered h.opAonInletCheck
  | .vinFault => answered h.opVinFault
  | .auxLoss .. => answered opAuxLoss
  | .restore => answered h.opRestore
  | .restoreComplete => answered h.opRestoreComplete
  | .restoreLate => answered h.opRestoreLate
  | .bootLock .. => answered h.opBootLock
  | .getVersion .. => answered h.opGetVersion
  | .getCapabilities .. => answered h.opGetCapabilities
  | .negotiateAlgorithms .. => answered h.opNegotiateAlgorithms
  | .getDigests .. => answered h.opGetDigests
  | .getCertificate .. => answered h.opGetCertificate
  | .challenge .. => answered h.opChallenge
  | .getMeasurements .. => answered h.opGetMeasurements
  | .keyExchange .. => answered h.opKeyExchange
  | .finish .. => answered h.opFinish
  | .keyUpdate .. => answered h.opKeyUpdate
  | .endSession .. => answered h.opEndSession
  | .genChallenge .. => answered h.opGenChallenge
  | .unlock .. => answered h.opUnlock
  | .relock .. => answered h.opRelock
  | .nonceExpire => answered h.opNonceExpire
  | .debugHalt .. => answered h.opDebugHalt
  | .haltDone => answered h.opHaltDone
  | .forcedHalt => answered h.opForcedHalt
  | .resume .. => answered h.opResume
  | .debugApertureRead .. => answered h.opDebugApertureRead
  | .bypass => answered h.opBypass
  | .idcode => answered h.opIdcode
  | .samplePreload .. => answered h.opSamplePreload
  | .extest => answered h.opExtest
  | .debugAccess .. => answered h.opDebugAccess
  | .jtagReset => answered h.opJtagReset
  | .token .. => answered h.opToken
  | .courierRead .. => answered h.opCourierRead
  | .courierWrite .. => answered h.opCourierWrite
  | .courierWake .. => answered h.opCourierWake
  | .tunnel .. => answered h.opTunnel
  | .courierForward .. => answered h.opCourierForward
  | .blockWrite .. => answered h.opBlockWrite
  | .blockRead => answered h.opBlockRead
  | .alertResponse => answered h.opAlertResponse
  | .smbusTimeout => answered h.opSmbusTimeout
  | .setEndpointId .. => answered h.opSetEndpointId
  | .getEndpointId => answered h.opGetEndpointId
  | .getMctpVersionSupport => answered h.opGetMctpVersionSupport
  | .getMessageTypeSupport => answered h.opGetMessageTypeSupport
  | .getVendorDefinedMessageSupport => answered h.opGetVendorDefinedMessageSupport
  | .mctpVendorDefined .. => answered h.opMctpVendorDefined
  | .mctpUnsupportedType .. => answered h.opMctpUnsupportedType
  | .calendarSecond .. => answered h.opCalendarSecond
  | .timeWrite .. => answered h.opTimeWrite
  | .alarmWrite .. => answered h.opAlarmWrite
  | .vbatCheck .. => answered h.opVbatCheck
  | .slowRoundEnd .. => answered h.opSlowRoundEnd
  | .trigger => answered h.opTrigger
  | .trigConversionDone .. => answered h.opTrigConversionDone
  | .calZero .. => answered h.opCalZero
  | .calZeroDone .. => answered h.opCalZeroDone
  | .calFull .. => answered h.opCalFull
  | .calFullDone .. => answered h.opCalFullDone
  | .csCommit .. => answered h.opCsCommit
  | .csLoad .. => answered h.opCsLoad
  | .csImport .. => answered h.opCsImport
  | .bankWriteDone .. => answered h.opBankWriteDone
  | .laneInterpolate .. => answered h.opLaneInterpolate
  | .fwErase .. => answered h.opFwErase
  | .fwData .. => answered h.opFwData
  | .fwFinish .. => answered h.opFwFinish
  | .loaderCopy => answered h.opLoaderCopy
  | .loaderCopyDone .. => answered h.opLoaderCopyDone
  | .pllUnlock => answered h.opPllUnlock
  | .allLanesLoseSignal .. => onLink h opAllLanesLoseSignal
  | .deferredCaptureTaken .. => onLink h opDeferredCaptureTaken
  | .doubledRefresh .. => answered h.opDoubledRefresh
  | .pcieLinkUp .. => answered h.opPcieLinkUp
  | .pcieRateChange .. => answered h.opPcieRateChange
  | .doeDiscovery .. => answered h.opDoeDiscovery
  | .ideKmMessage .. => answered h.opIdeKmMessage
  | .fullLaserPowerRestored .. => answered h.opFullLaserPowerRestored

theorem step {s t : State} (h : s.Bounded) (hstep : Machine.step s = .next t) : t.Bounded := by
  have hanswer : Answers (Machine.step s) State.Bounded := by
    unfold Machine.step
    split
    · exact answered h.tick
    · exact exec _ (frame h)
  obtain ⟨u, hu, hub⟩ := hanswer
  rw [hstep] at hu
  cases hu
  exact hub

end State.Bounded

/-- Settles O4: every command and the tick keep `State.Bounded`. -/
theorem everyStepKeepsCountersSaturated : Obligations.EveryStepKeepsCountersSaturated := by
  intro s t hs hstep
  exact t.bounded_iff.1 ((s.bounded_iff.2 hs).step hstep)

end Sys2Proof.Machine
end

section
/-!
PROOFS. Accesses of BAR0 (O6, O7, O14): what a 4-byte and an 8-byte access does, one equation for each case of its location,
for an access that the path may make.
-/
namespace Sys2Proof.Machine

variable {s : State} {p : Path} {off v : Nat}

/-! ### Reads -/

/-- A 4-byte read of a low half leaves the high half in the holding register (R5). -/
theorem read4_of_isLow (h4 : off % 4 = 0) (hmay : s.mayRead p (locate off) = true) (hlow : isLow (locate off) = true) :
    s.read4 p off = State.answer { s with hif := { s.hif with
      hold := tset none (halfKey p off) (some (s.quad p (locate off) / 2 ^ 32 % 2 ^ 32)) s.hif.hold } }
      (.word (s.quad p (locate off) % 2 ^ 32)) := by
  simp [State.read4, h4, hmay, hlow]

/-- A 4-byte read of a high half empties the holding register (R5, R7). -/
theorem read4_of_isHigh (h4 : off % 4 = 0) (hmay : s.mayRead p (locate off) = true) (hlow : isLow (locate off) = false)
    (hhigh : isHigh (locate off) = true) :
    s.read4 p off = State.answer { s with hif := { s.hif with
      hold := tset none (halfKey p (off - 4)) none s.hif.hold } }
      (.word ((tget none (halfKey p (off - 4)) s.hif.hold).getD (s.word p (locate off)))) := by
  simp [State.read4, h4, hmay, hlow, hhigh]

/-- An 8-byte read answers both halves (R8). -/
theorem read8_of_isLow (h8 : off % 8 = 0) (hmay : s.mayRead p (locate off) = true) (hlow : isLow (locate off) = true) :
    s.read8 p off = s.answer (.dword (s.quad p (locate off))) := by
  simp [State.read8, h8, hmay, hlow]

/-- Settles O6, by the equations of the reads: `settle` leaves the answer and the holding registers. -/
theorem halfReadsUseHoldingRegisterOfTheirPath : Obligations.HalfReadsUseHoldingRegisterOfTheirPath := by
  intro s p off h4 hmay
  refine ⟨fun hlow => ⟨⟨_, rfl, ?_⟩, fun h8 => ?_⟩, fun hhigh hlow => ⟨_, rfl, ?_⟩⟩
  · have hop : opReadLowHalf p off false s = s.read4 p off.toNat := rfl
    rw [hop, read4_of_isLow h4 hmay hlow]
    refine ⟨by simp [State.answer], by simp, fun k hk => ?_, by simp [State.answer]⟩
    simp [tget_tset_ne _ _ _ hk]
  · show done s (s.read8 p off.toNat) = _
    rw [read8_of_isLow h8 hmay hlow]
    rfl
  · have hop : opReadHighHalf p off s = s.read4 p off.toNat := rfl
    rw [hop, read4_of_isHigh h4 hmay hlow hhigh]
    refine ⟨by simp [State.answer], by simp, fun k hk => ?_, by simp [State.answer]⟩
    simp [tget_tset_ne _ _ _ hk]

/-! ### Writes -/

/-- A write of a low half only stages it (R9). -/
theorem write4_of_isLow (h4 : off % 4 = 0) (hmay : s.mayWrite p (locate off) = true)
    (hopen : s.lowLocked p (locate off) = false) (hlow : isLow (locate off) = true) :
    s.write4 p off v = { s with hif := { s.hif with staged := tset none (halfKey p off) (some v) s.hif.staged } } := by
  simp [State.write4, h4, hmay, hopen, hlow]

/-- A low half that is closed discards the write as a violation (R13, R433). -/
theorem write4_of_lowLocked (h4 : off % 4 = 0) (hmay : s.mayWrite p (locate off) = true)
    (hlock : s.lowLocked p (locate off) = true) : s.write4 p off v = s.violate (pathTenant p) 6 := by
  simp [State.write4, h4, hmay, hlock]

/-- Only a low half is closed by `lowLocked`. -/
theorem lowLocked_of_not_isLow {l : Loc} (hlow : isLow l = false) : s.lowLocked p l = false := by
  have hne : l ≠ .page pgProt 0x50 := by
    rintro rfl
    exact absurd hlow (by decide)
  simp [State.lowLocked, hne]

/-- A write of a high half brings both halves into force (R9). -/
theorem write4_of_isHigh (h4 : off % 4 = 0) (hmay : s.mayWrite p (locate off) = true)
    (hlow : isLow (locate off) = false) (hhigh : isHigh (locate off) = true) :
    s.write4 p off v =
      State.quadWrite { s with hif := { s.hif with staged := tset none (halfKey p (off - 4)) none s.hif.staged } } p
        (locate (off - 4)) ((tget none (halfKey p (off - 4)) s.hif.staged).getD (s.lowInForce p (locate (off - 4))) +
          2 ^ 32 * v) := by
  simp [State.write4, h4, hmay, lowLocked_of_not_isLow hlow, hlow, hhigh]

/-- A write of a register that is no half of a 64-bit quantity. -/
theorem write4_of_word (h4 : off % 4 = 0) (hmay : s.mayWrite p (locate off) = true) (hlow : isLow (locate off) = false)
    (hhigh : isHigh (locate off) = false) : s.write4 p off v = s.wordWrite p (locate off) v := by
  simp [State.write4, h4, hmay, lowLocked_of_not_isLow hlow, hlow, hhigh]

/-- A write that the path may not make. -/
theorem write4_of_denied (h4 : off % 4 = 0) (hmay : s.mayWrite p (locate off) = false) :
    s.write4 p off v = s.deny p (locate off).pageOf := by
  simp [State.write4, h4, hmay]

/-- An 8-byte write brings both halves into force (R9). -/
theorem write8_of_isLow (h8 : off % 8 = 0) (hmay : s.mayWrite p (locate off) = true) (hlow : isLow (locate off) = true) :
    s.write8 p off v = s.quadWrite p (locate off) v := by
  simp [State.write8, h8, hmay, hlow]

/-- Without a rival a 4-byte write through the arbiter is made. -/
theorem arbWrite_word (w : BitVec 32) : (s.arbWrite p off false w.toNat none).1 = s.write4 p off w.toNat := by
  show s.write4 p off (w.toNat % 2 ^ 32) = _
  rw [Nat.mod_eq_of_lt w.isLt]

/-- Settles O7, by the equations of the writes. -/
theorem halfWritesStageLowHalfAndApplyBoth : Obligations.HalfWritesStageLowHalfAndApplyBoth := by
  intro s p off v w
  refine ⟨fun h4 hlow hmay => ⟨fun hopen => ⟨_, rfl, ?_⟩, fun hlock => ?_⟩, fun h8 hlow hmay => ?_,
    fun h4 hhigh hlow hmay => ?_⟩
  · have hop : opWriteLowHalf p off v s = s.write4 p off.toNat v.toNat := rfl
    rw [hop, write4_of_isLow h4 hmay hopen hlow]
    refine ⟨by simp, fun k hk => ?_, by simp⟩
    simp [tget_tset_ne _ _ _ hk]
  · show done s (s.write4 p off.toNat v.toNat) = _
    rw [write4_of_lowLocked h4 hmay hlock]
    rfl
  · show done s (s.write8 p off.toNat w.toNat) = _
    rw [write8_of_isLow h8 hmay hlow]
    rfl
  · refine ⟨(tget none (halfKey p (off.toNat - 4)) s.hif.staged).getD (s.lowInForce p (locate (off.toNat - 4))),
      { s with hif := { s.hif with staged := tset none (halfKey p (off.toNat - 4)) none s.hif.staged } },
      fun x hx => by simp [hx], fun hx => by simp [hx], by simp, rfl, fun k hk => by simp [tget_tset_ne _ _ _ hk], ?_⟩
    show done s (s.arbWrite p off.toNat false v.toNat none).1 = _
    rw [arbWrite_word, write4_of_isHigh h4 hmay hlow hhigh]
    rfl

/-! ### The access codes -/

/-- On the blocks without a register of their own rules a register past the header is a stored one. -/
theorem blockWrite_eq_putReg {pg o : Nat} (hblk : blkOf pg ∈ [Blk.calendar, Blk.courier, Blk.smbus, Blk.vsu, Blk.queue]) :
    s.blockWrite p pg o v = s.putReg p pg o v := by
  simp only [List.mem_cons, List.not_mem_nil, or_false] at hblk
  unfold State.blockWrite
  rcases hblk with h | h | h | h | h <;> rw [h]

/-- A register past the header that is no selection register. -/
theorem wordWrite_page {pg o : Nat} (hsel : selMask pg o = none) (ho : 0x40 ≤ o) :
    s.wordWrite p (.page pg o) v = s.blockWrite p pg o v := by
  simp [State.wordWrite, hsel, Nat.not_lt.2 ho]

theorem putReg_rw {pg o : Nat} {r : RegRow} (hr : rowOf pg o = some r) (hrwl : r.rwl = 0) (hrw : r.rw ≠ 0) :
    s.putReg p pg o v = s.setReg pg o (Nat.land v r.rw) := by
  simp [State.putReg, hr, hrwl, hrw]

theorem putReg_rwl_open {pg o : Nat} {r : RegRow} (hr : rowOf pg o = some r) (hrwl : r.rwl ≠ 0)
    (hlock : s.sec.lock = false) :
    s.putReg p pg o v = s.setReg pg o (Nat.land v r.rwl) := by
  simp [State.putReg, State.rwlWrite, hr, hrwl, hlock]

theorem putReg_rwl_locked {pg o : Nat} {r : RegRow} (hr : rowOf pg o = some r) (hrwl : r.rwl ≠ 0)
    (hlock : s.sec.lock = true) :
    s.putReg p pg o v = s.violate (pathTenant p) 6 := by
  simp [State.putReg, State.rwlWrite, hr, hrwl, hlock]

/-- REGISTER_WRITE without a rival is a 4-byte write. -/
theorem exec_registerWrite_none (off : BitVec 26) (w : BitVec 32) :
    exec (.registerWrite p off w none) s = .next (settle s (s.write4 p off.toNat w.toNat)) := by
  show done s (s.arbWrite p off.toNat false w.toNat none).1 = _
  rw [arbWrite_word]
  rfl

/-- Settles O14: the write is one of a stored register (`putReg`), of no location, or a denied one. -/
theorem registerWritesObeyAccessCodes : Obligations.RegisterWritesObeyAccessCodes := by
  intro s p off v h4
  simp only [exec_registerWrite_none]
  refine ⟨fun pg o r hloc ho hr hblk hlow hhigh hsel hmay => ?_, fun hloc => ?_, fun pg o hloc hpage hport hpow => ?_⟩
  · have hput : s.write4 p off.toNat v.toNat = s.putReg p pg o v.toNat := by
      rw [write4_of_word h4 (by rwa [hloc]) (by rwa [hloc]) (by rwa [hloc]), hloc, wordWrite_page hsel ho,
        blockWrite_eq_putReg hblk]
    rw [hput]
    exact ⟨fun hrwl hrw => by rw [putReg_rw hr hrwl hrw], fun hrwl hlock => by rw [putReg_rwl_open hr hrwl hlock],
      fun hrwl hlock => by rw [putReg_rwl_locked hr hrwl hlock]⟩
  · rw [write4_of_word h4 (by rw [hloc]; rfl) (by rw [hloc]; rfl) (by rw [hloc]; rfl), hloc]
    rfl
  · have hmay : s.mayWrite p (.page pg o) = false := by simp [State.mayWrite, State.mayPath, hpage]
    rw [write4_of_denied h4 (by rwa [hloc]), hloc]
    simp [State.deny, Loc.pageOf, hport, hpow]

end Sys2Proof.Machine
end

section
/-!
PROOFS. Event bits (O10) and counters (O11): what a write of EVT_RAW, EVT_FORCE and CNT_CTRL leaves in them.
-/
namespace Sys2Proof.Machine

/-! ### Bits -/

/-- The bits of `a` outside `b` and those inside add up to `a`: no carry. -/
theorem ldiff_add_land (a b : Nat) : Nat.ldiff a b + (a &&& b) = a := by
  induction a using Nat.binaryRec generalizing b with
  | zero => simp [Nat.ldiff]
  | bit x m ih =>
    obtain ⟨y, n, rfl⟩ : ∃ y n, b = Nat.bit y n := ⟨b.bodd, b.div2, (Nat.bit_bodd_div2 b).symm⟩
    have hm := ih n
    rw [Nat.ldiff_bit, Nat.land_bit]
    cases x <;> cases y <;> simp [Nat.bit_val] <;> omega

theorem bitClear_eq_ldiff (a b : Nat) : bitClear a b = Nat.ldiff a b := by
  have hsum := ldiff_add_land a b
  have hdef : bitClear a b = a - (a &&& b) := rfl
  omega

@[simp] theorem bitOf_bitClear (a b i : Nat) : bitOf (bitClear a b) i = (bitOf a i && !bitOf b i) := by
  simp [bitClear_eq_ldiff, bitOf_eq, Nat.testBit_ldiff]

@[simp] theorem bitOf_lor (a b i : Nat) : bitOf (a ||| b) i = (bitOf a i || bitOf b i) := by
  simp [bitOf_eq]

theorem bitOf_toNat {n : Nat} (v : BitVec n) (i : Nat) : bitOf v.toNat i = v.getLsbD i := bitOf_eq _ _

/-- Of what is written only the defined events of the page count. -/
theorem bitOf_land_evtMask (a q i : Nat) : bitOf (a &&& evtMask q) i = (bitOf a i && decide (i < evtCount q)) := by
  rw [bitOf_eq, bitOf_eq, Nat.testBit_and, evtMask, Nat.testBit_two_pow_sub_one]

/-! ### Events -/

variable (s s0 : State)

@[simp] theorem State.clearRecords_evRaw (p c : Nat) : (s.clearRecords p c).evRaw = s.evRaw := by
  unfold State.clearRecords
  split
  case h_7 => rfl
  all_goals split <;> simp

@[simp] theorem State.rewrite_raw (p q : Nat) : (State.rewrite s0 s p).raw q = s.raw q := by
  unfold State.rewrite
  split
  · rfl
  · split
    · simp
    · rfl

/-- A W1C write: what was set and is not written 1, and the events of the same step (R14). -/
theorem State.raw_rawClear (p v hw q : Nat) : (s.rawClear p v hw).raw q =
    if q = p then Nat.lor (bitClear (s.raw p) v) (Nat.land hw (evtMask p)) else s.raw q := by
  unfold State.rawClear
  rw [State.rewrite_raw, State.raw_setRaw]
  simp [State.raw]

theorem State.raw_rawForce (p v q : Nat) : (s.rawForce p v).raw q =
    if q = p then Nat.lor (s.raw p) (Nat.land v (evtMask p)) else s.raw q := by
  simp [State.rawForce]

/-- Settles O10: bit by bit, the value EVT_RAW takes; `settle` raises the ALERT_SENT bits only. -/
theorem eventBitsClearForceAndStaySet : Obligations.EventBitsClearForceAndStaySet := by
  intro s p page v hw hmay
  refine ⟨⟨_, rfl, fun q i _ hcour hsmb => ?_⟩, ⟨_, rfl, fun q i _ hcour hsmb => ?_⟩⟩
  · have hop : opEvtRawClear p page v hw s = s.rawClear page.val v.toNat hw.toNat := by simp [opEvtRawClear, hmay]
    rw [settle_rawBit _ _ q i hcour hsmb, hop, State.raw_rawClear]
    split
    · next hq => simp [hq, bitOf_land_evtMask, bitOf_toNat]
    · rfl
  · have hop : opEvtForce p page v s = s.rawForce page.val v.toNat := by simp [opEvtForce, hmay]
    rw [settle_rawBit _ _ q i hcour hsmb, hop, State.raw_rawForce]
    split
    · next hq => simp [hq, bitOf_land_evtMask, bitOf_toNat]
    · rfl

/-! ### Counters -/

theorem State.cntSnapAll_cnt (p : Nat) : (s.cntSnapAll p).cnt = s.cnt := by
  unfold State.cntSnapAll
  split <;> rfl

theorem State.cntSnapAll_snap (p : Nat) : (s.cntSnapAll p).snap =
    forN (cntPlace p).2 (fun k m => tset 0 (32 * p + k) (s.cntLive p k) m) s.snap := by
  unfold State.cntSnapAll
  split <;> rfl

theorem State.cntClearAll_cnt (p : Nat) (keep : Bool) :
    (s.cntClearAll p keep).cnt = tdrop (fun k => k / 32 == p) s.cnt := by
  unfold State.cntClearAll
  extract_lets t
  split <;> rfl

theorem State.cntClearAll_snap_keep (p : Nat) : (s.cntClearAll p true).snap = s.snap := by
  unfold State.cntClearAll
  extract_lets t
  split <;> rfl

/-- A loop that writes `f k` at `base + k`. -/
theorem tget_forN_tset (base n : Nat) (f : Nat → Nat) (t : Tbl Nat) {k : Nat} (hk : k < n) :
    tget 0 (base + k) (forN n (fun k m => tset 0 (base + k) (f k) m) t) = f k := by
  induction n with
  | zero => omega
  | succ n ih =>
    have hstep : forN (n + 1) (fun k m => tset 0 (base + k) (f k) m) t =
      tset 0 (base + n) (f n) (forN n (fun k m => tset 0 (base + k) (f k) m) t) := rfl
    rw [hstep, tget_tset]
    split
    · next heq =>
        have hkn : k = n := by omega
        rw [hkn]
    · next hne => exact ih (by omega)

/-- SNAP leaves each counter's value in its snapshot (R23). -/
theorem State.cntSnap_cntSnapAll (p : Nat) {k : Nat} (hk : k < (cntPlace p).2) :
    (s.cntSnapAll p).cntSnap p k = s.cntLive p k := by
  rw [State.cntSnap, State.cntSnapAll_snap, tget_forN_tset _ _ _ _ hk]

/-- CLEAR zeroes the counters of the page (R24). -/
theorem State.cntLive_cntClearAll (p : Nat) (keep : Bool) (q : Nat) {k : Nat} (hk : k < 32) :
    (s.cntClearAll p keep).cntLive q k = if q = p then 0 else s.cntLive q k := by
  have hpage : (32 * q + k) / 32 = q := by omega
  simp [State.cntLive, State.cntClearAll_cnt, tget_tdrop, hpage]

/-- CNT_CTRL written with SNAP, and with CLEAR where `clear`. -/
theorem State.cntCtrl_snap (p : Nat) (clear : Bool) : s.cntCtrl p (1 + 2 * b2n clear) =
    if clear then (s.cntSnapAll p).cntClearAll p true else s.cntSnapAll p := by
  cases clear <;> simp [State.cntCtrl, b2n, bitOf]

/-- CNT_CTRL written with CLEAR. -/
theorem State.cntCtrl_clear (p : Nat) : s.cntCtrl p 2 = s.cntClearAll p false := by
  simp [State.cntCtrl, bitOf]

/-- Counting each counter of a list without repetition once. -/
theorem cntLive_forL_count (p : Nat) {l : List (Fin 17)} (hl : l.Nodup) (q : Nat) {k : Nat} (hk : k < 32) :
    (forL l (fun k t => t.count p k.val) s).cntLive q k =
      if q = p ∧ k ∈ l.map Fin.val then min (s.cntLive q k + 1) (2 ^ 64 - 1) else s.cntLive q k := by
  induction l generalizing s with
  | nil => simp [forL]
  | cons a l ih =>
    obtain ⟨ha, hl⟩ := List.nodup_cons.1 hl
    have hstep : forL (a :: l) (fun k t => t.count p k.val) s =
      forL l (fun k t => t.count p k.val) (s.count p a.val) := rfl
    have hkey : 32 * q + k = 32 * p + a.val ↔ q = p ∧ k = a.val := by omega
    rw [hstep, ih (s.count p a.val) hl, State.cntLive_count]
    by_cases hq : q = p
    · by_cases hka : k = a.val
      · have hnot : k ∉ l.map Fin.val := by
          rw [hka]
          simpa [Fin.val_inj] using ha
        simp [hq, hka, hka ▸ hnot]
      · simp [hq, hka]
    · simp [hkey, hq]

/-- Settles O11: the values of SNAP and CLEAR; what counts in the same step counts from 0. -/
theorem countersSnapThenClearTogether : Obligations.CountersSnapThenClearTogether := by
  intro s p page hmay
  have hhost {q k : Nat} (hk : k < 32) (h6 : ¬ (q = pgHost ∧ k = 6)) : 32 * q + k ≠ 32 * pgHost + 6 := by omega
  refine ⟨fun clear => ⟨_, rfl, fun k hk => ?_, fun q k hk h6 => ?_⟩, fun incs hincs => ⟨_, rfl, fun q k hk h6 => ?_⟩⟩
  · have hop : opCounterSnap p page clear s = s.cntCtrl page.val (1 + 2 * b2n clear) := by simp [opCounterSnap, hmay]
    rw [State.cntSnap, settle_snap, hop, State.cntCtrl_snap]
    cases clear
    · exact s.cntSnap_cntSnapAll page.val hk
    · simp only [if_true, State.cntClearAll_snap_keep]
      exact s.cntSnap_cntSnapAll page.val hk
  · have hop : opCounterSnap p page clear s = s.cntCtrl page.val (1 + 2 * b2n clear) := by simp [opCounterSnap, hmay]
    have hsnap : (s.cntSnapAll page.val).cntLive q k = s.cntLive q k := by simp [State.cntLive, State.cntSnapAll_cnt]
    rw [settle_cntLive _ _ q k (hhost hk h6), hop, State.cntCtrl_snap]
    cases clear
    · simp [hsnap]
    · simp [State.cntLive_cntClearAll _ _ _ _ hk, hsnap]
  · have hop : opCounterClear p page incs s =
        forL (incs.filter fun k => decide (k.val < (cntPlace page.val).2)) (fun k t => t.count page.val k.val)
          (s.cntClearAll page.val false) := by
      simp [opCounterClear, hmay, State.cntCtrl_clear]
    have hmem : k ∈ (incs.filter fun k => decide (k.val < (cntPlace page.val).2)).map Fin.val ↔
        k ∈ incs.map Fin.val ∧ k < (cntPlace page.val).2 := by
      simp only [List.mem_map, List.mem_filter, decide_eq_true_eq]
      constructor
      · rintro ⟨a, ⟨ha, hlt⟩, rfl⟩
        exact ⟨⟨a, ha, rfl⟩, hlt⟩
      · rintro ⟨⟨a, ha, rfl⟩, hlt⟩
        exact ⟨a, ⟨ha, hlt⟩, rfl⟩
    rw [settle_cntLive _ _ q k (hhost hk h6), hop, cntLive_forL_count _ _ (hincs.filter _) q hk,
      State.cntLive_cntClearAll _ _ _ _ hk]
    by_cases hq : q = page.val
    · simp only [hq, hmem, true_and, if_true]
      split <;> rfl
    · simp [hq]

end Sys2Proof.Machine
end

section
/-!
PROOFS. Soft resets (O13): what a reset leaves in a stored register, the registers of a page row by row, and the events and
requests that the interrupt outputs follow.
-/
namespace Sys2Proof.Machine

/-! ### One register -/

/-- What a soft reset leaves in a register that held `old`: the bits of `rw` as in `rst`, the others as they were (R18). -/
def softVal (old rst rw : Nat) : Nat := bitClear old rw + (rst &&& rw)

theorem softVal_eq_or (old rst rw : Nat) : softVal old rst rw = Nat.ldiff old rw ||| (rst &&& rw) := by
  have hout : Nat.ldiff (Nat.ldiff old rw ||| (rst &&& rw)) rw = Nat.ldiff old rw := by
    apply Nat.eq_of_testBit_eq
    intro i
    simp only [Nat.testBit_ldiff, Nat.testBit_or, Nat.testBit_and]
    cases old.testBit i <;> cases rst.testBit i <;> cases rw.testBit i <;> rfl
  have hin : (Nat.ldiff old rw ||| (rst &&& rw)) &&& rw = rst &&& rw := by
    apply Nat.eq_of_testBit_eq
    intro i
    simp only [Nat.testBit_ldiff, Nat.testBit_or, Nat.testBit_and]
    cases old.testBit i <;> cases rst.testBit i <;> cases rw.testBit i <;> rfl
  have hsum := ldiff_add_land (Nat.ldiff old rw ||| (rst &&& rw)) rw
  rw [hout, hin] at hsum
  rw [softVal, bitClear_eq_ldiff, hsum]

theorem softVal_land (old rst rw : Nat) : softVal old rst rw &&& rw = rst &&& rw := by
  apply Nat.eq_of_testBit_eq
  intro i
  rw [softVal_eq_or]
  simp only [Nat.testBit_ldiff, Nat.testBit_or, Nat.testBit_and]
  cases old.testBit i <;> cases rst.testBit i <;> cases rw.testBit i <;> rfl

theorem softVal_sub_land (old rst rw : Nat) :
    softVal old rst rw - (softVal old rst rw &&& rw) = old - (old &&& rw) := by
  have hdef : softVal old rst rw = (old - (old &&& rw)) + (rst &&& rw) := rfl
  rw [softVal_land]
  omega

theorem softVal_lt {old rst rw : Nat} (hold : old < 2 ^ 32) (hrst : rst < 2 ^ 32) : softVal old rst rw < 2 ^ 32 := by
  rw [softVal_eq_or]
  refine Nat.or_lt_two_pow ?_ (lt_of_le_of_lt Nat.and_le_left hrst)
  have hsum := ldiff_add_land old rw
  omega

/-! ### The rows of a page -/

variable {s t u : State} {p : Nat}

/-- The offset of a row's `i`th register. -/
def RegRow.place (r : RegRow) (i : Nat) : Nat := r.off + r.stride * i

/-- A row's registers stand apart and lie within a page. -/
def RegRow.Fits (r : RegRow) : Prop := 0 < r.stride ∧ ∀ i, i < r.n → r.place i < 4096

/-- No register of `r` is one of `r'`. -/
def RegRow.Apart (r r' : RegRow) : Prop := ∀ i, i < r.n → ∀ j, j < r'.n → r.place i ≠ r'.place j

theorem State.reg_lt (q o : Nat) : s.reg q o < 2 ^ 32 := BitVec.isLt _

/-- One register of a row returns its RW bits. -/
def State.softReg (s : State) (p : Nat) (r : RegRow) (i : Nat) : State :=
  s.setReg p (r.place i) (softVal (s.reg p (r.place i)) (regReset p (r.place i)).toNat r.rw)

theorem State.softRow_eq (r : RegRow) : s.softRow p r = forN r.n (fun i t => t.softReg p r i) s := rfl

theorem State.reg_softReg (r : RegRow) (i : Nat) : (s.softReg p r i).reg p (r.place i) =
    softVal (s.reg p (r.place i)) (regReset p (r.place i)).toNat r.rw := by
  rw [State.softReg, State.reg_setReg_same]
  exact Nat.mod_eq_of_lt (softVal_lt (s.reg_lt _ _) (BitVec.isLt _))

theorem State.reg_softReg_ne {r : RegRow} {i q o : Nat} (ho : o < 4096) (hi : r.place i < 4096)
    (hne : q ≠ p ∨ o ≠ r.place i) : (s.softReg p r i).reg q o = s.reg q o := by
  refine State.reg_setReg_ne _ _ _ _ _ _ ?_
  unfold rkey
  omega

/-- The first `m` registers of a row leave every other register. -/
theorem State.reg_softRegs_ne {r : RegRow} (hr : r.Fits) {m : Nat} (hm : m ≤ r.n) {q o : Nat} (ho : o < 4096)
    (hne : q ≠ p ∨ ∀ i, i < m → o ≠ r.place i) : (forN m (fun i t => t.softReg p r i) s).reg q o = s.reg q o := by
  obtain ⟨-, hpage⟩ := hr
  induction m with
  | zero => rfl
  | succ m ih =>
    have hstep := State.reg_softReg_ne (s := forN m (fun i t => t.softReg p r i) s) (p := p) (q := q) ho
      (hpage m (by omega)) (hne.imp_right fun h => h m (by omega))
    exact hstep.trans (ih (by omega) (hne.imp_right fun h i hi => h i (by omega)))

/-- The first `m` registers of a row return their RW bits. -/
theorem State.reg_softRegs {r : RegRow} (hr : r.Fits) {m : Nat} (hm : m ≤ r.n) {i : Nat} (hi : i < m) :
    (forN m (fun i t => t.softReg p r i) s).reg p (r.place i) =
      softVal (s.reg p (r.place i)) (regReset p (r.place i)).toNat r.rw := by
  have hplace {i j : Nat} (hij : i ≠ j) : r.place i ≠ r.place j := fun h =>
    hij (Nat.eq_of_mul_eq_mul_left hr.1 (Nat.add_left_cancel h))
  have hpage := hr.2
  induction m with
  | zero => omega
  | succ m ih =>
    have hsplit : forN (m + 1) (fun i t => t.softReg p r i) s =
      (forN m (fun i t => t.softReg p r i) s).softReg p r m := rfl
    rw [hsplit]
    by_cases him : i = m
    · subst him
      rw [State.reg_softReg, State.reg_softRegs_ne hr (by omega) (hpage i (by omega))
        (.inr fun j hj => hplace (by omega))]
    · rw [State.reg_softReg_ne (hpage i (by omega)) (hpage m (by omega)) (.inr (hplace him))]
      exact ih (by omega) (by omega)

/-- A page's rows return their RW bits. -/
def State.softRows (s : State) (p : Nat) (l : List RegRow) : State := forL l (fun r t => t.softRow p r) s

theorem State.reg_softRows_ne {l : List RegRow} (hl : ∀ r ∈ l, r.Fits) {q o : Nat} (ho : o < 4096)
    (hne : q ≠ p ∨ ∀ r ∈ l, ∀ i, i < r.n → o ≠ r.place i) : (s.softRows p l).reg q o = s.reg q o := by
  induction l generalizing s with
  | nil => rfl
  | cons r l ih =>
    have hrest := ih (s := s.softRow p r) (fun r' hr' => hl r' (List.mem_cons_of_mem _ hr'))
      (hne.imp_right fun h r' hr' => h r' (List.mem_cons_of_mem _ hr'))
    exact hrest.trans (State.reg_softRegs_ne (hl r List.mem_cons_self) le_rfl ho
      (hne.imp_right fun h => h r List.mem_cons_self))

theorem State.reg_softRows {l : List RegRow} (hl : ∀ r ∈ l, r.Fits) (hapart : l.Pairwise RegRow.Apart) {r : RegRow}
    (hr : r ∈ l) {i : Nat} (hi : i < r.n) : (s.softRows p l).reg p (r.place i) =
      softVal (s.reg p (r.place i)) (regReset p (r.place i)).toNat r.rw := by
  induction l generalizing s with
  | nil => cases hr
  | cons r' l ih =>
    obtain ⟨hfirst, hrest⟩ := List.pairwise_cons.1 hapart
    have hfits : ∀ r ∈ l, r.Fits := fun r hr => hl r (List.mem_cons_of_mem _ hr)
    have hin : r.place i < 4096 := (hl r hr).2 i hi
    show ((s.softRow p r').softRows p l).reg p (r.place i) = _
    rcases List.mem_cons.1 hr with rfl | hmem
    · rw [State.reg_softRows_ne hfits hin (.inr fun r' hr' j hj => hfirst r' hr' i hi j hj)]
      exact State.reg_softRegs (hl r List.mem_cons_self) le_rfl hi
    · rw [ih hfits hrest hmem]
      have hother : (s.softRow p r').reg p (r.place i) = s.reg p (r.place i) :=
        State.reg_softRegs_ne (hl r' List.mem_cons_self) le_rfl hin
          (.inr fun j hj => (hfirst r hmem j hj i hi).symm)
      rw [hother]

/-! ### The registers of a page -/

/-- The blocks whose soft reset returns the stored registers and may complete outside a frame boundary. -/
def softBlks : List Blk := [.directory, .governor, .debug, .hostif, .hbm, .lpddr]

theorem pageRows_fits {b : Blk} (hb : b ∈ softBlks) : ∀ r ∈ ctrlRow :: regRows b, r.Fits := by
  have hall : ∀ b ∈ softBlks, ∀ r ∈ ctrlRow :: regRows b, 0 < r.stride ∧ ∀ i, i < r.n → r.off + r.stride * i < 4096 := by
    decide +kernel
  exact hall b hb

theorem pageRows_apart {b : Blk} (hb : b ∈ softBlks) : (ctrlRow :: regRows b).Pairwise RegRow.Apart := by
  have hall : ∀ b ∈ softBlks, (ctrlRow :: regRows b).Pairwise fun r r' => ∀ i, i < r.n → ∀ j, j < r'.n →
      r.off + r.stride * i ≠ r'.off + r'.stride * j := by decide +kernel
  exact hall b hb

/-- No stored register lies where the block records its first error. -/
theorem pageRows_record {b : Blk} (hb : b ∈ [Blk.hostif, .hbm, .lpddr]) :
    ∀ r ∈ ctrlRow :: regRows b, ∀ i, i < r.n → ∀ o ∈ [0x48, 0x4C, 0x50], o ≠ r.place i := by
  have hall : ∀ b ∈ [Blk.hostif, .hbm, .lpddr], ∀ r ∈ ctrlRow :: regRows b, ∀ i, i < r.n → ∀ o ∈ [0x48, 0x4C, 0x50],
      o ≠ r.off + r.stride * i := by decide +kernel
  exact hall b hb

/-- `t` has the registers of `s` but for page `p`, whose RW bits stand at their reset values. -/
def SoftRegs (s t : State) (p : Nat) : Prop :=
  (∀ r ∈ ctrlRow :: regRows (blkOf p), ∀ i, i < r.n →
    t.reg p (r.place i) &&& r.rw = (regReset p (r.place i)).toNat &&& r.rw ∧
    t.reg p (r.place i) - (t.reg p (r.place i) &&& r.rw) = s.reg p (r.place i) - (s.reg p (r.place i) &&& r.rw)) ∧
  ∀ q o, o < 4096 → q ≠ p → t.reg q o = s.reg q o

theorem SoftRegs.softRows (hp : blkOf p ∈ softBlks) : SoftRegs s (s.softRows p (ctrlRow :: regRows (blkOf p))) p := by
  refine ⟨fun r hr i hi => ?_, fun q o ho hq => State.reg_softRows_ne (pageRows_fits hp) ho (.inl hq)⟩
  rw [State.reg_softRows (pageRows_fits hp) (pageRows_apart hp) hr hi]
  exact ⟨softVal_land _ _ _, softVal_sub_land _ _ _⟩

/-- A write of a register of the page that no row holds. -/
theorem SoftRegs.setReg (h : SoftRegs s t p) (hp : blkOf p ∈ softBlks) {o v : Nat} (ho : o < 4096)
    (hrow : ∀ r ∈ ctrlRow :: regRows (blkOf p), ∀ i, i < r.n → o ≠ r.place i) : SoftRegs s (t.setReg p o v) p := by
  obtain ⟨hin, hout⟩ := h
  refine ⟨fun r hr i hi => ?_, fun q o' ho' hq => ?_⟩
  · have hplace := (pageRows_fits hp r hr).2 i hi
    have hne := hrow r hr i hi
    rw [State.reg_setReg_ne _ _ _ _ _ _ (by unfold rkey; omega)]
    exact hin r hr i hi
  · rw [State.reg_setReg_ne _ _ _ _ _ _ (by unfold rkey; omega)]
    exact hout q o' ho' hq

/-- Registers are read from the table of registers alone. -/
theorem SoftRegs.congr (h : SoftRegs s t p) (hregs : u.regs = t.regs) : SoftRegs s u p := by
  unfold SoftRegs State.reg
  rw [hregs]
  exact h

/-- A write where a block records its first error. -/
theorem SoftRegs.record (h : SoftRegs s t p) (hp : blkOf p ∈ [Blk.hostif, .hbm, .lpddr]) {o v : Nat}
    (ho : o ∈ [0x48, 0x4C, 0x50]) : SoftRegs s (t.setReg p o v) p := by
  have hsoft : ∀ b ∈ [Blk.hostif, .hbm, .lpddr], b ∈ softBlks := by decide
  have hlt : ∀ o ∈ [0x48, 0x4C, 0x50], o < 4096 := by decide
  exact h.setReg (hsoft _ hp) (hlt o ho) fun r hr i hi => pageRows_record hp r hr i hi o ho

theorem SoftRegs.clearRecords (h : SoftRegs s t p) (hp : blkOf p ∈ softBlks) (c : Nat) :
    SoftRegs s (t.clearRecords p c) p := by
  simp only [softBlks, List.mem_cons, List.not_mem_nil, or_false] at hp
  unfold State.clearRecords
  rcases hp with hb | hb | hb | hb | hb | hb <;> rw [hb]
  · exact h
  · exact h
  · exact h
  · show SoftRegs s (if _ then _ else _) p
    split
    · exact h.record (by simp [hb]) (by decide)
    · exact h
  · show SoftRegs s (if _ then _ else _) p
    split
    · exact ((h.record (by simp [hb]) (by decide)).record (by simp [hb]) (by decide)).record (by simp [hb]) (by decide)
    · exact h
  · show SoftRegs s (if _ then _ else _) p
    split
    · exact ((h.record (by simp [hb]) (by decide)).record (by simp [hb]) (by decide)).record (by simp [hb]) (by decide)
    · exact h

/-! ### The fields that a reset of a page leaves -/

/-- `t` is `s` but for the registers. -/
def RegsOnly (s t : State) : Prop := t = { s with regs := t.regs }

theorem RegsOnly.setReg (h : RegsOnly s t) (q o v : Nat) : RegsOnly s (t.setReg q o v) := by
  rw [h]
  rfl

theorem RegsOnly.softRows (l : List RegRow) : RegsOnly s (s.softRows p l) := by
  refine forL_keeps (RegsOnly s) _ (fun r t ht => ?_) l s rfl
  exact forN_keeps (RegsOnly s) _ (fun i t ht => ht.setReg _ _ _) r.n t ht

theorem RegsOnly.clearRecords (h : RegsOnly s t) (c : Nat) : RegsOnly s (t.clearRecords p c) := by
  unfold State.clearRecords
  split
  case h_7 => exact h
  all_goals
    split
    · repeat apply RegsOnly.setReg
      exact h
    · exact h

/-- What a soft reset leaves of page `p` and of the other blocks' state: `t` stands after it, `s` before. -/
structure SoftDone (s t : State) (p : Nat) : Prop where
  soft : t.soft = tset false p false s.soft
  evRaw : t.evRaw = tset 0 p 0 s.evRaw
  regs : SoftRegs s t p
  cnt : t.cnt = s.cnt
  bytes : t.mem.bytes = s.mem.bytes
  poison : t.mem.poison = s.mem.poison
  tile : t.tile = s.tile
  link : t.link = s.link
  q : t.q = s.q
  sy : t.sy = s.sy
  fr : t.fr = s.fr
  stm : t.stm = s.stm

/-- The header and the stored registers (R18); the governor's state is another matter. -/
theorem softFields_done (hp : blkOf p ∈ softBlks) :
    SoftDone s (({ s with soft := tset false p false s.soft } : State).softFields p) p ∧
    (({ s with soft := tset false p false s.soft } : State).softFields p).gov = s.gov := by
  let s1 : State := { s with soft := tset false p false s.soft }
  let t := (s1.softRows p (ctrlRow :: regRows (blkOf p))).clearRecords p (2 ^ 32 - 1)
  have ht : RegsOnly s1 t := (RegsOnly.softRows _).clearRecords _
  have hregs : SoftRegs s1 t p := (SoftRegs.softRows hp).clearRecords hp _
  have heq : s1.softFields p = { t with
      evRaw := tset 0 p 0 t.evRaw, evEn := tset 0 p 0 t.evEn
      hif := { t.hif with sel := tdrop (fun k => k % 2 ^ 22 / 4096 == p) t.hif.sel } } := rfl
  clear_value t
  have hsame : SoftRegs s (s1.softFields p) p := by
    rw [heq]
    exact hregs.congr rfl
  rw [heq] at hsame ⊢
  rw [ht] at hsame ⊢
  exact ⟨⟨rfl, rfl, hsame, rfl, rfl, rfl, rfl, rfl, rfl, rfl, rfl, rfl⟩, rfl⟩

end Sys2Proof.Machine
end

section
/-!
PROOFS. What a soft reset does to each kind of page, and when it takes effect (O13).
-/
namespace Sys2Proof.Machine

variable {s t u : State} {p : Nat}

/-! ### The pages whose registers return -/

theorem SoftDone.frame (h : SoftDone s t p) (gov : Gov) (sec : Sec) (hif : Hif) :
    SoftDone s { t with gov := gov, sec := sec, hif := hif } p :=
  ⟨h.soft, h.evRaw, h.regs.congr rfl, h.cnt, h.bytes, h.poison, h.tile, h.link, h.q, h.sy, h.fr, h.stm⟩

theorem SoftDone.record (h : SoftDone s t p) (hp : blkOf p ∈ [Blk.hostif, .hbm, .lpddr]) {o v : Nat}
    (ho : o ∈ [0x48, 0x4C, 0x50]) : SoftDone s (t.setReg p o v) p :=
  ⟨h.soft, h.evRaw, h.regs.record hp ho, h.cnt, h.bytes, h.poison, h.tile, h.link, h.q, h.sy, h.fr, h.stm⟩

theorem SoftDone.setCtl (h : SoftDone s t p) (k : Nat) (c : Ctl) : SoftDone s (t.setCtl k c) p :=
  ⟨h.soft, h.evRaw, h.regs.congr rfl, h.cnt, h.bytes, h.poison, h.tile, h.link, h.q, h.sy, h.fr, h.stm⟩

/-- A memory controller's page: its error records are cleared and its scrub pass restarts (R363). -/
theorem SoftDone.softMem (h : SoftDone s t p) (hp : blkOf p ∈ [Blk.hostif, .hbm, .lpddr]) {k : Nat} (hk : pgMem k = p) :
    SoftDone s (t.softMem k) p := by
  unfold State.softMem
  rw [hk]
  exact (((h.record hp (by decide)).record hp (by decide)).record hp (by decide)).setCtl _ _

theorem pgMem_instOf_hbm : ∀ page : Fin 382, blkOf page.val = .hbm → pgMem (instOf page.val) = page.val := by
  decide +kernel

theorem pgMem_instOf_lpddr : ∀ page : Fin 382, blkOf page.val = .lpddr → pgMem (8 + instOf page.val) = page.val := by
  decide +kernel

theorem softPage_done (page : Fin 382) (hp : blkOf page.val ∈ softBlks) :
    SoftDone s (s.softPage page.val) page.val := by
  obtain ⟨hfields, -⟩ := softFields_done (s := s) hp
  simp only [softBlks, List.mem_cons, List.not_mem_nil, or_false] at hp
  unfold State.softPage
  rcases hp with hb | hb | hb | hb | hb | hb <;> rw [hb]
  · exact hfields
  · exact hfields.frame _ _ _
  · exact hfields.frame _ _ _
  · exact hfields.frame _ _ _
  · exact hfields.softMem (by simp [hb]) (pgMem_instOf_hbm page hb)
  · exact hfields.softMem (by simp [hb]) (pgMem_instOf_lpddr page hb)

theorem blkOf_eq_governor : ∀ page : Fin 382, blkOf page.val = .governor ↔ page.val = pgGov := by decide +kernel

/-- The governor's adjustment is abandoned at the code in force (R311). -/
theorem softPage_gov (page : Fin 382) (hp : page.val = pgGov) :
    (s.softPage page.val).gov = { s.gov with
      above := 0, least := none, overran := false, want := s.gov.code, adjusting := false, acked := false,
      vsetDue := none, tries := 0 } := by
  have hb := (blkOf_eq_governor page).2 hp
  obtain ⟨-, hgov⟩ := softFields_done (s := s) (p := page.val) (by simp [hb, softBlks])
  unfold State.softPage
  rw [hb]
  simp only [hgov]

/-- No other page's reset touches the governor. -/
theorem softPage_gov_ne (page : Fin 382) (hp : blkOf page.val ∈ softBlks) (hne : page.val ≠ pgGov) :
    (s.softPage page.val).gov = s.gov := by
  obtain ⟨-, hgov⟩ := softFields_done (s := s) hp
  have hnot : blkOf page.val ≠ .governor := fun hb => hne ((blkOf_eq_governor page).1 hb)
  simp only [softBlks, List.mem_cons, List.not_mem_nil, or_false] at hp
  unfold State.softPage
  rcases hp with hb | hb | hb | hb | hb | hb <;> rw [hb]
  · exact hgov
  · exact absurd hb hnot
  · exact hgov
  · exact hgov
  · exact hgov
  · exact hgov

/-! ### The management pages -/

/-- The blocks of which a soft reset clears the events and abandons the work in progress (R474). -/
def mgmtBlks : List Blk := [.hkadc, .calstore, .calendar, .courier, .smbus]

theorem softMgmt_eq (b : Blk) : ∃ link mg sec, s.softMgmt b = { s with link := link, mg := mg, sec := sec } ∧
    mg.time = s.mg.time ∧ mg.flash = s.mg.flash := by
  unfold State.softMgmt
  split
  · refine ⟨_, s.mg, s.sec, forN_keeps (fun t => t = { s with link := t.link }) _ (fun i t ht => ?_) 36 s rfl, rfl, rfl⟩
    split
    · exact ht
    · rw [ht]
      rfl
  · exact ⟨_, _, s.sec, rfl, rfl, rfl⟩
  · exact ⟨_, _, s.sec, rfl, rfl, rfl⟩
  · exact ⟨_, _, s.sec, rfl, rfl, rfl⟩
  · exact ⟨_, _, _, rfl, rfl, rfl⟩
  · exact ⟨_, _, s.sec, rfl, rfl, rfl⟩

/-- What a soft reset of a management page leaves: `t` stands after it, `s` before. -/
structure MgmtDone (s t : State) (p : Nat) : Prop where
  soft : t.soft = tset false p false s.soft
  evRaw : t.evRaw = tset 0 p 0 s.evRaw
  evEn : t.evEn = s.evEn
  regs : t.regs = s.regs
  cnt : t.cnt = s.cnt
  time : t.mg.time = s.mg.time
  flash : t.mg.flash = s.mg.flash
  mem : t.mem = s.mem
  tile : t.tile = s.tile
  q : t.q = s.q
  fr : t.fr = s.fr

theorem softPage_mgmtDone (hp : blkOf p ∈ mgmtBlks) : MgmtDone s (s.softPage p) p := by
  have hpage : s.softPage p =
      (({ s with soft := tset false p false s.soft } : State).softEvents p).softMgmt (blkOf p) := by
    simp only [mgmtBlks, List.mem_cons, List.not_mem_nil, or_false] at hp
    unfold State.softPage
    rcases hp with hb | hb | hb | hb | hb <;> rw [hb]
  obtain ⟨link, mg, sec, hmgmt, htime, hflash⟩ :=
    softMgmt_eq (s := ({ s with soft := tset false p false s.soft } : State).softEvents p) (blkOf p)
  rw [hpage, hmgmt]
  exact ⟨rfl, rfl, rfl, rfl, rfl, htime, hflash, rfl, rfl, rfl, rfl⟩

/-- What a soft reset of PROTECT leaves: `t` stands after it, `s` before. -/
structure ProtectDone (s t : State) (p : Nat) : Prop where
  soft : t.soft = tset false p false s.soft
  sec : t.sec = { s.sec with viol := [], violSnap := [] }
  evRaw : t.evRaw = s.evRaw
  evEn : t.evEn = s.evEn
  regs : t.regs = s.regs
  cnt : t.cnt = s.cnt
  mem : t.mem = s.mem
  tile : t.tile = s.tile
  link : t.link = s.link
  q : t.q = s.q
  fr : t.fr = s.fr

theorem softPage_protectDone (hp : blkOf p = .protect) : ProtectDone s (s.softPage p) p := by
  unfold State.softPage
  rw [hp]
  exact ⟨rfl, rfl, rfl, rfl, rfl, rfl, rfl, rfl, rfl, rfl, rfl⟩

/-! ### The interrupt outputs -/

/-- A page that requests with some events less requested before. -/
theorem mgmtReq_of_cleared (hraw : t.evRaw = tset 0 p 0 s.evRaw) (hen : t.evEn = s.evEn) (hregs : t.regs = s.regs)
    (hreq : t.mgmtReq = true) : s.mgmtReq = true := by
  unfold State.mgmtReq State.reqPages at hreq ⊢
  simp only [List.any_eq_true, List.mem_filter, List.mem_map] at hreq ⊢
  obtain ⟨q, ⟨⟨e, he, rfl⟩, hpend⟩, hbit⟩ := hreq
  rw [hraw] at he
  have hmem : e ∈ s.evRaw ∧ e.1 ≠ p := by simpa [tset, tdel] using he
  have hrow : t.raw e.1 = s.raw e.1 := by rw [State.raw, hraw, tget_tset_ne _ _ _ hmem.2, State.raw]
  refine ⟨e.1, ⟨⟨e, hmem.1, rfl⟩, ?_⟩, ?_⟩
  · rwa [State.evPend, hrow, hen] at hpend
  · rwa [State.reg, hregs] at hbit

theorem mgmtReq_congr (hraw : t.evRaw = s.evRaw) (hen : t.evEn = s.evEn) (hregs : t.regs = s.regs) :
    t.mgmtReq = s.mgmtReq := by
  unfold State.mgmtReq State.reqPages State.evPend State.raw State.reg
  rw [hraw, hen, hregs]

/-- Where the management request does not rise no ALERT is sent, and no event is raised. -/
theorem settle_evRaw_of_no_rise (h : t.mgmtReq = true → s.mgmtReq = true) : (settle s t).evRaw = t.evRaw := by
  have hno : (t.mgmtReq && !s.mgmtReq && bitOf (t.reg pgCour 0x44) 0) = false := by
    cases ht : t.mgmtReq
    · rfl
    · simp [h ht]
  unfold settle
  rw [hno]
  exact forL_field (fun t => t.evRaw) _ (fun v t => State.sendVec_evRaw t v) _ _

/-! ### When a reset takes effect -/

theorem opSoftResetComplete_of_not_due {page : Fin 382} (h : s.softDue page.val = false) :
    opSoftResetComplete page s = s := by
  simp [opSoftResetComplete, h]

/-- A reset of a block that waits for a frame boundary, but FRAME's and REGISTRY's in HALTED. -/
theorem opSoftResetComplete_of_boundary {page : Fin 382} (hat : softAtBoundary page.val = true)
    (hwait : ¬ (s.fr.st = .halted ∧ (page.val = pgFrame ∨ page.val = pgReg))) : opSoftResetComplete page s = s := by
  unfold opSoftResetComplete
  simp [hat, hwait]

theorem opSoftResetComplete_of_due {page : Fin 382} (h : s.softDue page.val = true)
    (hat : softAtBoundary page.val = false) (hchk : blkOf page.val ≠ .check) :
    opSoftResetComplete page s = s.softPage page.val := by
  simp [opSoftResetComplete, h, hat, hchk]

/-- SOFT_RESET reads 0 after it, and every other page's as before. -/
theorem softDue_of_soft (h : t.soft = tset false p false s.soft) :
    t.softDue p = false ∧ ∀ q, q ≠ p → t.softDue q = s.softDue q := by
  refine ⟨by simp [State.softDue, h], fun q hq => ?_⟩
  rw [State.softDue, h, tget_tset_ne _ _ _ hq, State.softDue]

theorem softAtBoundary_of_mem {b : List Blk} (hb : ∀ x ∈ b, x ∈ softBlks ++ mgmtBlks ++ [Blk.protect])
    (hp : blkOf p ∈ b) :
    softAtBoundary p = false ∧ blkOf p ≠ .check := by
  have hmem := hb _ hp
  simp only [softBlks, mgmtBlks, List.cons_append, List.nil_append, List.mem_cons, List.not_mem_nil, or_false] at hmem
  unfold softAtBoundary
  rcases hmem with h | h | h | h | h | h | h | h | h | h | h | h <;> simp [h]

/-! ### The obligation -/

/-- No interrupt output counts but in HOSTIF CNT6. -/
theorem settle_cntLive_of_cnt (hcnt : t.cnt = s.cnt) {q k : Nat} (hk : k < 32) (h6 : ¬ (q = pgHost ∧ k = 6)) :
    (settle s t).cntLive q k = s.cntLive q k := by
  rw [settle_cntLive _ _ q k (by omega), State.cntLive, hcnt, State.cntLive]

theorem softReset_requests (page : Fin 382) {path : Path} (hmay : s.mayPath path page.val = true) :
    Answers (exec (.softReset path page) s) fun t => t.softDue page.val = true ∧
      (∀ q, q ≠ page.val → t.softDue q = s.softDue q) ∧ t = settle s { s with soft := t.soft } := by
  have hop : opSoftReset path page s = { s with soft := tset false page.val true s.soft } := by
    simp [opSoftReset, hmay]
  refine ⟨_, rfl, ?_⟩
  rw [hop]
  refine ⟨by simp [State.softDue], fun q hq => ?_, by simp⟩
  simp [State.softDue, tget_tset_ne _ _ _ hq]

/-- DIRECTORY, GOVERNOR, DEBUG, HOSTIF and the memory pages. -/
theorem softReset_completes_fields (page : Fin 382) (hdue : s.softDue page.val = true) (hp : blkOf page.val ∈ softBlks) :
    Answers (exec (.softResetComplete page) s) fun t =>
      t.softDue page.val = false ∧ (∀ q, q ≠ page.val → t.softDue q = s.softDue q) ∧ t.raw page.val = 0 ∧
      (∀ r ∈ ctrlRow :: regRows (blkOf page.val), ∀ i, i < r.n →
        Nat.land (t.reg page.val (r.off + r.stride * i)) r.rw =
          Nat.land (regReset page.val (r.off + r.stride * i)).toNat r.rw ∧
        t.reg page.val (r.off + r.stride * i) - Nat.land (t.reg page.val (r.off + r.stride * i)) r.rw =
          s.reg page.val (r.off + r.stride * i) - Nat.land (s.reg page.val (r.off + r.stride * i)) r.rw) ∧
      (∀ q o, o < 4096 → q ≠ page.val → t.reg q o = s.reg q o) ∧
      (∀ q k, k < 32 → ¬ (q = pgHost ∧ k = 6) → t.cntLive q k = s.cntLive q k) ∧
      (page.val = pgGov → t.gov.adjusting = false ∧ t.gov.want = s.gov.code ∧ t.gov.code = s.gov.code ∧
        t.gov.least = none ∧ t.gov.above = 0) ∧
      (page.val ≠ pgGov → t.gov = s.gov) ∧ t.mem.bytes = s.mem.bytes ∧ t.mem.poison = s.mem.poison ∧
      t.tile = s.tile ∧ t.link = s.link ∧ t.q = s.q ∧ t.sy = s.sy ∧ t.fr = s.fr ∧ t.stm = s.stm := by
  obtain ⟨hat, hchk⟩ := softAtBoundary_of_mem (by decide) hp
  have hdone : SoftDone s (s.softPage page.val) page.val := softPage_done page hp
  have hgov := softPage_gov (s := s) page
  have hgovNe := softPage_gov_ne (s := s) page hp
  have hcour : page.val ≠ pgCour ∧ page.val ≠ pgSmb :=
    ⟨fun h => by rw [h] at hp; exact absurd hp (by decide), fun h => by rw [h] at hp; exact absurd hp (by decide)⟩
  refine ⟨_, rfl, ?_⟩
  rw [opSoftResetComplete_of_due hdue hat hchk]
  obtain ⟨hsoft, hraw, hregs, hcnt, hbytes, hpoison, htile, hlink, hq, hsy, hfr, hstm⟩ := hdone
  generalize s.softPage page.val = u at *
  obtain ⟨hdueNot, hdueNe⟩ := softDue_of_soft (t := settle s u) (p := page.val) (by simpa using hsoft)
  obtain ⟨hrows, hother⟩ : SoftRegs s (settle s u) page.val := hregs.congr (by simp)
  refine ⟨hdueNot, hdueNe, ?_, hrows, hother, fun q k hk h6 => settle_cntLive_of_cnt hcnt hk h6, fun h => ?_, fun h => ?_,
    ?_⟩
  · rw [settle_raw _ _ _ hcour.1 hcour.2, State.raw, hraw, tget_tset_same]
  · simp [hgov h]
  · simpa using hgovNe h
  · simp [hbytes, hpoison, htile, hlink, hq, hsy, hfr, hstm]

/-- HKADC, CALSTORE, CALENDAR, COURIER and SMBUS. -/
theorem softReset_completes_mgmt (page : Fin 382) (hdue : s.softDue page.val = true) (hp : blkOf page.val ∈ mgmtBlks) :
    Answers (exec (.softResetComplete page) s) fun t =>
      t.softDue page.val = false ∧ t.raw page.val = 0 ∧ t.regs = s.regs ∧ t.evEn = s.evEn ∧
      (∀ q k, k < 32 → ¬ (q = pgHost ∧ k = 6) → t.cntLive q k = s.cntLive q k) ∧
      t.mg.time = s.mg.time ∧ t.mg.flash = s.mg.flash ∧ t.mem = s.mem ∧ t.tile = s.tile ∧ t.q = s.q ∧ t.fr = s.fr := by
  obtain ⟨hat, hchk⟩ := softAtBoundary_of_mem (by decide) hp
  refine ⟨_, rfl, ?_⟩
  rw [opSoftResetComplete_of_due hdue hat hchk]
  obtain ⟨hsoft, hraw, hen, hregs, hcnt, htime, hflash, hmem, htile, hq, hfr⟩ := softPage_mgmtDone (s := s) hp
  generalize s.softPage page.val = u at *
  obtain ⟨hdueNot, -⟩ := softDue_of_soft (t := settle s u) (p := page.val) (by simpa using hsoft)
  refine ⟨hdueNot, ?_, by simpa using hregs, by simpa using hen, fun q k hk h6 => settle_cntLive_of_cnt hcnt hk h6, ?_⟩
  · rw [State.raw, settle_evRaw_of_no_rise (mgmtReq_of_cleared hraw hen hregs), hraw, tget_tset_same]
  · simp [htime, hflash, hmem, htile, hq, hfr]

/-- PROTECT (R18, log 40). -/
theorem softReset_completes_protect (page : Fin 382) (hdue : s.softDue page.val = true) (hp : page.val = pgProt) :
    Answers (exec (.softResetComplete page) s) fun t =>
      t.softDue page.val = false ∧ t.sec = { s.sec with viol := [], violSnap := [] } ∧ t.regs = s.regs ∧
      t.evRaw = s.evRaw ∧ (∀ q k, k < 32 → ¬ (q = pgHost ∧ k = 6) → t.cntLive q k = s.cntLive q k) ∧
      t.mem = s.mem ∧ t.tile = s.tile ∧ t.link = s.link ∧ t.q = s.q ∧ t.fr = s.fr := by
  have hb : blkOf page.val = .protect := by rw [hp]; rfl
  obtain ⟨hat, hchk⟩ := softAtBoundary_of_mem (p := page.val) (b := [Blk.protect]) (by decide) (by simp [hb])
  refine ⟨_, rfl, ?_⟩
  rw [opSoftResetComplete_of_due hdue hat hchk]
  obtain ⟨hsoft, hsec, hraw, hen, hregs, hcnt, hmem, htile, hlink, hq, hfr⟩ := softPage_protectDone (s := s) hb
  generalize s.softPage page.val = u at *
  obtain ⟨hdueNot, -⟩ := softDue_of_soft (t := settle s u) (p := page.val) (by simpa using hsoft)
  refine ⟨hdueNot, by simpa using hsec, by simpa using hregs, ?_, fun q k hk h6 => settle_cntLive_of_cnt hcnt hk h6, ?_⟩
  · rw [settle_evRaw_of_no_rise fun h => (mgmtReq_congr hraw hen hregs).symm.trans h, hraw]
  · simp [hmem, htile, hlink, hq, hfr]

/-- A block that Table 0.3 resets at a frame boundary waits for it. -/
theorem softReset_waits (page : Fin 382) (h : blkOf page.val ∈ [Blk.tile, .vsu, .stream, .queue, .link] ∨
    (blkOf page.val ∈ [Blk.frame, .registry] ∧ s.fr.st ≠ .halted)) :
    exec (.softResetComplete page) s = .next (settle s s) := by
  have hframe : blkOf pgFrame = .frame := rfl
  have hreg : blkOf pgReg = .registry := rfl
  show done s (opSoftResetComplete page s) = _
  rw [opSoftResetComplete_of_boundary]
  · rfl
  · have hmem : blkOf page.val ∈ [Blk.tile, .vsu, .stream, .queue, .link, .frame, .registry] := by
      rcases h with h | ⟨h, -⟩ <;> simp only [List.mem_cons, List.not_mem_nil, or_false] at h ⊢ <;> tauto
    simp only [List.mem_cons, List.not_mem_nil, or_false] at hmem
    unfold softAtBoundary
    rcases hmem with hb | hb | hb | hb | hb | hb | hb <;> rw [hb]
  · rintro ⟨hst, hpg⟩
    rcases h with h | ⟨-, h⟩
    · rcases hpg with hpg | hpg <;> rw [hpg] at h <;> exact absurd h (by decide)
    · exact h hst

/-- Settles O13, page by page. -/
theorem softResetReturnsRwFieldsToReset : Obligations.SoftResetReturnsRwFieldsToReset := by
  intro s path page
  refine ⟨softReset_requests page, fun hmay => ?_, fun hdue => ?_, fun hdue => ⟨softReset_waits page,
    softReset_completes_fields page hdue, softReset_completes_mgmt page hdue, softReset_completes_protect page hdue⟩⟩
  · show done s (opSoftReset path page s) = _
    simp [opSoftReset, hmay, done]
  · show done s (opSoftResetComplete page s) = _
    rw [opSoftResetComplete_of_not_due hdue]
    rfl

end Sys2Proof.Machine
end

section
/-!
PROOFS. What the statements about tiles share (O33 to O36): a tile's place in the state, tile SRAM, and what an entry of the
event log and a frame fault leave of the tiles. Both write memory, and a write of the calibration image area breaks a
tile's image (R358), so that they keep every tile but its field `img`.
-/
namespace Sys2Proof.Machine

theorem answers_done {s u : State} {P : State → Prop} (h : P (settle s u)) : Answers (done s u) P := ⟨_, rfl, h⟩

/-! ### A tile's place in the state -/

section
variable (s s0 : State)

@[simp] theorem State.tl_setTl (t : Nat) (x : Tile) (k : Nat) : (s.setTl t x).tl k = if k = t then x else s.tl k := by
  simp [State.tl, State.setTl, tget_tset]

@[simp] theorem State.setTl_mem (t : Nat) (x : Tile) : (s.setTl t x).mem = s.mem := rfl
@[simp] theorem State.setTl_fr (t : Nat) (x : Tile) : (s.setTl t x).fr = s.fr := rfl
@[simp] theorem State.setTl_link (t : Nat) (x : Tile) : (s.setTl t x).link = s.link := rfl
@[simp] theorem State.setTl_q (t : Nat) (x : Tile) : (s.setTl t x).q = s.q := rfl
@[simp] theorem State.setTl_lp (t : Nat) (x : Tile) : (s.setTl t x).lp = s.lp := rfl
@[simp] theorem State.setTl_pw (t : Nat) (x : Tile) : (s.setTl t x).pw = s.pw := rfl
@[simp] theorem State.setTl_freeCtr (t : Nat) (x : Tile) : (s.setTl t x).freeCtr = s.freeCtr := rfl
@[simp] theorem State.raw_setTl (t : Nat) (x : Tile) (p : Nat) : (s.setTl t x).raw p = s.raw p := rfl
@[simp] theorem State.reg_setTl (t : Nat) (x : Tile) (p o : Nat) : (s.setTl t x).reg p o = s.reg p o := rfl
@[simp] theorem State.cntLive_setTl (t : Nat) (x : Tile) (p k : Nat) : (s.setTl t x).cntLive p k = s.cntLive p k := rfl

@[simp] theorem State.actOf_setTl (t : Nat) (x : Tile) (f i : Nat) : (s.setTl t x).actOf f i = s.actOf f i := rfl

@[simp] theorem State.tl_raise (p b k : Nat) : (s.raise p b).tl k = s.tl k := rfl
@[simp] theorem State.tl_countN (p c n k : Nat) : (s.countN p c n).tl k = s.tl k := rfl
@[simp] theorem State.tl_count (p c k : Nat) : (s.count p c).tl k = s.tl k := rfl
@[simp] theorem State.tl_countRaise (p c b k : Nat) : (s.countRaise p c b).tl k = s.tl k := rfl
@[simp] theorem State.tl_finishPart (f i a k : Nat) : (s.finishPart f i a).tl k = s.tl k := rfl
@[simp] theorem State.finishPart_mem (f i a : Nat) : (s.finishPart f i a).mem = s.mem := rfl

@[simp] theorem settle_tl (k : Nat) : (settle s0 s).tl k = s.tl k := by simp [State.tl]
@[simp] theorem settle_actOf (f i : Nat) : (settle s0 s).actOf f i = s.actOf f i := by simp [State.actOf]

/-- The interrupt outputs raise no event of a tile. -/
@[simp] theorem settle_rawBit_pgTile (t i : Nat) :
    bitOf ((settle s0 s).raw (pgTile t)) i = bitOf (s.raw (pgTile t)) i :=
  settle_rawBit _ _ _ _ (by simp only [pgTile, pgCour]; omega) (by simp only [pgTile, pgSmb]; omega)

@[simp] theorem settle_rawBit_pgFrame (i : Nat) : bitOf ((settle s0 s).raw pgFrame) i = bitOf (s.raw pgFrame) i :=
  settle_rawBit _ _ _ _ (by simp [pgFrame, pgCour]) (by simp [pgFrame, pgSmb])

@[simp] theorem settle_cntLive_pgTile (t k : Nat) :
    (settle s0 s).cntLive (pgTile t) k = s.cntLive (pgTile t) k :=
  settle_cntLive _ _ _ _ (by simp only [pgTile, pgHost]; omega)

theorem bitOf_raw_raise (p b q i : Nat) :
    bitOf ((s.raise p b).raw q) i = (bitOf (s.raw q) i || decide (q = p ∧ b = i)) := by
  by_cases hq : q = p
  · simp [hq, bitOf_eq, Nat.testBit_two_pow]
  · simp [hq]

/-- The part of a tile in an action in progress is complete. -/
theorem State.actOf_finishPart {f i : Nat} {a : Act} (t : Nat) (h : s.actOf f i = some a) :
    (s.finishPart f i t).actOf f i = some { a with parts := a.parts.filter (· != t) } := by
  obtain ⟨hframe, hidx⟩ : a.frame = f ∧ a.idx = i := by simpa using List.find?_some h
  unfold State.actOf State.finishPart at *
  rw [List.find?_map]
  have hkeep : ∀ b : Act, ((fun a : Act => a.frame == f && a.idx == i) ∘ fun b : Act =>
      if b.frame = f && b.idx = i then { b with parts := b.parts.filter (· != t) } else b) b
      = (b.frame == f && b.idx == i) := by
    intro b
    dsimp only [Function.comp]
    split <;> rfl
  rw [funext hkeep, h]
  simp [hframe, hidx]

/-- A new action of an index that has none. -/
theorem State.actOf_append {f i : Nat} {a : Act} (u : State) (h : s.actOf f i = none) (hu : u.fr.acts = s.fr.acts ++ [a])
    (hf : a.frame = f) (hi : a.idx = i) : u.actOf f i = some a := by
  unfold State.actOf at *
  rw [hu, List.find?_append, h]
  simp [hf, hi]

end

/-! ### Tile SRAM -/

theorem Tile.read_length (x : Tile) (a n : Nat) : (x.read a n).length = n := by
  induction n generalizing a with
  | zero => rfl
  | succ n ih => simp [Tile.read, ih]

/-- What is read depends on the SRAM alone. -/
theorem Tile.read_congr {x y : Tile} (h : x.sram = y.sram) (a n : Nat) : x.read a n = y.read a n := by
  induction n generalizing a with
  | zero => rfl
  | succ n ih => simp [Tile.read, ih, h]

/-- A write changes the SRAM alone. -/
theorem Tile.write_eq (x : Tile) (a : Nat) (bs : Bytes) : x.write a bs = { x with sram := (x.write a bs).sram } := by
  induction bs generalizing x a with
  | nil => rfl
  | cons b bs ih => exact ih { x with sram := tset 0 a b x.sram } (a + 1)

/-- A write leaves the bytes outside it as they were. -/
theorem Tile.sram_write_ne (x : Tile) (a : Nat) (bs : Bytes) {b : Nat} (h : b < a ∨ a + bs.length ≤ b) :
    tget 0 b (x.write a bs).sram = tget 0 b x.sram := by
  induction bs generalizing x a with
  | nil => rfl
  | cons c bs ih =>
    simp only [List.length_cons] at h
    rw [Tile.write, ih _ _ (by omega)]
    exact tget_tset_ne _ _ _ (by omega) _

/-- A read gives back what was written there. -/
theorem Tile.read_write (x : Tile) (a : Nat) (bs : Bytes) : (x.write a bs).read a bs.length = bs := by
  induction bs generalizing x a with
  | nil => rfl
  | cons b bs ih =>
    simp only [List.length_cons, Tile.write, Tile.read, ih]
    rw [Tile.sram_write_ne _ _ _ (Or.inl (Nat.lt_succ_self a))]
    simp

/-- The bytes of a range of zeros. -/
theorem Tile.sram_write_zeros (x : Tile) (a n : Nat) {b : Nat} (h : a ≤ b ∧ b < a + n) :
    tget 0 b (x.write a (List.replicate n 0)).sram = 0 := by
  induction n generalizing x a with
  | zero => omega
  | succ n ih =>
    rw [List.replicate_succ, Tile.write]
    by_cases hb : b = a
    · rw [Tile.sram_write_ne _ _ _ (by omega), hb]
      simp
    · exact ih _ _ (by omega)

/-- A part of what is read. -/
theorem Tile.take_drop_read (x : Tile) (a n i m : Nat) (h : i + m ≤ n) :
    ((x.read a n).drop i).take m = x.read (a + i) m := by
  induction i generalizing a n with
  | zero =>
    induction m generalizing a n with
    | zero => simp [Tile.read]
    | succ m ih =>
      obtain ⟨n, rfl⟩ : ∃ n', n = n' + 1 := ⟨n - 1, by omega⟩
      simpa [Tile.read] using ih (a + 1) n (by omega)
  | succ i ih =>
    obtain ⟨n, rfl⟩ : ∃ n', n = n' + 1 := ⟨n - 1, by omega⟩
    simpa [Tile.read, Nat.add_assoc, Nat.add_comm 1 i] using ih (a + 1) n (by omega)

@[simp] theorem Tile.setMarks_sram (x : Tile) (g n : Nat) (b : Bool) : (x.setMarks g n b).sram = x.sram := rfl

/-- The mark of one granule is set. -/
theorem Tile.mark_setMarks_one (x : Tile) (g k : Nat) (b : Bool) :
    (x.setMarks g 1 b).mark k = if k = g then b else x.mark k := by
  simp [Tile.mark, Tile.setMarks, forN, tget_tset]

/-! ### What the event log and a frame fault leave of the tiles -/

/-- Pages that are no tile's. -/
def OffTile (p : Nat) : Prop := p < 66 ∨ 322 ≤ p

theorem offTile_pgMem (k : Nat) : OffTile (pgMem k) := Or.inr (by simp only [pgMem]; omega)
theorem offTile_pgDev : OffTile pgDev := Or.inl (by decide)
theorem offTile_pgFrame : OffTile pgFrame := Or.inl (by decide)
theorem offTile_pgReg : OffTile pgReg := Or.inl (by decide)

theorem OffTile.ne_pgTile {p t : Nat} (hp : OffTile p) (ht : t < 256) : pgTile t ≠ p := by
  simp only [OffTile, pgTile] at *
  omega

/-- Of each tile of `s` only the image may be broken in `u`; no event is lost, and a tile's page stands as it was. -/
structure TilesKept (s u : State) : Prop where
  tl : ∀ k, { u.tl k with img := (s.tl k).img } = s.tl k
  raised : ∀ p i, bitOf (s.raw p) i = true → bitOf (u.raw p) i = true
  raw : ∀ t, t < 256 → u.raw (pgTile t) = s.raw (pgTile t)
  reg : ∀ t o, t < 256 → o < 4096 → u.reg (pgTile t) o = s.reg (pgTile t) o

namespace TilesKept

theorem refl (s : State) : TilesKept s s := ⟨fun _ => rfl, fun _ _ h => h, fun _ _ => rfl, fun _ _ _ _ => rfl⟩

theorem trans {s u v : State} (h : TilesKept s u) (h' : TilesKept u v) : TilesKept s v where
  tl k := (congrArg (fun x : Tile => { x with img := (s.tl k).img }) (h'.tl k)).trans (h.tl k)
  raised p i hb := h'.raised p i (h.raised p i hb)
  raw t ht := (h'.raw t ht).trans (h.raw t ht)
  reg t o ht ho := (h'.reg t o ht ho).trans (h.reg t o ht ho)

/-- A tile is what it was, up to its image. -/
theorem eq_img {s u : State} (h : TilesKept s u) (k : Nat) : u.tl k = { s.tl k with img := (u.tl k).img } :=
  congrArg (fun x : Tile => { x with img := (u.tl k).img }) (h.tl k)

/-- What does not look at the image is as it was. -/
theorem field {s u : State} (h : TilesKept s u) {β : Type} (f : Tile → β) (k : Nat)
    (hf : ∀ (x : Tile) (i : Option TileSave), f { x with img := i } = f x := by intros; rfl) : f (u.tl k) = f (s.tl k) :=
  (hf _ _).symm.trans (congrArg f (h.tl k))

/-- An update of other fields. -/
theorem of_eq {u v : State} (htile : v.tile = u.tile) (hraw : v.evRaw = u.evRaw) (hregs : v.regs = u.regs) :
    TilesKept u v where
  tl k := by simp [State.tl, htile]
  raised p i hb := by simpa [State.raw, hraw] using hb
  raw t _ := by simp [State.raw, hraw]
  reg t o _ _ := by simp [State.reg, hregs]

theorem raise (u : State) {p : Nat} (hp : OffTile p) (b : Nat) : TilesKept u (u.raise p b) where
  tl _ := rfl
  raised q i hb := by rw [bitOf_raw_raise, hb, Bool.true_or]
  raw t ht := by simp [hp.ne_pgTile ht]
  reg _ _ _ _ := by simp

theorem setReg (u : State) {p : Nat} (hp : OffTile p) {o : Nat} (ho : o < 4096) (v : Nat) : TilesKept u (u.setReg p o v) where
  tl _ := rfl
  raised q i hb := by simpa using hb
  raw t _ := by simp
  reg t o' ht ho' := State.reg_setReg_ne _ _ _ _ _ _ (by
    have hne := hp.ne_pgTile ht
    simp only [rkey]
    omega)

theorem breakImage (u : State) (a : Nat) : TilesKept u (u.breakImage a) := by
  unfold State.breakImage
  split
  · refine ⟨fun k => ?_, fun _ _ h => h, fun _ _ => rfl, fun _ _ _ _ => rfl⟩
    simp only [State.tl, tget_tset]
    split
    · next hk => rw [hk]
    · rfl
  · exact .refl _

end TilesKept

/-- `u` follows from `s` by memory accesses of engines and entries of the event log. -/
structure Logged (s u : State) : Prop extends TilesKept s u where
  fr : u.fr = s.fr

namespace Logged
variable {s u : State}

theorem refl (s : State) : Logged s s := ⟨.refl s, rfl⟩

theorem trans {v : State} (h : Logged s u) (h' : Logged u v) : Logged s v :=
  ⟨h.toTilesKept.trans h'.toTilesKept, h'.fr.trans h.fr⟩

/-- An update of fields that are neither tiles, events, registers nor frames. -/
theorem frame {pending freeCtr resp evEn cnt snap soft hif irq tb gov rg q sy mem share sec link chk route frozen mg vsu
    stm lp pw} (h : Logged s u) :
    Logged s { u with
      pending, freeCtr, resp, evEn, cnt, snap, soft, hif, irq, tb, gov, rg, q, sy, mem, share, sec, link, chk, route
      frozen, mg, vsu, stm, lp, pw } :=
  h.trans ⟨.of_eq rfl rfl rfl, rfl⟩

theorem count (h : Logged s u) (p k : Nat) : Logged s (u.count p k) := frame h

theorem raise (h : Logged s u) {p : Nat} (hp : OffTile p) (b : Nat) : Logged s (u.raise p b) := h.trans ⟨.raise u hp b, rfl⟩

theorem setReg (h : Logged s u) {p : Nat} (hp : OffTile p) {o : Nat} (ho : o < 4096) (v : Nat) : Logged s (u.setReg p o v) :=
  h.trans ⟨.setReg u hp ho v, rfl⟩

theorem setCtl (h : Logged s u) (k : Nat) (c : Ctl) : Logged s (u.setCtl k c) := frame h

theorem setQd (h : Logged s u) (q : Nat) (d : QDesc) : Logged s (u.setQd q d) := frame h

theorem either {c : Prop} [Decidable c] {a b : State} (ha : Logged s a) (hb : Logged s b) :
    Logged s (if c then a else b) := by
  split <;> assumption

theorem eitherSnd {α : Type} {c : Prop} [Decidable c] {a b : α × State} (ha : Logged s a.2) (hb : Logged s b.2) :
    Logged s (if c then a else b).2 := by
  split <;> assumption

theorem recErr (h : Logged s u) {p : Nat} (hp : OffTile p) (a src : Nat) : Logged s (u.recErr p a src) :=
  either h (((h.setReg hp (by decide) _).setReg hp (by decide) _).setReg hp (by decide) _)

theorem unbacked (h : Logged s u) (a : Nat) : Logged s (u.unbacked a) :=
  ((((h.recErr (offTile_pgMem 0) a 4).count _ _).count _ _).raise (offTile_pgMem 0) _).raise (offTile_pgMem 0) _

theorem useLine (h : Logged s u) (k l : Nat) (d : Bool) : Logged s (u.useLine k l d) := by
  unfold State.useLine
  extract_lets c
  split
  · exact h.setCtl _ _
  · exact (h.setCtl _ _).count _ _

theorem touch (h : Logged s u) (k a : Nat) (w : Bool) : Logged s (u.touch k a w) :=
  either ((h.count _ _).useLine _ _ _) (h.count _ _)

theorem wbLine (h : Logged s u) (k g : Nat) : Logged s (u.wbLine k g) := either (h.useLine _ _ _) h

theorem invalShare (h : Logged s u) (a : Nat) : Logged s (u.invalShare a) := frame h

theorem corrected (h : Logged s u) (k : Nat) : Logged s (u.corrected k) :=
  ((h.count _ _).raise (offTile_pgMem k) _).setCtl _ _

theorem breakImage (h : Logged s u) (a : Nat) : Logged s (u.breakImage a) :=
  h.trans ⟨.breakImage u a, by unfold State.breakImage; split <;> rfl⟩

theorem decodeCtl (h : Logged s u) (k src g : Nat) (dec : Dec) : Logged s (u.decodeCtl k src g dec).2 := by
  have hmem (m : Memory) {v : State} (hv : Logged s v) : Logged s { v with mem := m } := frame hv
  unfold State.decodeCtl
  split
  · have hlost := ((h.recErr (offTile_pgMem k) (64 * g) src).count (pgMem k) 3).raise (offTile_pgMem k) 1
    exact (((hmem _ hlost).wbLine k g).invalShare _).breakImage _
  · have hfixed := (hmem (u.mem.heal g) h).wbLine k g
    exact eitherSnd (hfixed.count _ _) (hfixed.corrected k)
  · exact eitherSnd (h.count _ _) h

theorem recSram (h : Logged s u) (a src : Nat) : Logged s (u.recSram a src) := by
  have hlo := h.setReg offTile_pgDev (o := 0x60) (by decide) (a % 2 ^ 32)
  have hhi := hlo.setReg offTile_pgDev (o := 0x64) (by decide) (a / 2 ^ 32 % 2 ^ 16)
  exact either h (hhi.setReg offTile_pgDev (by decide) _)

theorem sramLost (h : Logged s u) (src a : Nat) : Logged s (u.sramLost src a) :=
  ((h.recSram a src).count _ _).raise offTile_pgDev _

theorem decodeHub (h : Logged s u) (src g : Nat) (dec : Dec) : Logged s (u.decodeHub src g dec).2 := by
  have hmem (m : Memory) {v : State} (hv : Logged s v) : Logged s { v with mem := m } := frame hv
  unfold State.decodeHub
  split
  · have hlost := h.sramLost src (64 * g)
    exact eitherSnd (hmem _ (forN_keeps (Logged s) _ (fun _ _ ht => ht.setQd _ _) _ _ hlost)) (hmem _ hlost)
  · have hheal := hmem (u.mem.heal g) h
    exact eitherSnd hheal ((hheal.count _ _).raise offTile_pgDev _)
  · exact h

theorem lay (h : Logged s u) (src g : Nat) (data : List (Option Byte)) (poison : Bool) (dec : Dec) :
    Logged s (u.lay src g data poison dec) :=
  either (frame h) (frame (by split; exacts [h.decodeCtl _ _ _ _, h.decodeHub _ _ _]))

theorem gWrite (h : Logged s u) (src g : Nat) (data : List (Option Byte)) (poison : Bool) (dec : Dec) :
    Logged s (u.gWrite src g data poison dec) := by
  unfold State.gWrite
  split
  · exact h.unbacked _
  · exact h
  · exact h.lay _ _ _ _ _
  · exact either (h.unbacked _) (either (frame h) ((((h.touch _ _ _).invalShare _).lay _ _ _ _ _).breakImage _))

theorem engWrite (h : Logged s u) (src a : Nat) (bs : Bytes) : Logged s (u.engWrite src a bs) :=
  forL_keeps (Logged s) _ (fun _ _ ht => ht.gWrite _ _ _ _ _) _ _ h

theorem log (h : Logged s u) (p code cls detail : Nat) : Logged s (u.log p code cls detail) :=
  either ((frame (h.engWrite _ _ _)).count _ _) h

theorem faultLog (h : Logged s u) (was : Bool) (p bit : Nat) : Logged s (u.faultLog was p bit) :=
  either h (h.log _ _ _ _)

end Logged

/-- `u` follows from `s` by frame faults: no action in progress changes. -/
structure Faulted (s u : State) : Prop extends TilesKept s u where
  acts : u.fr.acts = s.fr.acts

namespace Faulted
variable {s u : State}

theorem refl (s : State) : Faulted s s := ⟨.refl s, rfl⟩

theorem trans {v : State} (h : Faulted s u) (h' : Faulted u v) : Faulted s v :=
  ⟨h.toTilesKept.trans h'.toTilesKept, h'.acts.trans h.acts⟩

/-- An update of fields that are neither tiles, events nor registers, and of a frame's but its actions. -/
theorem frame {freeCtr cnt fr rg q link} (h : Faulted s u) (hacts : FrameU.acts fr = u.fr.acts := by rfl) :
    Faulted s { u with freeCtr, cnt, fr, rg, q, link } := h.trans ⟨.of_eq rfl rfl rfl, hacts⟩

theorem either {c : Prop} [Decidable c] {a b : State} (ha : Faulted s a) (hb : Faulted s b) :
    Faulted s (if c then a else b) := by
  split <;> assumption

theorem count (h : Faulted s u) (p k : Nat) : Faulted s (u.count p k) := frame h

theorem raise (h : Faulted s u) {p : Nat} (hp : OffTile p) (b : Nat) : Faulted s (u.raise p b) :=
  h.trans ⟨.raise u hp b, rfl⟩

theorem logged (h : Faulted s u) {v : State} (h' : Logged u v) : Faulted s v :=
  h.trans ⟨h'.toTilesKept, congrArg (·.acts) h'.fr⟩

theorem log (h : Faulted s u) (p code cls detail : Nat) : Faulted s (u.log p code cls detail) :=
  h.logged ((Logged.refl u).log _ _ _ _)

theorem sendCtl (h : Faulted s u) (l : Nat) (m : Bytes) : Faulted s (u.sendCtl l m) := frame h

theorem flood (h : Faulted s u) (except : Option Nat) (m : Bytes) : Faulted s (u.flood except m) :=
  forN_keeps (Faulted s) _ (fun _ _ ht => either (ht.sendCtl _ _) ht) _ _ h

theorem discardFrame (h : Faulted s u) (f : Nat) : Faulted s (u.discardFrame f) := either h ((frame h).count _ _)

theorem discardFrom (h : Faulted s u) (g : Nat) : Faulted s (u.discardFrom g) :=
  either (forN_keeps (Faulted s) _ (fun _ _ ht => ht.discardFrame _) _ _ h) h

theorem actVeto (h : Faulted s u) (v : Veto) : Faulted s (u.actVeto v) := by
  have hdisc := ((h.count pgReg 3).raise offTile_pgReg 1).discardFrom v.g
  refine either ?_ hdisc
  split
  · exact either (frame hdisc) hdisc
  · exact frame hdisc

theorem holdVeto (h : Faulted s u) (g : Nat) : Faulted s (u.holdVeto g) := either h (frame h)

theorem declareVeto (h : Faulted s u) (g : Nat) : Faulted s (u.declareVeto g) := by
  have hheld := (((h.count pgReg 2).raise offTile_pgReg 0).log pgReg 2 3 (g % 2 ^ 32)).holdVeto g
  have hsent (m : Bytes) := hheld.flood none m
  exact either h (either ((((hsent _).count _ _).raise offTile_pgReg _).log _ _ _ _) ((hsent _).actVeto _))

/-- What a frame fault does beyond raising its event: it is charged to its frame, once, logged and vetoed. -/
theorem ofFrameFault (s : State) (src g : Nat) : Faulted (s.raise pgFrame 1) (s.frameFault src g) := by
  have hraise := Faulted.refl (s.raise pgFrame 1)
  unfold State.frameFault
  extract_lets was u1 f1 u2 f2 u3 u4
  have h2 : Faulted (s.raise pgFrame 1) u2 := either hraise ((frame hraise).count _ _)
  have h3 : Faulted (s.raise pgFrame 1) u3 := either h2 ((frame h2).logged ((Logged.refl _).faultLog _ _ _))
  exact (h3.log _ _ _ _).declareVeto g

theorem frameFault (h : Faulted s u) (src g : Nat) : Faulted s (u.frameFault src g) :=
  (h.raise offTile_pgFrame 1).trans (ofFrameFault u src g)

end Faulted

/-- A frame fault raises its event on the FRAME page. -/
theorem State.frameFault_raises (s : State) (src g : Nat) : bitOf ((s.frameFault src g).raw pgFrame) 1 = true := by
  refine (Faulted.ofFrameFault s src g).raised _ _ ?_
  rw [bitOf_raw_raise]
  simp

end Sys2Proof.Machine
end

section
/-!
PROOFS. Runs and weight sets (O33): the launch of a TILE_RUN, the shadow latches, the switch, and the stop of a run.
-/
namespace Sys2Proof.Machine

variable {s : State}

/-! ### Faults of a tile -/

/-- RUN_FAULT or DRIVER_FAULT before its log entry: STAT.FAULT is set and the event raised. -/
def State.markFault (s : State) (t bit : Nat) : State :=
  (s.setTl t { s.tl t with fault := true }).raise (pgTile t) bit

theorem logged_tileFault (s : State) (t bit : Nat) : Logged (s.markFault t bit) (s.tileFault t bit) :=
  (Logged.refl _).faultLog _ _ _

theorem faulted_tileFault (s : State) (t bit src g : Nat) :
    Faulted (s.markFault t bit) ((s.tileFault t bit).frameFault src g) :=
  ((Faulted.refl _).logged (logged_tileFault s t bit)).frameFault src g

@[simp] theorem State.markFault_fr (t bit : Nat) : (s.markFault t bit).fr = s.fr := rfl

@[simp] theorem State.tl_markFault (t bit k : Nat) :
    (s.markFault t bit).tl k = if k = t then { s.tl t with fault := true } else s.tl k := by simp [State.markFault]

theorem State.markFault_raises (t bit : Nat) : bitOf ((s.markFault t bit).raw (pgTile t)) bit = true := by
  rw [State.markFault, bitOf_raw_raise]
  simp

/-! ### The launch -/

/-- An action comes into progress. -/
def State.addAct (s : State) (a : Act) : State := { s with fr := { s.fr with acts := s.fr.acts ++ [a] } }

@[simp] theorem State.tl_addAct (a : Act) (k : Nat) : (s.addAct a).tl k = s.tl k := rfl
@[simp] theorem State.raw_addAct (a : Act) (p : Nat) : (s.addAct a).raw p = s.raw p := rfl
@[simp] theorem State.takeRec_num (r : ARec) : (s.takeRec r).fr.num = s.fr.num := rfl
@[simp] theorem State.takeRec_acts (r : ARec) : (s.takeRec r).fr.acts = s.fr.acts := rfl
@[simp] theorem State.tl_takeRec (r : ARec) (k : Nat) : (s.takeRec r).tl k = s.tl k := rfl

theorem State.launch_of_due {r : ARec} {ty : Nat} {ok : ARec → Bool} (go : ARec → Nat → State → State × List Nat × Bool)
    (hnext : s.nextRecord = some r) (hdue : s.recDue r = true) (hvalid : s.recValid r = true) (hty : r.ty = ty)
    (hok : ok r = true) :
    s.launch ty ok go = (go r s.fr.nextRec (s.takeRec r)).1.addAct ⟨s.fr.num, s.fr.nextRec, ty, r.noslack, r.start,
      r.bound, r.tag, (go r s.fr.nextRec (s.takeRec r)).2.1, (go r s.fr.nextRec (s.takeRec r)).2.2, false⟩ := by
  simp [State.launch, hnext, hdue, hvalid, hty, hok, State.addAct]

theorem State.launchTiles_starts (r : ARec) (idx : Nat) {t : Nat} (hen : s.en (pgTile t) = true)
    (hfine : s.runRefused t (fld r.w1 10 8) = false) (hfree : (s.tl t).run = none) :
    s.launchTiles r idx [t] = (s.setTl t ((s.tl t).begin ⟨s.fr.num, idx, fld r.w1 10 8, fld r.w1 12 11, fld r.w1 14 13,
      fld r.w1 21 16, fld r.w1 47 32, 0⟩), [t], false) := by
  simp [State.launchTiles, hen, hfine, hfree]

theorem State.launchTiles_refuses (r : ARec) (idx : Nat) {t : Nat} (hen : s.en (pgTile t) = true)
    (hrefused : s.runRefused t (fld r.w1 10 8) = true) :
    s.launchTiles r idx [t] = ((s.tileFault t 0).frameFault 6 s.fr.num, [], true) := by
  simp [State.launchTiles, hen, hrefused]

theorem opActionTileRun_of_one {r : ARec} {t : Nat} (hnext : s.nextRecord = some r) (hdue : s.recDue r = true)
    (hvalid : s.recValid r = true) (hty : r.ty = 1) (hw2 : r.w2 = 0) (ht : fld r.w1 7 0 = t) :
    opActionTileRun s = ((s.takeRec r).launchTiles r s.fr.nextRec [t]).1.addAct ⟨s.fr.num, s.fr.nextRec, 1, r.noslack,
      r.start, r.bound, r.tag, ((s.takeRec r).launchTiles r s.fr.nextRec [t]).2.1,
      ((s.takeRec r).launchTiles r s.fr.nextRec [t]).2.2, false⟩ := by
  have hone : runTiles r = [t] := by simp [runTiles, hw2, ht]
  rw [opActionTileRun, State.launch_of_due _ hnext hdue hvalid hty rfl, hone]

/-- A TILE_RUN that its tile takes (R75, R297). -/
theorem actionTileRun_starts {r : ARec} {t : Fin 256} (hnext : s.nextRecord = some r) (hdue : s.recDue r = true)
    (hvalid : s.recValid r = true) (hty : r.ty = 1) (hw2 : r.w2 = 0) (ht : fld r.w1 7 0 = t.val)
    (hen : s.en (pgTile t.val) = true) (hact : s.actOf s.fr.num s.fr.nextRec = none)
    (hfine : s.runRefused t.val (fld r.w1 10 8) = false) (hfree : (s.tl t.val).run = none) :
    Answers (exec .actionTileRun s) (fun u =>
      u.tl t.val = (s.tl t.val).begin
        ⟨s.fr.num, s.fr.nextRec, fld r.w1 10 8, fld r.w1 12 11, fld r.w1 14 13, fld r.w1 21 16, fld r.w1 47 32, 0⟩ ∧
      u.actOf s.fr.num s.fr.nextRec =
        some ⟨s.fr.num, s.fr.nextRec, 1, r.noslack, r.start, r.bound, r.tag, [t.val], false, false⟩ ∧
      (∀ k, k ≠ t.val → u.tl k = s.tl k) ∧ u.mem = s.mem ∧ u.link = s.link ∧ u.q = s.q) := by
  show Answers (done s (opActionTileRun s)) _
  rw [opActionTileRun_of_one hnext hdue hvalid hty hw2 ht,
    State.launchTiles_starts (s := s.takeRec r) r s.fr.nextRec hen hfine hfree]
  refine answers_done ⟨?_, ?_, fun k hk => ?_, ?_, ?_, ?_⟩
  · simp
  · exact State.actOf_append s _ hact (by simp [State.addAct]) rfl rfl
  · simp [hk]
  all_goals simp [State.addAct, State.takeRec]

/-- A TILE_RUN that its tile refuses (R61, R73). -/
theorem actionTileRun_refused {r : ARec} {t : Fin 256} (hnext : s.nextRecord = some r) (hdue : s.recDue r = true)
    (hvalid : s.recValid r = true) (hty : r.ty = 1) (hw2 : r.w2 = 0) (ht : fld r.w1 7 0 = t.val)
    (hen : s.en (pgTile t.val) = true) (hact : s.actOf s.fr.num s.fr.nextRec = none)
    (hrefused : s.runRefused t.val (fld r.w1 10 8) = true) :
    Answers (exec .actionTileRun s) (fun u =>
      { u.tl t.val with img := (s.tl t.val).img } = { s.tl t.val with fault := true } ∧
      bitOf (u.raw (pgTile t.val)) 0 = true ∧ bitOf (u.raw pgFrame) 1 = true ∧
      u.actOf s.fr.num s.fr.nextRec =
        some ⟨s.fr.num, s.fr.nextRec, 1, r.noslack, r.start, r.bound, r.tag, [], true, false⟩) := by
  show Answers (done s (opActionTileRun s)) _
  rw [opActionTileRun_of_one hnext hdue hvalid hty hw2 ht,
    State.launchTiles_refuses (s := s.takeRec r) r s.fr.nextRec hen hrefused]
  have hfault := faulted_tileFault (s.takeRec r) t.val 0 6 s.fr.num
  refine answers_done ⟨?_, ?_, ?_, ?_⟩
  · simpa using hfault.tl t.val
  · simpa using hfault.raised _ _ (State.markFault_raises _ _)
  · simpa using State.frameFault_raises _ _ _
  · exact State.actOf_append s _ hact (by simp [State.addAct, hfault.acts]) rfl rfl

/-! ### The shadow latches -/

theorem opShadowLoadStart_of_ready {t : Fin 256} (hon : s.tileOn t.val = true) (hload : (s.tl t.val).loading = false)
    (hshadow : (s.tl t.val).shadow = none) (hready : (s.tl t.val).nextSlotReady = true) :
    opShadowLoadStart t none s = s.setTl t.val { s.tl t.val with loading := true, loadCol := (s.tl t.val).used.lcol } := by
  simp [opShadowLoadStart, hon, hload, hshadow, hready, State.errIn]

theorem opShadowLoadDone_of_loading {t : Fin 256} (hen : s.en (pgTile t.val) = true)
    (hload : (s.tl t.val).loading = true) :
    opShadowLoadDone t s = s.setTl t.val { s.tl t.val with
      loading := false
      shadow := some ⟨(s.tl t.val).read (s.tl t.val).nextSlotAt 0x2200, (s.tl t.val).loadCol,
        (s.tl t.val).anyMark (s.tl t.val).nextSlotAt 0x2200⟩ } := by
  simp [opShadowLoadDone, hen, hload]

/-! ### The stop of a run -/

/-- What the end of a run and the start of the next leave: the set in force, the accumulators, a fault and the events of
`s` stand in `u`. -/
structure SetsKept (t : Nat) (s u : State) : Prop where
  active : (u.tl t).active = (s.tl t).active
  acc : (u.tl t).acc = (s.tl t).acc
  fault : (s.tl t).fault = true → (u.tl t).fault = true
  raised : ∀ p i, bitOf (s.raw p) i = true → bitOf (u.raw p) i = true

namespace SetsKept
variable {t : Nat} {u v : State}

theorem trans (h : SetsKept t s u) (h' : SetsKept t u v) : SetsKept t s v where
  active := h'.active.trans h.active
  acc := h'.acc.trans h.acc
  fault hf := h'.fault (h.fault hf)
  raised p i hb := h'.raised p i (h.raised p i hb)

theorem ofKept (h : TilesKept s u) : SetsKept t s u where
  active := h.field Tile.active t
  acc := h.field Tile.acc t
  fault hf := (h.field Tile.fault t).trans hf
  raised := h.raised

theorem setTl (s : State) {x : Tile} (hactive : x.active = (s.tl t).active) (hacc : x.acc = (s.tl t).acc)
    (hfault : x.fault = (s.tl t).fault) : SetsKept t s (s.setTl t x) where
  active := by simpa using hactive
  acc := by simpa using hacc
  fault hf := by simpa [hfault] using hf
  raised _ _ hb := hb

theorem markFault (s : State) (t bit : Nat) : SetsKept t s (s.markFault t bit) where
  active := by simp
  acc := by simp
  fault _ := by simp
  raised p i hb := by rw [State.markFault, bitOf_raw_raise, State.raw_setTl, hb, Bool.true_or]

theorem neverAct (s : State) (t f i : Nat) : SetsKept t s (s.neverAct f i) := ⟨rfl, rfl, id, fun _ _ => id⟩

theorem finishPart (s : State) (t f i a : Nat) : SetsKept t s (s.finishPart f i a) := ⟨rfl, rfl, id, fun _ _ => id⟩

theorem tileFault (s : State) (t bit : Nat) : SetsKept t s (s.tileFault t bit) :=
  (markFault s t bit).trans (ofKept (logged_tileFault s t bit).toTilesKept)

theorem frameFault (s : State) (t src g : Nat) : SetsKept t s (s.frameFault src g) :=
  ofKept ((Faulted.refl s).frameFault src g).toTilesKept

theorem nextRun (s : State) (t : Nat) (rs : List TRun) : SetsKept t s (s.nextRun t rs) := by
  induction rs generalizing s with
  | nil => exact setTl s rfl rfl rfl
  | cons r rs ih =>
    unfold State.nextRun
    split
    · exact (((tileFault s t 0).trans (neverAct _ t _ _)).trans (frameFault _ t _ _)).trans (ih _)
    · exact setTl s rfl rfl rfl

end SetsKept

theorem Tile.markLast_eq (x : Tile) : ∃ fifo outRec, x.markLast = { x with fifo, outRec } := by
  unfold Tile.markLast
  split <;> exact ⟨_, _, rfl⟩

theorem Tile.closeSlot_eq (x : Tile) : ∃ oLens oFill, x.closeSlot = { x with oLens, oFill } := by
  unfold Tile.closeSlot
  split <;> exact ⟨_, _, rfl⟩

/-- The end of a run touches the results still to come and the output slots only. -/
theorem Tile.endRun_eq (x : Tile) : ∃ fifo outRec closing oLens oFill,
    x.endRun = { x with fifo, outRec, closing, oLens, oFill } := by
  obtain ⟨fifo, outRec, hmark⟩ := x.markLast_eq
  obtain ⟨oLens, oFill, hclose⟩ := x.closeSlot_eq
  unfold Tile.endRun
  extract_lets y
  split
  · exact ⟨fifo, outRec, x.closing + 1, x.oLens, x.oFill, by rw [show y = _ from hmark]⟩
  · split
    · exact ⟨x.fifo, x.outRec, x.closing, oLens, oFill, hclose⟩
    · exact ⟨_, _, _, _, _, rfl⟩

theorem State.stopRun_of_run {t : Nat} {r : TRun} (hrun : (s.tl t).run = some r) (src : Nat) :
    s.stopRun t src = ((((s.tileFault t 0).setTl t { ((s.tileFault t 0).tl t).endRun with run := none }).finishPart r.frame
      r.idx t).frameFault src r.frame).nextRun t ((s.tileFault t 0).tl t).endRun.waiting := by
  simp [State.stopRun, hrun]

/-- A stopped run faults its tile and its frame, and takes no set out of force. -/
theorem State.stopRun_faults {t src : Nat} {r : TRun} (hrun : (s.tl t).run = some r) :
    ((s.stopRun t src).tl t).active = (s.tl t).active ∧ ((s.stopRun t src).tl t).fault = true ∧
      bitOf ((s.stopRun t src).raw (pgTile t)) 0 = true ∧ bitOf ((s.stopRun t src).raw pgFrame) 1 = true ∧
      ((s.stopRun t src).tl t).acc = (s.tl t).acc := by
  have hmark := SetsKept.markFault s t 0
  have hlog : SetsKept t (s.markFault t 0) (s.tileFault t 0) := .ofKept (logged_tileFault s t 0).toTilesKept
  rw [State.stopRun_of_run hrun]
  generalize s.tileFault t 0 = s1 at *
  have hend : SetsKept t s1 (s1.setTl t { (s1.tl t).endRun with run := none }) := by
    obtain ⟨_, _, _, _, _, hend⟩ := (s1.tl t).endRun_eq
    rw [hend]
    exact .setTl s1 rfl rfl rfl
  have hpart := (hlog.trans hend).trans (.finishPart _ t r.frame r.idx t)
  generalize (s1.setTl t { (s1.tl t).endRun with run := none }).finishPart r.frame r.idx t = s2 at *
  have hnext := SetsKept.nextRun (s2.frameFault src r.frame) t (s1.tl t).endRun.waiting
  have hall := (hpart.trans (.frameFault s2 t src r.frame)).trans hnext
  exact ⟨(hmark.trans hall).active, hall.fault (by simp), hall.raised _ _ (State.markFault_raises _ _),
    hnext.raised _ _ (State.frameFault_raises _ _ _), (hmark.trans hall).acc⟩

/-! ### The weight switch -/

/-- A sound set that the accumulators and the output slot can take comes into force; the weight ring releases the slot of
the set before, if there was one (R64, R68). -/
theorem opWeightSwitch_of_sound {t : Fin 256} {r : TRun} {l : Latch} (hrun : (s.tl t.val).run = some r)
    (hshadow : (s.tl t.val).shadow = some l) (hen : s.en (pgTile t.val) = true) (hvec : r.vec = 0) (hleft : r.left ≠ 0)
    (hbad : l.bad = false) (hacc : dAcc (setDesc l.par) + dVectors (setDesc l.par) ≤ 256)
    (hvectors : dVectors (setDesc l.par) ≠ 0)
    (hlast : dLast (setDesc l.par) = true → recSize (dFmt (setDesc l.par)) ≤ (s.tl t.val).oSize) :
    ∃ wHead wSrc wIn, opWeightSwitch t s = (s.setTl t.val { s.tl t.val with
      active := some l, shadow := none, setId := dId (setDesc l.par)
      run := some { r with left := r.left - 1, vec := dVectors (setDesc l.par) }
      wHead, wSrc, wIn }).count (pgTile t.val) 1 := by
  have hfits : (dLast (setDesc l.par) && decide ((s.tl t.val).oSize < recSize (dFmt (setDesc l.par)))) = false := by
    cases hl : dLast (setDesc l.par)
    · rfl
    · simpa using hlast hl
  have hnot : ¬ 256 < dAcc (setDesc l.par) + dVectors (setDesc l.par) := by omega
  unfold opWeightSwitch
  simp only [hrun, hshadow, hen, hvec, hleft, hbad, hnot, hvectors, hfits]
  cases (s.tl t.val).wIn <;> exact ⟨_, _, _, rfl⟩

theorem opWeightSwitch_of_bad {t : Fin 256} {r : TRun} {l : Latch} (hrun : (s.tl t.val).run = some r)
    (hshadow : (s.tl t.val).shadow = some l) (hen : s.en (pgTile t.val) = true) (hvec : r.vec = 0) (hleft : r.left ≠ 0)
    (hbad : l.bad = true) : opWeightSwitch t s = s.stopRun t.val 7 := by
  simp [opWeightSwitch, hrun, hshadow, hen, hvec, hleft, hbad]

/-- Settles O33, command by command. -/
theorem tilesTakeRunsAndWeightSets : Obligations.TilesTakeRunsAndWeightSets := by
  intro s t
  refine ⟨fun r hnext hdue hvalid hty hw2 ht hen hact =>
    ⟨actionTileRun_starts hnext hdue hvalid hty hw2 ht hen hact,
      actionTileRun_refused hnext hdue hvalid hty hw2 ht hen hact⟩,
    fun hon hload hshadow hready => ?_, fun hen hload => ?_, fun r l hrun hshadow hen hvec hleft =>
    ⟨fun hbad hacc hvectors hlast => ?_, fun hbad => ?_⟩⟩
  · exact congrArg (done s) (opShadowLoadStart_of_ready hon hload hshadow hready)
  · exact congrArg (done s) (opShadowLoadDone_of_loading hen hload)
  · obtain ⟨wHead, wSrc, wIn, hop⟩ := opWeightSwitch_of_sound hrun hshadow hen hvec hleft hbad hacc hvectors hlast
    show Answers (done s (opWeightSwitch t s)) _
    rw [hop]
    refine answers_done ?_
    simp +contextual
  · show Answers (done s (opWeightSwitch t s)) _
    rw [opWeightSwitch_of_bad hrun hshadow hen hvec hleft hbad]
    refine answers_done ?_
    simpa using State.stopRun_faults (src := 7) hrun

end Sys2Proof.Machine
end

section
/-!
PROOFS. The vector cycle (O34): the codes of the planes, the dot products as sums over the rows, the result that joins the
FIFO, and what the cycle leaves of the tile.
-/
namespace Sys2Proof.Machine

/-! ### Dot products -/

theorem rowVals_length (bs : Bytes) : (rowVals bs).length = 2 * bs.length := by
  induction bs with
  | nil => rfl
  | cons b bs ih =>
    show (rowVals bs).length + 1 + 1 = _
    rw [ih, List.length_cons]
    omega

/-- Each byte of a row holds two cells, the even one in its low half (Table 2.5). -/
theorem rowVals_getD (bs : Bytes) {c : Nat} (hc : c < 2 * bs.length) :
    (rowVals bs).getD c 0 = sext 4 ((bs.getD (c / 2) 0).toNat / 16 ^ (c % 2)) := by
  induction bs generalizing c with
  | nil => simp at hc
  | cons b bs ih =>
    match c with
    | 0 => simp [rowVals]
    | 1 => simp [rowVals]
    | c + 2 =>
      have hhalf : (c + 2) / 2 = c / 2 + 1 := by omega
      have hpar : (c + 2) % 2 = c % 2 := by omega
      rw [hhalf, hpar, List.getD_cons_succ]
      exact ih (by simp only [List.length_cons] at hc; omega)

theorem dots_length (as : List Nat) (bs : Bytes) (h : 64 * as.length ≤ bs.length) : (dots as bs).length = 128 := by
  induction as generalizing bs with
  | nil => simp [dots]
  | cons a as ih =>
    simp only [List.length_cons] at h
    have hrest := ih (bs.drop 64) (by rw [List.length_drop]; omega)
    rw [dots, List.length_zipWith, hrest, rowVals_length, List.length_take]
    omega

/-- A column's dot product is the sum over the rows (R83). -/
theorem dots_getD (as : List Nat) (bs : Bytes) (h : 64 * as.length ≤ bs.length) {c : Nat} (hc : c < 128) :
    (dots as bs).getD c 0 = ((List.range as.length).map (fun i =>
      (as.getD i 0 : Int) * sext 4 ((bs.getD (64 * i + c / 2) 0).toNat / 16 ^ (c % 2)))).sum := by
  induction as generalizing bs with
  | nil => simp only [dots, List.getD_eq_getElem?_getD, List.getElem?_replicate, hc, if_true]; rfl
  | cons a as ih =>
    simp only [List.length_cons] at h
    have hdrop : 64 * as.length ≤ (bs.drop 64).length := by rw [List.length_drop]; omega
    have htake : c < 2 * (bs.take 64).length := by rw [List.length_take]; omega
    have hzip : (dots (a :: as) bs).getD c 0 = (dots as (bs.drop 64)).getD c 0 + a * (rowVals (bs.take 64)).getD c 0 := by
      have hd : c < (dots as (bs.drop 64)).length := by rw [dots_length _ _ hdrop]; omega
      have hr : c < (rowVals (bs.take 64)).length := by rw [rowVals_length]; omega
      simp [dots, List.getD_eq_getElem?_getD, hd, hr]
    have hrow : (bs.take 64).getD (c / 2) 0 = bs.getD (c / 2) 0 := by
      simp [List.getD_eq_getElem?_getD, show c / 2 < 64 by omega]
    rw [hzip, ih _ hdrop, rowVals_getD _ htake, hrow, List.length_cons, List.range_succ_eq_map, List.map_cons, List.sum_cons,
      List.map_map, add_comm]
    congr 2
    · simp
    · refine List.map_congr_left fun i _ => ?_
      have hat : 64 * (i + 1) + c / 2 = 64 + (64 * i + c / 2) := by omega
      simp [Function.comp, hat, List.getD_eq_getElem?_getD, List.getElem?_drop]

theorem actCodes_length (p : Nat) (rec : Bytes) : (actCodes p rec).length = 128 := by simp [actCodes]

/-- The code of a row: bit-plane `j` has weight 2^j (R69). -/
theorem actCodes_getD (p : Nat) (rec : Bytes) {i : Nat} (hi : i < 128) :
    (actCodes p rec).getD i 0 =
      ((List.range p).map (fun j => leNat ((rec.drop (16 * j)).take 16) / 2 ^ i % 2 * 2 ^ j)).sum := by
  have hidx : ((List.range p).map (fun j => leNat ((rec.drop (16 * j)).take 16))).zipIdx
      = (List.range p).map (fun j => (leNat ((rec.drop (16 * j)).take 16), j)) := by
    apply List.ext_getElem <;> simp
  unfold actCodes
  simp only [hidx, List.map_map]
  simp [List.getD_eq_getElem?_getD, hi, Function.comp_def]

theorem convert_range (d : Int) (lsb : Nat) (err : Int) : -512 ≤ convert d lsb err ∧ convert d lsb err ≤ 511 := by
  unfold convert clampI
  split
  · omega
  · split <;> omega

/-! ### The activation ring -/

/-- The ring's advance over slots of zero records moves its head only. -/
theorem Tile.aAdvance_eq (x : Tile) (pc n : Nat) :
    ∃ aHead aSrc aRec, (x.aAdvance pc n).1 = { x with aHead, aSrc, aRec } := by
  induction n generalizing x with
  | zero => exact ⟨_, _, _, rfl⟩
  | succ n ih =>
    unfold Tile.aAdvance
    split
    · exact ⟨_, _, _, rfl⟩
    · extract_lets h recs
      split
      · exact ⟨_, _, _, rfl⟩
      · split
        · exact ⟨_, _, _, rfl⟩
        · split
          · obtain ⟨aHead, aSrc, aRec, hrest⟩ := ih x.aRelease
            exact ⟨aHead, aSrc, aRec, hrest⟩
          · exact ⟨_, _, _, rfl⟩

/-! ### The result of a cycle -/

/-- The dot products of the columns for the record at the head of the activation ring, `p` planes. -/
def Tile.columnDots (x : Tile) (p : Nat) (l : Latch) : List Int :=
  dots (actCodes p (x.read (x.aSlotAt + 64 + 16 * p * x.aRec) (16 * p))) (l.slot.take 8192)

/-- The result that a vector cycle puts into the FIFO; `n` numbers the conversions' free errors. -/
def Tile.cycleRes (x : Tile) (n : Nat) (r : TRun) (l : Latch) (pois : Bool) : TRes where
  codes := (x.columnDots (pOf r.pc) l).zipIdx.map (fun e =>
    (convert e.1 (2 ^ (pOf r.pc - 2 + r.rc)) (Config.convError (n + e.2)), tget e.2 e.2 x.used.cmap))
  shadow := if x.used.standby = 0xFF then none
    else some (convert ((x.columnDots (pOf r.pc) l).getD l.lcol 0) (2 ^ (pOf r.pc - 2 + r.rc)) (Config.convError (n + 128)),
      x.used.standby, l.lcol)
  acc := dAcc (setDesc l.par) + (dVectors (setDesc l.par) - r.vec)
  zp := fld (leNat (x.read x.aSlotAt 5)) 11 0
  sh := pOf r.pc - 2 + r.rc
  pc := r.pc
  mc := r.mc
  rc := r.rc
  xo := r.xo
  first := dFirst (setDesc l.par)
  last := dLast (setDesc l.par)
  fmt := dFmt (setDesc l.par)
  par := l.par
  pois := pois
  final := decide (r.vec = 1) && decide (r.left = 0)

/-- The saturated codes of a result, the standby's with the others (R87). -/
def TRes.sats (x : TRes) : Nat :=
  (x.codes.filter (fun c => satCode c.1)).length + (match x.shadow with | some c => if satCode c.1 then 1 else 0 | none => 0)

/-- `n` free values have been drawn. -/
def State.drawn (s : State) (n : Nat) : State := { s with freeCtr := s.freeCtr + n }

@[simp] theorem State.tl_drawn (s : State) (n k : Nat) : (s.drawn n).tl k = s.tl k := rfl
@[simp] theorem State.cntLive_drawn (s : State) (n p k : Nat) : (s.drawn n).cntLive p k = s.cntLive p k := rfl
@[simp] theorem State.drawn_mem (s : State) (n : Nat) : (s.drawn n).mem = s.mem := rfl
@[simp] theorem State.drawn_fr (s : State) (n : Nat) : (s.drawn n).fr = s.fr := rfl
@[simp] theorem State.drawn_link (s : State) (n : Nat) : (s.drawn n).link = s.link := rfl

theorem State.cycle_eq (s : State) (t : Nat) (r : TRun) (l : Latch) (pois : Bool) : ∃ aHead aSrc aRec,
    s.cycle t r l pois = (((s.drawn 129).setTl t { s.tl t with
      fifo := (s.tl t).fifo ++ [(s.tl t).cycleRes s.freeCtr r l pois], run := some { r with vec := r.vec - 1 }
      fVec := (s.tl t).fVec + 1, fSat := (s.tl t).fSat + ((s.tl t).cycleRes s.freeCtr r l pois).sats, ranCal := true
      aHead, aSrc, aRec }).count (pgTile t) 0).countN (pgTile t) 6 ((s.tl t).cycleRes s.freeCtr r l pois).sats := by
  unfold State.cycle
  extract_lets x p h acts ds sh n codes shadow d sats res x1 x2 s1
  have hres : (s.tl t).cycleRes s.freeCtr r l pois = res := rfl
  clear_value shadow codes
  have hsats : res.sats = sats := by cases shadow <;> rfl
  have hx2 : ∃ aHead aSrc aRec, x2 = { x1 with aHead, aSrc, aRec } := by
    by_cases hrec : x1.aRec + 1 < fld h 24 16
    · exact ⟨_, _, _, if_pos hrec⟩
    · exact ⟨_, _, _, if_neg hrec⟩
  obtain ⟨aHead, aSrc, aRec, hx2⟩ := hx2
  refine ⟨aHead, aSrc, aRec, ?_⟩
  rw [hres, hsats, hx2]
  rfl

section
variable (x : Tile) (n : Nat) (r : TRun) (l : Latch) (pois : Bool)

theorem Tile.columnDots_length (p : Nat) (hl : l.slot.length = 0x2200) : (x.columnDots p l).length = 128 :=
  dots_length _ _ (by rw [actCodes_length, List.length_take, hl]; decide)

/-- D_c from the planes of the record and the cells of the set (R69, R83). -/
theorem Tile.columnDots_getD (p : Nat) (hl : l.slot.length = 0x2200) {c : Nat} (hc : c < 128) :
    (x.columnDots p l).getD c 0 = ((List.range 128).map (fun i =>
      ((((List.range p).map (fun j =>
          leNat (x.read (x.aSlotAt + 64 + 16 * p * x.aRec + 16 * j) 16) / 2 ^ i % 2 * 2 ^ j)).sum : Nat) : Int)
        * sext 4 ((l.slot.getD (64 * i + c / 2) 0).toNat / 16 ^ (c % 2)))).sum := by
  rw [Tile.columnDots, dots_getD _ _ (by rw [actCodes_length, List.length_take, hl]; decide) hc, actCodes_length]
  refine congrArg List.sum (List.map_congr_left fun i hi => ?_)
  have hi' : i < 128 := List.mem_range.1 hi
  have hcell : (l.slot.take 8192).getD (64 * i + c / 2) 0 = l.slot.getD (64 * i + c / 2) 0 := by
    simp [List.getD_eq_getElem?_getD, show 64 * i + c / 2 < 8192 by omega]
  have hplane : ∀ j ∈ List.range p, ((x.read (x.aSlotAt + 64 + 16 * p * x.aRec) (16 * p)).drop (16 * j)).take 16
      = x.read (x.aSlotAt + 64 + 16 * p * x.aRec + 16 * j) 16 := fun j hj =>
    Tile.take_drop_read _ _ _ _ _ (by have := List.mem_range.1 hj; omega)
  rw [actCodes_getD _ _ hi', hcell, List.map_congr_left fun j hj => by rw [hplane j hj]]

theorem Tile.cycleRes_length (hl : l.slot.length = 0x2200) : (x.cycleRes n r l pois).codes.length = 128 := by
  simp [Tile.cycleRes, x.columnDots_length l _ hl]

theorem Tile.cycleRes_code (hl : l.slot.length = 0x2200) {c : Nat} (hc : c < 128) :
    (x.cycleRes n r l pois).codes.getD c (0, 0) =
      (convert ((x.columnDots (pOf r.pc) l).getD c 0) (2 ^ (pOf r.pc - 2 + r.rc)) (Config.convError (n + c)),
        tget c c x.used.cmap) := by
  have hlen : c < (x.columnDots (pOf r.pc) l).length := by rw [x.columnDots_length l _ hl]; exact hc
  simp [Tile.cycleRes, List.getD_eq_getElem?_getD, hlen]

theorem Tile.cycleRes_shadow_none (hst : x.used.standby = 0xFF) : (x.cycleRes n r l pois).shadow = none := by
  simp [Tile.cycleRes, hst]

theorem Tile.cycleRes_shadow_some (hst : x.used.standby ≠ 0xFF) :
    ∃ c, (x.cycleRes n r l pois).shadow = some (c, x.used.standby, l.lcol) ∧ -512 ≤ c ∧ c ≤ 511 :=
  ⟨_, if_neg hst, convert_range _ _ _⟩

end

/-! ### The command -/

theorem opVectorCycle_of_ready {s : State} {t : Fin 256} {r : TRun} {l : Latch} {y : Tile} {src : Nat} {srcs : List Nat}
    (hrun : (s.tl t.val).run = some r) (hactive : (s.tl t.val).active = some l) (hen : s.en (pgTile t.val) = true)
    (hvec : r.vec ≠ 0) (hroute : (s.tl t.val).used = (s.tl t.val).roles) (hfifo : (s.tl t.val).fifo = [])
    (hring : (s.tl t.val).aAdvance r.pc 9 = (y, 0)) (hsrc : y.aSrc = src :: srcs) (hpois : y.recPoison r.pc = false) :
    opVectorCycle t none s = (s.setTl t.val y).cycle t.val r l false := by
  simp [opVectorCycle, hrun, hactive, hen, hvec, hroute, hfifo, State.errIn, hring, hsrc, hpois]

/-- Settles O34: the result of the cycle is `Tile.cycleRes` of the tile behind the slots released on the way. -/
theorem vectorCycleFormsDotProducts : Obligations.VectorCycleFormsDotProducts := by
  intro s t r l y src srcs hrun hactive hen hvec hroute hfifo hl hring hsrc hpois
  obtain ⟨_, _, _, hy⟩ := (s.tl t.val).aAdvance_eq r.pc 9
  rw [hring] at hy
  obtain ⟨hused, hfifo', hacc, hsram⟩ : y.used = (s.tl t.val).used ∧ y.fifo = (s.tl t.val).fifo ∧
      y.acc = (s.tl t.val).acc ∧ y.sram = (s.tl t.val).sram := by
    rw [show y = _ from hy]
    exact ⟨rfl, rfl, rfl, rfl⟩
  obtain ⟨aHead, aSrc, aRec, hcycle⟩ := (s.setTl t.val y).cycle_eq t.val r l false
  rw [State.tl_setTl, if_pos rfl, State.setTl_freeCtr] at hcycle
  show Answers (done s (opVectorCycle t none s)) _
  rw [opVectorCycle_of_ready hrun hactive hen hvec hroute hfifo hring hsrc hpois, hcycle]
  refine answers_done ⟨y.cycleRes s.freeCtr r l false, ?_, y.cycleRes_length _ r l _ hl, rfl, rfl, rfl, rfl,
    fun c hc => ?_, fun hst => y.cycleRes_shadow_none _ r l _ (by rw [hused, hst]),
    fun hst => ?_, ?_, ?_, ?_, ?_, ?_, fun k hk => ?_, ?_, ?_, ?_⟩
  · simp [hfifo', hfifo]
  · rw [y.cycleRes_code _ r l _ hl hc, y.columnDots_getD l _ hl hc, hused]
    exact ⟨rfl, (convert_range _ _ _).1, (convert_range _ _ _).2, rfl⟩
  · rw [← hused]
    exact y.cycleRes_shadow_some _ r l _ (by rwa [hused])
  · simp
  · simp
  · generalize y.cycleRes s.freeCtr r l false = res
    simp only [settle_cntLive_pgTile, State.cntLive_countN, if_true, State.cntLive_count, State.cntLive_setTl,
      State.cntLive_drawn, Nat.add_left_cancel_iff, OfNat.ofNat_ne_zero, if_false]
    cases hshadow : res.shadow <;> simp [TRes.sats, hshadow]
  · simpa using hacc
  · simpa using hsram
  · simp [hk]
  all_goals simp

end Sys2Proof.Machine
end

section
/-!
PROOFS. Results and records (O35): the accumulation of a result, column by column, the comparison that goes with it, the
record's place in the output ring, and the completion of a run.
-/
namespace Sys2Proof.Machine

variable {s : State}

/-! ### The accumulators -/

/-- What a column's accumulator would hold without the clamp, given what it held (R93). -/
def State.accValue (s : State) (t : Nat) (r : TRes) (c : Nat) (code : Int) (pcol : Nat) (old : Int) : Int :=
  (if r.first then 0 else old) +
    (corrected16 code (s.eff t (qCol pcol 0)) (s.eff t (qCol pcol 1)) * 2 ^ r.sh -
      16 * r.zp * sext 16 (leNat ((r.par.drop (2 * c)).take 2)))
      * 2 ^ fld (leNat ((r.par.drop (0x100 + c / 2)).take 1)) (4 * (c % 2) + 3) (4 * (c % 2))

/-- The clamp of an accumulator to 48 bits (R93). -/
def clamp48 (v : Int) : Int := clampI (-(2 : Int) ^ 47) (2 ^ 47 - 1) v

theorem accStep_eq (t : Nat) (r : TRes) (c : Nat) (code : Int) (pcol : Nat) (x : Tile) :
    (accStep s t r c code pcol x).1 = { x with
      acc := tset 0 (256 * c + r.acc) (clamp48 (s.accValue t r c code pcol (tget 0 (256 * c + r.acc) x.acc))) x.acc
      sat := tset false (256 * c + r.acc)
        (decide (s.accValue t r c code pcol (tget 0 (256 * c + r.acc) x.acc) ≠
            clamp48 (s.accValue t r c code pcol (tget 0 (256 * c + r.acc) x.acc)))
          || (!r.first && tget false (256 * c + r.acc) x.sat)) x.sat } := by
  unfold accStep State.accValue clamp48
  cases r.first
  · rfl
  · simp only [if_true, Int.zero_add]

theorem accAll_eq (t : Nat) (r : TRes) (c : Nat) (es : List (Int × Nat)) (x : Tile) :
    ∃ acc sat, (accAll s t r c es x).1 = { x with acc, sat } := by
  induction es generalizing c x with
  | nil => exact ⟨_, _, rfl⟩
  | cons e es ih =>
    obtain ⟨acc, sat, hrest⟩ := ih (c + 1) (accStep s t r c e.1 e.2 x).1
    rw [accStep_eq] at hrest
    exact ⟨acc, sat, by rw [accAll, accStep_eq]; exact hrest⟩

/-- The columns from `c` on touch their own accumulators only. -/
theorem accAll_ne (t : Nat) (r : TRes) (c : Nat) (es : List (Int × Nat)) (x : Tile) {k : Nat}
    (hk : ∀ i, i < es.length → k ≠ 256 * (c + i) + r.acc) :
    tget 0 k (accAll s t r c es x).1.acc = tget 0 k x.acc ∧ tget false k (accAll s t r c es x).1.sat = tget false k x.sat := by
  induction es generalizing c x with
  | nil => exact ⟨rfl, rfl⟩
  | cons e es ih =>
    have hfirst : k ≠ 256 * c + r.acc := hk 0 (by simp)
    obtain ⟨hacc, hsat⟩ := ih (c + 1) (accStep s t r c e.1 e.2 x).1 fun i hi => by
      have := hk (i + 1) (by simpa using hi)
      omega
    rw [accAll]
    refine ⟨hacc.trans ?_, hsat.trans ?_⟩
    · rw [accStep_eq]
      exact tget_tset_ne _ _ _ hfirst _
    · rw [accStep_eq]
      exact tget_tset_ne _ _ _ hfirst _

/-- The accumulator and the flag of each column (R93). -/
theorem accAll_column (t : Nat) (r : TRes) (c : Nat) (es : List (Int × Nat)) (x : Tile) {i : Nat} (hi : i < es.length)
    {code : Int} {pcol : Nat} (hcode : es.getD i (0, 0) = (code, pcol)) {k : Nat} (hk : k = 256 * (c + i) + r.acc) {v : Int}
    (hv : v = s.accValue t r (c + i) code pcol (tget 0 k x.acc)) :
    tget 0 k (accAll s t r c es x).1.acc = clamp48 v ∧
      tget false k (accAll s t r c es x).1.sat = (decide (v ≠ clamp48 v) || (!r.first && tget false k x.sat)) := by
  induction es generalizing c x i with
  | nil => simp at hi
  | cons e es ih =>
    rw [accAll]
    cases i with
    | zero =>
      obtain rfl : e = (code, pcol) := by simpa using hcode
      rw [Nat.add_zero] at hk hv
      obtain ⟨hacc, hsat⟩ := accAll_ne (s := s) t r (c + 1) es (accStep s t r c code pcol x).1 (k := k) fun i _ => by omega
      refine ⟨hacc.trans ?_, hsat.trans ?_⟩
      · rw [accStep_eq, hv, hk, tget_tset_same]
      · rw [accStep_eq, hv, hk, tget_tset_same]
    | succ i =>
      have hne : k ≠ 256 * c + r.acc := by omega
      have hold : tget 0 k (accStep s t r c e.1 e.2 x).1.acc = tget 0 k x.acc := by
        rw [accStep_eq]
        exact tget_tset_ne _ _ _ hne _
      have holdSat : tget false k (accStep s t r c e.1 e.2 x).1.sat = tget false k x.sat := by
        rw [accStep_eq]
        exact tget_tset_ne _ _ _ hne _
      have hcol : c + 1 + i = c + (i + 1) := by omega
      rw [← holdSat]
      exact ih (c + 1) _ (by simpa using hi) (by simpa using hcode) (by rw [hcol, hk]) (by rw [hcol, hold, hv])

/-! ### The shadow comparison -/

/-- What the shadow comparison may change of the state: its own fields of the tile, counters and events (R168, R169). -/
structure ComparedOnly (t : Nat) (s u : State) : Prop where
  tl : ∃ cmp rot fails badS due, u.tl t = { s.tl t with cmp, rot, fails, badS, due }
  others : ∀ k, k ≠ t → u.tl k = s.tl k
  mem : u.mem = s.mem
  fr : u.fr = s.fr

namespace ComparedOnly
variable {t : Nat} {u v : State}

theorem refl (s : State) (t : Nat) : ComparedOnly t s s := ⟨⟨_, _, _, _, _, rfl⟩, fun _ _ => rfl, rfl, rfl⟩

theorem trans (h : ComparedOnly t s u) (h' : ComparedOnly t u v) : ComparedOnly t s v := by
  obtain ⟨⟨_, _, _, _, _, htl⟩, hothers, hmem, hfr⟩ := h
  obtain ⟨⟨_, _, _, _, _, htl'⟩, hothers', hmem', hfr'⟩ := h'
  rw [htl] at htl'
  exact ⟨⟨_, _, _, _, _, htl'⟩, fun k hk => (hothers' k hk).trans (hothers k hk), hmem'.trans hmem, hfr'.trans hfr⟩

theorem setTl (s : State) (t : Nat) (cmp : Compare) (rot fails badS due : Nat) :
    ComparedOnly t s (s.setTl t { s.tl t with cmp, rot, fails, badS, due }) :=
  ⟨⟨cmp, rot, fails, badS, due, by simp⟩, fun k hk => by simp [hk], rfl, rfl⟩

theorem swapAbandoned (s : State) (t : Nat) : ComparedOnly t s (s.swapAbandoned t) := by
  have hcount (u : State) : ComparedOnly t u (u.countRaise (pgTile t) 9 2) :=
    ⟨⟨_, _, _, _, _, State.tl_countRaise ..⟩, fun _ _ => State.tl_countRaise .., State.countRaise_mem .., State.countRaise_fr ..⟩
  unfold State.swapAbandoned
  extract_lets x n y
  refine .trans ?_ (hcount _)
  by_cases hn : n < 3
  · rw [show y = _ from if_pos hn]
    exact setTl s t _ _ _ _ _
  · by_cases hb : 0 < x.badS
    · rw [show y = _ from (if_neg hn).trans (if_pos hb)]
      exact setTl s t _ _ _ _ _
    · rw [show y = _ from (if_neg hn).trans (if_neg hb)]
      exact setTl s t _ _ _ _ _

theorem verdict (s : State) (t : Nat) (pass : Bool) : ComparedOnly t s (s.verdict t pass) := by
  unfold State.verdict
  split
  · exact setTl s t _ _ _ _ _
  · exact swapAbandoned s t

theorem compareVec (s : State) (t : Nat) (r : TRes) : ComparedOnly t s (s.compareVec t r) := by
  unfold State.compareVec
  extract_lets x
  split
  · exact refl s t
  · extract_lets cv ys yv b ok c s1 y1
    split
    · exact refl s t
    · have hfirst : ComparedOnly t s s1 := setTl s t _ _ _ _ _
      split
      · exact hfirst
      · exact (hfirst.trans (setTl s1 t _ _ _ _ _)).trans (verdict _ t _)

end ComparedOnly

/-! ### Output records and slots -/

theorem leBytes_length (n v : Nat) : (leBytes n v).length = n := by
  induction n generalizing v with
  | zero => rfl
  | succ n ih => simp [leBytes, ih]

theorem length_flatMap_leBytes (n : Nat) (vs : List (Nat × Bool)) :
    (vs.flatMap (fun v => leBytes n v.1)).length = vs.length * n := by
  induction vs with
  | nil => simp
  | cons v vs ih => simp only [List.flatMap_cons, List.length_append, leBytes_length, ih, List.length_cons]; ring

/-- A record has the size of OUT_FMT (R70). -/
theorem Tile.closeOut_length (x : Tile) {r : TRes} (hfmt : r.fmt < 4) : (x.closeOut r).1.length = recSize r.fmt := by
  have hsize : 128 * valSize r.fmt = recSize r.fmt := by
    obtain h | h | h | h : r.fmt = 0 ∨ r.fmt = 1 ∨ r.fmt = 2 ∨ r.fmt = 3 := by omega
    all_goals rw [h]; rfl
  rw [← hsize, Tile.closeOut, length_flatMap_leBytes, List.length_map, List.length_range]

theorem Tile.lastDone_eq (x : Tile) (final : Bool) : ∃ oLens oFill closing, x.lastDone final = { x with oLens, oFill, closing } := by
  obtain ⟨oLens, oFill, hclose⟩ := x.closeSlot_eq
  unfold Tile.lastDone
  split
  · exact ⟨oLens, oFill, x.closing - 1, by rw [hclose]⟩
  · exact ⟨_, _, _, rfl⟩

/-! ### RESULT_ACCUMULATE -/

/-- The oldest result has been added into the accumulators: the tile before the comparison and the close-out. -/
def Tile.accumulated (x : Tile) (r : TRes) (acc : Tbl Int) (sat : Tbl Bool) (bad : Bool) : Tile :=
  { x with
    fifo := x.fifo.tail, acc, sat, fBad := bad
    pflag := tset false r.acc (r.pois || (!r.first && tget false r.acc x.pflag)) x.pflag }

theorem opResultAccumulate_of_ready {t : Fin 256} {r : TRes} {rs : List TRes} (hen : s.en (pgTile t.val) = true)
    (hfifo : (s.tl t.val).fifo = r :: rs) (hrec : (s.tl t.val).outRec = none) {acc : Tbl Int} {sat : Tbl Bool} {n : Nat}
    (hq : accAll s t.val r 0 r.codes { s.tl t.val with fifo := rs } = ({ s.tl t.val with fifo := rs, acc, sat }, n))
    {u : State} (hu : u = ((s.setTl t.val ((s.tl t.val).accumulated r acc sat ((s.tl t.val).fBad || decide (n ≠ 0)))).countN
      (pgTile t.val) 7 n).compareVec t.val r) :
    opResultAccumulate t s = if r.last then
        u.setTl t.val { u.tl t.val with
          outRec := some (((u.tl t.val).closeOut r).1,
            r.pois || (!r.first && tget false r.acc (s.tl t.val).pflag), r.final)
          fBad := (u.tl t.val).fBad || ((u.tl t.val).closeOut r).2 }
      else u.setTl t.val ((u.tl t.val).lastDone r.final) := by
  unfold opResultAccumulate
  dsimp only
  rw [hfifo]
  dsimp only
  rw [if_neg (by simp [hrec, hen]), hq, hu, Tile.accumulated, hfifo]
  rfl

/-- The tile and the rest of the state after RESULT_ACCUMULATE. -/
theorem opResultAccumulate_result {t : Fin 256} {r : TRes} {rs : List TRes} (hen : s.en (pgTile t.val) = true)
    (hfifo : (s.tl t.val).fifo = r :: rs) (hrec : (s.tl t.val).outRec = none) (hfmt : r.fmt < 4) {u : State}
    (hu : u = opResultAccumulate t s) {q : Tile} (hq : q = (accAll s t.val r 0 r.codes { s.tl t.val with fifo := rs }).1) :
    (u.tl t.val).fifo = rs ∧ (u.tl t.val).acc = q.acc ∧ (u.tl t.val).sat = q.sat ∧
      tget false r.acc (u.tl t.val).pflag = (r.pois || (!r.first && tget false r.acc (s.tl t.val).pflag)) ∧
      (r.last = false → (u.tl t.val).outRec = none) ∧
      (r.last = true → ∃ bs p, (u.tl t.val).outRec = some (bs, p, r.final) ∧ bs.length = recSize r.fmt) ∧
      (u.tl t.val).sram = (s.tl t.val).sram ∧ (∀ k, k ≠ t.val → u.tl k = s.tl k) ∧ u.mem = s.mem ∧ u.fr = s.fr := by
  obtain ⟨acc, sat, hacc⟩ := accAll_eq (s := s) t.val r 0 r.codes { s.tl t.val with fifo := rs }
  generalize hn : (accAll s t.val r 0 r.codes { s.tl t.val with fifo := rs }).2 = n
  obtain ⟨v, hv⟩ : ∃ v, v = ((s.setTl t.val ((s.tl t.val).accumulated r acc sat ((s.tl t.val).fBad ||
    decide (n ≠ 0)))).countN (pgTile t.val) 7 n).compareVec t.val r := ⟨_, rfl⟩
  rw [opResultAccumulate_of_ready hen hfifo hrec (Prod.ext hacc hn) hv] at hu
  obtain ⟨⟨_, _, _, _, _, htl⟩, hothers, hmem, hfr⟩ : ComparedOnly t.val _ v := by
    rw [hv]
    exact ComparedOnly.compareVec _ _ _
  simp only [State.tl_countN, State.tl_setTl, if_true] at htl
  obtain ⟨hvfifo, hvacc, hvsat, hvpflag, hvrec, hvsram⟩ : (v.tl t.val).fifo = rs ∧ (v.tl t.val).acc = q.acc ∧
      (v.tl t.val).sat = q.sat ∧
      (v.tl t.val).pflag = tset false r.acc (r.pois || (!r.first && tget false r.acc (s.tl t.val).pflag)) (s.tl t.val).pflag ∧
      (v.tl t.val).outRec = none ∧ (v.tl t.val).sram = (s.tl t.val).sram := by
    rw [htl, hq, hacc]
    exact ⟨congrArg List.tail hfifo, rfl, rfl, rfl, hrec, rfl⟩
  have hvothers : ∀ k, k ≠ t.val → v.tl k = s.tl k := fun k hk => (hothers k hk).trans (by simp [hk])
  cases hlast : r.last
  · obtain ⟨_, _, _, hdone⟩ := (v.tl t.val).lastDone_eq r.final
    rw [hlast, hdone] at hu
    subst hu
    simp +contextual [hvfifo, hvacc, hvsat, hvpflag, hvrec, hvsram, hvothers, hmem, hfr]
  · rw [hlast] at hu
    subst hu
    simp +contextual [hvfifo, hvacc, hvsat, hvpflag, hvsram, hvothers, hmem, hfr, Tile.closeOut_length _ hfmt]

/-- The clamped sum of each column and its flag after a result, by the column's accumulator before it. -/
theorem accAll_columns (t : Nat) (r : TRes) (rs : List TRes) (hlen : r.codes.length = 128) {q : Tile}
    (hq : q = (accAll s t r 0 r.codes { s.tl t with fifo := rs }).1) {c : Nat} {code : Int} {pcol : Nat} (hc : c < 128)
    (hcode : r.codes.getD c (0, 0) = (code, pcol)) {v : Int}
    (hv : v = s.accValue t r c code pcol (tget 0 (256 * c + r.acc) (s.tl t).acc)) :
    tget 0 (256 * c + r.acc) q.acc = clamp48 v ∧
      (tget false (256 * c + r.acc) q.sat = true ↔
        (clamp48 v ≠ v ∨ (r.first = false ∧ tget false (256 * c + r.acc) (s.tl t).sat = true))) := by
  obtain ⟨hacc, hsat⟩ := accAll_column (s := s) t r 0 r.codes { s.tl t with fifo := rs } (hlen ▸ hc) hcode
    (k := 256 * c + r.acc) (by rw [Nat.zero_add]) (v := v) (by rw [Nat.zero_add, hv])
  rw [hq]
  refine ⟨hacc, ?_⟩
  rw [hsat]
  simp [ne_comm]

theorem resultAccumulate_answers {t : Fin 256} {r : TRes} {rs : List TRes} (hen : s.en (pgTile t.val) = true)
    (hfifo : (s.tl t.val).fifo = r :: rs) (hrec : (s.tl t.val).outRec = none) (hlen : r.codes.length = 128)
    (hacc : r.acc < 256) (hfmt : r.fmt < 4) :
    Answers (exec (.resultAccumulate t) s) (fun u => (u.tl t.val).fifo = rs ∧
      (∀ c code pcol, c < 128 → r.codes.getD c (0, 0) = (code, pcol) →
        ∃ y v : Int, y = corrected16 code (s.eff t.val (qCol pcol 0)) (s.eff t.val (qCol pcol 1)) ∧
          v = (if r.first then 0 else tget 0 (256 * c + r.acc) (s.tl t.val).acc) +
            (y * 2 ^ r.sh - 16 * r.zp * sext 16 (leNat ((r.par.drop (2 * c)).take 2)))
              * 2 ^ fld (leNat ((r.par.drop (0x100 + c / 2)).take 1)) (4 * (c % 2) + 3) (4 * (c % 2)) ∧
          tget 0 (256 * c + r.acc) (u.tl t.val).acc = clamp48 v ∧
          (tget false (256 * c + r.acc) (u.tl t.val).sat = true ↔
            (clamp48 v ≠ v ∨ (r.first = false ∧ tget false (256 * c + r.acc) (s.tl t.val).sat = true)))) ∧
      (∀ k, k % 256 ≠ r.acc → tget 0 k (u.tl t.val).acc = tget 0 k (s.tl t.val).acc) ∧
      tget false r.acc (u.tl t.val).pflag = (r.pois || (!r.first && tget false r.acc (s.tl t.val).pflag)) ∧
      (r.last = false → (u.tl t.val).outRec = none) ∧
      (r.last = true → ∃ bs p, (u.tl t.val).outRec = some (bs, p, r.final) ∧ bs.length = recSize r.fmt) ∧
      (u.tl t.val).sram = (s.tl t.val).sram ∧ (∀ k, k ≠ t.val → u.tl k = s.tl k) ∧ u.mem = s.mem ∧ u.fr = s.fr) := by
  show Answers (done s (opResultAccumulate t s)) _
  obtain ⟨hf, hq, hsat, hrest⟩ := opResultAccumulate_result hen hfifo hrec hfmt rfl rfl
  refine answers_done ?_
  simp only [settle_tl, settle_mem, settle_fr]
  rw [hq, hsat]
  refine ⟨hf, fun c code pcol hc hcode => ⟨_, _, rfl, rfl, accAll_columns t.val r rs hlen rfl hc hcode rfl⟩, fun k hk => ?_, hrest⟩
  exact (accAll_ne t.val r 0 r.codes _ fun i _ => by omega).1

/-! ### OUTPUT_RECORD_WRITE -/

/-- The tile after a record has been written at `a` (R70). -/
def Tile.putRec (x : Tile) (a : Nat) (bs : Bytes) (p : Bool) : Tile :=
  { (x.write a bs).setMarks (a / 64) (bs.length / 64) p with oFill := x.oFill + bs.length, outRec := none }

theorem Tile.putRec_eq (x : Tile) (a : Nat) (bs : Bytes) (p : Bool) : ∃ pois, x.putRec a bs p =
    { x with sram := (x.write a bs).sram, pois, oFill := x.oFill + bs.length, outRec := none } := by
  rw [Tile.putRec, Tile.write_eq x a bs]
  exact ⟨_, rfl⟩

/-- Where the open output slot of `x` stands, its bytes counted (R70). -/
def Tile.outAt (x : Tile) : Nat :=
  0x21000 + (x.oHead + x.oLens.length) % (max x.oSlots 1) * x.oSize + x.oFill

/-- A record is written where a slot has room for it; a slot that has not enough left closes first. -/
theorem opOutputRecordWrite_of_room {t : Fin 256} {bs : Bytes} {p final : Bool} {x : Tile} (hen : s.en (pgTile t.val) = true)
    (hrec : (s.tl t.val).outRec = some (bs, p, final))
    (hx : x = if (s.tl t.val).oSize < (s.tl t.val).oFill + bs.length then (s.tl t.val).closeSlot else s.tl t.val)
    (hroom : x.oLens.length < x.oSlots) :
    opOutputRecordWrite t s = s.setTl t.val ((x.putRec x.outAt bs p).lastDone final) := by
  unfold opOutputRecordWrite
  dsimp only
  rw [hrec]
  dsimp only
  rw [← hx, if_neg (by simp [hen]), if_pos hroom]
  rfl

theorem opOutputRecordWrite_of_full {t : Fin 256} {bs : Bytes} {p final : Bool} (hen : s.en (pgTile t.val) = true)
    (hrec : (s.tl t.val).outRec = some (bs, p, final)) (hfit : (s.tl t.val).oFill + bs.length ≤ (s.tl t.val).oSize)
    (hfull : (s.tl t.val).oSlots ≤ (s.tl t.val).oLens.length) :
    opOutputRecordWrite t s = s.setTl t.val (s.tl t.val) := by
  unfold opOutputRecordWrite
  dsimp only
  rw [hrec]
  dsimp only
  rw [if_neg (Nat.not_lt.2 hfit), if_neg (by simp [hen]), if_neg (Nat.not_lt.2 hfull)]

/-- What the write of a record leaves in tile SRAM and in the tile. -/
theorem Tile.putRec_lastDone (x : Tile) (a : Nat) (bs : Bytes) (p final : Bool) {y : Tile}
    (hy : y = (x.putRec a bs p).lastDone final) :
    y.read a bs.length = bs ∧ y.outRec = none ∧
      (∀ b, (b < a ∨ a + bs.length ≤ b) → tget 0 b y.sram = tget 0 b x.sram) ∧ y.acc = x.acc := by
  obtain ⟨_, hput⟩ := x.putRec_eq a bs p
  obtain ⟨hputSram, hputRec, hputAcc⟩ : (x.putRec a bs p).sram = (x.write a bs).sram ∧ (x.putRec a bs p).outRec = none ∧
      (x.putRec a bs p).acc = x.acc := by
    rw [hput]
    exact ⟨rfl, rfl, rfl⟩
  obtain ⟨_, _, _, hdone⟩ := (x.putRec a bs p).lastDone_eq final
  obtain ⟨hsram, hrec, hacc⟩ : y.sram = (x.write a bs).sram ∧ y.outRec = none ∧ y.acc = x.acc := by
    rw [hy, hdone]
    exact ⟨hputSram, hputRec, hputAcc⟩
  exact ⟨(Tile.read_congr hsram _ _).trans (x.read_write a bs), hrec,
    fun b hb => by rw [hsram, x.sram_write_ne a bs hb], hacc⟩

theorem Tile.lastDone_of_open (x : Tile) {final : Bool} (h : final = false ∨ x.closing = 0) : x.lastDone final = x := by
  unfold Tile.lastDone
  rcases h with h | h <;> simp [h]

theorem Tile.lastDone_of_final (x : Tile) (h : 0 < x.closing) (hfill : x.oFill ≠ 0) :
    x.lastDone true = { x with oLens := x.oLens ++ [x.oFill], oFill := 0, closing := x.closing - 1 } := by
  simp [Tile.lastDone, h, Tile.closeSlot, hfill]

section
variable {t : Fin 256} {bs : Bytes} {p final : Bool} {a : Nat}

/-- A record that fits into the open slot (R70). -/
theorem outputRecordWrite_fits (hen : s.en (pgTile t.val) = true) (hrec : (s.tl t.val).outRec = some (bs, p, final))
    (hlen : 0 < bs.length) (hfit : (s.tl t.val).oFill + bs.length ≤ (s.tl t.val).oSize)
    (hroom : (s.tl t.val).oLens.length < (s.tl t.val).oSlots)
    (ha : a = 0x21000 + ((s.tl t.val).oHead + (s.tl t.val).oLens.length) % (s.tl t.val).oSlots * (s.tl t.val).oSize +
      (s.tl t.val).oFill) :
    Answers (exec (.outputRecordWrite t) s) (fun u => (u.tl t.val).read a bs.length = bs ∧ (u.tl t.val).outRec = none ∧
      (∀ b, (b < a ∨ a + bs.length ≤ b) → tget 0 b (u.tl t.val).sram = tget 0 b (s.tl t.val).sram) ∧
      ((final = false ∨ (s.tl t.val).closing = 0) →
        (u.tl t.val).oFill = (s.tl t.val).oFill + bs.length ∧ (u.tl t.val).oLens = (s.tl t.val).oLens) ∧
      (final = true → 0 < (s.tl t.val).closing → (u.tl t.val).oFill = 0 ∧
        (u.tl t.val).oLens = (s.tl t.val).oLens ++ [(s.tl t.val).oFill + bs.length] ∧
        (u.tl t.val).closing = (s.tl t.val).closing - 1) ∧
      (u.tl t.val).acc = (s.tl t.val).acc ∧ (∀ k, k ≠ t.val → u.tl k = s.tl k) ∧ u.mem = s.mem ∧ u.fr = s.fr) := by
  have hat : (s.tl t.val).outAt = a := by rw [Tile.outAt, ha, Nat.max_eq_left (by omega)]
  obtain ⟨_, hput⟩ := (s.tl t.val).putRec_eq a bs p
  obtain ⟨hread, hnone, hrest, hacc⟩ := Tile.putRec_lastDone (s.tl t.val) a bs p final rfl
  show Answers (done s (opOutputRecordWrite t s)) _
  rw [opOutputRecordWrite_of_room hen hrec (if_neg (Nat.not_lt.2 hfit)).symm hroom, hat]
  refine answers_done ?_
  simp only [settle_tl, settle_mem, settle_fr, State.tl_setTl, State.setTl_mem, State.setTl_fr, if_true, and_true]
  refine ⟨hread, hnone, hrest, fun hopen => ?_, fun hfinal hclosing => ?_, hacc, fun k hk => if_neg hk⟩
  · rw [Tile.lastDone_of_open _ (by rw [hput]; exact hopen), hput]
    exact ⟨rfl, rfl⟩
  · rw [hfinal, Tile.lastDone_of_final _ (by rw [hput]; exact hclosing) (by rw [hput]; dsimp only; omega), hput]
    exact ⟨rfl, rfl, rfl⟩

/-- A record for which the open slot has not enough room goes into the next (R70). -/
theorem outputRecordWrite_next (hen : s.en (pgTile t.val) = true) (hrec : (s.tl t.val).outRec = some (bs, p, final))
    (hfit : (s.tl t.val).oSize < (s.tl t.val).oFill + bs.length) (hfill : 0 < (s.tl t.val).oFill) (hfinal : final = false)
    (hroom : (s.tl t.val).oLens.length + 1 < (s.tl t.val).oSlots)
    (ha : a = 0x21000 + ((s.tl t.val).oHead + (s.tl t.val).oLens.length + 1) % (s.tl t.val).oSlots * (s.tl t.val).oSize) :
    Answers (exec (.outputRecordWrite t) s) (fun u => (u.tl t.val).read a bs.length = bs ∧ (u.tl t.val).outRec = none ∧
      (u.tl t.val).oFill = bs.length ∧ (u.tl t.val).oLens = (s.tl t.val).oLens ++ [(s.tl t.val).oFill] ∧
      (∀ b, (b < a ∨ a + bs.length ≤ b) → tget 0 b (u.tl t.val).sram = tget 0 b (s.tl t.val).sram)) := by
  have hclose : (s.tl t.val).closeSlot =
      { s.tl t.val with oLens := (s.tl t.val).oLens ++ [(s.tl t.val).oFill], oFill := 0 } := if_neg (by omega)
  generalize hx : (s.tl t.val).closeSlot = x at hclose
  obtain ⟨hlens, hslots⟩ : x.oLens.length = (s.tl t.val).oLens.length + 1 ∧ x.oSlots = (s.tl t.val).oSlots := by
    rw [hclose]
    exact ⟨List.length_append, rfl⟩
  have hat : x.outAt = a := by
    rw [Tile.outAt, hlens, hslots, Nat.max_eq_left (by omega), ha, hclose, Nat.add_assoc]
    rfl
  obtain ⟨_, hput⟩ := x.putRec_eq a bs p
  obtain ⟨hread, hnone, hrest, -⟩ := Tile.putRec_lastDone x a bs p final rfl
  show Answers (done s (opOutputRecordWrite t s)) _
  rw [opOutputRecordWrite_of_room hen hrec (by rw [if_pos hfit, hx]) (by omega), hat]
  refine answers_done ?_
  simp only [settle_tl, State.tl_setTl, if_true]
  refine ⟨hread, hnone, ?_, ?_, fun b hb => (hrest b hb).trans (by rw [hclose])⟩
  · rw [Tile.lastDone_of_open _ (.inl hfinal), hput, hclose]
    exact Nat.zero_add _
  · rw [Tile.lastDone_of_open _ (.inl hfinal), hput, hclose]

end

/-! ### TILE_RUN_COMPLETE -/

theorem opTileRunComplete_of_done {t : Fin 256} {r : TRun} (hen : s.en (pgTile t.val) = true)
    (hrun : (s.tl t.val).run = some r) (hleft : r.left = 0) (hvec : r.vec = 0) :
    opTileRunComplete t s = ((s.setTl t.val { (s.tl t.val).endRun with run := none }).finishPart r.frame r.idx
      t.val).nextRun t.val (s.tl t.val).waiting := by
  simp [opTileRunComplete, hrun, hen, hleft, hvec]

/-- Whether a run is refused does not depend on the run in progress, nor on results and output slots. -/
theorem State.runRefused_endRun (t f i pc : Nat) :
    ((s.setTl t { (s.tl t).endRun with run := none }).finishPart f i t).runRefused t pc = s.runRefused t pc := by
  obtain ⟨_, _, _, _, _, hend⟩ := (s.tl t).endRun_eq
  unfold State.runRefused State.degraded
  simp only [State.tl_finishPart, State.tl_setTl, if_true, hend]
  rfl

/-- The first waiting run starts, or none does. -/
theorem State.nextRun_of_fine {t : Nat} {rs : List TRun} (hfine : ∀ w ws, rs = w :: ws → s.runRefused t w.pc = false) :
    ∃ codes fRun ranCal, s.nextRun t rs = s.setTl t { s.tl t with run := rs.head?, waiting := rs.tail, codes, fRun, ranCal } := by
  cases rs with
  | nil => exact ⟨_, _, _, rfl⟩
  | cons w ws =>
    unfold State.nextRun
    rw [if_neg (by simp [hfine w ws rfl])]
    exact ⟨_, _, _, rfl⟩

theorem Tile.endRun_of_empty (x : Tile) (hfifo : x.fifo = []) (hrec : x.outRec = none) : x.endRun = x.closeSlot := by
  simp [Tile.endRun, Tile.markLast, Tile.finals, hfifo, hrec, b2n]

theorem Tile.closeSlot_oFill (x : Tile) : x.closeSlot.oFill = 0 ∧ (x.oFill ≠ 0 → x.closeSlot.oLens = x.oLens ++ [x.oFill]) := by
  unfold Tile.closeSlot
  split
  · next h => exact ⟨h, fun hne => absurd h hne⟩
  · exact ⟨rfl, fun _ => rfl⟩

section
variable {t : Fin 256} {r : TRun}

/-- A run completes, and the next one starts if it is not refused (R75). -/
theorem tileRunComplete_hands_over (hen : s.en (pgTile t.val) = true) (hrun : (s.tl t.val).run = some r) (hleft : r.left = 0)
    (hvec : r.vec = 0) (hfine : ∀ w ws, (s.tl t.val).waiting = w :: ws → s.runRefused t.val w.pc = false) :
    Answers (exec (.tileRunComplete t) s) (fun u => (u.tl t.val).run = (s.tl t.val).waiting.head? ∧
      (u.tl t.val).waiting = (s.tl t.val).waiting.tail ∧
      (∀ a, s.actOf r.frame r.idx = some a → u.actOf r.frame r.idx = some { a with parts := a.parts.filter (· != t.val) }) ∧
      ((s.tl t.val).fifo = [] → (s.tl t.val).outRec = none → (u.tl t.val).oFill = 0 ∧
        ((s.tl t.val).oFill ≠ 0 → (u.tl t.val).oLens = (s.tl t.val).oLens ++ [(s.tl t.val).oFill])) ∧
      (u.tl t.val).acc = (s.tl t.val).acc ∧ (u.tl t.val).sram = (s.tl t.val).sram ∧ (∀ k, k ≠ t.val → u.tl k = s.tl k) ∧
      u.mem = s.mem) := by
  have hend : { (s.tl t.val).endRun with run := none }.acc = (s.tl t.val).acc ∧
      { (s.tl t.val).endRun with run := none }.sram = (s.tl t.val).sram := by
    obtain ⟨_, _, _, _, _, hend⟩ := (s.tl t.val).endRun_eq
    rw [hend]
    exact ⟨rfl, rfl⟩
  have hslot (hfifo : (s.tl t.val).fifo = []) (hrec : (s.tl t.val).outRec = none) :
      { (s.tl t.val).endRun with run := none }.oFill = 0 ∧ ((s.tl t.val).oFill ≠ 0 →
        { (s.tl t.val).endRun with run := none }.oLens = (s.tl t.val).oLens ++ [(s.tl t.val).oFill]) := by
    rw [(s.tl t.val).endRun_of_empty hfifo hrec]
    exact (s.tl t.val).closeSlot_oFill
  have hsame := s.runRefused_endRun t.val r.frame r.idx
  show Answers (done s (opTileRunComplete t s)) _
  rw [opTileRunComplete_of_done hen hrun hleft hvec]
  generalize ({ (s.tl t.val).endRun with run := none } : Tile) = y at *
  obtain ⟨_, _, _, hnext⟩ := State.nextRun_of_fine (s := (s.setTl t.val y).finishPart r.frame r.idx t.val)
    fun w ws hw => (hsame w.pc).trans (hfine w ws hw)
  rw [hnext]
  refine answers_done ?_
  simp only [settle_tl, settle_mem, settle_actOf, State.tl_setTl, State.setTl_mem, State.actOf_setTl, State.tl_finishPart,
    State.finishPart_mem, if_true, true_and, and_true]
  exact ⟨fun a ha => State.actOf_finishPart (s.setTl t.val y) t.val ha, hslot, hend.1, hend.2, fun k hk => by simp [hk]⟩

/-- The one waiting run is refused by now (R61, R383). -/
theorem tileRunComplete_refuses (hen : s.en (pgTile t.val) = true) (hrun : (s.tl t.val).run = some r) (hleft : r.left = 0)
    (hvec : r.vec = 0) {w : TRun} (hwait : (s.tl t.val).waiting = [w]) (hrefused : s.runRefused t.val w.pc = true) :
    Answers (exec (.tileRunComplete t) s) (fun u => (u.tl t.val).run = none ∧ (u.tl t.val).waiting = [] ∧
      (u.tl t.val).fault = true ∧ bitOf (u.raw (pgTile t.val)) 0 = true ∧ bitOf (u.raw pgFrame) 1 = true) := by
  show Answers (done s (opTileRunComplete t s)) _
  rw [opTileRunComplete_of_done hen hrun hleft hvec, hwait]
  have href := (s.runRefused_endRun t.val r.frame r.idx w.pc).trans hrefused
  generalize (s.setTl t.val { (s.tl t.val).endRun with run := none }).finishPart r.frame r.idx t.val = v at *
  have hnext : v.nextRun t.val [w] =
      (((v.tileFault t.val 0).neverAct w.frame w.idx).frameFault 6 w.frame).nextRun t.val [] := if_pos href
  have hlog : SetsKept t.val (v.markFault t.val 0) (v.tileFault t.val 0) := .ofKept (logged_tileFault v t.val 0).toTilesKept
  have hkept := (hlog.trans (.neverAct _ _ w.frame w.idx)).trans (.frameFault _ _ 6 w.frame)
  have hend := SetsKept.nextRun (((v.tileFault t.val 0).neverAct w.frame w.idx).frameFault 6 w.frame) t.val []
  rw [hnext]
  refine answers_done ?_
  simp only [settle_tl, settle_rawBit_pgTile, settle_rawBit_pgFrame]
  refine ⟨?_, ?_, (hkept.trans hend).fault (by simp), (hkept.trans hend).raised _ _ (State.markFault_raises _ _),
    hend.raised _ _ (State.frameFault_raises _ _ _)⟩ <;> simp [State.nextRun]

end

/-- Settles O35, command by command. -/
theorem resultsAccumulateAndCloseOut : Obligations.ResultsAccumulateAndCloseOut := by
  intro s t hen
  refine ⟨fun r rs hfifo hrec hlen hacc hfmt => resultAccumulate_answers hen hfifo hrec hlen hacc hfmt,
    fun bs p final hrec hlen => ⟨fun hfit hroom a ha => outputRecordWrite_fits hen hrec hlen hfit hroom ha,
      fun hfit hfill hfinal hroom a ha => outputRecordWrite_next hen hrec hfit hfill hfinal hroom ha,
      fun hfit hfull => ?_⟩,
    fun r hrun hleft hvec => ⟨tileRunComplete_hands_over hen hrun hleft hvec,
      fun w hwait hrefused => tileRunComplete_refuses hen hrun hleft hvec hwait hrefused⟩⟩
  show Answers (done s (opOutputRecordWrite t s)) _
  rw [opOutputRecordWrite_of_full hen hrec hfit hfull]
  exact answers_done (by simp)

end Sys2Proof.Machine
end

section
/-!
PROOFS. Routing, rows, columns, rings and scrub (O36): each command's effect under its condition, and none without it.
-/
namespace Sys2Proof.Machine

variable {s : State}

/-! ### Routing -/

theorem opRoutingChange_of_none {t : Fin 256} (h : s.tileOn t.val = false ∨ (s.tl t.val).used = (s.tl t.val).roles) :
    opRoutingChange t s = s := by
  rcases h with h | h <;> simp [opRoutingChange, h]

theorem opRoutingChange_of_decided {t : Fin 256} (hon : s.tileOn t.val = true)
    (hne : (s.tl t.val).used ≠ (s.tl t.val).roles) {y : State} (hy : y = s.setTl t.val { s.tl t.val with
      used := (s.tl t.val).roles, spareUsed := spareMask (s.tl t.val).roles.rowmap }) :
    opRoutingChange t s =
      if (List.range 4).any (newSubst (s.tl t.val).used.rowmap (s.tl t.val).roles.rowmap) then y.raise (pgTile t.val) 5
      else y := by
  have hroute : opRoutingChange t s = s.route1 t.val := if_pos (by simp [hon, hne])
  rw [hroute, State.route1, hy]
  split <;> rfl

/-! ### Rows -/

/-- HEALTH_CHANGE at most. -/
theorem watchHealth_cases (s0 u : State) (t : Nat) : watchHealth s0 t u = u ∨ watchHealth s0 t u = u.raise (pgTile t) 4 := by
  unfold watchHealth
  split
  · exact .inl rfl
  · exact .inr rfl

theorem opRowFailure_of_none {t : Fin 256} {row : Fin 132} {driver : Bool} (h : s.tileOn t.val = false ∨
    bitOf (s.tl t.val).rowFail row.val = true ∨ (driver = false ∧ tget 0 row.val (s.tl t.val).lowRuns < 3)) :
    opRowFailure t row driver s = s := by
  unfold opRowFailure
  rcases h with h | h | ⟨hd, hlow⟩
  · simp [h]
  · simp [h]
  · simp [hd, hlow]

theorem opRowFailure_of_due {t : Fin 256} {row : Fin 132} {driver : Bool} (hon : s.tileOn t.val = true)
    (hrow : bitOf (s.tl t.val).rowFail row.val = false) (hdue : driver = true ∨ 3 ≤ tget 0 row.val (s.tl t.val).lowRuns) :
    opRowFailure t row driver s = (if driver then s.tileFault t.val 9 else s).rowFails t.val row.val := by
  unfold opRowFailure
  rw [if_pos (by simpa [hon, hrow] using hdue)]

/-- The substitution of logical row `r`, whose carrier `p` has failed, falls due where the tile `x` had a spare for it;
ROW_NO_SPARE where it had none (R178). -/
def State.claimSpare (s : State) (t p r : Nat) (x : Tile) : State :=
  if x.substDue r then s
  else if (x.spareFree (p / 33) && !x.spareClaimed (p / 33) && decide (p % 33 ≠ 32)) && bitOf (s.reg (pgTile t) 0x40) 1 then
    s.setTl t { s.tl t with rowDue := x.rowDue ++ [(r, false)] }
  else if x.spareFree (p / 33) && !x.spareClaimed (p / 33) && decide (p % 33 ≠ 32) then s
  else s.raise (pgTile t) 6

/-- What stands in `u` of the substitution of logical row `r`, whose carrier `p` failed in `s`: a spare that is free and not
claimed is claimed with AUTO_SPARE, and without one ROW_NO_SPARE is raised (R178). -/
def SubstClaimed (s : State) (t p r : Nat) (x : Tile) (u : State) : Prop :=
  (x.substDue r = true → (u.tl t).rowDue = x.rowDue) ∧
  (x.substDue r = false → ∀ free : Bool,
    free = (x.spareFree (p / 33) && !x.spareClaimed (p / 33) && decide (p % 33 ≠ 32)) →
    (free = true → bitOf (s.reg (pgTile t) 0x40) 1 = true → (u.tl t).rowDue = x.rowDue ++ [(r, false)]) ∧
    (free = true → bitOf (s.reg (pgTile t) 0x40) 1 = false → (u.tl t).rowDue = x.rowDue ∧
      bitOf (u.raw (pgTile t)) 6 = bitOf (s.raw (pgTile t)) 6) ∧
    (free = false → (u.tl t).rowDue = x.rowDue ∧ bitOf (u.raw (pgTile t)) 6 = true))

/-- It speaks of AUTO_SPARE, ROW_NO_SPARE and the due substitutions alone. -/
theorem SubstClaimed.congr {s s' u u' : State} {t p r : Nat} {x : Tile} (h : SubstClaimed s t p r x u)
    (hreg : s'.reg (pgTile t) 0x40 = s.reg (pgTile t) 0x40)
    (hraw : bitOf (s'.raw (pgTile t)) 6 = bitOf (s.raw (pgTile t)) 6) (hdue : (u'.tl t).rowDue = (u.tl t).rowDue)
    (hraw' : bitOf (u'.raw (pgTile t)) 6 = bitOf (u.raw (pgTile t)) 6) : SubstClaimed s' t p r x u' := by
  rw [SubstClaimed, hreg, hraw, hdue, hraw']
  exact h

theorem State.rowFails_of_spare {t p : Nat} (hrow : bitOf (s.tl t).rowFail p = false) (hspare : (s.tl t).rowCarried p = none) :
    s.rowFails t p = s.setTl t { s.tl t with rowFail := (s.tl t).rowFail + 2 ^ p } := by
  simp [State.rowFails, hrow, hspare]

theorem State.rowFails_of_carried {t p r : Nat} (hrow : bitOf (s.tl t).rowFail p = false)
    (hcarried : (s.tl t).rowCarried p = some r) {v : State}
    (hv : v = watchHealth s t
      ((s.setTl t { s.tl t with rowFail := (s.tl t).rowFail + 2 ^ p }).claimSpare t p r (s.tl t))) :
    s.rowFails t p = if (s.tl t).ready then v.frameFault 8 v.fr.num else v := by
  unfold State.rowFails
  dsimp only
  rw [hrow, hcarried]
  dsimp only
  rw [hv, State.claimSpare]
  cases (s.tl t).substDue r <;> simp

/-- The driver's fault of a row, if it has one. -/
theorem driverFault_result {t : Nat} (ht : t < 256) (driver : Bool) {u : State}
    (hu : u = if driver then s.tileFault t 9 else s) :
    (∃ img, u.tl t = { s.tl t with fault := (s.tl t).fault || driver, img }) ∧
      (∀ k, k ≠ t → { u.tl k with img := (s.tl k).img } = s.tl k) ∧
      (driver = true → bitOf (u.raw (pgTile t)) 9 = true) ∧
      bitOf (u.raw (pgTile t)) 6 = bitOf (s.raw (pgTile t)) 6 ∧
      u.reg (pgTile t) 0x40 = s.reg (pgTile t) 0x40 ∧ u.fr = s.fr ∧ (driver = false → u.mem = s.mem) := by
  cases driver with
  | false =>
    rw [if_neg Bool.false_ne_true] at hu
    subst hu
    exact ⟨⟨_, by rw [Bool.or_false]⟩, fun _ _ => rfl, fun h => absurd h Bool.false_ne_true, rfl, rfl, rfl, fun _ => rfl⟩
  | true =>
    rw [if_pos rfl] at hu
    subst hu
    have hlog := logged_tileFault s t 9
    refine ⟨⟨((s.tileFault t 9).tl t).img, ?_⟩, fun k hk => ?_, fun _ => hlog.raised _ _ (State.markFault_raises _ _), ?_, ?_,
      hlog.fr, fun h => absurd h.symm Bool.false_ne_true⟩
    · have htl := hlog.eq_img t
      rw [State.tl_markFault, if_pos rfl] at htl
      rw [Bool.or_true]
      exact htl
    · simpa [hk] using hlog.tl k
    · rw [hlog.raw t ht, State.markFault, bitOf_raw_raise]
      simp
    · rw [hlog.reg t 0x40 ht (by decide), State.markFault]
      simp

/-- What the claim of a spare leaves: the tile but for its due substitutions, and every event. -/
theorem claimSpare_result {t p r : Nat} {x : Tile} (hx : (s.tl t).rowDue = x.rowDue) {s0 u : State}
    (hu : u = watchHealth s0 t (s.claimSpare t p r x)) :
    u.tl t = { s.tl t with rowDue := (u.tl t).rowDue } ∧ (∀ k, k ≠ t → u.tl k = s.tl k) ∧ u.fr = s.fr ∧ u.mem = s.mem ∧
      (bitOf (s.raw (pgTile t)) 9 = true → bitOf (u.raw (pgTile t)) 9 = true) ∧ SubstClaimed s t p r x u := by
  obtain ⟨v, hv⟩ : ∃ v, v = s.claimSpare t p r x := ⟨_, rfl⟩
  obtain ⟨htl, hfr, hmem, hbit⟩ : (∀ k, u.tl k = v.tl k) ∧ u.fr = v.fr ∧ u.mem = v.mem ∧
      (∀ i, i ≠ 4 → bitOf (u.raw (pgTile t)) i = bitOf (v.raw (pgTile t)) i) := by
    rw [← hv] at hu
    rcases watchHealth_cases s0 v t with h | h
    · rw [hu, h]
      exact ⟨fun _ => rfl, rfl, rfl, fun _ _ => rfl⟩
    · rw [hu, h]
      refine ⟨fun _ => rfl, rfl, rfl, fun i hi => ?_⟩
      rw [bitOf_raw_raise]
      simp [Ne.symm hi]
  simp only [SubstClaimed, htl, hfr, hmem, hbit 9 (by decide), hbit 6 (by decide)]
  rw [State.claimSpare, ← hx] at hv
  simp only [← hx]
  cases hdue : x.substDue r with
  | true =>
    rw [if_pos hdue] at hv
    subst hv
    simp
  | false =>
    rw [if_neg (Bool.eq_false_iff.1 hdue)] at hv
    generalize (x.spareFree (p / 33) && !x.spareClaimed (p / 33) && decide (p % 33 ≠ 32)) = free at *
    cases free with
    | false =>
      rw [if_neg (by simp), if_neg (by simp)] at hv
      subst hv
      simp only [bitOf_raw_raise]
      simp +contextual
    | true =>
      cases hauto : bitOf (s.reg (pgTile t) 0x40) 1 with
      | false =>
        rw [hauto, if_neg (by simp), if_pos rfl] at hv
        subst hv
        simp
      | true =>
        rw [hauto, if_pos (by simp)] at hv
        subst hv
        simp +contextual

section
variable {t : Fin 256} {row : Fin 132} {driver : Bool} {x : Tile}

/-- A failing row, from what its driver's fault left (R60, R178). -/
theorem rowFails_result (htl : s.tl t.val = x) {p : Nat} (hrow : bitOf x.rowFail p = false) {u : State}
    (hu : u = s.rowFails t.val p) :
    (∃ rowDue img, u.tl t.val = { x with rowFail := x.rowFail + 2 ^ p, rowDue, img }) ∧
      (∀ k, k ≠ t.val → { u.tl k with img := (s.tl k).img } = s.tl k) ∧
      (bitOf (s.raw (pgTile t.val)) 9 = true → bitOf (u.raw (pgTile t.val)) 9 = true) ∧
      (x.rowCarried p = none → (u.tl t.val).rowDue = x.rowDue ∧ u.fr = s.fr) ∧
      (∀ r, x.rowCarried p = some r → SubstClaimed s t.val p r x u ∧
        (x.ready = true → bitOf (u.raw pgFrame) 1 = true) ∧
        (x.ready = false → u.fr = s.fr ∧ u.mem = s.mem)) := by
  subst htl
  cases hcarried : (s.tl t.val).rowCarried p with
  | none =>
    rw [State.rowFails_of_spare hrow hcarried] at hu
    subst hu
    simp +contextual
  | some r =>
    obtain ⟨v, hv⟩ : ∃ v, v = watchHealth s t.val ((s.setTl t.val { s.tl t.val with
      rowFail := (s.tl t.val).rowFail + 2 ^ p }).claimSpare t.val p r (s.tl t.val)) := ⟨_, rfl⟩
    obtain ⟨hvtl, hvothers, hvfr, hvmem, hv9, hvclaim⟩ := claimSpare_result (x := s.tl t.val) (by simp) hv
    simp only [State.tl_setTl, if_true, State.raw_setTl, State.setTl_fr, State.setTl_mem]
      at hvtl hvothers hvfr hvmem hv9
    rw [State.rowFails_of_carried hrow hcarried hv] at hu
    obtain ⟨hkept, hfault, hcalm⟩ : TilesKept v u ∧ ((s.tl t.val).ready = true → bitOf (u.raw pgFrame) 1 = true) ∧
        ((s.tl t.val).ready = false → u = v) := by
      cases hready : (s.tl t.val).ready with
      | false =>
        rw [hu, hready, if_neg Bool.false_ne_true]
        exact ⟨.refl v, fun h => absurd h Bool.false_ne_true, fun _ => rfl⟩
      | true =>
        rw [hu, hready, if_pos rfl]
        exact ⟨((Faulted.refl v).frameFault _ _).toTilesKept, fun _ => State.frameFault_raises _ _ _,
          fun h => absurd h.symm Bool.false_ne_true⟩
    have hdue : (u.tl t.val).rowDue = (v.tl t.val).rowDue := hkept.field Tile.rowDue t.val
    refine ⟨⟨(v.tl t.val).rowDue, (u.tl t.val).img, ?_⟩, fun k hk => ?_, fun h => hkept.raised _ _ (hv9 h), fun h => absurd h (by simp),
      fun r' hr' => ?_⟩
    · exact (hkept.eq_img t.val).trans (by rw [hvtl])
    · have hother := hkept.tl k
      rwa [hvothers k hk, if_neg hk] at hother
    · obtain rfl : r = r' := Option.some.inj hr'
      exact ⟨hvclaim.congr rfl rfl hdue (by rw [hkept.raw t.val t.isLt]), hfault, fun h => by rw [hcalm h]; exact ⟨hvfr, hvmem⟩⟩

/-- A row that is not yet failed fails (R60, R178). -/
theorem rowFailure_answers (htl : s.tl t.val = x) (hon : s.tileOn t.val = true) (hrow : bitOf x.rowFail row.val = false)
    (hdue : driver = true ∨ 3 ≤ tget 0 row.val x.lowRuns) :
    Answers (exec (.rowFailure t row driver) s) (fun u =>
      u.tl t.val = { x with rowFail := x.rowFail + 2 ^ row.val, rowDue := (u.tl t.val).rowDue
                            fault := x.fault || driver, img := (u.tl t.val).img } ∧
      (driver = true → bitOf (u.raw (pgTile t.val)) 9 = true) ∧
      (x.rowCarried row.val = none → (u.tl t.val).rowDue = x.rowDue ∧ u.fr = s.fr) ∧
      (∀ r, x.rowCarried row.val = some r →
        (x.substDue r = true → (u.tl t.val).rowDue = x.rowDue) ∧
        (x.substDue r = false → ∀ free : Bool,
          free = (x.spareFree (row.val / 33) && !x.spareClaimed (row.val / 33) && decide (row.val % 33 ≠ 32)) →
          (free = true → bitOf (s.reg (pgTile t.val) 0x40) 1 = true → (u.tl t.val).rowDue = x.rowDue ++ [(r, false)]) ∧
          (free = true → bitOf (s.reg (pgTile t.val) 0x40) 1 = false → (u.tl t.val).rowDue = x.rowDue ∧
            bitOf (u.raw (pgTile t.val)) 6 = bitOf (s.raw (pgTile t.val)) 6) ∧
          (free = false → (u.tl t.val).rowDue = x.rowDue ∧ bitOf (u.raw (pgTile t.val)) 6 = true)) ∧
        (x.ready = true → bitOf (u.raw pgFrame) 1 = true) ∧
        (x.ready = false → u.fr = s.fr ∧ (driver = false → u.mem = s.mem))) ∧
      (∀ k, k ≠ t.val → { u.tl k with img := (s.tl k).img } = s.tl k)) := by
  show Answers (done s (opRowFailure t row driver s)) _
  subst htl
  rw [opRowFailure_of_due hon hrow hdue]
  refine answers_done ?_
  obtain ⟨w, hw⟩ : ∃ w, w = if driver then s.tileFault t.val 9 else s := ⟨_, rfl⟩
  rw [← hw]
  obtain ⟨⟨img, hwtl⟩, hwothers, hw9, hw6, hw40, hwfr, hwmem⟩ := driverFault_result t.isLt driver hw
  obtain ⟨u, hu⟩ : ∃ u, u = w.rowFails t.val row.val := ⟨_, rfl⟩
  rw [← hu]
  obtain ⟨⟨rowDue, img', hutl⟩, hothers, h9, hnone, hcarried⟩ := rowFails_result hwtl hrow hu
  rw [hwfr] at hcarried
  simp only [settle_tl, settle_rawBit_pgTile, settle_rawBit_pgFrame, settle_fr, settle_mem]
  refine ⟨by rw [hutl], fun h => h9 (hw9 h), fun h => ?_, fun r hr => ?_, fun k hk => ?_⟩
  · obtain ⟨hrowDue, hfr⟩ := hnone h
    exact ⟨hrowDue, hfr.trans hwfr⟩
  · obtain ⟨hclaim, hfault, hcalm⟩ := hcarried r hr
    obtain ⟨hsubst, hfree⟩ := hclaim.congr hw40.symm hw6.symm rfl rfl
    refine ⟨hsubst, hfree, hfault, fun h => ?_⟩
    obtain ⟨hfr, hmem⟩ := hcalm h
    exact ⟨hfr, fun hd => hmem.trans (hwmem hd)⟩
  · exact (congrArg (fun y : Tile => { y with img := (s.tl k).img }) (hothers k hk)).trans (hwothers k hk)

/-! ### Columns -/

variable {col : Fin 130}

theorem opColumnFailure_of_none
    (h : s.tileOn t.val = false ∨ bitOf (s.tl t.val).retired col.val = true ∨ col.val ∈ (s.tl t.val).colDue) :
    opColumnFailure t col s = s := by
  unfold opColumnFailure State.colFails
  rcases h with h | h | h <;> simp [h]

theorem opColumnFailure_of_due (hon : s.tileOn t.val = true) (hcol : bitOf (s.tl t.val).retired col.val = false)
    (hdue : col.val ∉ (s.tl t.val).colDue) {w v : State} (hw : w = s.tileFault t.val 9)
    (hv : v = w.setTl t.val { w.tl t.val with colDue := (s.tl t.val).colDue ++ [col.val] }) :
    opColumnFailure t col s =
      if (s.tl t.val).inService col.val && (s.tl t.val).ready then v.frameFault 8 v.fr.num else v := by
  subst hw
  rw [opColumnFailure, if_pos hon, State.colFails, if_neg (by simpa [hcol] using hdue), hv]

/-- A column that is not retired fails (R170). -/
theorem columnFailure_answers (htl : s.tl t.val = x) (hon : s.tileOn t.val = true)
    (hcol : bitOf x.retired col.val = false) (hdue : col.val ∉ x.colDue) :
    Answers (exec (.columnFailure t col) s) (fun u =>
      { u.tl t.val with img := x.img } = { x with fault := true, colDue := x.colDue ++ [col.val] } ∧
      bitOf (u.raw (pgTile t.val)) 9 = true ∧
      (x.inService col.val = true → x.ready = true → bitOf (u.raw pgFrame) 1 = true) ∧
      ((x.inService col.val = false ∨ x.ready = false) → u.fr = s.fr) ∧
      (∀ k, k ≠ t.val → { u.tl k with img := (s.tl k).img } = s.tl k)) := by
  show Answers (done s (opColumnFailure t col s)) _
  subst htl
  obtain ⟨w, hw⟩ : ∃ w, w = s.tileFault t.val 9 := ⟨_, rfl⟩
  obtain ⟨v, hv⟩ : ∃ v, v = w.setTl t.val { w.tl t.val with colDue := (s.tl t.val).colDue ++ [col.val] } := ⟨_, rfl⟩
  rw [opColumnFailure_of_due hon hcol hdue hw hv]
  refine answers_done ?_
  have hlog : Logged (s.markFault t.val 9) w := hw ▸ logged_tileFault s t.val 9
  have hwtl := hlog.eq_img t.val
  have hw9 : bitOf (w.raw (pgTile t.val)) 9 = true := hlog.raised _ _ (State.markFault_raises _ _)
  rw [State.tl_markFault, if_pos rfl] at hwtl
  have hvtl : v.tl t.val = { s.tl t.val with
      fault := true, colDue := (s.tl t.val).colDue ++ [col.val], img := (w.tl t.val).img } := by
    rw [hv, State.tl_setTl, if_pos rfl]
    exact congrArg (fun y : Tile => { y with colDue := (s.tl t.val).colDue ++ [col.val] }) hwtl
  have hvothers : ∀ k, k ≠ t.val → { v.tl k with img := (s.tl k).img } = s.tl k := fun k hk => by
    have hk' := hlog.tl k
    rw [State.tl_markFault, if_neg hk] at hk'
    rw [hv, State.tl_setTl, if_neg hk]
    exact hk'
  have hv9 : bitOf (v.raw (pgTile t.val)) 9 = true := by rw [hv]; exact hw9
  have hvfr : v.fr = s.fr := by rw [hv]; exact hlog.fr
  simp only [settle_tl, settle_rawBit_pgTile, settle_rawBit_pgFrame, settle_fr]
  cases hserve : (s.tl t.val).inService col.val && (s.tl t.val).ready with
  | false =>
    rw [if_neg Bool.false_ne_true]
    refine ⟨by rw [hvtl], hv9, fun h h' => ?_, fun _ => hvfr, hvothers⟩
    rw [h, h'] at hserve
    exact absurd hserve.symm Bool.false_ne_true
  | true =>
    rw [if_pos rfl]
    obtain ⟨hin, hready⟩ := Bool.and_eq_true_iff.1 hserve
    have hkept : TilesKept v (v.frameFault 8 v.fr.num) := ((Faulted.refl v).frameFault _ _).toTilesKept
    refine ⟨?_, hkept.raised _ _ hv9, fun _ _ => State.frameFault_raises _ _ _, fun h => ?_, fun k hk => ?_⟩
    · rw [hkept.eq_img, hvtl]
    · simp [hin, hready] at h
    · exact (congrArg (fun y : Tile => { y with img := (s.tl k).img }) (hkept.tl k)).trans (hvothers k hk)

/-! ### Requests and ring configuration -/

section
variable {p : Path} {v : BitVec 32}

/-- A path that may not write the page is denied, for each of the page's commands. -/
theorem tilePage_denies (hpath : s.mayPath p (pgTile t.val) = false) :
    ∀ c ∈ [Instr.rowSubstReq p t v, Instr.aringCfgWrite p t v, Instr.oringCfgWrite p t v],
      exec c s = .next (settle s (s.deny p (pgTile t.val))) := by
  have hsubst : opRowSubstReq p t v s = s.deny p (pgTile t.val) := by simp [opRowSubstReq, hpath]
  have hring : ∀ off lim, s.ringCfg p t.val off lim v.toNat = s.deny p (pgTile t.val) := by simp [State.ringCfg, hpath]
  simp only [List.forall_mem_cons, List.not_mem_nil, false_imp_iff, implies_true, and_true]
  exact ⟨congrArg (done s) hsubst, congrArg (done s) (hring _ _), congrArg (done s) (hring _ _)⟩

theorem opRowSubstReq_of_idle (hpath : s.mayPath p (pgTile t.val) = true) (hgo : bitOf v.toNat 31 = false) :
    opRowSubstReq p t v s = s := by
  simp [opRowSubstReq, hpath, hgo]

/-- Of the health of the tile, a request can change DEGRADED alone. -/
theorem watchHealth_rowDue (t : Nat) (due : List (Nat × Bool)) {y : State}
    (hy : y = s.setTl t { s.tl t with rowDue := due }) :
    watchHealth s t y = if y.degraded t = s.degraded t then y else y.raise (pgTile t) 4 := by
  have hlevel : (y.tl t).level = (s.tl t).level := by rw [hy, State.tl_setTl, if_pos rfl]; rfl
  have hhealth : s.health t = y.health t ↔ y.degraded t = s.degraded t := by
    have hrot : (y.tl t).rot = (s.tl t).rot := by rw [hy, State.tl_setTl, if_pos rfl]
    have hstate : (y.tl t).rotState = (s.tl t).rotState := by rw [hy, State.tl_setTl, if_pos rfl]; rfl
    simp only [State.health, hrot, hstate, Prod.mk.injEq, true_and]
    exact eq_comm
  simp only [watchHealth, hlevel, beq_self_eq_true, Bool.and_true, decide_eq_true_eq, hhealth]

theorem opRowSubstReq_of_free (hpath : s.mayPath p (pgTile t.val) = true) (hgo : bitOf v.toNat 31 = true)
    (hfree : (s.tl t.val).spareFree (fld v.toNat 9 8) = true) {y : State}
    (hy : y = s.setTl t.val { s.tl t.val with
      rowDue := (s.tl t.val).rowDue ++ [(32 * fld v.toNat 9 8 + fld v.toNat 4 0, true)] }) :
    opRowSubstReq p t v s = if y.degraded t.val = s.degraded t.val then y else y.raise (pgTile t.val) 4 := by
  rw [← watchHealth_rowDue t.val _ hy, hy]
  simp [opRowSubstReq, hpath, hgo, hfree]

theorem opRowSubstReq_of_taken (hpath : s.mayPath p (pgTile t.val) = true) (hgo : bitOf v.toNat 31 = true)
    (hfree : (s.tl t.val).spareFree (fld v.toNat 9 8) = false) :
    opRowSubstReq p t v s = s.raise (pgTile t.val) 10 := by
  simp [opRowSubstReq, hpath, hgo, hfree, State.reject]

/-- The form a ring configuration has to have (R71, R80): 3 to 8 slots of at least one unit of 256 bytes, in `lim` bytes. -/
def ringCfgFits (v lim : Nat) : Prop :=
  3 ≤ fld v 19 16 ∧ fld v 19 16 ≤ 8 ∧ fld v 8 0 ≠ 0 ∧ fld v 19 16 * fld v 8 0 * 256 ≤ lim

theorem State.ringCfg_of_fits {off lim v : Nat} (hpath : s.mayPath p (pgTile t.val) = true) (hfits : ringCfgFits v lim) :
    s.ringCfg p t.val off lim v = (s.setReg (pgTile t.val) off (Nat.land v 0xF01FF)).setTl t.val
      (if off = 0x50 then { s.tl t.val with aPend := true } else { s.tl t.val with oPend := true }) := by
  obtain ⟨hmin, hmax, hunits, hsize⟩ := hfits
  rw [State.ringCfg, if_pos hpath]
  dsimp only
  rw [if_neg (by simp; omega)]

theorem State.ringCfg_of_not_fits {off lim v : Nat} (hpath : s.mayPath p (pgTile t.val) = true)
    (hfits : ¬ ringCfgFits v lim) : s.ringCfg p t.val off lim v = s.raise (pgTile t.val) 10 := by
  rw [State.ringCfg, if_pos hpath]
  dsimp only
  rw [if_pos (by simp only [ringCfgFits] at hfits; simp; omega), State.reject]

end

/-! ### Scrub -/

theorem opTileScrubPass_of_off {errs : List SramErr}
    (h : s.tileOn t.val = false ∨ bitOf (s.reg (pgTile t.val) 0x40) 2 = false) : opTileScrubPass t errs s = s := by
  rcases h with h | h <;> simp [opTileScrubPass, h]

theorem opTileScrubPass_of_clean (hon : s.tileOn t.val = true) (hscrub : bitOf (s.reg (pgTile t.val) 0x40) 2 = true) :
    opTileScrubPass t [] s = s := by
  simp [opTileScrubPass, hon, hscrub, sortKey, forL]

theorem opTileScrubPass_of_one (hon : s.tileOn t.val = true) (hscrub : bitOf (s.reg (pgTile t.val) 0x40) 2 = true)
    (e : SramErr) : opTileScrubPass t [e] s = s.sramErr t.val e := by
  have hsort : sortKey (fun e : SramErr => e.off.val) [e] = [e] := rfl
  simp [opTileScrubPass, hon, hscrub, hsort, forL]

/-- Granule `g` becomes poisoned zeros. -/
def Tile.poisonGran (x : Tile) (g : Nat) : Tile := (x.write (64 * g) (List.replicate 64 0)).setMarks g 1 true

theorem Tile.poisonGran_eq (x : Tile) (g : Nat) : ∃ sram pois, x.poisonGran g = { x with sram, pois } := by
  rw [Tile.poisonGran, Tile.write_eq]
  exact ⟨_, _, rfl⟩

theorem Tile.mark_write (x : Tile) (a : Nat) (bs : Bytes) (k : Nat) : (x.write a bs).mark k = x.mark k := by
  rw [Tile.write_eq]
  rfl

theorem Tile.mark_poisonGran (x : Tile) (g k : Nat) : (x.poisonGran g).mark k = if k = g then true else x.mark k := by
  rw [Tile.poisonGran, Tile.mark_setMarks_one, Tile.mark_write]

theorem Tile.sram_redoStep (x : Tile) : x.redoStep.sram = x.sram := rfl
theorem Tile.mark_redoStep (x : Tile) (g : Nat) : x.redoStep.mark g = x.mark g := rfl

/-- The granule of byte `o` is lost: poisoned zeros, and in the calibration area the step in progress starts again
(R72). -/
def Tile.loseGran (x : Tile) (o : Nat) : Tile :=
  if 0x31000 ≤ o then (x.poisonGran (o / 64)).redoStep else x.poisonGran (o / 64)

theorem State.sramErr_of_lost (t : Nat) (o : Fin 262144) :
    s.sramErr t ⟨o, true⟩ = (s.setTl t ((s.tl t).loseGran o.val)).countRaise (pgTile t) 11 8 := rfl

theorem Tile.sram_loseGran (x : Tile) (o : Nat) :
    (x.loseGran o).sram = (x.write (64 * (o / 64)) (List.replicate 64 0)).sram := by
  rw [Tile.loseGran, apply_ite Tile.sram, Tile.sram_redoStep, ite_self, Tile.poisonGran, Tile.setMarks_sram]

theorem Tile.mark_loseGran (x : Tile) (o g : Nat) :
    (x.loseGran o).mark g = if g = o / 64 then true else x.mark g := by
  rw [Tile.loseGran, apply_ite (Tile.mark · g), Tile.mark_redoStep, ite_self, Tile.mark_poisonGran]

/-- Of the tile only its SRAM, its marks and the step in progress change. -/
theorem Tile.loseGran_eq (x : Tile) (o : Nat) : ∃ sram pois cal cmp, x.loseGran o = { x with sram, pois, cal, cmp } := by
  obtain ⟨sram, pois, h⟩ := x.poisonGran_eq (o / 64)
  rw [Tile.loseGran, h]
  split
  · exact ⟨_, _, _, _, rfl⟩
  · exact ⟨_, _, _, _, rfl⟩

theorem Tile.loseGran_of_data {x : Tile} {o : Nat} (h : o < 0x31000) :
    (x.loseGran o).cal = x.cal ∧ (x.loseGran o).cmp = x.cmp := by
  obtain ⟨sram, pois, heq⟩ := x.poisonGran_eq (o / 64)
  rw [Tile.loseGran, if_neg (by omega), heq]
  exact ⟨rfl, rfl⟩

theorem Tile.loseGran_of_cal {x : Tile} {o : Nat} (h : 0x31000 ≤ o) :
    (x.loseGran o).cmp = {} ∧ (x.loseGran o).cal.locked = [] ∧ (x.loseGran o).cal.windows = [] ∧
      (x.loseGran o).cal.val = x.cal.val ∧ (x.loseGran o).cal.phase = x.cal.phase := by
  obtain ⟨sram, pois, heq⟩ := x.poisonGran_eq (o / 64)
  rw [Tile.loseGran, if_pos h, heq]
  exact ⟨rfl, rfl, rfl, rfl, rfl⟩

/-- A pass that finds one uncorrectable error (R72). -/
theorem tileScrubPass_answers (htl : s.tl t.val = x) (hon : s.tileOn t.val = true)
    (hscrub : bitOf (s.reg (pgTile t.val) 0x40) 2 = true) (o : Fin 262144) :
    Answers (exec (.tileScrubPass t [⟨o, true⟩]) s) (fun u => (u.tl t.val).mark (o.val / 64) = true ∧
      (∀ a, a / 64 = o.val / 64 → tget 0 a (u.tl t.val).sram = 0) ∧
      (∀ a, a / 64 ≠ o.val / 64 → tget 0 a (u.tl t.val).sram = tget 0 a x.sram) ∧
      (∀ g, g ≠ o.val / 64 → (u.tl t.val).mark g = x.mark g) ∧
      u.tl t.val = { x with sram := (u.tl t.val).sram, pois := (u.tl t.val).pois, cal := (u.tl t.val).cal
                            cmp := (u.tl t.val).cmp } ∧
      (o.val < 0x31000 → (u.tl t.val).cal = x.cal ∧ (u.tl t.val).cmp = x.cmp) ∧
      (0x31000 ≤ o.val → (u.tl t.val).cmp = {} ∧ (u.tl t.val).cal.locked = [] ∧ (u.tl t.val).cal.windows = [] ∧
        (u.tl t.val).cal.val = x.cal.val ∧ (u.tl t.val).cal.phase = x.cal.phase) ∧
      u.cntLive (pgTile t.val) 11 = min (s.cntLive (pgTile t.val) 11 + 1) (2 ^ 64 - 1) ∧
      bitOf (u.raw (pgTile t.val)) 8 = true ∧ (∀ k, k ≠ t.val → u.tl k = s.tl k) ∧ u.mem = s.mem ∧ u.fr = s.fr) := by
  show Answers (done s (opTileScrubPass t [⟨o, true⟩] s)) _
  obtain ⟨y, hy⟩ : ∃ y, y = x.loseGran o.val := ⟨_, rfl⟩
  rw [opTileScrubPass_of_one hon hscrub, State.sramErr_of_lost, htl, ← hy]
  refine answers_done ?_
  simp only [settle_tl, settle_rawBit_pgTile, settle_cntLive_pgTile, settle_mem, settle_fr, State.tl_countRaise,
    State.tl_setTl, if_true, State.countRaise_mem, State.countRaise_fr, State.setTl_mem, State.setTl_fr, and_true]
  refine ⟨?_, fun a ha => ?_, fun a ha => ?_, fun g hg => ?_, ?_, fun h => ?_, fun h => ?_, ?_, ?_,
    fun k hk => if_neg hk⟩
  · rw [hy, Tile.mark_loseGran, if_pos rfl]
  · rw [hy, Tile.sram_loseGran, Tile.sram_write_zeros _ _ _ (by omega)]
  · rw [hy, Tile.sram_loseGran, Tile.sram_write_ne _ _ _ (by simp only [List.length_replicate]; omega)]
  · rw [hy, Tile.mark_loseGran, if_neg hg]
  · obtain ⟨sram, pois, cal, cmp, heq⟩ := x.loseGran_eq o.val
    rw [hy, heq]
  · exact hy ▸ Tile.loseGran_of_data h
  · exact hy ▸ Tile.loseGran_of_cal h
  · simp [State.countRaise]
  · rw [State.countRaise, bitOf_raw_raise]
    simp

end

/-- Settles O36, command by command. -/
theorem tilesChangeRoutingRowsAndRings : Obligations.TilesChangeRoutingRowsAndRings := by
  rintro s t p v x rfl
  refine ⟨fun h => congrArg (done s) (opRoutingChange_of_none h),
    fun hon hne y hy => congrArg (done s) (opRoutingChange_of_decided hon hne hy),
    fun row driver => ⟨fun h => congrArg (done s) (opRowFailure_of_none h), rowFailure_answers rfl⟩,
    fun col => ⟨fun h => congrArg (done s) (opColumnFailure_of_none h), columnFailure_answers rfl⟩,
    tilePage_denies,
    fun hpath => ⟨fun hgo => congrArg (done s) (opRowSubstReq_of_idle hpath hgo),
      fun hgo hfree y hy => congrArg (done s) (opRowSubstReq_of_free hpath hgo hfree hy),
      fun hgo hfree => congrArg (done s) (opRowSubstReq_of_taken hpath hgo hfree),
      fun c off lim y hc => ?_⟩,
    fun h errs => congrArg (done s) (opTileScrubPass_of_off h),
    fun hon hscrub => ⟨congrArg (done s) (opTileScrubPass_of_clean hon hscrub),
      fun o => ⟨congrArg (done s) (opTileScrubPass_of_one hon hscrub ⟨o, false⟩), tileScrubPass_answers rfl hon hscrub o⟩⟩⟩
  have hcfg : exec c s = done s (s.ringCfg p t.val off lim v.toNat) ∧
      y = if off = 0x50 then { s.tl t.val with aPend := true } else { s.tl t.val with oPend := true } := by
    simp only [List.mem_cons, List.not_mem_nil, or_false, Prod.mk.injEq] at hc
    rcases hc with ⟨rfl, rfl, rfl, rfl⟩ | ⟨rfl, rfl, rfl, rfl⟩
    · exact ⟨rfl, rfl⟩
    · exact ⟨rfl, rfl⟩
  obtain ⟨hexec, rfl⟩ := hcfg
  rw [hexec]
  exact ⟨fun hfits => congrArg (done s) (State.ringCfg_of_fits hpath hfits),
    fun hfits => congrArg (done s) (State.ringCfg_of_not_fits hpath hfits)⟩

end Sys2Proof.Machine
end

section
/-!
PROOFS. The start of an envelope list (O40). The statement lets the queue memory window stand anywhere that QMEM_BASE can
name, R245 in tier-1 or tier-2 only: where a ring's slot is a granule of the queue descriptor table and that granule is
lost, the read of the envelope disables the queue's own descriptor (R515), and HEAD counts on from 0.
-/
namespace Sys2Proof.Machine

/-- The granule of the queue descriptor table that holds the descriptors of queues 0 to 3. -/
def tableGranule : Nat := 0x4000E000000 / 64

/-- A queue whose slots begin at the queue descriptor table; one envelope is admitted. -/
def ringInTable : QDesc := { kind := 1, log2sz := 6, head := 64, admPos := 65, tail := 65, base := 0xE000 }

/-- Lane 0 takes its lists from queue 0, whose next envelope stands where its own descriptor does; the granule is lost. -/
def listInTable : State :=
  let s : State := { mem := { err := [(tableGranule, 2)] } }
  ((((s.setReg (pgVsu 0) 0x10 1).setReg (pgVsu 0) 0x40 (2 ^ 31)).setReg pgQueue 0x10 1).setReg pgQueue 0x40 256).setQd 0
    ringInTable

theorem listInTable_ready : listInTable.en (pgVsu 0) = true ∧ bitOf (listInTable.reg (pgVsu 0) 0x40) 31 = true ∧
    fld (listInTable.reg (pgVsu 0) 0x40) 17 0 = 0 ∧ (listInTable.lane 0).cur = none ∧ (listInTable.lane 0).susp = none ∧
    (listInTable.qd 0).head = 64 := by decide +kernel

/-- What is consumed is poisoned zeros, and HEAD has moved on from that of a disabled descriptor. -/
theorem listInTable_consumes : (listInTable.consume 0).1 = some (List.replicate 64 0, true) ∧
    ((opVsuEnvListStart 0 listInTable).qd 0).head = 1 := by decide +kernel

/-- Refutes O40: HEAD is 1 where the statement asks for 65. -/
theorem not_listsStartSuspendAndEndOnLanes : ¬ Obligations.ListsStartSuspendAndEndOnLanes := by
  intro h
  obtain ⟨-, hstart, -⟩ := h listInTable 0
  obtain ⟨hen, henv, hq, hcur, hsusp, hhead⟩ := listInTable_ready
  obtain ⟨hconsume, hmoved⟩ := listInTable_consumes
  obtain ⟨-, hinvalid⟩ := hstart 0 hen henv hcur hsusp hq.symm _ _ hconsume
  obtain ⟨u, hu, -, -, hasked⟩ := hinvalid (.inl rfl)
  obtain rfl : settle listInTable (opVsuEnvListStart 0 listInTable) = u := Host.Outcome.next.inj hu
  have hkept : ((settle listInTable (opVsuEnvListStart 0 listInTable)).qd 0).head = 1 := by
    rw [State.qd, settle_q]
    exact hmoved
  rw [hkept, hhead] at hasked
  exact absurd hasked (by decide)

end Sys2Proof.Machine
end

section
/-!
PROOFS. What lane operations do apart from their lanes (O41): memory accesses, entries of the event log, frame faults, undo
entries, posts and sync-cell operations change no lane and count on no lane's page.
-/
namespace Sys2Proof.Machine

/-- Pages that are no lane's. -/
abbrev OffLanes (p : Nat) : Prop := p < 48 ∨ 64 ≤ p

theorem offLanes_pgMem (k : Nat) : OffLanes (pgMem k) := Or.inr (by simp only [pgMem]; omega)

/-- The lanes of `s` and the counters of their pages stand in `u`. -/
structure LanesKept (s u : State) : Prop where
  vsu : u.vsu = s.vsu
  cnt : ∀ j k, j < 16 → k < 32 → u.cntLive (pgVsu j) k = s.cntLive (pgVsu j) k

namespace LanesKept
variable {s u : State}

theorem refl (s : State) : LanesKept s s := ⟨rfl, fun _ _ _ _ => rfl⟩

/-- An update of fields that are neither lanes nor counters. -/
theorem frame {pending freeCtr resp regs evRaw evEn snap soft hif irq tb fr gov rg q sy mem share sec link chk route frozen
    mg stm tile lp pw} (h : LanesKept s u) :
    LanesKept s { u with
      pending, freeCtr, resp, regs, evRaw, evEn, snap, soft, hif, irq, tb, fr, gov, rg, q, sy, mem, share, sec, link, chk
      route, frozen, mg, stm, tile, lp, pw } :=
  ⟨h.vsu, h.cnt⟩

theorem either {c : Prop} [Decidable c] {a b : State} (ha : LanesKept s a) (hb : LanesKept s b) :
    LanesKept s (if c then a else b) := by
  split <;> assumption

theorem eitherSnd {α : Type} {c : Prop} [Decidable c] {a b : α × State} (ha : LanesKept s a.2) (hb : LanesKept s b.2) :
    LanesKept s (if c then a else b).2 := by
  split <;> assumption

theorem forL {α : Type} {l : List α} {f : α → State → State} (h : LanesKept s u)
    (hf : ∀ a {t : State}, LanesKept s t → LanesKept s (f a t)) : LanesKept s (forL l f u) :=
  forL_keeps (LanesKept s) f (fun a _ => hf a) l u h

theorem forN {n : Nat} {f : Nat → State → State} (h : LanesKept s u)
    (hf : ∀ i {t : State}, LanesKept s t → LanesKept s (f i t)) : LanesKept s (forN n f u) :=
  forN_keeps (LanesKept s) f (fun i _ => hf i) n u h

theorem count (h : LanesKept s u) {p k : Nat} (hp : OffLanes p := by decide) (hk : k < 32 := by decide) :
    LanesKept s (u.count p k) where
  vsu := h.vsu
  cnt j k' hj hk' := by
    rw [State.cntLive_count, if_neg (by simp only [pgVsu]; omega), h.cnt j k' hj hk']

theorem raise (h : LanesKept s u) (p b : Nat) : LanesKept s (u.raise p b) := frame h

theorem setReg (h : LanesKept s u) (p o v : Nat) : LanesKept s (u.setReg p o v) := frame h

theorem setQd (h : LanesKept s u) (q : Nat) (d : QDesc) : LanesKept s (u.setQd q d) := frame h

theorem setCtl (h : LanesKept s u) (k : Nat) (c : Ctl) : LanesKept s (u.setCtl k c) := frame h

/-! Reads and writes of granules -/

theorem recErr (h : LanesKept s u) (p a src : Nat) : LanesKept s (u.recErr p a src) :=
  either h (((h.setReg _ _ _).setReg _ _ _).setReg _ _ _)

theorem recSram (h : LanesKept s u) (a src : Nat) : LanesKept s (u.recSram a src) :=
  either h (((h.setReg _ _ _).setReg _ _ _).setReg _ _ _)

theorem unbacked (h : LanesKept s u) (a : Nat) : LanesKept s (u.unbacked a) :=
  ((((h.recErr _ a 4).count (offLanes_pgMem 0)).count (offLanes_pgMem 0)).raise _ _).raise _ _

theorem useLine (h : LanesKept s u) (k l : Nat) (d : Bool) : LanesKept s (u.useLine k l d) := by
  unfold State.useLine
  extract_lets c
  split
  · exact h.setCtl _ _
  · exact (h.setCtl _ _).count (offLanes_pgMem k)

theorem touch (h : LanesKept s u) (k a : Nat) (w : Bool) : LanesKept s (u.touch k a w) := by
  have hcount : LanesKept s (u.count (pgMem k) (if w then 1 else 0)) := h.count (offLanes_pgMem k) (by split <;> decide)
  exact either (hcount.useLine _ _ _) hcount

theorem wbLine (h : LanesKept s u) (k g : Nat) : LanesKept s (u.wbLine k g) := either (h.useLine _ _ _) h

theorem invalShare (h : LanesKept s u) (a : Nat) : LanesKept s (u.invalShare a) := frame h

theorem breakImage (h : LanesKept s u) (a : Nat) : LanesKept s (u.breakImage a) := either (frame h) h

theorem corrected (h : LanesKept s u) (k : Nat) : LanesKept s (u.corrected k) :=
  ((h.count (offLanes_pgMem k)).raise _ _).setCtl _ _

theorem decodeCtl (h : LanesKept s u) (k src g : Nat) (dec : Dec) : LanesKept s (u.decodeCtl k src g dec).2 := by
  have hmem (m : Memory) {v : State} (hv : LanesKept s v) : LanesKept s { v with mem := m } := frame hv
  unfold State.decodeCtl
  split
  · have hlost := ((h.recErr (pgMem k) (64 * g) src).count (offLanes_pgMem k) (k := 3)).raise (pgMem k) 1
    exact (((hmem _ hlost).wbLine k g).invalShare _).breakImage _
  · have hfixed := (hmem (u.mem.heal g) h).wbLine k g
    exact eitherSnd (hfixed.count (offLanes_pgMem k)) (hfixed.corrected k)
  · exact eitherSnd (h.count (offLanes_pgMem k)) h

theorem decodeHub (h : LanesKept s u) (src g : Nat) (dec : Dec) : LanesKept s (u.decodeHub src g dec).2 := by
  have hmem (m : Memory) {v : State} (hv : LanesKept s v) : LanesKept s { v with mem := m } := frame hv
  unfold State.decodeHub
  split
  · have hlost : LanesKept s (u.sramLost src (64 * g)) := ((h.recSram (64 * g) src).count).raise _ _
    exact eitherSnd (hmem _ (hlost.forN fun _ _ ht => ht.setQd _ _)) (hmem _ hlost)
  · have hheal := hmem (u.mem.heal g) h
    exact eitherSnd hheal (hheal.count.raise _ _)
  · exact h

theorem lay (h : LanesKept s u) (src g : Nat) (data : List (Option Byte)) (poison : Bool) (dec : Dec) :
    LanesKept s (u.lay src g data poison dec) :=
  either (frame h) (frame (by split; exacts [h.decodeCtl _ _ _ _, h.decodeHub _ _ _]))

theorem gWrite (h : LanesKept s u) (src g : Nat) (data : List (Option Byte)) (poison : Bool) (dec : Dec) :
    LanesKept s (u.gWrite src g data poison dec) := by
  unfold State.gWrite
  split
  · exact h.unbacked _
  · exact h
  · exact h.lay _ _ _ _ _
  · exact either (h.unbacked _) (either (frame h) ((((h.touch _ _ _).invalShare _).lay _ _ _ _ _).breakImage _))

/-! The event log, frame faults and undo entries -/

theorem log (h : LanesKept s u) (p code cls detail : Nat) : LanesKept s (u.log p code cls detail) :=
  either (frame (h.forL (l := splitGrans _ _) fun _ _ ht => ht.gWrite _ _ _ _ _)).count h

theorem faultLog (h : LanesKept s u) (was : Bool) (p bit : Nat) : LanesKept s (u.faultLog was p bit) :=
  either h (h.log _ _ _ _)

theorem flood (h : LanesKept s u) (except : Option Nat) (m : Bytes) : LanesKept s (u.flood except m) :=
  h.forN fun _ _ ht => either (frame ht) ht

theorem discardFrom (h : LanesKept s u) (g : Nat) : LanesKept s (u.discardFrom g) :=
  either (h.forN fun _ _ ht => either ht (frame ht).count) h

theorem actVeto (h : LanesKept s u) (v : Veto) : LanesKept s (u.actVeto v) := by
  have hdisc := ((h.count (p := pgReg) (k := 3)).raise pgReg 1).discardFrom v.g
  refine either ?_ hdisc
  split
  · exact either (frame hdisc) hdisc
  · exact frame hdisc

theorem holdVeto (h : LanesKept s u) (g : Nat) : LanesKept s (u.holdVeto g) := either h (frame h)

theorem declareVeto (h : LanesKept s u) (g : Nat) : LanesKept s (u.declareVeto g) := by
  have hsent (m : Bytes) :=
    ((((h.count (p := pgReg) (k := 2)).raise pgReg 0).log pgReg 2 3 (g % 2 ^ 32)).holdVeto g).flood none m
  exact either h (either (((hsent _).count.raise _ _).log _ _ _ _) ((hsent _).actVeto _))

theorem frameFault (h : LanesKept s u) (src g : Nat) : LanesKept s (u.frameFault src g) := by
  have hraise := h.raise pgFrame 1
  unfold State.frameFault
  extract_lets was u1 f1 u2 f2 u3 u4
  have h2 : LanesKept s u2 := either hraise (frame hraise).count
  have h3 : LanesKept s u3 := either h2 ((frame h2).faultLog _ _ _)
  exact (h3.log _ _ _ _).declareVeto g

theorem regPut (h : LanesKept s u) (x : Nat) (bs : Bytes) : LanesKept s (u.regPut x bs) := h.forL fun _ _ ht => frame ht

theorem append (h : LanesKept s u) (e : Undo) : LanesKept s (u.append e) := by
  unfold State.append
  split
  · exact h
  · exact either (frame (frame (frame (h.regPut _ _)))) ((((h.count).raise _ _).log _ _ _ _).frameFault _ _)

theorem undo (h : LanesKept s u) (kind word id val : Nat) : LanesKept s (u.undo kind word id val) := by
  unfold State.undo
  split
  · exact h
  · exact either h (h.append _)

theorem undoSlot (h : LanesKept s u) (qid pos : Nat) (env : Bytes) (pois : Bool) :
    LanesKept s (u.undoSlot qid pos env pois) := by
  unfold State.undoSlot
  split
  · exact h
  · exact either h (h.append _)

/-! Writes of a lane -/

theorem stageWrite (h : LanesKept s u) (src g : Nat) (data : List (Option Byte)) (poison : Bool) :
    LanesKept s (u.stageWrite src g data poison) :=
  either (either (frame h) ((h.raise _ _).frameFault _ _)) (h.gWrite _ _ _ _ _)

theorem agentWrite (h : LanesKept s u) (agent src g : Nat) (data : List (Option Byte)) (poison : Bool) :
    LanesKept s (u.agentWrite agent src g data poison) := by
  have hcontest : LanesKept s (u.contest agent g data).2 := by
    rw [State.contest_snd]
    exact frame h
  exact hcontest.stageWrite _ _ _ _

theorem violate (h : LanesKept s u) (t src : Nat) : LanesKept s (u.violate t src) :=
  have hcount := (frame h).count (p := pgProt) (k := 0)
  either hcount.count hcount

theorem laneWrite (h : LanesKept s u) (j tenant a : Nat) (bs : List (Byte × Bool)) :
    LanesKept s (u.laneWrite j tenant a bs) :=
  h.forL fun _ _ ht => either (ht.agentWrite _ _ _ _ _) (ht.violate _ _)

/-! Posts -/

theorem putEnv (h : LanesKept s u) (q : Nat) (d : QDesc) (x : Nat) (e : Bytes) (pois : Bool) :
    LanesKept s (u.putEnv q d x e pois) :=
  (either (h.undoSlot _ _ _ _) h).gWrite _ _ _ _ _

theorem moveQd (h : LanesKept s u) (q : Nat) (d : QDesc) : LanesKept s (u.moveQd q d) :=
  have hfirst := either (h.undo _ _ _ _) h
  (either (hfirst.undo _ _ _ _) hfirst).setQd _ _

theorem holdEnv (h : LanesKept s u) (q : Nat) (e : Bytes) (pois : Bool) : LanesKept s (u.holdEnv q e pois) :=
  either ((frame h).raise _ _) (frame h)

theorem queueFault (h : LanesKept s u) : LanesKept s u.queueFault :=
  (frame ((h.raise _ _).faultLog _ _ _)).frameFault _ _

theorem postEnv (h : LanesKept s u) (t q : Nat) (e : Bytes) (pois : Bool) : LanesKept s (u.postEnv t q e pois) := by
  have hcount := h.count (p := pgQueue) (k := 0)
  have hstored (d : QDesc) (x : QDesc) (e : Bytes) :=
    either (c := d.kind = 1) ((hcount.putEnv q d d.tail e pois).moveQd q x) (hcount.holdEnv q e pois)
  exact either (h.violate _ _) (either h.count.queueFault (either (hstored _ _ _).queueFault (hstored _ _ _)))

/-! Sync cells -/

theorem fireWatch (h : LanesKept s u) (c : Nat) : LanesKept s (u.fireWatch c) :=
  have hcount := (h.count (p := pgQueue) (k := 9)).raise pgQueue 5
  either (frame hcount) ((frame hcount).count.raise _ _)

theorem judgeCell (h : LanesKept s u) (c : Nat) : LanesKept s (u.judgeCell c) :=
  have hfired := (frame h).forL fun _ _ ht => ht.fireWatch c
  (frame hfired).forL fun _ _ ht => frame ht

theorem addCell (h : LanesKept s u) (c : Nat) (n : Int) : LanesKept s (u.addCell c n) :=
  (frame (h.count.undo _ _ _ _)).judgeCell c

end LanesKept

end Sys2Proof.Machine
end

section
/-!
PROOFS. One operation at the block its list has come to (O41): which of the three outcomes of R120 it has, and what the
commit and the fault leave of the lane, its page and memory.
-/
namespace Sys2Proof.Machine

variable {s : State} {j : Nat} {l : VList} {b : VBlk}

/-! ### The lane and its page -/

@[simp] theorem State.lane_setLane (s : State) (j : Nat) (x : Lane) : (s.setLane j x).lane j = x := by
  simp [State.lane, State.setLane]

@[simp] theorem State.setLane_mem (s : State) (j : Nat) (x : Lane) : (s.setLane j x).mem = s.mem := rfl
@[simp] theorem State.setLane_q (s : State) (j : Nat) (x : Lane) : (s.setLane j x).q = s.q := rfl
@[simp] theorem State.setLane_rg (s : State) (j : Nat) (x : Lane) : (s.setLane j x).rg = s.rg := rfl

@[simp] theorem settle_lane (s0 s : State) (j : Nat) : (settle s0 s).lane j = s.lane j := by simp [State.lane]

/-- The interrupt outputs raise no event of a lane. -/
theorem settle_rawBit_pgVsu (s0 s : State) (j i : Nat) :
    bitOf ((settle s0 s).raw (pgVsu j)) i = bitOf (s.raw (pgVsu j)) i :=
  settle_rawBit _ _ _ _ (by simp only [pgVsu, pgCour]; omega) (by simp only [pgVsu, pgSmb]; omega)

theorem settle_cntLive_pgVsu (s0 s : State) (j k : Nat) : (settle s0 s).cntLive (pgVsu j) k = s.cntLive (pgVsu j) k :=
  settle_cntLive _ _ _ _ (by simp only [pgVsu, pgHost]; omega)

theorem LanesKept.lane {u : State} (h : LanesKept s u) (j : Nat) : u.lane j = s.lane j := by rw [State.lane, h.vsu, State.lane]

/-! ### The commit -/

theorem State.cntLive_tally_ne (s : State) {p k bit n p' k' : Nat} (h : 32 * p' + k' ≠ 32 * p + k) :
    (s.tally p k bit n).cntLive p' k' = s.cntLive p' k' := by
  unfold State.tally
  split
  · rfl
  · simp [h]

@[simp] theorem State.tally_mem (s : State) (p k bit n : Nat) : (s.tally p k bit n).mem = s.mem := by
  unfold State.tally
  split <;> simp

@[simp] theorem State.tally_q (s : State) (p k bit n : Nat) : (s.tally p k bit n).q = s.q := by
  unfold State.tally
  split <;> simp

@[simp] theorem State.tally_rg (s : State) (p k bit n : Nat) : (s.tally p k bit n).rg = s.rg := by
  unfold State.tally
  split <;> simp

/-- What an operation that commits counts on its lane's page (Table 5.7). -/
def State.tallied (s : State) (j : Nat) (b : VBlk) (v : VEnv) : State :=
  ((((((s.count (pgVsu j) 0).countN (pgVsu j) 1 (vsuSteps b v.count)).tally (pgVsu j) 3 4 v.clip).tally (pgVsu j) 4 5
    v.invalid).tally (pgVsu j) 5 1 v.pois).tally (pgVsu j) 6 2 (b2n v.trunc)).tally (pgVsu j) 7 3 v.fail

theorem State.tallied_cnt0 (s : State) (j : Nat) (b : VBlk) (v : VEnv) :
    (s.tallied j b v).cntLive (pgVsu j) 0 = min (s.cntLive (pgVsu j) 0 + 1) (2 ^ 64 - 1) := by
  simp [State.tallied, State.cntLive_tally_ne]

theorem State.tallied_cnt1 (s : State) (j : Nat) (b : VBlk) (v : VEnv) :
    (s.tallied j b v).cntLive (pgVsu j) 1 = min (s.cntLive (pgVsu j) 1 + vsuSteps b v.count) (2 ^ 64 - 1) := by
  simp [State.tallied, State.cntLive_tally_ne]

/-- The writes, posts and result word of an operation that commits. -/
def State.written (s : State) (j : Nat) (l : VList) (b : VBlk) (v : VEnv) : State :=
  let u := forL v.posts (fun o s => s.postEnv l.tenant o.1 o.2.1 o.2.2)
    (forL v.outs (fun o s => s.laneWrite j l.tenant o.1 o.2) s)
  if b.res = 0 then u else u.laneWrite j l.tenant b.res ((leBytes 8 v.word).map (fun c => (c, false)))

theorem lanesKept_written (s : State) (j : Nat) (l : VList) (b : VBlk) (v : VEnv) : LanesKept s (s.written j l b v) :=
  have houts := (LanesKept.refl s).forL (l := v.outs) fun o _ ht => ht.laneWrite j l.tenant o.1 o.2
  have hposts := houts.forL (l := v.posts) fun o _ ht => ht.postEnv l.tenant o.1 o.2.1 o.2.2
  .either hposts (hposts.laneWrite _ _ _ _)

/-- The writes and posts, the counts, the sync-cell add, and the step to the next block (R120, R142). -/
theorem State.commitOp_eq (s : State) (j : Nat) (l : VList) (b : VBlk) (v : VEnv) : ∃ u,
    LanesKept ((s.written j l b v).tallied j b v) u ∧
    s.commitOp j l b v = u.setLane j { u.lane j with cur := some { l with blk := l.blk + 1, ended := b.last } } :=
  ⟨_, .either (.either (.addCell (.refl _) _ _) (.violate (.refl _) _ _)) (.refl _), rfl⟩

/-- An operation with no write, post, result word or sync-cell add changes no memory. -/
theorem State.commitOp_mem {v : VEnv} (houts : v.outs = []) (hposts : v.posts = []) (hres : b.res = 0)
    (hsync : b.syncEn = false) : (s.commitOp j l b v).mem = s.mem := by
  simp [State.commitOp, houts, hposts, hres, hsync, forL]

/-! ### The fault -/

/-- FAULT_INFO and FAULT_ADDR hold the first fault until software clears OP_FAULT (R146). -/
def State.faultInfo (s : State) (j : Nat) (l : VList) (op cause : Nat) : State :=
  if s.reg (pgVsu j) 0x48 ≠ 0 then s
  else (s.setReg (pgVsu j) 0x48 (op * 2 ^ 24 + l.blk % 256 * 2 ^ 8 + cause)).setReg64 (pgVsu j) 0x50 l.at

theorem State.faultInfo_frame (s : State) (j : Nat) (l : VList) (op cause : Nat) :
    (s.faultInfo j l op cause).mem = s.mem ∧ (s.faultInfo j l op cause).q = s.q ∧ (s.faultInfo j l op cause).rg = s.rg := by
  refine ⟨?_, ?_, ?_⟩
  · rw [State.faultInfo, apply_ite State.mem, State.setReg64_mem, State.setReg_mem, ite_self]
  · rw [State.faultInfo, apply_ite State.q, State.setReg64_q, State.setReg_q, ite_self]
  · rw [State.faultInfo, apply_ite State.rg, State.setReg64_rg, State.setReg_rg, ite_self]

/-- A fault before its log entry: the lane and its list are stopped, OP_FAULT is raised. -/
def State.laneStopped (s : State) (j : Nat) (l : VList) (op cause : Nat) : State :=
  let u := s.faultInfo j l op cause
  (u.setLane j { u.lane j with fault := true, cur := some { l with ended := true } }).countRaise (pgVsu j) 8 0

theorem State.laneStopped_frame (s : State) (j : Nat) (l : VList) (op cause : Nat) :
    (s.laneStopped j l op cause).mem = s.mem ∧ (s.laneStopped j l op cause).q = s.q ∧
      (s.laneStopped j l op cause).rg = s.rg := by
  unfold State.laneStopped
  simpa only [State.countRaise_mem, State.countRaise_q, State.countRaise_rg, State.setLane_mem, State.setLane_q,
    State.setLane_rg] using s.faultInfo_frame j l op cause

/-- A fault of a frame-plan list is its frame's too (Table 15.2). -/
theorem State.laneFault_eq (s : State) (j : Nat) (l : VList) (op cause : Nat) : ∃ was, s.laneFault j l op cause =
    l.act.elim ((s.laneStopped j l op cause).faultLog was (pgVsu j) 0)
      fun a => ((s.laneStopped j l op cause).faultLog was (pgVsu j) 0).frameFault 9 a.1 := by
  refine ⟨((s.faultInfo j l op cause).lane j).fault, ?_⟩
  unfold State.laneFault
  extract_lets p u was x v w
  have hw : (s.laneStopped j l op cause).faultLog ((s.faultInfo j l op cause).lane j).fault (pgVsu j) 0 = w := rfl
  rw [hw]
  clear_value w
  cases l.act <;> rfl

theorem lanesKept_laneFault (s : State) (j : Nat) (l : VList) (op cause : Nat) :
    LanesKept (s.laneStopped j l op cause) (s.laneFault j l op cause) := by
  obtain ⟨was, heq⟩ := s.laneFault_eq j l op cause
  have hlog := (LanesKept.refl (s.laneStopped j l op cause)).faultLog was (pgVsu j) 0
  rw [heq]
  cases l.act with
  | none => exact hlog
  | some a => exact hlog.frameFault 9 a.1

theorem faulted_laneFault (s : State) (j : Nat) (l : VList) (op cause : Nat) :
    Faulted (s.laneStopped j l op cause) (s.laneFault j l op cause) := by
  obtain ⟨was, heq⟩ := s.laneFault_eq j l op cause
  have hlog := (Faulted.refl (s.laneStopped j l op cause)).logged ((Logged.refl _).faultLog was (pgVsu j) 0)
  rw [heq]
  cases l.act with
  | none => exact hlog
  | some a => exact hlog.frameFault 9 a.1

theorem State.lane_laneFault (s : State) (j : Nat) (l : VList) (op cause : Nat) :
    ((s.laneFault j l op cause).lane j).cur = some { l with ended := true } ∧
      ((s.laneFault j l op cause).lane j).fault = true := by
  rw [(lanesKept_laneFault s j l op cause).lane]
  have hlane (u : State) (x : Lane) : ((u.setLane j x).countRaise (pgVsu j) 8 0).lane j = x := u.lane_setLane j x
  simp [State.laneStopped, hlane]

/-- OP_FAULT is raised. -/
theorem State.laneFault_raises (s : State) (j : Nat) (l : VList) (op cause : Nat) :
    bitOf ((s.laneFault j l op cause).raw (pgVsu j)) 0 = true := by
  refine (faulted_laneFault s j l op cause).raised _ _ ?_
  unfold State.laneStopped State.countRaise
  rw [bitOf_raw_raise]
  simp

theorem State.laneFault_faults_frame (s : State) (j op cause : Nat) (hact : l.act ≠ none) :
    bitOf ((s.laneFault j l op cause).raw pgFrame) 1 = true := by
  obtain ⟨was, heq⟩ := s.laneFault_eq j l op cause
  obtain ⟨a, ha⟩ := Option.ne_none_iff_exists'.1 hact
  rw [heq, ha]
  exact State.frameFault_raises _ _ _

/-- With the event log off, the fault of an envelope's list writes nothing and posts nothing (R150). -/
theorem State.laneFault_mem_q (s : State) (j op cause : Nat) (hact : l.act = none) (hlog : s.rg.logOn = false) :
    (s.laneFault j l op cause).mem = s.mem ∧ (s.laneFault j l op cause).q = s.q := by
  obtain ⟨was, heq⟩ := s.laneFault_eq j l op cause
  obtain ⟨hmem, hq, hrg⟩ := s.laneStopped_frame j l op cause
  rw [heq, hact]
  simp [State.faultLog, State.log, hrg, hlog, hmem, hq]

/-! ### The outcomes of an operation -/

/-- The operations of Table 5.3: command, opcode, meaning. -/
def vsuOps (lane : Fin 16) (bad : List Nat) : List (Instr × Nat × (VBlk → VEnv → VEnv)) :=
  [(.vsuAdd lane bad, 0x01, vAdd), (.vsuMul lane bad, 0x02, vMul), (.vsuFma lane bad, 0x03, vFma),
    (.vsuScale lane bad, 0x04, vScale), (.vsuTopk lane bad, 0x10, vTopk), (.vsuSoftmax lane bad, 0x11, vSoftmax),
    (.vsuNorm lane bad, 0x12, vNorm), (.vsuRope lane bad, 0x13, vRope), (.vsuSample lane bad, 0x14, vSample),
    (.vsuIsect lane bad, 0x20, vIsect), (.vsuUnion lane bad, 0x21, vUnion), (.vsuDiff lane bad, 0x22, vDiff),
    (.vsuHprobe lane bad, 0x28, vHprobe), (.vsuHinsert lane bad, 0x29, vHinsert), (.vsuCsr lane bad, 0x30, vCsr),
    (.vsuGather lane bad, 0x38, vGather), (.vsuScatterAdd lane bad, 0x39, vScatterAdd), (.vsuSegred lane bad, 0x3A, vSegred),
    (.vsuConvert lane bad, 0x40, vConvert), (.vsuStats lane bad, 0x41, vStats), (.vsuQuant lane bad, 0x42, vQuant),
    (.vsuPost lane bad, 0x48, vPost)]

theorem exec_vsuOps (lane : Fin 16) (bad : List Nat) (s : State) :
    ∀ e ∈ vsuOps lane bad, exec e.1 s = done s (s.vsuRow e.2.1 e.2.2 lane.val bad) := by
  simp only [vsuOps, List.forall_mem_cons, List.not_mem_nil, false_imp_iff, implies_true, and_true]
  exact ⟨rfl, rfl, rfl, rfl, rfl, rfl, rfl, rfl, rfl, rfl, rfl, rfl, rfl, rfl, rfl, rfl, rfl, rfl, rfl, rfl, rfl, rfl⟩

/-- What the fetch and the placement of the result word leave an operation to start from. -/
def State.opStart (s : State) (j : Nat) (l : VList) (b : VBlk) (bad : List Nat) : VEnv :=
  ((({ s := s, agent := 4096 + j, tenant := l.tenant, bad := bad, exact := !b.tolerant, frame := l.frame } : VEnv).need
    (!bad.contains (l.at / 64)) 8).need (decide (b.res = 0) || (decide (b.res % 8 = 0) && rangeInHub b.res 8)) 3)

section
variable {op : Nat} {sem : VBlk → VEnv → VEnv} {bad : List Nat} (hcur : (s.lane j).cur = some l) (hen : s.en (pgVsu j) = true)
  (hended : l.ended = false) (hpeek : s.peekBlk l = .inl b)
include hcur hen hended hpeek

theorem State.vsuRow_of_other (hop : b.op ≠ op) : s.vsuRow op sem j bad = s := by
  simp [State.vsuRow, hcur, hen, hended, hpeek, hop]

theorem State.vsuRow_of_op (hblk : l.blk < 256) (hop : b.op = op) {s1 : State} {v : VEnv}
    (hs1 : s1 = (s.setReg (pgVsu j) 0x44 (op * 2 ^ 24 + l.blk * 2 ^ 8)).fetchBlk l
      (if bad.contains (l.at / 64) then .uncorrectable else .clean)) (hv : v = sem b (s1.opStart j l b bad)) :
    s.vsuRow op sem j bad =
      if v.wait = true ∨ (v.posts ≠ [] ∧ s1.qmemAwake = false) then s
      else if v.cause ≠ 0 then (v.s.tally (pgVsu j) 4 5 v.invalid).laneFault j l op v.cause
      else v.s.commitOp j l b v := by
  subst hop hs1 hv
  unfold State.vsuRow
  simp only [hcur, hen, hended, hpeek, Nat.not_le.2 hblk]
  simp [State.opStart]

end

theorem commitOp_answers (s0 s : State) (j : Nat) (l : VList) (b : VBlk) (v : VEnv) (hj : j < 16) :
    Answers (done s0 (s.commitOp j l b v)) fun u =>
      (u.lane j).cur = some { l with blk := l.blk + 1, ended := b.last } ∧
      u.cntLive (pgVsu j) 0 = min (s.cntLive (pgVsu j) 0 + 1) (2 ^ 64 - 1) ∧
      u.cntLive (pgVsu j) 1 = min (s.cntLive (pgVsu j) 1 + vsuSteps b v.count) (2 ^ 64 - 1) ∧
      (v.outs = [] → v.posts = [] → b.res = 0 → b.syncEn = false → u.mem = s.mem) := by
  obtain ⟨u, hu, hcommit⟩ := s.commitOp_eq j l b v
  have hwritten := lanesKept_written s j l b v
  have hcnt (k : Nat) : (s.commitOp j l b v).cntLive (pgVsu j) k = u.cntLive (pgVsu j) k := by
    rw [hcommit]
    rfl
  refine answers_done ⟨?_, ?_, ?_, fun houts hposts hres hsync => ?_⟩
  · rw [settle_lane, hcommit, State.lane_setLane]
  · rw [settle_cntLive_pgVsu, hcnt, hu.cnt j 0 hj (by decide), State.tallied_cnt0, hwritten.cnt j 0 hj (by decide)]
  · rw [settle_cntLive_pgVsu, hcnt, hu.cnt j 1 hj (by decide), State.tallied_cnt1, hwritten.cnt j 1 hj (by decide)]
  · rw [settle_mem, State.commitOp_mem houts hposts hres hsync]

theorem laneFault_answers (s0 s : State) (j : Nat) (l : VList) (op cause n : Nat) :
    Answers (done s0 ((s.tally (pgVsu j) 4 5 n).laneFault j l op cause)) fun u =>
      (u.lane j).cur = some { l with ended := true } ∧ (u.lane j).fault = true ∧ bitOf (u.raw (pgVsu j)) 0 = true ∧
      (l.act = none → s.rg.logOn = false → u.mem = s.mem ∧ u.q = s.q) ∧
      (l.act ≠ none → bitOf (u.raw pgFrame) 1 = true) := by
  obtain ⟨hcur, hfault⟩ := (s.tally (pgVsu j) 4 5 n).lane_laneFault j l op cause
  refine answers_done ⟨?_, ?_, ?_, fun hact hlog => ?_, fun hact => ?_⟩
  · rw [settle_lane, hcur]
  · rw [settle_lane, hfault]
  · rw [settle_rawBit_pgVsu, State.laneFault_raises]
  · obtain ⟨hmem, hq⟩ := (s.tally (pgVsu j) 4 5 n).laneFault_mem_q j op cause hact (by rw [State.tally_rg, hlog])
    rw [settle_mem, settle_q, hmem, hq, State.tally_mem, State.tally_q]
    exact ⟨rfl, rfl⟩
  · rw [settle_rawBit_pgFrame, State.laneFault_faults_frame _ _ _ _ hact]

/-- Settles O41: by the three outcomes of `State.vsuRow`, whatever the operation's own meaning. -/
theorem operationsRunWholeOrFault : Obligations.OperationsRunWholeOrFault := by
  intro s lane bad c op sem l b hops hcur hen hended hblk hpeek
  have hexec : exec c s = done s (s.vsuRow op sem lane.val bad) := exec_vsuOps lane bad s (c, op, sem) hops
  rw [hexec]
  refine ⟨fun hop => ?_, fun hop s1 v hs1 hv => ?_⟩
  · rw [State.vsuRow_of_other hcur hen hended hpeek hop]
    rfl
  · rw [State.vsuRow_of_op hcur hen hended hpeek hblk hop hs1 hv]
    refine ⟨fun hwait => ?_, fun hwait hready hcause => ?_, fun hwait hready hcause => ?_⟩
    · rw [if_pos hwait]
      rfl
    all_goals
      have hgo : ¬ (v.wait = true ∨ (v.posts ≠ [] ∧ s1.qmemAwake = false)) := by
        rcases hready with h | h <;> simp [hwait, h]
    · rw [if_neg hgo, if_neg (not_not.2 hcause)]
      exact ⟨rfl, commitOp_answers s v.s lane.val l b v lane.isLt⟩
    · rw [if_neg hgo, if_pos hcause]
      exact laneFault_answers s v.s lane.val l op v.cause v.invalid

end Sys2Proof.Machine
end

section
/-!
PROOFS. What ADD, MUL, FMA, CONVERT and the set operations write (O42): the narrowing of a result array, the shape that the
elementwise operations share, and the set operations as operations on strictly rising lists.
-/
namespace Sys2Proof.Machine

/-! ### Checks that pass -/

@[simp] theorem VEnv.need_true (v : VEnv) (c : Nat) : v.need true c = v := rfl

theorem VEnv.types_of_lt (v : VEnv) {b : VBlk} (hity : b.ity < 9) (hoty : b.oty < 9) : v.types b = v := by
  simp [VEnv.types, hity, hoty]

/-! ### Narrowed results -/

/-- The bytes of a result in type `t` with their marks, where narrowing finds it valid. -/
def El.bytes (t : Nat) (e : El) : List (Byte × Bool) := (leBytes (tySize t) (narrow t e.v).1).map (fun x => (x, e.p))

theorem El.bytes_length (t : Nat) (e : El) : (e.bytes t).length = tySize t := by
  rw [El.bytes, List.length_map, leBytes_length]

/-- Valid results come out in order, and only clipped and poisoned ones are counted. -/
theorem VEnv.narrows_of_valid (v : VEnv) (t : Nat) {es : List El} (h : ∀ e ∈ es, (narrow t e.v).2.2 = false) :
    ∃ clip pois, v.narrows t es = (es.flatMap (El.bytes t), { v with clip, pois }) := by
  induction es generalizing v with
  | nil => exact ⟨v.clip, v.pois, rfl⟩
  | cons e es ih =>
    obtain ⟨he, hes⟩ := List.forall_mem_cons.1 h
    rw [VEnv.narrows, he]
    simp only [Bool.or_false, Bool.false_eq_true, if_false]
    generalize hw : (if e.p then _ else _ : VEnv) = w
    obtain ⟨clip, pois, hv⟩ : ∃ clip pois, w = { v with clip, pois } := by
      rw [← hw]
      split <;> split <;> exact ⟨_, _, rfl⟩
    obtain ⟨clip', pois', hrest⟩ := ih w hes
    rw [hrest, hv]
    exact ⟨clip', pois', rfl⟩

theorem VEnv.store_of_valid (v : VEnv) (a t : Nat) {es : List El} (hout : v.outs = [])
    (h : ∀ e ∈ es, (narrow t e.v).2.2 = false) :
    ∃ clip pois, v.store a t es = { v with clip, pois, outs := [(a, es.flatMap (El.bytes t))] } := by
  obtain ⟨clip, pois, hes⟩ := v.narrows_of_valid t h
  refine ⟨clip, pois, ?_⟩
  simp [VEnv.store, hes, hout]

/-- The chunks of a list put together from pieces of one length. -/
theorem take_drop_flatMap {α β : Type} {f : α → List β} {k : Nat} (hf : ∀ x, (f x).length = k) (xs : List α) {i : Nat}
    (hi : i < xs.length) : ((xs.flatMap f).drop (i * k)).take k = f xs[i] := by
  induction xs generalizing i with
  | nil => simp at hi
  | cons x xs ih =>
    cases i with
    | zero => simp [← hf x]
    | succ i =>
      have hat : (i + 1) * k = (f x).length + i * k := by rw [hf]; ring
      rw [List.flatMap_cons, hat, ← List.drop_drop, List.drop_left]
      exact ih (by simpa using hi)

/-! ### Elementwise operations -/

/-- Position `i` of the source arrays. -/
def rowAt (cols : List (List El)) (i : Nat) : List El := cols.map (fun c => c.getD i ⟨.int 0, false⟩)

section
variable {v : VEnv} {n t : Nat} {srcs : List Nat} {cols : List (List El)}

/-- Arrays that are read without fault leave the environment as it was. -/
theorem VEnv.arrays_of_loads (hlen : cols.length = srcs.length)
    (h : ∀ j, j < srcs.length → v.load (srcs.getD j 0) n t = (cols.getD j [], v)) :
    v.arrays n (srcs.map (·, t)) = (cols, v) := by
  induction srcs generalizing cols with
  | nil =>
    rw [List.length_eq_zero_iff.1 hlen]
    rfl
  | cons a srcs ih =>
    obtain ⟨c, cols, rfl⟩ := List.exists_cons_of_length_eq_add_one hlen
    have hfirst : v.load a n t = (c, v) := h 0 (by simp)
    rw [List.map_cons, VEnv.arrays, hfirst, ih (by simpa using hlen) fun j hj => h (j + 1) (by simpa using hj)]

theorem VEnv.arrs_of_placed (h : ∀ j, j < srcs.length → v.arr (srcs.getD j 0) n (tySize t) false = v) :
    (srcs.map (·, t)).foldl (fun v e => v.arr e.1 n (tySize e.2) false) v = v := by
  induction srcs with
  | nil => rfl
  | cons a srcs ih =>
    have hfirst : v.arr a n (tySize t) false = v := h 0 (by simp)
    rw [List.map_cons, List.foldl_cons, hfirst, ih fun j hj => h (j + 1) (by simpa using hj)]

end

/-- What is written at the end of an elementwise operation: N results, each of its own position (R132, R145). -/
structure Elementwise (b : VBlk) (v u : VEnv) (fn : List VNum → VNum) (cols : List (List El)) : Prop where
  cause : u.cause = 0
  count : u.count = b.n
  s : u.s = v.s
  outs : ∃ bs, u.outs = [(b.dst, bs)] ∧ bs.length = b.n * tySize b.oty ∧ ∀ i, i < b.n →
    (bs.drop (i * tySize b.oty)).take (tySize b.oty) =
      (leBytes (tySize b.oty) (narrow b.oty (fn ((rowAt cols i).map (·.v)))).1).map (fun x => (x, anyP (rowAt cols i)))

section
variable {b : VBlk} {v : VEnv} {fn : List VNum → VNum} {cols : List (List El)}

/-- The result of position `i`. -/
def resultAt (fn : List VNum → VNum) (cols : List (List El)) (i : Nat) : El :=
  ⟨fn ((rowAt cols i).map (·.v)), anyP (rowAt cols i)⟩

theorem VEnv.ew_elementwise {srcs : List Nat} {g : List VNum → VNum} (hcause : v.cause = 0) (hout : v.outs = [])
    (hlen : cols.length = srcs.length)
    (hsrc : ∀ j, j < srcs.length → v.arr (srcs.getD j 0) b.n (tySize b.ity) false = v ∧
      v.load (srcs.getD j 0) b.n b.ity = (cols.getD j [], v))
    (hdst : v.arr b.dst b.n (tySize b.oty) false = v) (hg : ∀ q, q.length = srcs.length → g q = fn q)
    (hvalid : ∀ i, i < b.n → (narrow b.oty (fn ((rowAt cols i).map (·.v)))).2.2 = false) :
    Elementwise b v (v.ew b (srcs.map (·, b.ity)) false g) fn cols := by
  have hes : (List.range b.n).map (resultAt g cols) = (List.range b.n).map (resultAt fn cols) := by
    refine List.map_congr_left fun i _ => ?_
    rw [resultAt, hg _ (by simp [rowAt, hlen]), resultAt]
  obtain ⟨clip, pois, hstore⟩ := v.store_of_valid b.dst b.oty hout (es := (List.range b.n).map (resultAt fn cols)) (by
    simpa [resultAt] using hvalid)
  have hew : v.ew b (srcs.map (·, b.ity)) false g =
      { v.store b.dst b.oty ((List.range b.n).map (resultAt fn cols)) with count := b.n } := by
    unfold VEnv.ew
    rw [VEnv.arrs_of_placed fun j hj => (hsrc j hj).1]
    dsimp only
    rw [hdst, VEnv.arrays_of_loads hlen fun j hj => (hsrc j hj).2, ← hes]
    rfl
  rw [hew, hstore]
  refine ⟨hcause, rfl, rfl, _, rfl, ?_, fun i hi => ?_⟩
  · simp [List.length_flatMap, El.bytes_length, Function.comp_def]
  · rw [take_drop_flatMap (El.bytes_length b.oty) _ (by simpa using hi)]
    simp [El.bytes, resultAt]

end

/-- The four elementwise operations of the statement, each with its sources and its value at a position. -/
def elementwiseOps (b : VBlk) : List ((VBlk → VEnv → VEnv) × List Nat × (List VNum → VNum)) :=
  [(vAdd, [b.a, (b.a + b.imm) % 2 ^ 48], fun q => if tyFloat b.ity
      then .fl (fadd (q.getD 0 (.int 0)).f (q.getD 1 (.int 0)).f) else .int ((q.getD 0 (.int 0)).i + (q.getD 1 (.int 0)).i)),
    (vMul, [b.a, b.b], fun q => if tyFloat b.ity
      then .fl (fmul (q.getD 0 (.int 0)).f (q.getD 1 (.int 0)).f) else .int ((q.getD 0 (.int 0)).i * (q.getD 1 (.int 0)).i)),
    (vFma, [b.a, b.b, b.aux], fun q => if tyFloat b.ity
      then .fl (ffma (q.getD 0 (.int 0)).f (q.getD 1 (.int 0)).f (q.getD 2 (.int 0)).f)
      else .int ((q.getD 0 (.int 0)).i * (q.getD 1 (.int 0)).i + (q.getD 2 (.int 0)).i)),
    (vConvert, [b.a], fun q => q.getD 0 (.int 0))]

/-- ADD of one position: its values from the first source on. -/
def sumFrom (t : Nat) : List VNum → VNum
  | [] => .int 0
  | x :: q => q.foldl (fun x y => if tyFloat t then .fl (fadd x.f y.f) else .int (x.i + y.i)) x

/-- ADD of two sources takes the second IMM behind the first (R132). -/
theorem vAdd_eq_ew {b : VBlk} {v : VEnv} (hity : b.ity < 9) (hoty : b.oty < 9) (htwo : fld b.param 1 0 = 0) :
    vAdd b v = v.ew b ([b.a, (b.a + b.imm) % 2 ^ 48].map (·, b.ity)) false (sumFrom b.ity) := by
  have ha : (b.a + 0 * b.imm) % 2 ^ 48 = b.a := by
    rw [Nat.zero_mul, Nat.add_zero, Nat.mod_eq_of_lt]
    exact Nat.mod_lt _ (by decide)
  unfold vAdd
  simp only [v.types_of_lt hity hoty, htwo]
  rw [show List.range (0 + 2) = [0, 1] from rfl, List.map_cons, List.map_cons, List.map_nil, ha, Nat.one_mul]
  rfl

/-- Every elementwise operation has the shape of `VEnv.ew`. -/
theorem elementwiseOps_eq_ew {b : VBlk} {v : VEnv} (hity : b.ity < 9) (hoty : b.oty < 9)
    {sem : VBlk → VEnv → VEnv} {srcs : List Nat} {fn : List VNum → VNum} (hmem : (sem, srcs, fn) ∈ elementwiseOps b)
    (htwo : sem = vAdd → fld b.param 1 0 = 0) :
    ∃ g, sem b v = v.ew b (srcs.map (·, b.ity)) false g ∧ ∀ q, q.length = srcs.length → g q = fn q := by
  simp only [elementwiseOps, List.mem_cons, Prod.mk.injEq, List.not_mem_nil, or_false] at hmem
  rcases hmem with ⟨rfl, rfl, rfl⟩ | ⟨rfl, rfl, rfl⟩ | ⟨rfl, rfl, rfl⟩ | ⟨rfl, rfl, rfl⟩
  · refine ⟨_, vAdd_eq_ew hity hoty (htwo rfl), fun q hq => ?_⟩
    obtain ⟨x, y, rfl⟩ := List.length_eq_two.1 hq
    rfl
  · exact ⟨_, by rw [vMul, v.types_of_lt hity hoty]; rfl, fun _ _ => rfl⟩
  · exact ⟨_, by rw [vFma, v.types_of_lt hity hoty]; rfl, fun _ _ => rfl⟩
  · exact ⟨_, by rw [vConvert, v.types_of_lt hity hoty]; rfl, fun _ _ => rfl⟩

/-! ### Strictly rising lists -/

theorem rising_of_pairwise : ∀ {ks : List Nat}, ks.Pairwise (· < ·) → rising ks = true
  | [], _ => rfl
  | [_], _ => rfl
  | a :: b :: r, h => by
    obtain ⟨ha, hr⟩ := List.pairwise_cons.1 h
    simp [rising, ha b (by simp), rising_of_pairwise hr]

theorem insBy_lt_eq (x : Nat) (ks : List Nat) :
    insBy (fun x y => decide (x < y)) x ks = ks.orderedInsert (· < ·) x := by
  induction ks with
  | nil => rfl
  | cons k ks ih => simp [insBy, ih]

/-- A key that is not there is inserted at its place. -/
theorem pairwise_orderedInsert_lt {x : Nat} {ks : List Nat} (h : ks.Pairwise (· < ·)) (hx : x ∉ ks) :
    (ks.orderedInsert (· < ·) x).Pairwise (· < ·) := by
  induction ks with
  | nil => simp
  | cons k ks ih =>
    obtain ⟨hk, hks⟩ := List.pairwise_cons.1 h
    obtain ⟨hne, hnot⟩ := not_or.1 (List.mem_cons.not.1 hx)
    rw [List.orderedInsert_cons]
    split
    · next hlt => exact List.pairwise_cons.2 ⟨List.forall_mem_cons.2 ⟨hlt, fun y hy => hlt.trans (hk y hy)⟩, h⟩
    · refine List.pairwise_cons.2 ⟨fun y hy => ?_, ih hks hnot⟩
      rcases (List.mem_orderedInsert _).1 hy with rfl | hy
      · omega
      · exact hk y hy

/-- Inserting new keys one after another keeps the list strictly rising and loses none. -/
theorem foldl_insBy_lt {ks acc rs : List Nat} (hks : ks.Nodup) (hacc : acc.Pairwise (· < ·)) (hnew : ∀ k ∈ ks, k ∉ acc)
    (hrs : ks.foldl (fun acc x => insBy (fun x y => decide (x < y)) x acc) acc = rs) :
    rs.Pairwise (· < ·) ∧ ∀ k, k ∈ rs ↔ k ∈ acc ∨ k ∈ ks := by
  induction ks generalizing acc with
  | nil =>
    obtain rfl : acc = rs := hrs
    exact ⟨hacc, fun k => by simp⟩
  | cons x ks ih =>
    obtain ⟨hx, hks⟩ := List.nodup_cons.1 hks
    obtain ⟨hxacc, hrest⟩ := List.forall_mem_cons.1 hnew
    rw [List.foldl_cons, insBy_lt_eq] at hrs
    have hnext : ∀ k ∈ ks, k ∉ acc.orderedInsert (· < ·) x := fun k hk hin => by
      rcases (List.mem_orderedInsert _).1 hin with rfl | hin
      · exact hx hk
      · exact hrest k hk hin
    obtain ⟨hsorted, hmem⟩ := ih hks (pairwise_orderedInsert_lt hacc hxacc) hnext hrs
    refine ⟨hsorted, fun k => ?_⟩
    rw [hmem, List.mem_orderedInsert, List.mem_cons, or_comm (a := k = x), or_assoc]

/-- Sorting keys none of which stands twice gives the strictly rising list of the same keys. -/
theorem sortBy_lt_of_nodup {ks rs : List Nat} (h : ks.Nodup) (hrs : sortBy (fun x y => decide (x < y)) ks = rs) :
    rs.Pairwise (· < ·) ∧ ∀ k, k ∈ rs ↔ k ∈ ks := by
  obtain ⟨hsorted, hmem⟩ := foldl_insBy_lt h .nil (fun _ _ => List.not_mem_nil) hrs
  exact ⟨hsorted, fun k => (hmem k).trans (by simp)⟩

/-! ### Key lists -/

/-- No integer is an invalid result. -/
theorem narrow_int_valid {t : Nat} (ht : tyFloat t = false) (i : Int) : (narrow t (.int i)).2.2 = false := by
  simp [narrow, ht]

/-- A key in the range of its unsigned type is written as it is. -/
theorem narrow_key {t k : Nat} (ht : 7 ≤ t) (hk : k < 2 ^ (8 * tySize t)) : (narrow t (.int k)).1 = k := by
  have hfloat : tyFloat t = false := by simp [tyFloat]; omega
  have hrange : tyRange t = (0, 2 ^ (8 * tySize t) - 1) := if_neg (by omega)
  have hlt : (k : Int) < 2 ^ (8 * tySize t) := by exact_mod_cast hk
  have hclamp : clampI 0 (2 ^ (8 * tySize t) - 1) k = k := by
    rw [clampI, if_neg (by omega), if_neg (by omega)]
  simp only [narrow, hfloat, hrange, hclamp, Bool.false_eq_true, if_false]
  rw [untwos, Int.emod_eq_of_lt (by omega) hlt, Int.toNat_natCast]

/-- A key without poison, as a result. -/
def keyEl (k : Nat) (p : Bool) : El := ⟨.int k, p⟩

/-- A list of keys is written up to the capacity, and counted whole (R137). -/
theorem VEnv.capped_keys {v : VEnv} {b : VBlk} (hout : v.outs = []) (hoty : 7 ≤ b.oty)
    (hdst : ∀ n, n ≤ b.param → v.arr b.dst n (tySize b.oty) false = v) (ks : List Nat) (p : Bool) {u : VEnv}
    (hu : u = v.capped b b.oty (ks.map (keyEl · p))) :
    u.count = ks.length ∧ u.trunc = decide (b.param < ks.length) ∧ u.s = v.s ∧ ∃ bs, u.outs = [(b.dst, bs)] ∧
      ((∀ k ∈ ks, k < 2 ^ (8 * tySize b.oty)) → bs.map (·.1) = (ks.take b.param).flatMap (leBytes (tySize b.oty))) := by
  have hfloat : tyFloat b.oty = false := by simp [tyFloat]; omega
  have htake : (ks.map (keyEl · p)).take (min (ks.map (keyEl · p)).length b.param) = (ks.take b.param).map (keyEl · p) := by
    rw [List.map_take, List.take_eq_take_iff]
    omega
  obtain ⟨clip, pois, hstore⟩ := v.store_of_valid b.dst b.oty hout (es := (ks.take b.param).map (keyEl · p)) fun e he => by
    obtain ⟨k, -, rfl⟩ := List.mem_map.1 he
    exact narrow_int_valid hfloat _
  rw [VEnv.capped, hdst _ (Nat.min_le_right _ _)] at hu
  rw [htake, hstore] at hu
  subst hu
  refine ⟨List.length_map _, ?_, rfl, _, rfl, fun hk => ?_⟩
  · simp
  · rw [List.map_flatMap, List.flatMap_map]
    refine List.flatMap_congr fun k hin => ?_
    rw [keyEl, El.bytes, narrow_key hoty (hk k (List.mem_of_mem_take hin)), List.map_map]
    exact List.map_id _

/-! ### The set operations -/

/-- The keys of an array. -/
def keysOf (xs : List El) : List Nat := xs.map (fun e => e.v.i.toNat)

/-- A set operation on strictly rising key lists writes the keys that its list function names (R137). -/
theorem vSet_of_rising {b : VBlk} {v : VEnv} {xs ys : List El} (f : List Nat → List Nat → List Nat) (hity : 7 ≤ b.ity)
    (hity9 : b.ity < 9) (hoty : 7 ≤ b.oty) (hoty9 : b.oty < 9) (ha : v.arr b.a b.n (tySize b.ity) false = v)
    (hb : v.arr b.b b.l (tySize b.ity) false = v) (hx : v.load b.a b.n b.ity = (xs, v)) (hy : v.load b.b b.l b.ity = (ys, v))
    (hka : (keysOf xs).Pairwise (· < ·)) (hkb : (keysOf ys).Pairwise (· < ·)) :
    ∃ p, vSet b v f = v.capped b b.oty ((f (keysOf xs) (keysOf ys)).map (keyEl · p)) := by
  refine ⟨anyP xs || anyP ys, ?_⟩
  have hra : rising (xs.map fun e => e.v.i.toNat) = true := rising_of_pairwise hka
  have hrb : rising (ys.map fun e => e.v.i.toNat) = true := rising_of_pairwise hkb
  unfold vSet
  simp only [v.types_of_lt hity9 hoty9, hity, hoty, decide_true, Bool.and_self, VEnv.need_true, ha, hb, hx, hy, hra, hrb,
    Bool.not_true, Bool.false_and, Bool.false_or, Bool.false_eq_true, if_false, bind_pure_comp, List.map_eq_map, List.map_map]
  rfl

/-- The set operations of the statement, each with the keys it keeps. -/
def setOps (ka kb : List Nat) : List ((VBlk → VEnv → VEnv) × (Nat → Prop)) :=
  [(vIsect, fun k => k ∈ ka ∧ k ∈ kb), (vUnion, fun k => k ∈ ka ∨ k ∈ kb), (vDiff, fun k => k ∈ ka ∧ k ∉ kb)]

/-- On strictly rising lists each set operation's list function gives the strictly rising list of the keys it keeps. -/
theorem setOps_keep {ka kb : List Nat} (hka : ka.Pairwise (· < ·)) (hkb : kb.Pairwise (· < ·))
    {sem : VBlk → VEnv → VEnv} {keep : Nat → Prop} (hmem : (sem, keep) ∈ setOps ka kb) :
    ∃ f : List Nat → List Nat → List Nat, (∀ b v, sem b v = vSet b v f) ∧ (f ka kb).Pairwise (· < ·) ∧
      ∀ k, k ∈ f ka kb ↔ keep k := by
  simp only [setOps, List.mem_cons, Prod.mk.injEq, List.not_mem_nil, or_false] at hmem
  rcases hmem with ⟨rfl, rfl⟩ | ⟨rfl, rfl⟩ | ⟨rfl, rfl⟩
  · exact ⟨_, fun _ _ => rfl, hka.filter _, fun k => by simp⟩
  · have hnodup : (ka ++ kb.filter fun k => !ka.contains k).Nodup := by
      refine List.Nodup.append (hka.imp ne_of_lt) ((hkb.imp ne_of_lt).filter _) fun k hk hin => ?_
      simp [hk] at hin
    obtain ⟨hsorted, hkept⟩ := sortBy_lt_of_nodup hnodup rfl
    refine ⟨_, fun _ _ => rfl, hsorted, fun k => (hkept k).trans ?_⟩
    by_cases hk : k ∈ ka <;> simp [hk]
  · exact ⟨_, fun _ _ => rfl, hka.filter _, fun k => by simp⟩

/-! ### The obligation -/

/-- Settles O42: the elementwise operations by their shape, the set operations by their list functions. -/
theorem elementwiseAndSetOperationsCompute : Obligations.ElementwiseAndSetOperationsCompute := by
  intro b v xs ys hcause hout
  refine ⟨fun sem srcs fn cols hmem hity hoty htwo hlen hsrc hdst row hrow hvalid => ?_,
    fun sem keep ka kb hmem hity hity9 hoty hoty9 ha hb hdst hx hy hxs hys hka hkb => ?_⟩
  · obtain rfl : row = rowAt cols := funext hrow
    obtain ⟨g, hsem, hg⟩ := elementwiseOps_eq_ew (v := v) hity hoty hmem htwo
    obtain ⟨hc, hcount, hs, houts⟩ := VEnv.ew_elementwise hcause hout hlen hsrc hdst hg hvalid
    rw [hsem]
    exact ⟨hc, hcount, hs, houts⟩
  · obtain ⟨f, hsem, hrise, hkeep⟩ := setOps_keep hka hkb hmem
    obtain rfl : ka = keysOf xs := hxs
    obtain rfl : kb = keysOf ys := hys
    obtain ⟨p, hset⟩ := vSet_of_rising f hity hity9 hoty hoty9 ha hb hx hy hka hkb
    exact ⟨_, hrise, hkeep, VEnv.capped_keys hout hoty hdst _ p ((hsem b v).trans hset)⟩

end Sys2Proof.Machine
end

section
/-!
PROOFS. The calibration engine and the acquisition pass (O37): what storing working values does, what the outcome of a step
does to the tile, and then each step of Table 6.3 by an equation for each of its outcomes.
-/
namespace Sys2Proof.Machine

variable {s : State} {t : Nat}

/-! ### Working values -/

/-- Storing values for other quantities leaves a value as it was. -/
theorem CalWork.tget_put_of_notMem {q : Nat} {vs : List (Nat × Int)} (hq : q ∉ vs.map (·.1)) (w : CalWork) (d : Int) :
    tget d q (w.put vs).val = tget d q w.val := by
  induction vs generalizing w with
  | nil => rfl
  | cons e vs ih =>
    obtain ⟨hne, hq⟩ := not_or.1 (List.mem_cons.not.1 hq)
    exact (ih hq { w with val := tins e.1 e.2 w.val }).trans (tget_tins_ne d e.2 hne _)

/-- A stored value reads back where no other value is stored for its quantity. -/
theorem CalWork.tget_put_of_mem {q : Nat} {v : Int} {vs : List (Nat × Int)} (hv : ∀ e ∈ vs, e.1 = q → e.2 = v)
    (hq : q ∈ vs.map (·.1)) (w : CalWork) (d : Int) : tget d q (w.put vs).val = v := by
  induction vs generalizing w with
  | nil => simp at hq
  | cons e vs ih =>
    obtain ⟨he, hvs⟩ := List.forall_mem_cons.1 hv
    by_cases hmem : q ∈ vs.map (·.1)
    · exact ih hvs hmem { w with val := tins e.1 e.2 w.val }
    · obtain rfl : q = e.1 := (List.mem_cons.1 hq).resolve_right hmem
      rw [← he rfl]
      exact (CalWork.tget_put_of_notMem hmem { w with val := tins e.1 e.2 w.val } d).trans (tget_tins_same d e.2 _ _)

/-- A working value reads as stored, else as before. -/
theorem State.work_put_singleton (w : CalWork) (k q : Nat) (v : Int) :
    s.work t (w.put [(k, v)]) q = if q = k then v else s.work t w q := by
  split
  · next hq => exact CalWork.tget_put_of_mem (by simp) (by simp [hq]) w _
  · next hq => exact CalWork.tget_put_of_notMem (by simpa using hq) w _

/-! ### The outcome of a step -/

/-- The tile after a calibration step has failed: the column's retirement falls due (R162). -/
def Tile.calFailed (x : Tile) : Tile :=
  { x with ranCal := x.run.isSome, cal := {}, colDue := x.colDue ++ [x.roles.calcol] }

/-- The tile after a calibration step whose outcome is the work `w`. -/
def Tile.calWent (x : Tile) (w : CalWork) : Tile := { x with ranCal := x.run.isSome, cal := w }

/-- The tile after the last calibration step of a column: its values are staged (R161, Table 6.5). -/
def Tile.calStaged (x : Tile) (w : CalWork) : Tile :=
  { x with ranCal := x.run.isSome, staged := some w, cal := {}, cmp := {}, rot := if x.roles.standby = 0xFF then 3 else 4 }

theorem State.colStep_of_failed :
    s.colStep t (some { (s.tl t).colRun with bad := true }) = s.setTl t (s.tl t).calFailed := rfl

theorem State.colStep_of_measured {w : CalWork} (hw : w.phase ≠ 7) :
    s.colStep t (some { (s.tl t).colRun with work := w }) = s.setTl t ((s.tl t).calWent w) := by
  simp [State.colStep, Tile.colRun, hw, Tile.calWent]

theorem State.colStep_of_complete {w : CalWork} (hw : w.phase = 7) :
    s.colStep t (some { (s.tl t).colRun with work := w }) = s.setTl t ((s.tl t).calStaged w) := by
  simp [State.colStep, Tile.colRun, hw, Tile.calStaged]

/-- A command that sets one tile answers a state with that tile, the other tiles, memory and the frame as they were. -/
theorem answers_of_setTl {o : Host.Outcome State Fault Refusal} {y : Tile} {P : State → Prop}
    (ho : o = .next (settle s (s.setTl t y)))
    (h : ∀ u : State, u.tl t = y → ((∀ k, k ≠ t → u.tl k = s.tl k) ∧ u.mem = s.mem ∧ u.fr = s.fr) → P u) : Answers o P := by
  rw [ho]
  exact answers_done (h _ (by simp) ⟨fun k hk => by simp [hk], by simp, by simp⟩)

/-! ### A command at its step and out of it -/

/-- The commands of the calibration engine, each with its step of Table 6.3. -/
inductive CalStep (t : Fin 256) : Instr → Nat → Prop
  | offset (sum : Int) : CalStep t (.calOffsetMeasure t sum) 2
  | gain (sum : Int) : CalStep t (.calGainMeasure t sum) 3
  | delay (resp : List Samples) : CalStep t (.calDelayTrim t resp) 4
  | window (raw : List (List (BitVec 10))) (lit : List Nat) : CalStep t (.lockinWindowEnd t raw lit) 5
  | table (m : TabSweep) : CalStep t (.calDriveTable t m) 6

/-- Outside its step a command of the calibration engine changes nothing. -/
theorem exec_of_not_calAt {t : Fin 256} {i : Instr} {ph : Nat} (hi : CalStep t i ph) (hat : s.calAt t.val ph = false) :
    exec i s = .next (settle s s) := by
  have hskip : ∀ u : State, (if s.calAt t.val ph = true then u else s) = s := fun u => if_neg (by simp [hat])
  cases hi <;> exact congrArg (done s) (hskip _)

section
variable {t : Fin 256}

theorem exec_calOffsetMeasure {sum : Int} (hat : s.calAt t.val 2 = true) :
    exec (.calOffsetMeasure t sum) s =
      .next (settle s (s.colStep t.val (some ((s.tl t.val).colRun.offset sum)))) :=
  congrArg (done s) (if_pos hat)

theorem exec_calGainMeasure {sum : Int} (hat : s.calAt t.val 3 = true) :
    exec (.calGainMeasure t sum) s =
      .next (settle s (s.colStep t.val (some ((s.tl t.val).colRun.gain (s.tl t.val).roles.calcol sum)))) :=
  congrArg (done s) (if_pos hat)

theorem exec_calDelayTrim {resp : List Samples} (hat : s.calAt t.val 4 = true) :
    exec (.calDelayTrim t resp) s = .next (settle s
      (s.colStep t.val (s.colTrim t.val (s.tl t.val).roles.calcol resp (s.tl t.val).colRun))) :=
  congrArg (done s) (if_pos hat)

theorem exec_lockinWindowEnd {w : LockWin} (hat : s.calAt t.val 5 = true) :
    exec (.lockinWindowEnd t w.raw w.lit) s = .next (settle s
      (s.colStep t.val (s.colWindow t.val (s.tl t.val).roles.calcol w (s.tl t.val).colRun))) :=
  congrArg (done s) (if_pos hat)

/-- A drive table whose reads find no error. -/
theorem exec_calDriveTable {sweep : Sweep} (hat : s.calAt t.val 6 = true) :
    exec (.calDriveTable t ⟨sweep, none⟩) s = .next (settle s
      (s.colStep t.val (s.colTable t.val (s.tl t.val).roles.calcol sweep (s.tl t.val).colRun))) :=
  congrArg (done s) (if_pos hat)

end

/-- The engine is at the step it is asked for. -/
theorem State.phase_of_calAt {ph : Nat} (hat : s.calAt t ph = true) : (s.tl t).cal.phase = ph := by
  simp only [State.calAt, Bool.and_eq_true, decide_eq_true_eq] at hat
  obtain ⟨⟨⟨⟨⟨-, hph⟩, -⟩, -⟩, -⟩, -⟩ := hat
  exact hph

/-! ### Gain (R159) -/

/-- The limits of gain and offset, for a response `d` above the offset sum. -/
def GainInLimits (d g o : Int) : Prop := 0 < d ∧ 0x6000 ≤ g ∧ g ≤ 0xA000 ∧ o.natAbs ≤ 2048

section
variable {r : ColRun} {sum d g o : Int} (hd : d = sum - r.work.offSum) (hg : g = roundHalfEven (32768 * 384 * 4096) d)
  (ho : o = roundHalfEven (64 * r.work.offSum * g) (32768 * 4096))
include hd hg ho

/-- Gain and offset are formed. -/
theorem ColRun.gain_of_inLimits (c : Nat) (h : GainInLimits d g o) :
    r.gain c sum = { r with work := { r.work.put [(qCol c 0, g), (qCol c 1, o)] with phase := 4 } } := by
  obtain ⟨hpos, hlo, hhi, habs⟩ := h
  have hgain : gainOffset r.work.offSum sum = some (g, o) := by
    unfold gainOffset
    simp only [← hd, ← hg, ← ho]
    rw [if_neg (by omega), if_pos (by simp [hlo, hhi, habs])]
  rw [ColRun.gain, hgain]

/-- The step fails. -/
theorem ColRun.gain_of_not_inLimits (c : Nat) (h : ¬ GainInLimits d g o) : r.gain c sum = { r with bad := true } := by
  have hgain : gainOffset r.work.offSum sum = none := by
    unfold gainOffset
    simp only [← hd, ← hg, ← ho]
    split
    · rfl
    · next hpos => exact if_neg fun hlim => h ⟨by omega, by simpa [and_assoc] using hlim⟩
  rw [ColRun.gain, hgain]

end

/-! ### Delay trim (R160) -/

/-- A point without light is passed over. -/
theorem bestTrim_concat_dark {ps : List SweepPt} {r : SweepPt} (hr : r.lit = 0) : bestTrim (ps ++ [r]) = bestTrim ps := by
  simp [bestTrim, List.foldl_append, hr]

/-- The first point with light. -/
theorem bestTrim_concat_first {ps : List SweepPt} {r : SweepPt} (hr : r.lit ≠ 0) (h : bestTrim ps = none) :
    bestTrim (ps ++ [r]) = some r := by
  rw [bestTrim] at h
  rw [bestTrim, List.foldl_append, h]
  simp [hr]

/-- A later point with light replaces the best one when it is better, or as good and of a lower code. -/
theorem bestTrim_concat_next {ps : List SweepPt} {r a : SweepPt} (hr : r.lit ≠ 0) (h : bestTrim ps = some a) :
    bestTrim (ps ++ [r]) = if a.sum * r.lit < r.sum * a.lit ∨ a.sum * r.lit = r.sum * a.lit ∧ r.code < a.code
      then some r else some a := by
  rw [bestTrim] at h
  rw [bestTrim, List.foldl_append, h]
  simp [hr]

/-- Point `p` has light, and no point with light has a greater response per lit slot. -/
def SweepPt.Best (ps : List SweepPt) (p : SweepPt) : Prop :=
  p.lit ≠ 0 ∧ p ∈ ps ∧ ∀ q ∈ ps, q.lit ≠ 0 → q.sum * p.lit ≤ p.sum * q.lit

/-- The order of responses per lit slot, cross-multiplied, is transitive. -/
theorem response_trans {p q r : SweepPt} (hq : q.lit ≠ 0) (h : p.sum * q.lit ≤ q.sum * p.lit)
    (h' : q.sum * r.lit ≤ r.sum * q.lit) : p.sum * r.lit ≤ r.sum * p.lit := by
  have hpos : (0 : Int) < q.lit := by omega
  refine le_of_mul_le_mul_right ?_ hpos
  calc p.sum * r.lit * q.lit = p.sum * q.lit * r.lit := by ring
    _ ≤ q.sum * p.lit * r.lit := by gcongr
    _ = q.sum * r.lit * p.lit := by ring
    _ ≤ r.sum * q.lit * p.lit := by gcongr
    _ = r.sum * p.lit * q.lit := by ring

theorem SweepPt.Best.concat {ps : List SweepPt} {p r : SweepPt} (h : p.Best ps)
    (hr : r.lit ≠ 0 → r.sum * p.lit ≤ p.sum * r.lit) : p.Best (ps ++ [r]) := by
  obtain ⟨hlit, hmem, hmax⟩ := h
  exact ⟨hlit, List.mem_append_left _ hmem, List.forall_mem_append.2 ⟨hmax, List.forall_mem_singleton.2 hr⟩⟩

theorem SweepPt.best_concat_self {ps : List SweepPt} {r : SweepPt} (hr : r.lit ≠ 0)
    (h : ∀ q ∈ ps, q.lit ≠ 0 → q.sum * r.lit ≤ r.sum * q.lit) : r.Best (ps ++ [r]) :=
  ⟨hr, List.mem_append_right _ (List.mem_singleton_self r),
    List.forall_mem_append.2 ⟨h, List.forall_mem_singleton.2 fun _ => le_rfl⟩⟩

/-- Without a best point no point has light. -/
theorem lit_eq_zero_of_bestTrim_eq_none {ps : List SweepPt} (h : bestTrim ps = none) : ∀ q ∈ ps, q.lit = 0 := by
  induction ps using List.reverseRecOn with
  | nil => simp
  | append_singleton ps r ih =>
    by_cases hr : r.lit = 0
    · rw [bestTrim_concat_dark hr] at h
      exact List.forall_mem_append.2 ⟨ih h, List.forall_mem_singleton.2 hr⟩
    · cases hbest : bestTrim ps with
      | none => simp [bestTrim_concat_first hr hbest] at h
      | some a =>
        rw [bestTrim_concat_next hr hbest] at h
        split at h <;> cases h

/-- The sweep's choice is its best point (R160). -/
theorem best_of_bestTrim {ps : List SweepPt} {p : SweepPt} (h : bestTrim ps = some p) : p.Best ps := by
  induction ps using List.reverseRecOn generalizing p with
  | nil => cases h
  | append_singleton ps r ih =>
    by_cases hr : r.lit = 0
    · rw [bestTrim_concat_dark hr] at h
      exact (ih h).concat fun hlit => absurd hr hlit
    · cases hbest : bestTrim ps with
      | none =>
        obtain rfl : r = p := by simpa [bestTrim_concat_first hr hbest] using h
        exact SweepPt.best_concat_self hr fun q hq hlit => absurd (lit_eq_zero_of_bestTrim_eq_none hbest q hq) hlit
      | some a =>
        have ha := ih hbest
        have ⟨hlit, _, hmax⟩ := ha
        rw [bestTrim_concat_next hr hbest] at h
        split at h
        · next hlt =>
          obtain rfl : r = p := Option.some.inj h
          exact SweepPt.best_concat_self hr fun q hq hq' => response_trans hlit (hmax q hq hq') (by omega)
        · next hge =>
          obtain rfl : a = p := Option.some.inj h
          exact ha.concat fun _ => by omega

/-- Whole samples give a point for each code. -/
theorem State.trimPoints_of_whole {c row : Nat} {r : ColRun} {pt : Nat × Samples → SweepPt}
    (hpt : ∀ e, pt e = ⟨e.1, s.litOf t r.rowFail row 1024 e.2.lit, s.ySum t c r.work e.2.raw⟩) {ks : List Nat}
    {ms : List Samples} (hlen : ms.length = ks.length) (hwhole : ∀ m ∈ ms, m.raw.length = 1024) :
    s.trimPoints t c r row ks ms = some ((ks.zip ms).map pt) := by
  induction ks generalizing ms with
  | nil =>
    rw [List.length_eq_zero_iff.1 hlen]
    rfl
  | cons k ks ih =>
    obtain ⟨m, ms, rfl⟩ := List.exists_cons_of_length_eq_add_one hlen
    obtain ⟨hm, hms⟩ := List.forall_mem_cons.1 hwhole
    rw [State.trimPoints, if_pos hm, ih (by simpa using hlen) hms, List.zip_cons_cons, List.map_cons, hpt]
    rfl

/-- What a whole sweep gives: the column's delay code is the best one's, or the step fails at 0 and 63. -/
theorem State.colTrim_of_whole {c row : Nat} {r : ColRun} {resp : List Samples} {pt : Nat × Samples → SweepPt}
    {b p : SweepPt} (hrow : lowRow r.rowFail = some row) (hwhole : ∀ m ∈ resp, m.raw.length = 1024)
    (hpt : ∀ e, pt e = ⟨e.1, s.litOf t r.rowFail row 1024 e.2.lit, s.ySum t c r.work e.2.raw⟩)
    (hb : bestTrim ((trimCodes.zip (resp.take 16)).map pt) = some b) (hlen : resp.length = 16 + (trimNear b.code).length)
    (hp : bestTrim ((trimCodes.zip (resp.take 16)).map pt ++ ((trimNear b.code).zip (resp.drop 16)).map pt) = some p) :
    s.colTrim t c resp r = some (if p.code = 0 ∨ p.code = 63 then { r with bad := true }
      else { r with work := { r.work.put [(qCol c 2, (p.code : Int))] with phase := 5, group := 0 } }) := by
  have hfirst := State.trimPoints_of_whole (s := s) (t := t) hpt (ks := trimCodes) (ms := resp.take 16)
    (by rw [List.length_take, hlen]; simp [trimCodes]) fun m hm => hwhole m (List.mem_of_mem_take hm)
  have hnear := State.trimPoints_of_whole (s := s) (t := t) hpt (ks := trimNear b.code) (ms := resp.drop 16)
    (by rw [List.length_drop, hlen]; omega) fun m hm => hwhole m (List.mem_of_mem_drop hm)
  simp [State.colTrim, hrow, hfirst, hb, hnear, hp]

/-! ### Lock-in windows (R152 to R157) -/

/-- The rings of a row that are dithered are its own, and the row has not failed (R152). -/
theorem sound_of_mem_rowRings {rowFail p : Nat} {e : Nat × Bool}
    (he : e ∈ if bitOf rowFail p then [] else [(p, false), (p, true)]) : bitOf rowFail p = false ∧ e.1 = p := by
  split at he
  · exact absurd he List.not_mem_nil
  · next hfail =>
    refine ⟨by simpa using hfail, ?_⟩
    rcases List.mem_pair.1 he with rfl | rfl <;> rfl

/-- A group has each of its rings once. -/
theorem groupRings_nodup (rowFail g : Nat) : (groupRings rowFail g).Nodup := by
  refine List.nodup_flatMap.2 ⟨fun p _ => by split <;> simp, ?_⟩
  refine (List.nodup_range.map fun i j hij => by omega : ((List.range 6).map (6 * g + ·)).Nodup).imp fun hne e he he' => ?_
  exact hne ((sound_of_mem_rowRings he).2.symm.trans (sound_of_mem_rowRings he').2)

/-- The rings of a group are on rows that have not failed. -/
theorem bitOf_of_mem_groupRings {rowFail g : Nat} {e : Nat × Bool} (he : e ∈ groupRings rowFail g) :
    bitOf rowFail e.1 = false := by
  obtain ⟨p, -, hp⟩ := List.mem_flatMap.1 he
  obtain ⟨hsound, hrow⟩ := sound_of_mem_rowRings hp
  rwa [hrow]

/-- A window that locks a ring leaves its trim as it is (Table 6.2). -/
theorem windowOutcome_locked {neg : Bool} {ch psi h a2f lit : Nat} {ys : List Int} {d : Int}
    (hout : windowOutcome neg ch psi h a2f lit ys = some (true, d)) : d = 0 := by
  unfold windowOutcome at hout
  extract_lets slots sg n n1 n2 num den at hout
  split at hout
  · cases hout
  · split at hout
    · cases hout
    · split at hout <;> cases hout
      rfl

/-- What the engine holds of a ring of column `c`: whether it is locked, its windows, and its trim. -/
def State.ringState (s : State) (t c : Nat) (w : CalWork) (e : Nat × Bool) : Bool × Nat × Int :=
  (tget false (2 * e.1 + b2n e.2) w.locked, tget 0 (2 * e.1 + b2n e.2) w.windows, s.work t w (qRing e.1 c e.2 0))

theorem ringKey_inj {e e' : Nat × Bool} : 2 * e.1 + b2n e.2 = 2 * e'.1 + b2n e'.2 ↔ e = e' := by
  obtain ⟨p, n⟩ := e
  obtain ⟨p', n'⟩ := e'
  simp only [Prod.mk.injEq]
  cases n <;> cases n' <;> simp [b2n] <;> omega

theorem qRing_inj {c : Nat} {e e' : Nat × Bool} : qRing e.1 c e.2 0 = qRing e'.1 c e'.2 0 ↔ e = e' := by
  rw [← ringKey_inj]
  simp only [qRing]
  omega

/-- What a window of outcome `o` makes of a ring's state: locked or not, one window more, the trim moved (Table 6.2). -/
def afterWindow (o : Bool × Int) (st : Bool × Nat × Int) : Bool × Nat × Int := (o.1, st.2.1 + 1, st.2.2 + o.2)

/-- A window gives ring `e`, whose state is `st`, the outcome `o`, and the ring leaves neither its window limit nor its
range. -/
structure State.Judges (s : State) (t c : Nat) (ys : List Int) (lit : List Nat) (rowFail : Nat) (e : Nat × Bool)
    (st : Bool × Nat × Int) (o : Bool × Int) : Prop where
  sound : bitOf rowFail e.1 = false
  unlocked : st.1 = false
  windows : st.2.1 < 7
  outcome : windowOutcome e.2 (2 * (e.1 % 6) + b2n e.2) (Config.fLayer t (qRing e.1 c e.2 9))
    (Config.fLayer t (qRing e.1 c e.2 10)) (Config.fLayer t (qRing e.1 c e.2 11))
    (s.litOf t rowFail e.1 (8192 * 40 * 32) (lit.getD (e.1 % 6) 0)) ys = some o
  low : 0 ≤ st.2.2 + o.2
  high : st.2.2 + o.2 ≤ 1023

/-- From `r` to `r'` the rings `es` have been judged with the outcomes `out`, and nothing else has changed. -/
structure State.Judged (s : State) (t c : Nat) (out : Nat × Bool → Bool × Int) (es : List (Nat × Bool)) (r r' : ColRun) :
    Prop where
  frame : { r' with work := { r'.work with
    val := r.work.val, locked := r.work.locked, windows := r.work.windows } } = r
  ring : ∀ e, s.ringState t c r'.work e =
    if e ∈ es then afterWindow (out e) (s.ringState t c r.work e) else s.ringState t c r.work e

section
variable {c : Nat} {ys : List Int} {lit : List Nat} {out : Nat × Bool → Bool × Int}

theorem State.Judged.rowFail {es : List (Nat × Bool)} {r r' : ColRun} (h : s.Judged t c out es r r') :
    r'.rowFail = r.rowFail := congrArg (fun r => r.rowFail) h.frame

theorem State.Judged.bad {es : List (Nat × Bool)} {r r' : ColRun} (h : s.Judged t c out es r r') : r'.bad = r.bad :=
  congrArg (fun r => r.bad) h.frame

theorem State.Judged.phase {es : List (Nat × Bool)} {r r' : ColRun} (h : s.Judged t c out es r r') :
    r'.work.phase = r.work.phase := congrArg (fun r => r.work.phase) h.frame

theorem State.Judged.group {es : List (Nat × Bool)} {r r' : ColRun} (h : s.Judged t c out es r r') :
    r'.work.group = r.work.group := congrArg (fun r => r.work.group) h.frame

/-- The ring is locked. -/
theorem State.ringWindow_of_locked {r : ColRun} {e : Nat × Bool} {d : Int} (hbad : r.bad = false)
    (h : s.Judges t c ys lit r.rowFail e (s.ringState t c r.work e) (true, d)) :
    s.ringWindow t c ys lit e r = { r with work := { r.work with
      locked := tset false (2 * e.1 + b2n e.2) true r.work.locked
      windows := tset 0 (2 * e.1 + b2n e.2) (tget 0 (2 * e.1 + b2n e.2) r.work.windows + 1) r.work.windows } } := by
  obtain ⟨hsound, hopen, -, hout, -, -⟩ := h
  have hopen : tget false (2 * e.1 + b2n e.2) r.work.locked = false := hopen
  simp only [State.ringWindow, hopen, hbad, hsound, hout, Bool.or_self, Bool.false_eq_true, if_false]

/-- The ring's trim moves. -/
theorem State.ringWindow_of_moved {r : ColRun} {e : Nat × Bool} {d : Int} (hbad : r.bad = false)
    (h : s.Judges t c ys lit r.rowFail e (s.ringState t c r.work e) (false, d)) :
    s.ringWindow t c ys lit e r = { r with work :=
      { r.work.put [(qRing e.1 c e.2 0, s.work t r.work (qRing e.1 c e.2 0) + d)] with
        windows := tset 0 (2 * e.1 + b2n e.2) (tget 0 (2 * e.1 + b2n e.2) r.work.windows + 1) r.work.windows } } := by
  obtain ⟨hsound, hopen, hwin, hout, hlow, hhigh⟩ := h
  simp only [State.ringState] at hopen hwin hlow hhigh
  have hkept : ¬ (s.work t r.work (qRing e.1 c e.2 0) + d < 0 ∨ 1023 < s.work t r.work (qRing e.1 c e.2 0) + d ∨
      8 ≤ tget 0 (2 * e.1 + b2n e.2) r.work.windows + 1) := by omega
  simp only [State.ringWindow, hopen, hbad, hsound, hout, Bool.or_self, Bool.false_eq_true, if_false]
  exact if_neg (by simpa [or_assoc] using hkept)

/-- One ring is judged (R157). -/
theorem State.ringWindow_judged {r : ColRun} {e : Nat × Bool} (hbad : r.bad = false)
    (h : s.Judges t c ys lit r.rowFail e (s.ringState t c r.work e) (out e)) :
    s.Judged t c out [e] r (s.ringWindow t c ys lit e r) := by
  generalize ho : out e = o at h
  obtain ⟨_ | _, d⟩ := o
  · rw [State.ringWindow_of_moved hbad h]
    refine ⟨rfl, fun e' => ?_⟩
    by_cases he : e' = e
    · subst he
      rw [if_pos (List.mem_singleton_self _)]
      simp only [State.ringState, afterWindow, ho, tget_tset_same]
      refine Prod.ext h.unlocked (Prod.ext rfl ?_)
      exact (State.work_put_singleton ..).trans (if_pos rfl)
    · rw [if_neg (List.mem_singleton.not.2 he)]
      simp only [State.ringState, tget_tset_ne _ _ _ (ringKey_inj.not.2 he)]
      exact Prod.ext rfl (Prod.ext rfl ((State.work_put_singleton ..).trans (if_neg (qRing_inj.not.2 he))))
  · rw [State.ringWindow_of_locked hbad h]
    refine ⟨rfl, fun e' => ?_⟩
    by_cases he : e' = e
    · subst he
      rw [if_pos (List.mem_singleton_self _)]
      have hd : d = 0 := windowOutcome_locked h.outcome
      simp [State.ringState, afterWindow, ho, hd, State.work]
    · rw [if_neg (List.mem_singleton.not.2 he)]
      simp only [State.ringState, tget_tset_ne _ _ _ (ringKey_inj.not.2 he)]
      rfl

/-- All the rings of a list are judged. -/
theorem State.forL_ringWindow_judged {es : List (Nat × Bool)} {r : ColRun} (hes : es.Nodup) (hbad : r.bad = false)
    (h : ∀ e ∈ es, s.Judges t c ys lit r.rowFail e (s.ringState t c r.work e) (out e)) :
    s.Judged t c out es r (forL es (s.ringWindow t c ys lit) r) := by
  induction es generalizing r with
  | nil => exact ⟨rfl, fun e => (if_neg List.not_mem_nil).symm⟩
  | cons a es ih =>
    obtain ⟨ha, hes⟩ := List.nodup_cons.1 hes
    obtain ⟨hfirst, hrest⟩ := List.forall_mem_cons.1 h
    have hone := State.ringWindow_judged hbad hfirst
    have hall := ih (r := s.ringWindow t c ys lit a r) hes (hone.bad.trans hbad) fun e he => by
      rw [hone.rowFail, hone.ring, if_neg (by rintro h; exact ha (List.mem_singleton.1 h ▸ he))]
      exact hrest e he
    rw [forL]
    refine ⟨?_, fun e => ?_⟩
    · exact (congrArg (fun x : ColRun => { x with work := { x.work with
        val := r.work.val, locked := r.work.locked, windows := r.work.windows } }) hall.frame).trans hone.frame
    · rw [hall.ring, hone.ring]
      by_cases he : e = a
      · simp [he, ha]
      · simp [he]

end

/-! ### The next group -/

theorem ColRun.nextGroup_of_not_done {r : ColRun} {g n : Nat} (hg : g < 22) (h : r.groupDone g = false) :
    r.nextGroup g (n + 1) = g := by
  simp [ColRun.nextGroup, Nat.not_le.2 hg, h]

theorem ColRun.nextGroup_of_done {r : ColRun} {g n : Nat} (hg : g < 22) (h : r.groupDone g = true) :
    r.nextGroup g (n + 1) = r.nextGroup (g + 1) n := by
  simp [ColRun.nextGroup, Nat.not_le.2 hg, h]

theorem ColRun.le_nextGroup (r : ColRun) {g : Nat} (hg : g ≤ 22) (n : Nat) : g ≤ r.nextGroup g n := by
  induction n generalizing g with
  | zero => exact hg
  | succ n ih =>
    rw [ColRun.nextGroup]
    split
    · exact hg
    · split
      · exact (Nat.le_succ g).trans (ih (by omega))
      · exact le_rfl

/-- The engine's work after a window whose rings have been judged to `r`: at the next group, or at the drive tables. -/
def ColRun.afterGroup (r : ColRun) : CalWork :=
  if r.nextGroup r.work.group 22 < 22 then { r.work with group := r.nextGroup r.work.group 22 }
  else { r.work with phase := 6, ring := ringFrom r.rowFail 0 264 }

/-- Moving on leaves what the engine holds of a ring. -/
@[simp] theorem State.ringState_afterGroup (c : Nat) (r : ColRun) (e : Nat × Bool) :
    s.ringState t c r.afterGroup e = s.ringState t c r.work e := by
  unfold ColRun.afterGroup
  split <;> rfl

theorem ColRun.afterGroup_of_not_done {r : ColRun} (hg : r.work.group < 22) (h : r.groupDone r.work.group = false) :
    r.afterGroup = r.work := by
  rw [ColRun.afterGroup, ColRun.nextGroup_of_not_done hg h, if_pos hg]

theorem ColRun.afterGroup_of_done {r : ColRun} (hg : r.work.group < 22) (h : r.groupDone r.work.group = true) :
    r.afterGroup.phase = 6 ∨ r.work.group < r.afterGroup.group := by
  unfold ColRun.afterGroup
  split
  · rw [ColRun.nextGroup_of_done hg h]
    exact .inr (r.le_nextGroup hg 21)
  · exact .inl rfl

theorem ColRun.afterGroup_phase {r : ColRun} : r.afterGroup.phase = r.work.phase ∨ r.afterGroup.phase = 6 := by
  unfold ColRun.afterGroup
  split
  · exact .inl rfl
  · exact .inr rfl

section
variable {c : Nat} {out : Nat × Bool → Bool × Int} {r r' : ColRun}
  (hj : s.Judged t c out (groupRings r.rowFail r.work.group) r r')
include hj

theorem State.Judged.ringState_afterGroup {e : Nat × Bool} (he : e ∈ groupRings r.rowFail r.work.group) :
    s.ringState t c r'.afterGroup e = afterWindow (out e) (s.ringState t c r.work e) :=
  (s.ringState_afterGroup c r' e).trans ((hj.ring e).trans (if_pos he))

/-- A group is done when all its rings have been locked. -/
theorem State.Judged.groupDone_iff :
    r'.groupDone r'.work.group = true ↔ ∀ e ∈ groupRings r.rowFail r.work.group, (out e).1 = true := by
  rw [ColRun.groupDone, hj.rowFail, hj.group, List.all_eq_true]
  refine forall₂_congr fun e he => ?_
  have hlocked : tget false (2 * e.1 + b2n e.2) r'.work.locked = (out e).1 :=
    congrArg Prod.fst ((hj.ring e).trans (if_pos he))
  rw [hlocked]

/-- While a ring is not locked the engine stays at the group. -/
theorem State.Judged.stays (hg : r.work.group < 22) {e : Nat × Bool} (he : e ∈ groupRings r.rowFail r.work.group)
    (hopen : (out e).1 = false) : r'.afterGroup.phase = r.work.phase ∧ r'.afterGroup.group = r.work.group := by
  have hnot : r'.groupDone r'.work.group = false := by
    rw [Bool.eq_false_iff, ne_eq, hj.groupDone_iff]
    exact fun hdone => absurd (hdone e he) (by simp [hopen])
  rw [ColRun.afterGroup_of_not_done (hj.group ▸ hg) hnot]
  exact ⟨hj.phase, hj.group⟩

/-- With all of them locked it leaves the group. -/
theorem State.Judged.leaves (hg : r.work.group < 22) (hall : ∀ e ∈ groupRings r.rowFail r.work.group, (out e).1 = true) :
    r'.afterGroup.phase = 6 ∨ r.work.group < r'.afterGroup.group :=
  hj.group ▸ ColRun.afterGroup_of_done (hj.group ▸ hg) (hj.groupDone_iff.2 hall)

theorem State.Judged.not_complete (hphase : r.work.phase = 5) : r'.afterGroup.phase ≠ 7 := by
  have hkept := hj.phase
  rcases r'.afterGroup_phase with h | h <;> omega

end

/-- A window whose samples are not whole has no outcome (log 34). -/
theorem State.colWindow_of_not_whole {c : Nat} {w : LockWin} {r : ColRun} (h : wholeWin w = false) :
    s.colWindow t c w r = none := by
  simp [State.colWindow, h]

/-- A whole window all of whose rings are judged. -/
theorem State.colWindow_of_judges {c : Nat} {w : LockWin} {r : ColRun} {out : Nat × Bool → Bool × Int} {ys : List Int}
    (hwhole : wholeWin w = true) (hbad : r.bad = false) (hys : ys = w.raw.map (s.ySum t c r.work))
    (h : ∀ e ∈ groupRings r.rowFail r.work.group, s.Judges t c ys w.lit r.rowFail e (s.ringState t c r.work e) (out e)) :
    ∃ r', s.Judged t c out (groupRings r.rowFail r.work.group) r r' ∧
      s.colWindow t c w r = some { r with work := r'.afterGroup } := by
  have hj := State.forL_ringWindow_judged (groupRings_nodup _ _) hbad h
  refine ⟨_, hj, ?_⟩
  rw [State.colWindow, if_pos hwhole, ← hys]
  dsimp only
  generalize forL (groupRings r.rowFail r.work.group) (s.ringWindow t c ys w.lit) r = r' at hj ⊢
  have hframe : { r' with work := r'.afterGroup } = { r with work := r'.afterGroup } :=
    congrArg (fun x : ColRun => { x with work := r'.afterGroup }) hj.frame
  rw [← hframe, hj.bad, hbad, ColRun.afterGroup, if_neg Bool.false_ne_true]
  split <;> rfl

/-! ### Drive tables (R161) -/

/-- A drive table has an entry for each magnitude. -/
theorem driveTable_length {neg : Bool} {ps : List SweepPt} {es : List Int} (h : driveTable neg ps = some es) :
    es.length = 8 := by
  unfold driveTable at h
  extract_lets m es' top at h
  split at h
  · next hfit =>
    simp only [Bool.and_eq_true, decide_eq_true_eq] at hfit
    obtain ⟨⟨⟨-, hlen⟩, -⟩, -⟩ := hfit
    obtain rfl := Option.some.inj h
    cases neg
    · have hseven : es'.length = 7 := hlen
      simp [hseven]
    · exact hlen
  · cases h

/-- The column's work moves on to its next ring, or is complete after the last one (Table 6.3). -/
def ColRun.nextRing (r : ColRun) : CalWork :=
  { r.work with
    ring := ringFrom r.rowFail (r.work.ring + 1) 264
    phase := if ringFrom r.rowFail (r.work.ring + 1) 264 < 264 then 6 else 7 }

/-- The working values of a drive table. -/
def tableVals (row c : Nat) (neg : Bool) (es : List Int) : List (Nat × Int) :=
  es.zipIdx.map (fun e => (qRing row c neg (e.2 + 1), e.1))

theorem tget_put_tableVals {row c : Nat} {neg : Bool} {es : List Int} {j : Nat} (hj : j < es.length) (w : CalWork) :
    tget 0 (qRing row c neg (j + 1)) (w.put (tableVals row c neg es)).val = es.getD j 0 := by
  have hentry : (es.getD j 0, j) ∈ es.zipIdx := by
    rw [List.mem_zipIdx_iff_getElem?]
    simp [hj]
  have hval : (qRing row c neg (j + 1), es.getD j 0) ∈ tableVals row c neg es := List.mem_map.2 ⟨_, hentry, rfl⟩
  refine CalWork.tget_put_of_mem (fun e he hkey => ?_) (List.mem_map.2 ⟨_, hval, rfl⟩) w 0
  obtain ⟨⟨v, i⟩, hmem, rfl⟩ := List.mem_map.1 he
  obtain rfl : i = j := by
    simp only [qRing] at hkey
    omega
  have hget : es[i]? = some v := List.mem_zipIdx_iff_getElem?.1 hmem
  simp [hget]

section
variable {c : Nat} {sweep : Sweep} {r : ColRun} {ps : List SweepPt}
  (hring : r.work.ring < 264) (hrow : bitOf r.rowFail (r.work.ring / 2) = false)
  (hps : s.sweepPoints t c r (r.work.ring / 2) sweepCodes sweep = some ps)
include hring hrow hps

/-- A sweep with a table. -/
theorem State.colTable_of_table {es : List Int} (hes : driveTable (decide (r.work.ring % 2 = 1)) ps = some es) :
    s.colTable t c sweep r = some { r with work := ColRun.nextRing { r with
      work := r.work.put (tableVals (r.work.ring / 2) c (decide (r.work.ring % 2 = 1)) es) } } := by
  simp only [State.colTable, hrow, Nat.not_le.2 hring, hps, hes, decide_false, Bool.or_self, Bool.false_eq_true, if_false,
    Option.map_some]
  rfl

/-- A sweep without one, of a ring that is on no spare row. -/
theorem State.colTable_of_no_table (hes : driveTable (decide (r.work.ring % 2 = 1)) ps = none)
    (hspare : r.work.ring / 2 % 33 ≠ 32) : s.colTable t c sweep r = some { r with bad := true } := by
  have hfails : ∀ rowmap, r.ringFails rowmap (r.work.ring / 2) = { r with bad := true } := fun rowmap => by
    simp [ColRun.ringFails, hspare]
  simp only [State.colTable, hrow, Nat.not_le.2 hring, hps, hes, hfails, decide_false, Bool.or_self, Bool.false_eq_true,
    if_false, if_true, Option.map_some]

end

/-! ### Acquisition passes (R174) -/

/-- The tile in ACQUIRE. -/
def Tile.acquiring (x : Tile) : Tile := { x with rot := 1, cal := {}, staged := none, ranCal := x.run.isSome }

@[simp] theorem watchHealth_tl (s0 u : State) (t k : Nat) : (watchHealth s0 t u).tl k = u.tl k := by
  rcases watchHealth_cases s0 u t with h | h <;> simp [h]
@[simp] theorem watchHealth_lp (s0 u : State) (t : Nat) : (watchHealth s0 t u).lp = u.lp := by
  rcases watchHealth_cases s0 u t with h | h <;> simp [h]
@[simp] theorem watchHealth_mem (s0 u : State) (t : Nat) : (watchHealth s0 t u).mem = u.mem := by
  rcases watchHealth_cases s0 u t with h | h <;> simp [h]
@[simp] theorem watchHealth_fr (s0 u : State) (t : Nat) : (watchHealth s0 t u).fr = u.fr := by
  rcases watchHealth_cases s0 u t with h | h <;> simp [h]

theorem State.tileRestore_of_not_backDue (h : (s.tl t).backDue = false) : s.tileRestore t = s := by
  simp [State.tileRestore, h]

theorem opAcquisitionPassStart_of_none {t : Fin 256} (hback : (s.tl t.val).backDue = false)
    (h : (s.tl t.val).valid = true ∨ ¬ ((s.tl t.val).rot = 0 ∨ (s.tl t.val).rot = 6 ∨ (s.tl t.val).rot = 7) ∨
      s.mayRotate t.val = false) : opAcquisitionPassStart t s = s := by
  unfold opAcquisitionPassStart
  rw [State.tileRestore_of_not_backDue hback]
  refine if_neg ?_
  simp only [Bool.and_eq_true, Bool.or_eq_true, decide_eq_true_eq, Bool.not_eq_true', or_assoc]
  rintro ⟨⟨⟨hvalid, -⟩, hrot⟩, hmay⟩
  rcases h with h | h | h
  · exact absurd (h.symm.trans hvalid) (by decide)
  · exact h hrot
  · exact absurd (h.symm.trans hmay) (by decide)

/-- None of tile `t`'s column stages is switched off. -/
def State.stagesOn (s : State) (t : Nat) : State :=
  { s with lp := { s.lp with stageOff := tdrop (fun k => decide (k / 520 = t)) s.lp.stageOff } }

@[simp] theorem State.stagesOn_tl (s : State) (t k : Nat) : (s.stagesOn t).tl k = s.tl k := rfl
@[simp] theorem State.stagesOn_mem (s : State) (t : Nat) : (s.stagesOn t).mem = s.mem := rfl
@[simp] theorem State.stagesOn_fr (s : State) (t : Nat) : (s.stagesOn t).fr = s.fr := rfl
@[simp] theorem State.stagesOn_stageOff (s : State) (t k : Nat) :
    tget false k (s.stagesOn t).lp.stageOff = if k / 520 = t then false else tget false k s.lp.stageOff := by
  simp [State.stagesOn, tget_tdrop]

/-- The pass starts, and the tile's column stages are switched on; HEALTH_CHANGE at most is raised. -/
theorem opAcquisitionPassStart_of_due {t : Fin 256} (hback : (s.tl t.val).backDue = false)
    (hvalid : (s.tl t.val).valid = false)
    (hrot : (s.tl t.val).rot = 0 ∨ (s.tl t.val).rot = 6 ∨ (s.tl t.val).rot = 7) (hmay : s.mayRotate t.val = true) :
    opAcquisitionPassStart t s = watchHealth s t.val ((s.setTl t.val (s.tl t.val).acquiring).stagesOn t.val) := by
  unfold opAcquisitionPassStart
  rw [State.tileRestore_of_not_backDue hback]
  exact if_pos (by simp [hback, hvalid, hmay, hrot, or_assoc])

section
variable {t : Fin 256} {cols : List ColMeas} {wins : List (List LockWin)} {tabs : List (List Sweep)}

theorem opAcquisitionPassDone_of_none
    (h : (s.tl t.val).rot ≠ 1 ∨ s.mayRotate t.val = false ∨ s.passRuns t.val 0 cols wins tabs = none) :
    opAcquisitionPassDone t cols wins tabs s = s := by
  unfold opAcquisitionPassDone
  rcases h with h | h | h
  · simp [h]
  · simp [h]
  · simp [h]

/-- The columns that failed or have no run. -/
theorem opAcquisitionPassDone_of_runs {rs : List ColRun} {bad : List Nat} (hrot : (s.tl t.val).rot = 1)
    (hmay : s.mayRotate t.val = true) (hrs : s.passRuns t.val 0 cols wins tabs = some rs)
    (hbad : bad = (List.range 130).filter (fun i => (rs[i]?.map (·.bad)).getD true)) :
    opAcquisitionPassDone t cols wins tabs s = s.setTl t.val { s.tl t.val with
      acqEnd := some ((rs.filter (fun r => !r.bad)).flatMap (·.work.val), bad)
      rowFail := rs.foldl (fun m r => Nat.lor m r.rowFail) (s.tl t.val).rowFail } := by
  have hfailed : bad = (List.range 130).filter (fun c => match rs[c]? with | some r => r.bad | none => true) := by
    rw [hbad]
    refine List.filter_congr fun i _ => ?_
    cases rs[i]? <;> rfl
  unfold opAcquisitionPassDone
  simp only [hrot, hmay, decide_true, Bool.and_self, if_true, hrs]
  subst hfailed
  rfl

end

/-! ### The obligation -/

/-- Settles O37, step by step of Table 6.3: each command sets the tile as its equation says. -/
theorem columnCalibrationAdvancesStepByStep : Obligations.ColumnCalibrationAdvancesStepByStep := by
  intro s t x c hx hc
  subst hx hc
  refine ⟨fun i ph hi hat => ?outOfTurn, fun sum hat => ?offset,
    fun sum d g o hat hd hg ho => ⟨fun hlim => ?gain, fun hlim => ?gainFails⟩,
    fun resp row ps qs b p pt hat hrow hwhole hpt hps hb hlen hqs hp => ?delay, fun w hat hpart => ?windowPart,
    fun w ys out hat hwhole hgroup hys hrings => ?window,
    fun sweep ps hat hring hrow hps => ⟨fun es hes => ?table, fun hes hspare => ?tableFails⟩,
    fun hback => ⟨fun hvalid hrot hmay => ?passStart, fun hnot => ?noPassStart⟩,
    fun cols wins tabs => ⟨fun hnot => ?noPassDone, fun rs bad hrot hmay hrs hbad => ?passDone⟩⟩
  case outOfTurn =>
    rcases hi with ⟨_, ⟨⟩⟩ | ⟨_, ⟨⟩⟩ | ⟨_, ⟨⟩⟩ | ⟨_, _, ⟨⟩⟩ | ⟨_, ⟨⟩⟩
    · exact exec_of_not_calAt (.offset _) hat
    · exact exec_of_not_calAt (.gain _) hat
    · exact exec_of_not_calAt (.delay _) hat
    · exact exec_of_not_calAt (.window _ _) hat
    · exact exec_of_not_calAt (.table _) hat
  case offset =>
    rw [exec_calOffsetMeasure hat, ColRun.offset, State.colStep_of_measured (by simp)]
    rfl
  case gain =>
    have hexec := exec_calGainMeasure (sum := sum) hat
    rw [ColRun.gain_of_inLimits (r := (s.tl t.val).colRun) hd hg ho _ hlim, State.colStep_of_measured (by simp)] at hexec
    refine answers_of_setTl hexec fun u hu hkept => ?_
    rw [hu]
    refine ⟨rfl, ?_, ?_, fun q h0 h1 => ?_, hkept⟩
    · exact CalWork.tget_put_of_mem (by simp [qCol]) (by simp) _ _
    · exact CalWork.tget_put_of_mem (by simp [qCol]) (by simp) _ _
    · exact CalWork.tget_put_of_notMem (by simp [h0, h1]) _ _
  case gainFails =>
    rw [exec_calGainMeasure hat, ColRun.gain_of_not_inLimits (r := (s.tl t.val).colRun) hd hg ho _ hlim,
      State.colStep_of_failed]
    rfl
  case delay =>
    subst hps hqs
    have hexec := exec_calDelayTrim (resp := resp) hat
    rw [State.colTrim_of_whole (r := (s.tl t.val).colRun) hrow hwhole hpt hb hlen hp] at hexec
    refine ⟨fun h0 h63 => ?_, fun hend => ?_⟩
    · rw [if_neg (not_or.2 ⟨h0, h63⟩), State.colStep_of_measured (by simp)] at hexec
      refine answers_of_setTl hexec fun u hu hkept => ?_
      obtain ⟨-, hmem, hmax⟩ := best_of_bestTrim hp
      rw [hu]
      refine ⟨hmem, hmax, rfl, ?_, fun q hq => ?_, hkept⟩
      · exact CalWork.tget_put_of_mem (by simp) (by simp) _ _
      · exact (State.work_put_singleton ..).trans (if_neg hq)
    · rw [hexec, if_pos hend, State.colStep_of_failed]
      rfl
  case windowPart =>
    rw [exec_lockinWindowEnd hat, State.colWindow_of_not_whole hpart]
    rfl
  case window =>
    have hexec := exec_lockinWindowEnd (w := w) hat
    obtain ⟨r, hj, hwin⟩ := State.colWindow_of_judges (r := (s.tl t.val).colRun) (t := t.val) (out := out) hwhole rfl hys
      fun e he => by
        obtain ⟨hopen, hlimit, hout, hlow, hhigh⟩ := hrings e he
        exact ⟨bitOf_of_mem_groupRings he, hopen, hlimit, hout, hlow, hhigh⟩
    have hphase := State.phase_of_calAt hat
    rw [hwin, State.colStep_of_measured (hj.not_complete hphase)] at hexec
    refine answers_of_setTl hexec fun u hu hkept => ?_
    rw [hu]
    refine ⟨fun e he => ?_, fun ⟨e, he, hopen⟩ => ?_, hj.leaves hgroup, rfl, hkept⟩
    · have hring := hj.ringState_afterGroup he
      exact ⟨congrArg (·.1) hring, congrArg (·.2.1) hring, congrArg (·.2.2) hring⟩
    · obtain ⟨hstep, hsame⟩ := hj.stays hgroup he hopen
      exact ⟨hstep.trans hphase, hsame⟩
  case table =>
    have hexec := exec_calDriveTable (sweep := sweep) hat
    rw [State.colTable_of_table (r := (s.tl t.val).colRun) hring hrow hps hes] at hexec
    have hlen := driveTable_length hes
    refine ⟨fun hlast => ?_, fun hmore => ?_⟩
    · rw [State.colStep_of_complete (if_neg (not_lt.2 hlast.ge))] at hexec
      refine answers_of_setTl hexec fun u hu hkept => ?_
      rw [hu]
      exact ⟨_, rfl, hlen, fun j hj => tget_put_tableVals (by rwa [hlen]) _, hkept⟩
    · have hphase : (if ringFrom (s.tl t.val).rowFail ((s.tl t.val).cal.ring + 1) 264 < 264 then 6 else 7) = 6 := if_pos hmore
      rw [State.colStep_of_measured (fun h => by cases hphase.symm.trans h)] at hexec
      refine answers_of_setTl hexec fun u hu hkept => ?_
      rw [hu]
      exact ⟨rfl, hphase, rfl, fun j hj => tget_put_tableVals (by rwa [hlen]) _, hkept⟩
  case tableFails =>
    rw [exec_calDriveTable hat, State.colTable_of_no_table (r := (s.tl t.val).colRun) hring hrow hps hes hspare,
      State.colStep_of_failed]
    rfl
  case passStart =>
    refine ⟨_, congrArg (done s) (opAcquisitionPassStart_of_due hback hvalid hrot hmay), ?_⟩
    have htile : (settle s (watchHealth s t.val ((s.setTl t.val (s.tl t.val).acquiring).stagesOn t.val))).tl t.val =
        (s.tl t.val).acquiring := by simp
    exact ⟨htile, fun k hk => by simp [hk], fun k hk => by simp [hk], fun k hk => by simp [hk], by simp, by simp⟩
  case noPassStart => exact congrArg (done s) (opAcquisitionPassStart_of_none hback hnot)
  case noPassDone => exact congrArg (done s) (opAcquisitionPassDone_of_none hnot)
  case passDone => exact congrArg (done s) (opAcquisitionPassDone_of_runs hrot hmay hrs hbad)

end Sys2Proof.Machine
end

section
/-!
PROOFS. What the statements about the loop engine share (O38, O39): a zone's place in the state, and its page through the
interrupt outputs.
-/
namespace Sys2Proof.Machine

/-! ### A zone's place in the state -/

section
variable (s s0 : State)

@[simp] theorem State.zn_setZn (z : Nat) (x : Zone) (k : Nat) : (s.setZn z x).zn k = if k = z then x else s.zn k := by
  simp [State.zn, State.setZn, tget_tset]

/-- A zone set to what it is. -/
theorem State.zn_setZn_self (z k : Nat) : (s.setZn z (s.zn z)).zn k = s.zn k := by
  rw [State.zn_setZn]
  split
  · next hk => rw [hk]
  · rfl

@[simp] theorem State.setZn_lp (z : Nat) (x : Zone) : (s.setZn z x).lp = { s.lp with zone := tset {} z x s.lp.zone } := rfl
@[simp] theorem State.setZn_tile (z : Nat) (x : Zone) : (s.setZn z x).tile = s.tile := rfl
@[simp] theorem State.setZn_mem (z : Nat) (x : Zone) : (s.setZn z x).mem = s.mem := rfl
@[simp] theorem State.setZn_fr (z : Nat) (x : Zone) : (s.setZn z x).fr = s.fr := rfl
@[simp] theorem State.reg_setZn (z : Nat) (x : Zone) (p o : Nat) : (s.setZn z x).reg p o = s.reg p o := rfl
@[simp] theorem State.raw_setZn (z : Nat) (x : Zone) (p : Nat) : (s.setZn z x).raw p = s.raw p := rfl
@[simp] theorem State.cntLive_setZn (z : Nat) (x : Zone) (p k : Nat) : (s.setZn z x).cntLive p k = s.cntLive p k := rfl

@[simp] theorem State.zn_setReg (p o v k : Nat) : (s.setReg p o v).zn k = s.zn k := rfl
@[simp] theorem State.zn_raise (p b k : Nat) : (s.raise p b).zn k = s.zn k := rfl
@[simp] theorem State.zn_count (p c k : Nat) : (s.count p c).zn k = s.zn k := rfl
@[simp] theorem settle_zn (k : Nat) : (settle s0 s).zn k = s.zn k := by simp [State.zn]

@[simp] theorem watchHealth_zn (t k : Nat) : (watchHealth s0 t s).zn k = s.zn k := by
  rw [State.zn, watchHealth_lp, State.zn]
@[simp] theorem watchHealth_tile (t : Nat) : (watchHealth s0 t s).tile = s.tile := by
  rcases watchHealth_cases s0 s t with h | h <;> simp [h]

/-- The interrupt outputs raise no event of the loop engine. -/
@[simp] theorem settle_rawBit_pgLoop (i : Nat) : bitOf ((settle s0 s).raw pgLoop) i = bitOf (s.raw pgLoop) i :=
  settle_rawBit _ _ _ _ (by simp [pgLoop, pgCour]) (by simp [pgLoop, pgSmb])

@[simp] theorem settle_cntLive_pgLoop {k : Nat} (hk : k < 32 := by decide) :
    (settle s0 s).cntLive pgLoop k = s.cntLive pgLoop k :=
  settle_cntLive _ _ _ _ (by simp only [pgLoop, pgHost]; omega)

end

end Sys2Proof.Machine
end

section
/-!
PROOFS. Zone commands (O38): what a write of ZONE_CMD leaves, what each command does to its zone, and the zone update at
which it completes.
-/
namespace Sys2Proof.Machine

variable {s : State}

/-! ### The write -/

/-- The zone commands with the codes of ZONE_CMD (R207, R213). -/
def zoneCommands (p : Path) (z : Fin 1024) (all : Bool) : List (Instr × Nat) :=
  [(.zoneLoad p z all, 1), (.zoneEnable p z all, 2), (.zoneDisable p z all, 3), (.zoneClear p z all, 4),
    (.zoneReinit p z all, 5)]

theorem exec_zoneCommands (s : State) (p : Path) (z : Fin 1024) (all : Bool) :
    ∀ e ∈ zoneCommands p z all, exec e.1 s = done s (s.zoneCmdWrite p e.2 z.val all) := by
  simp only [zoneCommands, List.forall_mem_cons, List.not_mem_nil, false_imp_iff, implies_true, and_true]
  exact ⟨rfl, rfl, rfl, rfl, rfl⟩

section
variable {p : Path} (cmd z : Nat) (all : Bool)

theorem State.zoneCmdWrite_of_idle (hp : s.mayPath p pgLoop = true) (h : s.lp.cmd = none) :
    s.zoneCmdWrite p cmd z all =
      { s.setReg pgLoop 0x4C (z * 2 ^ 16 + 1) with lp := { s.lp with cmd := some (cmd, z, all) } } := by
  simp [State.zoneCmdWrite, hp, h]

theorem State.zoneCmdWrite_of_pending (hp : s.mayPath p pgLoop = true) (h : s.lp.cmd.isSome = true) :
    s.zoneCmdWrite p cmd z all = s := by
  simp [State.zoneCmdWrite, hp, h]

theorem State.zoneCmdWrite_of_denied (hp : s.mayPath p pgLoop = false) : s.zoneCmdWrite p cmd z all = s.deny p pgLoop := by
  simp [State.zoneCmdWrite, hp]

end

/-! ### The command -/

/-- ZONE_CMD is idle. -/
def State.noCmd (s : State) : State := { s with lp := { s.lp with cmd := none } }

@[simp] theorem State.noCmd_zn (k : Nat) : s.noCmd.zn k = s.zn k := rfl
@[simp] theorem State.noCmd_cmd : s.noCmd.lp.cmd = none := rfl
@[simp] theorem State.noCmd_tile : s.noCmd.tile = s.tile := rfl
@[simp] theorem State.noCmd_mem : s.noCmd.mem = s.mem := rfl
@[simp] theorem State.noCmd_fr : s.noCmd.fr = s.fr := rfl

/-- `u` is `s` with zone `z` at `y`: no other zone, and nothing that the statements look at outside the zones, differs. -/
structure ZoneSet (s : State) (z : Nat) (y : Zone) (u : State) : Prop where
  lp : u.lp = (s.setZn z y).lp
  tile : u.tile = s.tile
  mem : u.mem = s.mem
  fr : u.fr = s.fr

theorem ZoneSet.setZn (s : State) (z : Nat) (y : Zone) : ZoneSet s z y (s.setZn z y) := ⟨rfl, rfl, rfl, rfl⟩

theorem ZoneSet.watched (s : State) (z t : Nat) (y : Zone) : ZoneSet s z y (watchHealth s t (s.setZn z y)) :=
  ⟨by simp, by simp, by simp, by simp⟩

theorem ZoneSet.zn {z : Nat} {y : Zone} {u : State} (h : ZoneSet s z y u) (k : Nat) :
    u.zn k = if k = z then y else s.zn k := by
  rw [← State.zn_setZn, State.zn, h.lp, ← State.zn]

theorem Zone.want_eq (x : Zone) (d : Nat) :
    x.want d = { x with due := if 4 ≤ x.due ∨ x.due = 1 then x.due else d } := by
  by_cases h : 4 ≤ x.due ∨ x.due = 1 <;> simp [Zone.want, h]

theorem Zone.want_one (x : Zone) : x.want 1 = { x with due := if 4 ≤ x.due then x.due else 1 } := by
  by_cases h4 : 4 ≤ x.due
  · simp [Zone.want_eq, h4]
  · by_cases h1 : x.due = 1 <;> simp [Zone.want_eq, h4, h1]

/-- Command `cmd` of zone `z` is accepted and makes the zone `y` (R207, R213). -/
def State.ZoneAccepts (s : State) (cmd z : Nat) (y : Zone) : Prop :=
  cmd = 1 ∧ s.loadReason z = 0 ∧ y = { s.zn z with load := some (s.coefWords z 63) } ∨
  cmd = 2 ∧ y = { s.zn z with en := true } ∨
  cmd = 3 ∧ y = (if (s.zn z).runs then { (s.zn z).want 1 with en := false } else { s.zn z with en := false }) ∨
  cmd = 4 ∧ (s.zn z).st = .fault ∧ y = { s.zn z with due := 1 } ∨
  cmd = 5 ∧ (s.zn z).st = .locked ∧ y = (s.zn z).want 2

/-- An accepted command sets its zone and has no reason. -/
theorem State.zoneCmd_of_accepted {cmd z : Nat} {y : Zone} (h : s.ZoneAccepts cmd z y) :
    ∃ v, s.zoneCmd cmd z = (0, v) ∧ ZoneSet s z y v := by
  rcases h with ⟨rfl, hload, rfl⟩ | ⟨rfl, rfl⟩ | ⟨rfl, rfl⟩ | ⟨rfl, hst, rfl⟩ | ⟨rfl, hst, rfl⟩
  · exact ⟨_, by rw [State.zoneCmd, if_pos hload], .watched ..⟩
  · exact ⟨_, rfl, .watched ..⟩
  · exact ⟨_, rfl, .watched ..⟩
  · exact ⟨_, by rw [State.zoneCmd, if_pos hst], .setZn ..⟩
  · exact ⟨_, by rw [State.zoneCmd, if_pos hst], .setZn ..⟩

theorem State.zoneCmd_of_badLoad {z : Nat} (h : s.loadReason z ≠ 0) :
    s.zoneCmd 1 z = (s.loadReason z, s.raise pgLoop 4) := by
  rw [State.zoneCmd, if_neg h]

theorem State.loadReason_le (z : Nat) : s.loadReason z ≤ 2 := by
  unfold State.loadReason
  dsimp only
  split
  · decide
  · split <;> decide

theorem State.zoneCmd_of_wrongState {cmd z : Nat}
    (h : cmd = 4 ∧ (s.zn z).st ≠ .fault ∨ cmd = 5 ∧ (s.zn z).st ≠ .locked) : s.zoneCmd cmd z = (3, s) := by
  rcases h with ⟨rfl, hst⟩ | ⟨rfl, hst⟩
  · rw [State.zoneCmd, if_neg hst]
  · rw [State.zoneCmd, if_neg hst]

/-- The waiting command of one zone completes with its reason. -/
theorem State.runZoneCmd_of_one {cmd z why : Nat} {v : State} (hcmd : s.lp.cmd = some (cmd, z, false))
    (hv : s.noCmd.zoneCmd cmd z = (why, v)) :
    s.runZoneCmd = v.setReg pgLoop 0x4C (if why = 0 then z * 2 ^ 16 else z * 2 ^ 16 + why * 2 ^ 4 + 2) := by
  rw [State.noCmd] at hv
  by_cases hwhy : why = 0 <;> simp [State.runZoneCmd, hcmd, State.zoneCmds, hv, hwhy]

/-- ENABLE over a list of zones enables these and is never rejected. -/
theorem State.zoneCmds_enable (zs : List Nat) (s : State) : ∃ v, State.zoneCmds 2 zs s = (none, v) ∧
    v.lp.cmd = s.lp.cmd ∧ ∀ k, v.zn k = if k ∈ zs then { s.zn k with en := true } else s.zn k := by
  induction zs generalizing s with
  | nil => exact ⟨s, rfl, rfl, fun _ => rfl⟩
  | cons z zs ih =>
    obtain ⟨t, hone, hset⟩ := State.zoneCmd_of_accepted (s := s) (cmd := 2) (z := z) (.inr (.inl ⟨rfl, rfl⟩))
    obtain ⟨v, hmore, hcmd, hzn⟩ := ih t
    refine ⟨v, by simp [State.zoneCmds, hone, hmore], by simp [hcmd, hset.lp], fun k => ?_⟩
    rw [hzn, hset.zn]
    by_cases hk : k = z <;> simp [hk]

theorem State.runZoneCmd_enableAll {z : Nat} (hcmd : s.lp.cmd = some (2, z, true)) : ∃ v : State,
    s.runZoneCmd = v.setReg pgLoop 0x4C (z * 2 ^ 16) ∧ v.lp.cmd = none ∧
    ∀ k, v.zn k = if k < 1024 then { s.zn k with en := true } else s.zn k := by
  obtain ⟨v, hrun, hidle, hzn⟩ := State.zoneCmds_enable (List.range 1024) s.noCmd
  refine ⟨v, ?_, hidle, fun k => (hzn k).trans (by simp)⟩
  rw [State.noCmd] at hrun
  simp [State.runZoneCmd, hcmd, hrun]

/-! ### The zone update -/

theorem Zone.takeLoad_of_none {x : Zone} (h : x.load = none) : x.takeLoad = x := by
  rw [Zone.takeLoad, h]

/-- The zone update of a zone that does not run completes the command and takes an accepted LOAD (R207). -/
theorem exec_zoneUpdate_of_off {zz : Fin 1024} {q0 q1 : List (BitVec 12)} {v : State} (hv : s.runZoneCmd = v)
    (hoff : (v.zn zz.val).st = .off) :
    exec (.zoneUpdate zz q0 q1) s = done s (v.setZn zz.val (v.zn zz.val).takeLoad) := by
  have hst : (v.zn zz.val).takeLoad.st = .off := by
    rw [← hoff, Zone.takeLoad]
    split <;> rfl
  show done s (opZoneUpdate zz q0 q1 s) = _
  simp [opZoneUpdate, hv, Zone.runs, hst]

section
variable {zz : Fin 1024} {q0 q1 : List (BitVec 12)} {cmd : Nat} {z : Fin 1024} (hcmd : s.lp.cmd = some (cmd, z.val, false))
include hcmd

/-- The zone update at which an accepted command completes. -/
theorem zoneUpdate_of_accepted {y y' : Zone} (hacc : s.ZoneAccepts cmd z.val y)
    (hy' : y' = if zz.val = z.val then y else s.zn zz.val) (hoff : y'.st = .off) :
    Answers (exec (.zoneUpdate zz q0 q1) s) fun u =>
      (∀ k, u.zn k = if k = zz.val then y'.takeLoad else if k = z.val then y else s.zn k) ∧
      u.reg pgLoop 0x4C = z.val * 2 ^ 16 ∧ u.lp.cmd = none ∧ u.tile = s.tile ∧ u.mem = s.mem ∧ u.fr = s.fr := by
  obtain ⟨v, hv, hset⟩ := State.zoneCmd_of_accepted (s := s.noCmd) hacc
  have hzz : v.zn zz.val = y' := (hset.zn zz.val).trans hy'.symm
  refine ⟨_, exec_zoneUpdate_of_off (State.runZoneCmd_of_one hcmd hv) (by rw [State.zn_setReg, hzz, hoff]), fun k => ?_, ?_, ?_⟩
  · simp [hzz, hset.zn]
  · simp
    omega
  · simp [hset.lp, hset.tile, hset.mem, hset.fr]

/-- The zone update at which a rejected command completes. -/
theorem zoneUpdate_of_rejected {why : Nat} {v : State} (hv : s.noCmd.zoneCmd cmd z.val = (why, v)) (hwhy : why ≠ 0)
    (hle : why ≤ 3) (hlp : v.lp = s.noCmd.lp) (hoff : (s.zn zz.val).st = .off) (hnone : (s.zn zz.val).load = none) :
    Answers (exec (.zoneUpdate zz q0 q1) s) fun u =>
      (∀ k, u.zn k = s.zn k) ∧ u.reg pgLoop 0x4C = z.val * 2 ^ 16 + why * 2 ^ 4 + 2 ∧ u.lp.cmd = none ∧
      u.tile = v.tile ∧ u.mem = v.mem ∧ ∀ i, bitOf (u.raw pgLoop) i = bitOf (v.raw pgLoop) i := by
  have hzn (k : Nat) : v.zn k = s.zn k := by rw [State.zn, hlp, ← State.zn, State.noCmd_zn]
  refine ⟨_, exec_zoneUpdate_of_off (State.runZoneCmd_of_one hcmd hv) (by rw [State.zn_setReg, hzn, hoff]), fun k => ?_, ?_, ?_⟩
  · rw [settle_zn, Zone.takeLoad_of_none (by rwa [State.zn_setReg, hzn]), State.zn_setZn_self, State.zn_setReg, hzn]
  · simp [hwhy]
    omega
  · simp [hlp]

end

/-! ### The obligation -/

/-- Settles O38: an accepted command sets its zone and a rejected one gives its reason, by `State.runZoneCmd_of_one`. -/
theorem zoneCommandsWaitForNextUpdate : Obligations.ZoneCommandsWaitForNextUpdate := by
  intro s p z zz all q0 q1
  refine ⟨fun c k hc => ?write, fun hoff => ⟨fun hcmd => ⟨fun hload => ?load, fun hbad hnone => ?badLoad⟩,
    fun hnone hcmd => ?enableAll, fun k y hnone hne hcmd hk => ?accepted, fun k hk hnone hcmd => ?wrongState⟩⟩
  case write =>
    have hexec : exec c s = done s (s.zoneCmdWrite p k z.val all) := exec_zoneCommands s p z all (c, k) hc
    rw [hexec]
    refine ⟨fun hp hidle => ?_, fun hp hbusy => ?_, fun hp => ?_⟩
    · rw [State.zoneCmdWrite_of_idle _ _ _ hp hidle]
      rfl
    · rw [State.zoneCmdWrite_of_pending _ _ _ hp hbusy]
      rfl
    · rw [State.zoneCmdWrite_of_denied _ _ _ hp]
      rfl
  case load =>
    obtain ⟨u, hu, hzn, hstat, hidle, hkept⟩ :=
      zoneUpdate_of_accepted hcmd (.inl ⟨rfl, hload, rfl⟩) (if_pos rfl).symm hoff
    exact ⟨u, hu, (hzn _).trans (if_pos rfl), hstat, hidle, fun k hk => by rw [hzn, if_neg hk, if_neg hk], hkept⟩
  case badLoad =>
    obtain ⟨u, hu, hzn, hstat, hidle, htile, hmem, hraw⟩ :=
      zoneUpdate_of_rejected hcmd (State.zoneCmd_of_badLoad hbad) hbad
        ((State.loadReason_le _).trans (by decide)) rfl hoff hnone
    refine ⟨u, hu, hzn, hstat, ?_, hidle, htile, hmem⟩
    rw [hraw, bitOf_raw_raise]
    simp
  case enableAll =>
    obtain ⟨v, hrun, hidle, hzn⟩ := State.runZoneCmd_enableAll hcmd
    have hzz : v.zn zz.val = { s.zn zz.val with en := true } := (hzn _).trans (if_pos zz.isLt)
    refine ⟨_, exec_zoneUpdate_of_off hrun (by rw [State.zn_setReg, hzz, hoff]), fun k hk => ?_, ?_, ?_⟩
    · rw [settle_zn, Zone.takeLoad_of_none (by rw [State.zn_setReg, hzz, hnone]), State.zn_setZn_self, State.zn_setReg, hzn,
        if_pos hk]
    · simp
      omega
    · simp [hidle]
  case accepted =>
    have hacc : s.ZoneAccepts k z.val y := by
      rcases hk with ⟨rfl, rfl⟩ | ⟨rfl, hruns, rfl⟩ | ⟨rfl, hruns, rfl⟩ | hk | ⟨rfl, hst, rfl⟩
      · exact .inr (.inl ⟨rfl, rfl⟩)
      · refine .inr (.inr (.inl ⟨rfl, ?_⟩))
        rw [hruns]
        rfl
      · refine .inr (.inr (.inl ⟨rfl, ?_⟩))
        rw [hruns, if_pos rfl, Zone.want_one]
      · exact .inr (.inr (.inr (.inl hk)))
      · refine .inr (.inr (.inr (.inr ⟨rfl, hst, ?_⟩)))
        rw [Zone.want_eq]
    have hzz : zz.val ≠ z.val := fun h => hne (Fin.ext h.symm)
    obtain ⟨u, hu, hzn, hstat, hidle, hkept⟩ := zoneUpdate_of_accepted hcmd hacc (if_neg hzz).symm hoff
    rw [Zone.takeLoad_of_none hnone] at hzn
    refine ⟨u, hu, by rw [hzn, if_neg hzz.symm, if_pos rfl], hstat, hidle, fun k hk => ?_, hkept⟩
    rw [hzn, if_neg hk]
    split
    · next h => rw [h]
    · rfl
  case wrongState =>
    obtain ⟨u, hu, hzn, hstat, hidle, -⟩ := zoneUpdate_of_rejected hcmd (State.zoneCmd_of_wrongState (s := s.noCmd) hk)
      (by decide) (by decide) rfl hoff hnone
    exact ⟨u, hu, hzn, hstat, hidle⟩

end Sys2Proof.Machine
end

section
/-!
PROOFS. What memory accesses, entries of the event log, frame faults and what a tile does of a zone fault leave of the loop
engine (O39): its state, and what its page holds.
-/
namespace Sys2Proof.Machine

/-- The loop engine of `s` and its page stand in `u`. -/
structure LoopKept (s u : State) : Prop where
  lp : u.lp = s.lp
  raw : u.raw pgLoop = s.raw pgLoop
  reg : ∀ o, o < 4096 → u.reg pgLoop o = s.reg pgLoop o
  cnt : ∀ k, k < 32 → u.cntLive pgLoop k = s.cntLive pgLoop k

theorem pgMem_ne_pgLoop (k : Nat) : pgMem k ≠ pgLoop := by simp only [pgMem, pgLoop]; omega
theorem pgTile_ne_pgLoop (t : Nat) : pgTile t ≠ pgLoop := by simp only [pgTile, pgLoop]; omega

namespace LoopKept
variable {s u : State}

theorem refl (s : State) : LoopKept s s := ⟨rfl, rfl, fun _ _ => rfl, fun _ _ => rfl⟩

/-- An update of fields that are neither the loop engine's, events, registers nor counters. -/
theorem frame {pending freeCtr resp evEn snap soft hif irq tb fr gov rg q sy mem share sec link chk route frozen mg vsu
    stm tile pw} (h : LoopKept s u) :
    LoopKept s { u with
      pending, freeCtr, resp, evEn, snap, soft, hif, irq, tb, fr, gov, rg, q, sy, mem, share, sec, link, chk, route, frozen
      mg, vsu, stm, tile, pw } :=
  ⟨h.lp, h.raw, h.reg, h.cnt⟩

theorem either {c : Prop} [Decidable c] {a b : State} (ha : LoopKept s a) (hb : LoopKept s b) :
    LoopKept s (if c then a else b) := by
  split <;> assumption

theorem eitherSnd {α : Type} {c : Prop} [Decidable c] {a b : α × State} (ha : LoopKept s a.2) (hb : LoopKept s b.2) :
    LoopKept s (if c then a else b).2 := by
  split <;> assumption

theorem count (h : LoopKept s u) {p k : Nat} (hp : p ≠ pgLoop := by decide) (hk : k < 32 := by decide) :
    LoopKept s (u.count p k) where
  lp := h.lp
  raw := h.raw
  reg := h.reg
  cnt k' hk' := by rw [State.cntLive_count, if_neg (by omega), h.cnt k' hk']

theorem raise (h : LoopKept s u) {p : Nat} (b : Nat) (hp : p ≠ pgLoop := by decide) : LoopKept s (u.raise p b) where
  lp := h.lp
  raw := by rw [State.raw_raise, if_neg hp.symm, h.raw]
  reg := h.reg
  cnt := h.cnt

theorem setReg (h : LoopKept s u) {p o : Nat} (v : Nat) (hp : p ≠ pgLoop := by decide) (ho : o < 4096 := by decide) :
    LoopKept s (u.setReg p o v) where
  lp := h.lp
  raw := h.raw
  reg o' ho' := by rw [State.reg_setReg_ne _ _ _ _ _ _ (by simp only [rkey]; omega), h.reg o' ho']
  cnt := h.cnt

/-! Reads and writes of granules -/

theorem recErr (h : LoopKept s u) {p : Nat} (hp : p ≠ pgLoop) (a src : Nat) : LoopKept s (u.recErr p a src) :=
  either h (((h.setReg _ hp).setReg _ hp).setReg _ hp)

theorem recSram (h : LoopKept s u) (a src : Nat) : LoopKept s (u.recSram a src) :=
  either h (((h.setReg _).setReg _).setReg _)

theorem unbacked (h : LoopKept s u) (a : Nat) : LoopKept s (u.unbacked a) :=
  ((((h.recErr (pgMem_ne_pgLoop 0) a 4).count).count).raise _).raise _

theorem useLine (h : LoopKept s u) (k l : Nat) (d : Bool) : LoopKept s (u.useLine k l d) := by
  unfold State.useLine
  extract_lets c
  split
  · exact frame h
  · exact (frame h).count (pgMem_ne_pgLoop k)

theorem touch (h : LoopKept s u) (k a : Nat) (w : Bool) : LoopKept s (u.touch k a w) := by
  have hcount : LoopKept s (u.count (pgMem k) (if w then 1 else 0)) := h.count (pgMem_ne_pgLoop k) (by split <;> decide)
  exact either (hcount.useLine _ _ _) hcount

theorem wbLine (h : LoopKept s u) (k g : Nat) : LoopKept s (u.wbLine k g) := either (h.useLine _ _ _) h

theorem breakImage (h : LoopKept s u) (a : Nat) : LoopKept s (u.breakImage a) := either (frame h) h

theorem decodeCtl (h : LoopKept s u) (k src g : Nat) (dec : Dec) : LoopKept s (u.decodeCtl k src g dec).2 := by
  have hk := pgMem_ne_pgLoop k
  have hmem (m : Memory) {v : State} (hv : LoopKept s v) : LoopKept s { v with mem := m } := frame hv
  unfold State.decodeCtl
  split
  · have hlost := ((h.recErr hk (64 * g) src).count hk (k := 3)).raise 1 hk
    exact breakImage (frame ((hmem _ hlost).wbLine k g)) _
  · have hfixed := (hmem (u.mem.heal g) h).wbLine k g
    exact eitherSnd (hfixed.count hk) (frame ((hfixed.count hk).raise _ hk))
  · exact eitherSnd (h.count hk) h

theorem decodeHub (h : LoopKept s u) (src g : Nat) (dec : Dec) : LoopKept s (u.decodeHub src g dec).2 := by
  have hmem (m : Memory) {v : State} (hv : LoopKept s v) : LoopKept s { v with mem := m } := frame hv
  unfold State.decodeHub
  split
  · have hlost : LoopKept s (u.sramLost src (64 * g)) := ((h.recSram (64 * g) src).count).raise _
    exact eitherSnd (hmem _ (forN_keeps (LoopKept s) _ (fun _ _ ht => frame ht) _ _ hlost)) (hmem _ hlost)
  · have hheal := hmem (u.mem.heal g) h
    exact eitherSnd hheal (hheal.count.raise _)
  · exact h

theorem lay (h : LoopKept s u) (src g : Nat) (data : List (Option Byte)) (poison : Bool) (dec : Dec) :
    LoopKept s (u.lay src g data poison dec) :=
  either (frame h) (frame (by split; exacts [h.decodeCtl _ _ _ _, h.decodeHub _ _ _]))

theorem gWrite (h : LoopKept s u) (src g : Nat) (data : List (Option Byte)) (poison : Bool) (dec : Dec) :
    LoopKept s (u.gWrite src g data poison dec) := by
  unfold State.gWrite
  split
  · exact h.unbacked _
  · exact h
  · exact h.lay _ _ _ _ _
  · exact either (h.unbacked _) (either (frame h) ((lay (frame (h.touch _ _ _)) _ _ _ _ _).breakImage _))

/-! The event log and frame faults -/

theorem log (h : LoopKept s u) (p code cls detail : Nat) : LoopKept s (u.log p code cls detail) := by
  unfold State.log
  split
  · exact count (frame (forL_keeps (LoopKept s) _ (fun _ _ ht => ht.gWrite _ _ _ _ _) _ _ h))
  · exact h

theorem faultLog (h : LoopKept s u) (was : Bool) (p bit : Nat) : LoopKept s (u.faultLog was p bit) :=
  either h (h.log _ _ _ _)

theorem discardFrom (h : LoopKept s u) (g : Nat) : LoopKept s (u.discardFrom g) :=
  either (forN_keeps (LoopKept s) _ (fun _ _ ht => either ht (frame ht).count) _ _ h) h

theorem actVeto (h : LoopKept s u) (v : Veto) : LoopKept s (u.actVeto v) := by
  have hdisc := ((h.count (p := pgReg) (k := 3)).raise (p := pgReg) 1).discardFrom v.g
  refine either ?_ hdisc
  split
  · exact either (frame hdisc) hdisc
  · exact frame hdisc

theorem holdVeto (h : LoopKept s u) (g : Nat) : LoopKept s (u.holdVeto g) := either h (frame h)

theorem flood (h : LoopKept s u) (except : Option Nat) (m : Bytes) : LoopKept s (u.flood except m) :=
  forN_keeps (LoopKept s) _ (fun _ _ ht => either (frame ht) ht) _ _ h

theorem declareVeto (h : LoopKept s u) (g : Nat) : LoopKept s (u.declareVeto g) := by
  have hsent (m : Bytes) :=
    ((((h.count (p := pgReg) (k := 2)).raise (p := pgReg) 0).log pgReg 2 3 (g % 2 ^ 32)).holdVeto g).flood none m
  exact either h (either (((hsent _).count.raise _).log _ _ _ _) ((hsent _).actVeto _))

theorem frameFault (h : LoopKept s u) (src g : Nat) : LoopKept s (u.frameFault src g) := by
  have hraise := h.raise (p := pgFrame) 1
  unfold State.frameFault
  extract_lets was u1 f1 u2 f2 u3 u4
  have h2 : LoopKept s u2 := either hraise (frame hraise).count
  have h3 : LoopKept s u3 := either h2 ((frame h2).faultLog _ _ _)
  exact (h3.log _ _ _ _).declareVeto g

/-! What a tile does -/

theorem watchHealth (h : LoopKept s u) (s0 : State) (t : Nat) : LoopKept s (watchHealth s0 t u) :=
  either h (h.raise _ (pgTile_ne_pgLoop t))

theorem tileZoneFault (h : LoopKept s u) (t : Nat) : LoopKept s (u.tileZoneFault t) :=
  frame (watchHealth (frame h) _ _)

theorem tileFault (h : LoopKept s u) (t bit : Nat) : LoopKept s (u.tileFault t bit) :=
  ((frame h).raise _ (pgTile_ne_pgLoop t)).faultLog _ _ _

theorem colFails (h : LoopKept s u) (t c : Nat) : LoopKept s (u.colFails t c) := by
  have hfault : LoopKept s (u.tileFault t 9) := h.tileFault t 9
  exact either h (either ((frame hfault).frameFault _ _) (frame hfault))

end LoopKept

end Sys2Proof.Machine
end

section
/-!
PROOFS. The zone update of a running zone (O39): the control law's result, and what the update counts on the way to it.
-/
namespace Sys2Proof.Machine

variable {s : State}

/-- The control law keeps the coefficients; what it gives beside its numbers (R191, R194). -/
theorem Zone.update_result {w n : Zone} {y : Option Nat} {p t inj : Nat} {setPt a : Bool}
    (h : w.update y p t inj setPt = (n, a)) :
    n.work = w.work ∧ n.yValid = y.isSome ∧ (y = none → n.r = 0) ∧ ∃ c, n.next = some c ∧ c ≤ 65535 := by
  have hn : n = (w.update y p t inj setPt).1 := by rw [h]
  subst hn
  refine ⟨rfl, rfl, fun hy => ?_, _, rfl, min_le_right _ _⟩
  subst hy
  rfl

theorem State.runZoneCmd_of_none (h : s.lp.cmd = none) : s.runZoneCmd = s := by
  simp [State.runZoneCmd, h]

theorem State.capSample_of_other {z u : Nat} {y : Option Nat} {x : List Nat} {inj : Nat} {clamp : Bool}
    (h : s.lp.capOn = false ∨ fld (s.reg pgLoop 0x90) 9 0 ≠ z) : s.capSample z u y x inj clamp = s := by
  rcases h with h | h <;> simp [State.capSample, h]

/-- A period without a valid pilot counts in CNT3 (R191). -/
def State.noteMiss (s : State) (y : Option Nat) : State := if y.isNone then s.count pgLoop 3 else s

/-- Stale inputs count in CNT4 and are raised, once in a period (R192). -/
def State.noteStale (s : State) (old : Bool) : State :=
  if old && !s.lp.stale then { (s.countRaise pgLoop 4 3) with lp := { s.lp with stale := true } } else s

/-- An acting clamp counts in CNT5 (R194). -/
def State.noteClamp (s : State) (acted : Bool) : State := if acted then s.count pgLoop 5 else s

/-- What a zone update counts. -/
def State.noted (s : State) (y : Option Nat) (old acted : Bool) : State := ((s.noteMiss y).noteStale old).noteClamp acted

section
variable (s : State) (y : Option Nat) (old acted : Bool)

theorem State.noteMiss_frame : s.noteMiss y = { s with cnt := (s.noteMiss y).cnt } := by
  unfold State.noteMiss
  split <;> rfl

theorem State.noteStale_frame : s.noteStale old = { s with
    cnt := (s.noteStale old).cnt, evRaw := (s.noteStale old).evRaw
    lp := { s.lp with stale := (s.noteStale old).lp.stale } } := by
  unfold State.noteStale
  split <;> rfl

theorem State.noteClamp_frame : s.noteClamp acted = { s with cnt := (s.noteClamp acted).cnt } := by
  unfold State.noteClamp
  split <;> rfl

theorem State.loopInputs_noteMiss (t : Nat) : (s.noteMiss y).loopInputs t = s.loopInputs t := by
  rw [State.noteMiss_frame]
  rfl

theorem State.injOf_noteMiss (z : Nat) : (s.noteMiss y).injOf z = s.injOf z := by
  rw [State.noteMiss_frame]
  rfl

theorem State.injOf_noteStale (z : Nat) : (s.noteStale old).injOf z = s.injOf z := by
  rw [State.noteStale_frame]
  rfl

theorem State.reg_noteMiss (p o : Nat) : (s.noteMiss y).reg p o = s.reg p o := by
  rw [State.noteMiss_frame]
  rfl

theorem State.reg_noteStale (p o : Nat) : (s.noteStale old).reg p o = s.reg p o := by
  rw [State.noteStale_frame]
  rfl

theorem State.cntLive_noteMiss (k : Nat) : (s.noteMiss y).cntLive pgLoop k =
    if y = none ∧ k = 3 then min (s.cntLive pgLoop 3 + 1) (2 ^ 64 - 1) else s.cntLive pgLoop k := by
  cases y <;> simp [State.noteMiss]

theorem State.cntLive_noteStale {k : Nat} (hk : k ≠ 4) : (s.noteStale old).cntLive pgLoop k = s.cntLive pgLoop k := by
  unfold State.noteStale
  split
  · exact (State.cntLive_count s pgLoop 4 pgLoop k).trans (if_neg (by omega))
  · rfl

theorem State.cntLive_noteClamp (k : Nat) : (s.noteClamp acted).cntLive pgLoop k =
    if acted ∧ k = 5 then min (s.cntLive pgLoop 5 + 1) (2 ^ 64 - 1) else s.cntLive pgLoop k := by
  cases acted <;> simp [State.noteClamp]

/-- Only LOOP's counters and events and the mark of stale inputs change. -/
theorem State.noted_frame : s.noted y old acted = { s with
    cnt := (s.noted y old acted).cnt, evRaw := (s.noted y old acted).evRaw
    lp := { s.lp with stale := (s.noted y old acted).lp.stale } } := by
  rw [State.noted, State.noteClamp_frame, State.noteStale_frame, State.noteMiss_frame]

theorem State.reg_noted (p o : Nat) : (s.noted y old acted).reg p o = s.reg p o := by
  rw [State.noted_frame]
  rfl

theorem State.cntLive_noted {k : Nat} (hk : k ≠ 4) : (s.noted y old acted).cntLive pgLoop k =
    if (y = none ∧ k = 3) ∨ (acted ∧ k = 5) then min (s.cntLive pgLoop k + 1) (2 ^ 64 - 1) else s.cntLive pgLoop k := by
  rw [State.noted, State.cntLive_noteClamp, State.cntLive_noteStale _ _ hk, State.cntLive_noteStale _ _ (by decide)]
  simp only [State.cntLive_noteMiss]
  by_cases h3 : k = 3
  · simp [h3]
  · by_cases h5 : k = 5 <;> simp [h3, h5]

end

/-- The zone that enters its update: a WARM zone's set-point is its target (R194). -/
def Zone.atTarget (x : Zone) : Zone := if x.st = .warm then { x with s := x.target } else x

theorem Zone.atTarget_work (x : Zone) : x.atTarget.work = x.work := by
  unfold Zone.atTarget
  split <;> rfl

/-- The zone that leaves its update, from what the control law gives (R197, R200). -/
def Zone.updated (n : Zone) (tol : Nat) : Zone := Zone.supervise { n.predict with fresh := true } tol

section
variable {z : Fin 1024} {x n : Zone} {q0 q1 : List (BitVec 12)} {a : Bool} (hx : s.zn z.val = x)
  (hruns : x.runs = true) (hfresh : x.fresh = false) (hload : x.load = none) (hen : s.en pgLoop = true)
  (hcmd : s.lp.cmd = none) (hcap : s.lp.capOn = false ∨ fld (s.reg pgLoop 0x90) 9 0 ≠ z.val)
  (hn : x.atTarget.update (x.atTarget.measure q0 q1) (s.loopInputs (z.val / 4)).1 (s.loopInputs (z.val / 4)).2.1
    (s.injOf z.val) (bitOf (s.reg pgLoop 0x84) 30) = (n, a))
include hx hruns hfresh hload hen hcmd hcap hn

/-- The update of a running zone, once in a period (R194, R200). -/
theorem opZoneUpdate_of_runs : opZoneUpdate z q0 q1 s =
    (s.noted (x.atTarget.measure q0 q1) (s.loopInputs (z.val / 4)).2.2 a).setZn z.val
      (n.updated (fld (s.reg pgLoop 0x40) 23 16)) := by
  subst hx
  unfold opZoneUpdate
  rw [State.runZoneCmd_of_none hcmd]
  extract_lets s1 x1 x2 y s2 inputs src lp s3 inj r s4 s5 cfg src'
  have hx1 : x1 = s.zn z.val := Zone.takeLoad_of_none hload
  have hx2 : x2 = (s.zn z.val).atTarget := congrArg Zone.atTarget hx1
  have hy : y = (s.zn z.val).atTarget.measure q0 q1 := congrArg (Zone.measure · q0 q1) hx2
  have hin : inputs = s.loopInputs (z.val / 4) := s.loopInputs_noteMiss y _
  have hs3 : s3 = (s.noteMiss y).noteStale (s.loopInputs (z.val / 4)).2.2 :=
    congrArg (fun w : Nat × Nat × Bool => (s.noteMiss y).noteStale w.2.2) hin
  have hinj : inj = s.injOf z.val := by
    simp only [inj, hs3, State.injOf_noteStale, State.injOf_noteMiss]
  have hr : r = (n, a) := by
    simp only [r, hx2, hy, hin, hinj, hs3, State.reg_noteStale, State.reg_noteMiss, hn]
  have hs4 : s4 = s.noted y (s.loopInputs (z.val / 4)).2.2 a := by
    rw [State.noted, ← hs3]
    exact congrArg (fun e : Zone × Bool => s3.noteClamp e.2) hr
  have hs5 : s5 = s4 := State.capSample_of_other (by rw [hs4, State.noted_frame]; exact hcap)
  have hcfg : cfg = s.reg pgLoop 0x40 := by
    simp only [cfg, hs5, hs4, State.reg_noted]
  rw [if_pos (by rw [hx1]; simp [s1, hruns, hfresh, hen]), ← hy, ← hs4, ← hs5, ← hcfg]
  exact congrArg (fun e : Zone × Bool => s5.setZn z.val (e.1.updated (fld cfg 23 16))) hr

theorem zoneUpdate_of_runs_answers : Answers (exec (.zoneUpdate z q0 q1) s) fun u =>
    u.zn z.val = n.updated (fld (s.reg pgLoop 0x40) 23 16) ∧
    u.cntLive pgLoop 3 = (if x.atTarget.measure q0 q1 = none then min (s.cntLive pgLoop 3 + 1) (2 ^ 64 - 1)
      else s.cntLive pgLoop 3) ∧
    u.cntLive pgLoop 5 = (if a then min (s.cntLive pgLoop 5 + 1) (2 ^ 64 - 1) else s.cntLive pgLoop 5) ∧
    (∀ k, k ≠ z.val → u.zn k = s.zn k) ∧ u.tile = s.tile ∧ u.mem = s.mem ∧ u.fr = s.fr := by
  refine ⟨_, congrArg (done s) (opZoneUpdate_of_runs hx hruns hfresh hload hen hcmd hcap hn), ?_⟩
  refine ⟨?_, ?_, ?_, fun k hk => ?_, ?_, ?_, ?_⟩
  · rw [settle_zn, State.zn_setZn, if_pos rfl]
  · rw [settle_cntLive_pgLoop, State.cntLive_setZn, State.cntLive_noted _ _ _ _ (by decide)]
    simp
  · rw [settle_cntLive_pgLoop, State.cntLive_setZn, State.cntLive_noted _ _ _ _ (by decide)]
    simp
  · rw [settle_zn, State.zn_setZn, if_neg hk, State.noted_frame]
    rfl
  · rw [settle_tile, State.setZn_tile, State.noted_frame]
  · rw [settle_mem, State.setZn_mem, State.noted_frame]
  · rw [settle_fr, State.setZn_fr, State.noted_frame]

end

end Sys2Proof.Machine
end

section
/-!
PROOFS. A zone at the start of a period (O39): its output, the rows of Table 7.3, what a zone fault leaves of the loop
engine, and that a zone's start changes nothing of the engine but zones.
-/
namespace Sys2Proof.Machine

variable {s : State}

/-! ### A zone at the start of a period -/

/-- What the zone outputs in the period, and the emptied output of its update (R188). -/
def Zone.emitted (x : Zone) : Zone :=
  { x with code := if x.runs then x.next.getD x.code else x.code, next := none, fresh := false }

/-- The output of zone `x` is applied; one that has no code of its update counts in CNT2 (R188). -/
def State.emits (s : State) (z : Nat) (x : Zone) : State :=
  (if x.runs && x.next.isNone then s.countRaise pgLoop 2 2 else s).setZn z x.emitted

section
variable (s) (z : Nat) (x : Zone)

theorem State.emits_cases : s.emits z x = s.setZn z x.emitted ∨
    s.emits z x = (s.countRaise pgLoop 2 2).setZn z x.emitted := by
  unfold State.emits
  split
  · exact .inr rfl
  · exact .inl rfl

@[simp] theorem State.zn_emits (k : Nat) : (s.emits z x).zn k = if k = z then x.emitted else s.zn k := by
  rcases s.emits_cases z x with h | h <;> rw [h, State.zn_setZn]
  rfl

end

/-- The transition that zone `x`, whose output is applied, makes at the start of a period (Table 7.3). -/
def State.zoneTurn (s : State) (z : Nat) (x : Zone) : State :=
  if 4 ≤ x.due && x.runs then s.zoneFaults z (x.due - 4)
  else if x.runs && (!x.en || !s.en pgLoop || !s.groupStays z || x.due = 1) then s.zoneOff z
  else if x.st = .fault && (x.due = 1 || !s.en pgLoop) then s.zoneOff z
  else if x.due = 2 && decide (x.st = .locked) then
    s.setZn z (Zone.predict { x with
      st := .warm, x := [0, 0, 0, 0], vel := 0, acc := 0, warmAt := s.tb.tick, lockRun := 0, highRun := 0, due := 0 })
  else if x.due = 3 && decide (x.st = .warm) then
    (s.setZn z { x with st := .locked, due := 0, lostRun := 0 }).raise pgLoop 1
  else if x.st = .off && x.en && s.en pgLoop && !x.work.isEmpty && s.groupLit z then s.zoneWarm z
  else s.setZn z { x with due := 0 }

/-- The warm-up limit of zone `x` is passed (R200). -/
def State.overdue (s : State) (x : Zone) : Bool :=
  decide (x.st = .warm) && decide (x.due ≠ 3) && decide (x.warmAt + 256000 * fld (s.reg pgLoop 0x40) 15 0 ≤ s.tb.tick)

/-- Zone `x` with the fault of its warm-up limit due, which holds its code (R200, R201). -/
def State.limited (s : State) (x : Zone) : Zone :=
  if s.overdue x then { x.want 7 with next := if x.due < 4 && x.due ≠ 1 then some x.code else x.next } else x

theorem State.limited_of_in_time {x : Zone} (h : s.overdue x = false) : s.limited x = x := by
  rw [State.limited, h]
  rfl

theorem State.limited_of_due_fault {x : Zone} (h : 4 ≤ x.due) : s.limited x = x := by
  have hlow : ¬ x.due < 4 := by omega
  simp [State.limited, Zone.want_eq, h, hlow]

theorem State.limited_of_overdue {x : Zone} (h : s.overdue x = true) (hdue : x.due = 0) :
    s.limited x = { x with due := 7, next := some x.code } := by
  simp [State.limited, Zone.want_eq, h, hdue]

@[simp] theorem State.limited_runs (x : Zone) : (s.limited x).runs = x.runs := by
  unfold State.limited
  rw [Zone.want_eq]
  split <;> rfl

@[simp] theorem State.limited_load (x : Zone) : (s.limited x).load = x.load := by
  unfold State.limited
  rw [Zone.want_eq]
  split <;> rfl

/-- A zone's limit, output and transition, for one that has no LOAD to take. -/
theorem State.zonePeriod_eq {z : Nat} {x : Zone} (hx : s.zn z = x) (hen : s.en pgLoop = true)
    (hload : x.runs = true ∨ x.load = none) :
    s.zonePeriod z = (s.emits z (s.limited x)).zoneTurn z (s.limited x).emitted := by
  subst hx
  unfold State.zonePeriod
  extract_lets x1 slow x2 x3 late s1 x4 x5 s2
  have hx3 : x3 = s.limited (s.zn z) := rfl
  have hlate : late = (x3.runs && x3.next.isNone) := by simp [late, hen]
  have hx5 : x5 = x3.emitted := by
    rcases hload with h | h
    · exact if_pos ((State.limited_runs _).trans h)
    · have htake : x4.takeLoad = x4 := Zone.takeLoad_of_none ((State.limited_load _).trans h)
      simp only [x5, htake, ite_self]
      rfl
  have hs2 : s2 = s.emits z x3 := by
    simp only [s2, hx5, s1, hlate, State.emits]
  rw [← hx3, ← hs2, ← hx5]
  rfl

/-! ### The transitions -/

section
variable {z : Nat} {x : Zone}

/-- A zone due for a fault (R201). -/
theorem State.zoneTurn_of_fault {c : Nat} (hruns : x.runs = true) (hdue : x.due = 4 + c) :
    s.zoneTurn z x = s.zoneFaults z c := by
  simp [State.zoneTurn, hruns, hdue]

/-- A disabled zone, or one whose group leaves A0 and A1 (Table 7.3, R211). -/
theorem State.zoneTurn_of_stop (hruns : x.runs = true) (hdue : x.due < 4) (h : x.en = false ∨ s.groupStays z = false) :
    s.zoneTurn z x = s.zoneOff z := by
  have hlow : ¬ 4 ≤ x.due := by omega
  rcases h with h | h <;> simp [State.zoneTurn, hruns, hlow, h]

section
variable (hen : s.en pgLoop = true) (hxen : x.en = true)
include hen hxen

/-- A zone due for lock. -/
theorem State.zoneTurn_of_lock (hstays : s.groupStays z = true) (hst : x.st = .warm) (hdue : x.due = 3) :
    s.zoneTurn z x = (s.setZn z { x with st := .locked, due := 0, lostRun := 0 }).raise pgLoop 1 := by
  simp [State.zoneTurn, hen, hxen, hstays, hst, hdue]

/-- A running zone of which nothing is due. -/
theorem State.zoneTurn_of_running (hstays : s.groupStays z = true) (hruns : x.runs = true) (hdue : x.due = 0) :
    s.zoneTurn z x = s.setZn z x := by
  have hst : x.st = .warm ∨ x.st = .locked := by simpa [Zone.runs] using hruns
  have hfault : x.st ≠ .fault := by rcases hst with h | h <;> simp [h]
  have hoff : x.st ≠ .off := by rcases hst with h | h <;> simp [h]
  unfold State.zoneTurn
  rw [if_neg (by simp [hdue]), if_neg (by simp [hdue, hen, hxen, hstays]), if_neg (by simp [hfault]), if_neg (by simp [hdue]),
    if_neg (by simp [hdue]), if_neg (by simp [hoff]), ← hdue]

/-- An enabled zone in OFF with coefficients and light. -/
theorem State.zoneTurn_of_start (hst : x.st = .off) (hlit : s.groupLit z = true) (hdue : x.due = 0) (hwork : x.work ≠ []) :
    s.zoneTurn z x = s.zoneWarm z := by
  have hruns : x.runs = false := by simp [Zone.runs, hst]
  simp [State.zoneTurn, hen, hxen, hst, hlit, hdue, hwork, hruns]

end
end

/-! ### A zone fault -/

/-- Zone `z` in FAULT, counted and raised. -/
def State.inFault (s : State) (z cause : Nat) : State :=
  (s.setZn z { s.zn z with st := .fault, cause := cause, due := 0, next := none }).countRaise pgLoop 6 0

/-- The log entry, the tile and a frame fault leave the loop engine alone; the tile leaves READY (R175, R201). -/
theorem State.zoneFaults_result (s : State) (z cause : Nat) :
    LoopKept (s.inFault z cause) (s.zoneFaults z cause) ∧ ((s.zoneFaults z cause).tl (z / 4)).ready = false := by
  unfold State.zoneFaults
  extract_lets t was run s0 x s1 s2 s3
  have hlog : LoopKept (s.inFault z cause) s2 := (LoopKept.refl (s.inFault z cause)).faultLog was pgLoop 0
  have hkept : LoopKept (s.inFault z cause) s3 := (hlog.tileZoneFault t).watchHealth s0 t
  have hready : (s3.tl t).ready = false := by simp [s3, State.tileZoneFault]
  split
  · exact ⟨hkept.frameFault 8 _, ((Faulted.refl s3).frameFault 8 _).field Tile.ready t |>.trans hready⟩
  · exact ⟨hkept, hready⟩

/-! ### The engine beside its zones -/

/-- `u` differs from `s` on LOOP's page by counters and events, and in the loop engine by zones. -/
structure ZonesOnly (s u : State) : Prop where
  lp : u.lp = { s.lp with zone := u.lp.zone }
  reg : ∀ o, o < 4096 → u.reg pgLoop o = s.reg pgLoop o

namespace ZonesOnly
variable {u : State}

theorem refl (s : State) : ZonesOnly s s := ⟨rfl, fun _ _ => rfl⟩

theorem setZn (h : ZonesOnly s u) (z : Nat) (x : Zone) : ZonesOnly s (u.setZn z x) :=
  ⟨by rw [State.setZn_lp, h.lp], h.reg⟩

theorem count (h : ZonesOnly s u) (p k : Nat) : ZonesOnly s (u.count p k) := ⟨h.lp, h.reg⟩

theorem raise (h : ZonesOnly s u) (p b : Nat) : ZonesOnly s (u.raise p b) := ⟨h.lp, h.reg⟩

theorem kept {v : State} (h : ZonesOnly s u) (h' : LoopKept u v) : ZonesOnly s v :=
  ⟨by rw [h'.lp, h.lp], fun o ho => (h'.reg o ho).trans (h.reg o ho)⟩

theorem either {c : Prop} [Decidable c] {a b : State} (ha : ZonesOnly s a) (hb : ZonesOnly s b) :
    ZonesOnly s (if c then a else b) := by
  split <;> assumption

theorem zoneFaults (h : ZonesOnly s u) (z cause : Nat) : ZonesOnly s (u.zoneFaults z cause) :=
  (((h.setZn _ _).count _ _).raise _ _).kept (u.zoneFaults_result z cause).1

theorem zoneOff (h : ZonesOnly s u) (z : Nat) : ZonesOnly s (u.zoneOff z) :=
  (h.setZn _ _).kept ((LoopKept.refl _).watchHealth _ _)

theorem zonePeriod (h : ZonesOnly s u) (z : Nat) : ZonesOnly s (u.zonePeriod z) := by
  unfold State.zonePeriod
  extract_lets x1 slow x2 x3 late s1 x4 x5 s2
  have h2 : ZonesOnly s s2 := (either ((h.count _ _).raise _ _) h).setZn z x5
  exact either (h2.zoneFaults _ _) <| either (h2.zoneOff z) <| either (h2.zoneOff z) <| either (h2.setZn _ _) <|
    either ((h2.setZn _ _).raise _ _) <| either (h2.setZn _ _) (h2.setZn _ _)

end ZonesOnly

end Sys2Proof.Machine
end

section
/-!
PROOFS. LOOP_PERIOD_START (O39): the period start of one zone, without a command, a test signal, a capture or an outer step.
-/
namespace Sys2Proof.Machine

variable {s : State}

/-! ### Lasers of groups in a wake -/

/-- The free values drawn, and the groups whose lasers are lit. -/
def State.relit (s : State) (c : Nat) (l : Tbl Bool) : State := { s with freeCtr := c, pw := { s.pw with lit := l } }

/-- At a period start lasers are lit and none goes dark (log 62). -/
theorem State.relight_eq (s : State) : ∃ c l, s.relight = s.relit c l ∧
    ∀ g, tget false g s.pw.lit = true → tget false g l = true := by
  refine forN_keeps (fun u => ∃ c l, u = s.relit c l ∧ ∀ g, tget false g s.pw.lit = true → tget false g l = true) _
    (fun g u ⟨c, l, hu, hlit⟩ => ?_) 32 s ⟨s.freeCtr, s.pw.lit, rfl, fun _ h => h⟩
  subst hu
  dsimp only
  split
  · split
    · refine ⟨c + 1, tset false g true l, rfl, fun k hk => ?_⟩
      rw [tget_tset]
      split
      · rfl
      · exact hlit k hk
    · exact ⟨c + 1, l, rfl, hlit⟩
  · exact ⟨c, l, rfl, hlit⟩

theorem State.groupLit_relit {c : Nat} {l : Tbl Bool} (hlit : ∀ g, tget false g s.pw.lit = true → tget false g l = true)
    {z : Nat} (h : s.groupLit z = true) : (s.relit c l).groupLit z = true := by
  simp only [State.groupLit, Bool.and_eq_true, Bool.or_eq_true] at h ⊢
  obtain ⟨⟨hon, hheld⟩, hf⟩ := h
  exact ⟨⟨hon.imp_right fun ⟨hdom, hg⟩ => ⟨hdom, hlit _ hg⟩, hheld⟩, hf⟩

/-! ### Pilot stages -/

/-- Flagged pilot stages are switched off (R205). -/
def State.pilotsOff (s : State) : State :=
  forL (s.zones.filter (fun z => (s.zn z).pilotShort)) (fun z s => s.setZn z { s.zn z with pilotOff := true }) s

theorem tget_of_notMem_keys {α : Type} (d : α) {k : Nat} {t : Tbl α} (h : k ∉ t.map (·.1)) : tget d k t = d := by
  induction t with
  | nil => rfl
  | cons e t ih =>
    obtain ⟨hne, hmem⟩ := not_or.1 (List.mem_cons.not.1 h)
    exact (if_neg (Ne.symm hne)).trans (ih hmem)

theorem State.zn_forL_pilotOff (zs : List Nat) (s : State) (k : Nat) :
    (forL zs (fun z s => s.setZn z { s.zn z with pilotOff := true }) s).zn k =
      if k ∈ zs then { s.zn k with pilotOff := true } else s.zn k := by
  induction zs generalizing s with
  | nil => rfl
  | cons z zs ih =>
    rw [forL, ih, State.zn_setZn]
    by_cases hk : k = z <;> simp [hk]

theorem State.zn_pilotsOff (s : State) (k : Nat) :
    s.pilotsOff.zn k = { s.zn k with pilotOff := (s.zn k).pilotOff || (s.zn k).pilotShort } := by
  rw [State.pilotsOff, State.zn_forL_pilotOff]
  cases hshort : (s.zn k).pilotShort with
  | false => rw [if_neg (by simp [hshort]), Bool.or_false]
  | true =>
    have hmem : k ∈ s.zones := by
      by_contra h
      rw [State.zn, tget_of_notMem_keys _ h] at hshort
      exact absurd hshort (by decide)
    rw [if_pos (List.mem_filter.2 ⟨hmem, hshort⟩), Bool.or_true]

theorem State.pilotsOff_frame (s : State) : s.pilotsOff = { s with lp := { s.lp with zone := s.pilotsOff.lp.zone } } :=
  forL_keeps (fun u : State => u = { s with lp := { s.lp with zone := u.lp.zone } }) _
    (fun z u hu => by rw [hu]; rfl) _ s rfl

@[simp] theorem State.reg_pilotsOff (s : State) (p o : Nat) : s.pilotsOff.reg p o = s.reg p o := by
  rw [State.pilotsOff_frame]
  rfl
@[simp] theorem State.raw_pilotsOff (s : State) (p : Nat) : s.pilotsOff.raw p = s.raw p := by
  rw [State.pilotsOff_frame]
  rfl
@[simp] theorem State.cntLive_pilotsOff (s : State) (p k : Nat) : s.pilotsOff.cntLive p k = s.cntLive p k := by
  rw [State.pilotsOff_frame]
  rfl
@[simp] theorem State.pilotsOff_period (s : State) : s.pilotsOff.lp.period = s.lp.period := by rw [State.pilotsOff_frame]
@[simp] theorem State.pilotsOff_tile (s : State) : s.pilotsOff.tile = s.tile := by rw [State.pilotsOff_frame]
@[simp] theorem State.pilotsOff_mem (s : State) : s.pilotsOff.mem = s.mem := by rw [State.pilotsOff_frame]
@[simp] theorem State.pilotsOff_fr (s : State) : s.pilotsOff.fr = s.fr := by rw [State.pilotsOff_frame]

/-! ### The period start -/

/-- The boundary's period is begun, its flagged column stages switched off (R186, R205). -/
def State.periodBegun (s : State) : State :=
  { s with lp := { s.lp with
      stageOff := forL s.lp.stageDue (fun e m => tset false e.1 true m) s.lp.stageOff
      stageDue := [], stale := false, period := s.tb.tick / 16000, began := s.tb.tick / 16000 + 1 } }

@[simp] theorem State.zn_periodBegun (k : Nat) : s.periodBegun.zn k = s.zn k := rfl
@[simp] theorem State.reg_periodBegun (p o : Nat) : s.periodBegun.reg p o = s.reg p o := rfl
@[simp] theorem State.raw_periodBegun (p : Nat) : s.periodBegun.raw p = s.raw p := rfl
@[simp] theorem State.cntLive_periodBegun (p k : Nat) : s.periodBegun.cntLive p k = s.cntLive p k := rfl
@[simp] theorem State.periodBegun_tile : s.periodBegun.tile = s.tile := rfl
@[simp] theorem State.periodBegun_mem : s.periodBegun.mem = s.mem := rfl
@[simp] theorem State.periodBegun_fr : s.periodBegun.fr = s.fr := rfl

/-- A period starts with zone `z` alone, which is `x`: no command, test signal, capture or outer step is due. -/
structure State.PeriodOf (s : State) (z : Nat) (x : Zone) : Prop where
  tick : s.tb.tick % 16000 = 0
  began : s.lp.began ≠ s.tb.tick / 16000 + 1
  zone : s.lp.zone = [(z, x)]
  cmd : s.lp.cmd = none
  capArmed : s.lp.capArmed = false
  capOn : s.lp.capOn = false
  inj : s.lp.inj = false
  injDue : s.lp.injDue = false
  period : s.lp.period % 16 ≠ 15
  en : s.en pgLoop = true

theorem State.testPeriod_of_none (hinj : s.lp.inj = false) (hdue : s.lp.injDue = false) : s.testPeriod = s := by
  simp [State.testPeriod, hinj, hdue]

theorem opLoopPeriodStart_of_begun (h : s.tb.tick % 16000 ≠ 0 ∨ s.lp.began = s.tb.tick / 16000 + 1) :
    opLoopPeriodStart s = s := if_pos (by simpa using h)

theorem State.PeriodOf.start {z : Nat} {x : Zone} (h : s.PeriodOf z x) :
    opLoopPeriodStart s = ((s.relight.zonePeriod z).periodBegun.pilotsOff).count pgLoop 0 := by
  obtain ⟨c, l, hrelight, -⟩ := s.relight_eq
  unfold opLoopPeriodStart
  rw [if_neg (by simp [h.tick, h.began])]
  extract_lets old s0 zc s1 s2 s3 s4 s5 lp s6 s7 was s8 cfg s9 lp' s10 s11
  have hs1 : s1 = s := by
    simp only [s1, State.capSample_of_other (.inl h.capOn), ite_self]
  have hs2 : s2 = s.relit c l := by rw [← hrelight, ← hs1]
  have hs3 : s3 = s.relit c l := (if_neg (by rw [hs2]; simp [State.relit, h.period])).trans hs2
  have hs4 : s4 = s.relit c l := by
    simp only [s4, hs3]
    exact State.runZoneCmd_of_none h.cmd
  have hs5 : s5 = (s.relit c l).zonePeriod z := by
    have hzones : (s.relit c l).zones = [z] := congrArg (List.map Prod.fst) h.zone
    simp only [s5, hs4, hzones, forL]
  have honly : ZonesOnly (s.relit c l) s5 := hs5 ▸ (ZonesOnly.refl _).zonePeriod z
  have hs7 : s7 = s5.periodBegun.pilotsOff := rfl
  have hen : s7.en pgLoop = true := by
    rw [State.en, hs7, State.reg_pilotsOff, State.reg_periodBegun, honly.reg _ (by decide)]
    exact h.en
  rw [State.pilotsOff_frame, State.periodBegun, honly.lp] at hs7
  have hs8 : s8 = s7 := State.testPeriod_of_none (by rw [hs7]; exact h.inj) (by rw [hs7]; exact h.injDue)
  have hs10 : s10 = s7 := by
    simp only [s10, hs8]
    exact if_neg (by rw [hs7]; simp [State.relit, h.capArmed])
  have hs11 : s11 = s7 := by
    simp only [s11, hs10]
    exact if_neg (by rw [hs7]; simp [State.relit, h.capOn])
  rw [hs11, if_pos hen, hrelight, ← hs5]
  rfl

theorem State.overdue_of_in_time {x : Zone}
    (h : x.st = .warm → s.tb.tick < x.warmAt + 256000 * fld (s.reg pgLoop 0x40) 15 0) : s.overdue x = false := by
  by_cases hst : x.st = .warm
  · simp [State.overdue, hst, h hst]
  · simp [State.overdue, hst]

theorem State.overdue_of_late {x : Zone} (hdue : x.due ≠ 3) (hst : x.st = .warm)
    (h : ¬ (x.st = .warm → s.tb.tick < x.warmAt + 256000 * fld (s.reg pgLoop 0x40) 15 0)) : s.overdue x = true := by
  simpa [State.overdue, hst, hdue] using h

/-! ### What each transition leaves -/

section
variable (z : Nat) (x : Zone)

@[simp] theorem State.tb_emits : (s.emits z x).tb = s.tb := by rcases s.emits_cases z x with h | h <;> rw [h] <;> rfl
@[simp] theorem State.en_emits (p : Nat) : (s.emits z x).en p = s.en p := by
  rcases s.emits_cases z x with h | h <;> rw [h] <;> rfl
@[simp] theorem State.groupStays_emits (k : Nat) : (s.emits z x).groupStays k = s.groupStays k := by
  rcases s.emits_cases z x with h | h <;> rw [h] <;> rfl
@[simp] theorem State.groupLit_emits (k : Nat) : (s.emits z x).groupLit k = s.groupLit k := by
  rcases s.emits_cases z x with h | h <;> rw [h] <;> rfl
@[simp] theorem State.cntLive_emits {k : Nat} (hk : k ≠ 2) : (s.emits z x).cntLive pgLoop k = s.cntLive pgLoop k := by
  rcases s.emits_cases z x with h | h
  · rw [h]
    rfl
  · rw [h]
    exact (State.cntLive_count s pgLoop 2 pgLoop k).trans (if_neg (by omega))

end

theorem State.emits_of_some {z c : Nat} {x : Zone} (h : x.next = some c) : s.emits z x = s.setZn z x.emitted := by
  simp [State.emits, h]

theorem State.emits_of_none {z : Nat} {x : Zone} (hruns : x.runs = true) (h : x.next = none) :
    s.emits z x = (s.countRaise pgLoop 2 2).setZn z x.emitted := by
  simp [State.emits, h, hruns]


namespace State.PeriodOf
variable {z : Nat} {x : Zone} (h : s.PeriodOf z x)
include h

/-- The zone's transition, from the state in which its output is applied. -/
theorem turn (hload : x.runs = true ∨ x.load = none) : ∃ c l,
    s.relight.zonePeriod z = ((s.relit c l).emits z (s.limited x)).zoneTurn z (s.limited x).emitted ∧
    ∀ g, tget false g s.pw.lit = true → tget false g l = true := by
  obtain ⟨c, l, hrelight, hlit⟩ := s.relight_eq
  have hx : (s.relit c l).zn z = x := by simp [State.zn, State.relit, h.zone, tget]
  exact ⟨c, l, by rw [hrelight, State.zonePeriod_eq hx h.en hload]; rfl, hlit⟩

/-- What the rest of the period start makes of the zone's transition. -/
theorem answers {u : State} (hu : s.relight.zonePeriod z = u) : Answers (exec .loopPeriodStart s) fun v =>
    v.zn z = { u.zn z with pilotOff := (u.zn z).pilotOff || (u.zn z).pilotShort } ∧
    v.lp.period = u.tb.tick / 16000 ∧ v.cntLive pgLoop 0 = min (u.cntLive pgLoop 0 + 1) (2 ^ 64 - 1) ∧
    (∀ k, k ≠ 0 → k < 32 → v.cntLive pgLoop k = u.cntLive pgLoop k) ∧
    (∀ i, bitOf (v.raw pgLoop) i = bitOf (u.raw pgLoop) i) ∧ v.tile = u.tile ∧ v.mem = u.mem ∧ v.fr = u.fr := by
  refine ⟨_, congrArg (done s) h.start, ?_⟩
  rw [hu]
  refine ⟨?_, ?_, ?_, fun k h0 hk => ?_, fun i => ?_, ?_, ?_, ?_⟩
  · rw [settle_zn, State.zn_count, State.zn_pilotsOff, State.zn_periodBegun]
  · simp [State.periodBegun]
  · simp
  · rw [settle_cntLive_pgLoop _ _ hk]
    simp [h0]
  all_goals simp

/-- A zone due for a fault, or past its warm-up limit (R200, R201). -/
theorem fault {w : Zone} {c : Nat} (hw : s.limited x = w) (hruns : x.runs = true) (hdue : w.due = 4 + c) :
    Answers (exec .loopPeriodStart s) fun v => (v.zn z).st = .fault ∧ (v.zn z).cause = c ∧
      bitOf (v.raw pgLoop) 0 = true ∧ (v.tl (z / 4)).ready = false ∧
      v.cntLive pgLoop 6 = min (s.cntLive pgLoop 6 + 1) (2 ^ 64 - 1) := by
  obtain ⟨k, l, hu, -⟩ := h.turn (.inl hruns)
  have hwruns : w.emitted.runs = true := by
    rw [← hw]
    exact (State.limited_runs x).trans hruns
  rw [hw, State.zoneTurn_of_fault hwruns hdue] at hu
  obtain ⟨hkept, hready⟩ := ((s.relit k l).emits z w).zoneFaults_result z c
  obtain ⟨v, hv, hzn, -, -, hcnt, hraw, htile, -⟩ := h.answers hu
  have hzone : (((s.relit k l).emits z w).zoneFaults z c).zn z = (((s.relit k l).emits z w).inFault z c).zn z := by
    rw [State.zn, hkept.lp, ← State.zn]
  refine ⟨v, hv, ?_, ?_, ?_, ?_, ?_⟩
  · rw [hzn, hzone]
    simp [State.inFault, State.countRaise]
  · rw [hzn, hzone]
    simp [State.inFault, State.countRaise]
  · rw [hraw, hkept.raw, State.inFault, State.countRaise, bitOf_raw_raise]
    simp
  · rw [State.tl, htile]
    exact hready
  · rw [hcnt 6 (by decide) (by decide), hkept.cnt 6 (by decide)]
    simp [State.inFault, State.countRaise]
    rfl

/-- A running zone that is disabled, or whose group leaves A0 and A1 (Table 7.3, R211). -/
theorem stop (hruns : x.runs = true) (hin : s.overdue x = false) (hdue : x.due < 4)
    (hstop : x.en = false ∨ s.groupStays z = false) :
    Answers (exec .loopPeriodStart s) fun v => (v.zn z).st = .off ∧ (v.zn z).code = 0 := by
  obtain ⟨k, l, hu, -⟩ := h.turn (.inl hruns)
  rw [State.limited_of_in_time hin,
    State.zoneTurn_of_stop (x := x.emitted) hruns hdue (by rw [State.groupStays_emits]; exact hstop)] at hu
  obtain ⟨v, hv, hzn, -⟩ := h.answers hu
  exact ⟨v, hv, by simp [hzn, State.zoneOff]⟩

section
variable (hxen : x.en = true)
include hxen

/-- A zone due for lock (Table 7.3). -/
theorem lock (hstays : s.groupStays z = true) (hst : x.st = .warm) (hdue : x.due = 3) :
    Answers (exec .loopPeriodStart s) fun v => (v.zn z).st = .locked ∧ bitOf (v.raw pgLoop) 1 = true := by
  obtain ⟨k, l, hu, -⟩ := h.turn (.inl (by simp [Zone.runs, hst]))
  rw [State.limited_of_in_time (by simp [State.overdue, hdue]),
    State.zoneTurn_of_lock (x := x.emitted) (by rw [State.en_emits]; exact h.en) hxen
      (by rw [State.groupStays_emits]; exact hstays) hst hdue] at hu
  obtain ⟨v, hv, hzn, -, -, -, hraw, -⟩ := h.answers hu
  refine ⟨v, hv, ?_, ?_⟩
  · rw [hzn]
    simp
  · rw [hraw, bitOf_raw_raise]
    simp

/-- The transition of a running zone of which nothing is due, its output applied. -/
theorem running (hstays : s.groupStays z = true) (hruns : x.runs = true) (hin : s.overdue x = false) (hdue : x.due = 0) :
    ∃ c l, s.relight.zonePeriod z = ((s.relit c l).emits z x).setZn z x.emitted := by
  obtain ⟨k, l, hu, -⟩ := h.turn (.inl hruns)
  rw [State.limited_of_in_time hin, State.zoneTurn_of_running (x := x.emitted) (by rw [State.en_emits]; exact h.en) hxen
    (by rw [State.groupStays_emits]; exact hstays) hruns hdue] at hu
  exact ⟨k, l, hu⟩

/-- It outputs the code that its update left (R188). -/
theorem outputs {c : Nat} (hstays : s.groupStays z = true) (hruns : x.runs = true) (hin : s.overdue x = false)
    (hdue : x.due = 0) (hnext : x.next = some c) : Answers (exec .loopPeriodStart s) fun v =>
      v.zn z = { x with code := c, next := none, fresh := false, pilotOff := x.pilotOff || x.pilotShort } ∧
      v.lp.period = s.tb.tick / 16000 ∧ v.cntLive pgLoop 0 = min (s.cntLive pgLoop 0 + 1) (2 ^ 64 - 1) ∧
      v.tile = s.tile ∧ v.mem = s.mem ∧ v.fr = s.fr := by
  obtain ⟨k, l, hu⟩ := h.running hxen hstays hruns hin hdue
  rw [State.emits_of_some hnext] at hu
  obtain ⟨v, hv, hzn, hnum, hcnt, -, -, htile, hmem, hfr⟩ := h.answers hu
  refine ⟨v, hv, ?_, hnum, hcnt, htile, hmem, hfr⟩
  rw [hzn]
  simp [Zone.emitted, hruns, hnext]

/-- Without one it keeps its code, counted in CNT2 (R188). -/
theorem starved (hstays : s.groupStays z = true) (hruns : x.runs = true) (hin : s.overdue x = false)
    (hdue : x.due = 0) (hnext : x.next = none) : Answers (exec .loopPeriodStart s) fun v =>
      (v.zn z).code = x.code ∧ (v.zn z).st = x.st ∧ bitOf (v.raw pgLoop) 2 = true ∧
      v.cntLive pgLoop 2 = min (s.cntLive pgLoop 2 + 1) (2 ^ 64 - 1) := by
  obtain ⟨k, l, hu⟩ := h.running hxen hstays hruns hin hdue
  rw [State.emits_of_none hruns hnext] at hu
  obtain ⟨v, hv, hzn, -, -, hcnt, hraw, -⟩ := h.answers hu
  refine ⟨v, hv, ?_, ?_, ?_, ?_⟩
  · simp [hzn, Zone.emitted, hruns, hnext]
  · simp [hzn, Zone.emitted]
  · rw [hraw, State.raw_setZn, State.raw_setZn, State.countRaise, bitOf_raw_raise]
    simp
  · rw [hcnt 2 (by decide) (by decide)]
    simp [State.countRaise]
    rfl

/-- An enabled zone in OFF with coefficients and light enters WARM (Table 7.3). -/
theorem warmUp (hst : x.st = .off) (hlit : s.groupLit z = true) (hdue : x.due = 0) (hload : x.load = none)
    (hwork : x.work ≠ []) : Answers (exec .loopPeriodStart s) fun v => (v.zn z).st = .warm ∧ (v.zn z).s = x.target ∧
      (v.zn z).warmAt = s.tb.tick ∧ (v.zn z).x = [0, 0, 0, 0] ∧ (v.zn z).work = x.work := by
  obtain ⟨k, l, hu, hmono⟩ := h.turn (.inr hload)
  rw [State.limited_of_in_time (by simp [State.overdue, hst]),
    State.zoneTurn_of_start (x := x.emitted) (by rw [State.en_emits]; exact h.en) hxen hst
      (by rw [State.groupLit_emits]; exact State.groupLit_relit hmono hlit) hdue hwork] at hu
  obtain ⟨v, hv, hzn, -⟩ := h.answers hu
  exact ⟨v, hv, by simp [hzn, State.zoneWarm, Zone.predict, Zone.emitted, State.relit]⟩

end

end State.PeriodOf

end Sys2Proof.Machine
end

section
/-!
PROOFS. Stage shorts, the test signal and the capture (O39), and the statement.
-/
namespace Sys2Proof.Machine

variable {s : State}

/-! ### Fields of a word -/

theorem fld_lt (w hi lo : Nat) : fld w hi lo < 2 ^ (hi + 1 - lo) := Nat.mod_lt _ (Nat.two_pow_pos _)

theorem b2n_le_one (b : Bool) : b2n b ≤ 1 := by cases b <;> decide

theorem bitOf_of_eq_b2n {w i : Nat} {b : Bool} (h : w / 2 ^ i % 2 = b2n b) : bitOf w i = b := by
  rw [bitOf, h]
  cases b <;> rfl

theorem b2n_bitOf (w i : Nat) : b2n (bitOf w i) = w / 2 ^ i % 2 := by
  rcases Nat.mod_two_eq_zero_or_one (w / 2 ^ i) with h | h <;> rw [bitOf, h] <;> rfl

theorem fld_two_bits (w : Nat) : fld w 17 16 = b2n (bitOf w 16) + 2 * b2n (bitOf w 17) := by
  rw [b2n_bitOf, b2n_bitOf, fld]
  omega

/-! ### Stage shorts -/

/-- A sound column that fails is due for retirement (R170). -/
theorem State.colDue_colFails {t c : Nat} (hcol : bitOf (s.tl t).retired c = false) (hdue : c ∉ (s.tl t).colDue) :
    ((s.colFails t c).tl t).colDue = (s.tl t).colDue ++ [c] := by
  unfold State.colFails
  extract_lets x s1 y s2
  have hs2 : (s2.tl t).colDue = (s.tl t).colDue ++ [c] := by simp [s2, y, x]
  rw [if_neg (by simpa [x, hcol] using hdue)]
  split
  · exact (((Faulted.refl s2).frameFault 8 _).field Tile.colDue t).trans hs2
  · exact hs2

/-- A column stage of zone `z` is flagged. -/
def State.stageFlagged (s : State) (k : Nat) : State :=
  { s with lp := { s.lp with stageDue := tset false k true s.lp.stageDue } }

theorem opStageShort_of_column {z : Fin 1024} {c : Fin 130} (hoff : tget false (130 * z.val + c.val) s.lp.stageOff = false)
    (hdue : tget false (130 * z.val + c.val) s.lp.stageDue = false) : opStageShort z (some c) s =
      ((s.stageFlagged (130 * z.val + c.val)).countRaise pgLoop 7 6).colFails (z.val / 4) c.val := by
  unfold opStageShort
  dsimp only
  rw [if_neg (by simp [hoff, hdue])]
  rfl

theorem stageShort_column_answers {z : Fin 1024} {c : Fin 130}
    (hoff : tget false (130 * z.val + c.val) s.lp.stageOff = false)
    (hdue : tget false (130 * z.val + c.val) s.lp.stageDue = false)
    (hcol : bitOf (s.tl (z.val / 4)).retired c.val = false) (hnew : c.val ∉ (s.tl (z.val / 4)).colDue) :
    Answers (exec (.stageShort z (some c)) s) fun u => tget false (130 * z.val + c.val) u.lp.stageDue = true ∧
      u.cntLive pgLoop 7 = min (s.cntLive pgLoop 7 + 1) (2 ^ 64 - 1) ∧ bitOf (u.raw pgLoop) 6 = true ∧
      (u.tl (z.val / 4)).colDue = (s.tl (z.val / 4)).colDue ++ [c.val] ∧ ∀ k, u.zn k = s.zn k := by
  refine ⟨_, congrArg (done s) (opStageShort_of_column hoff hdue), ?_⟩
  obtain ⟨w, hw⟩ : ∃ w, w = (s.stageFlagged (130 * z.val + c.val)).countRaise pgLoop 7 6 := ⟨_, rfl⟩
  have hlp : w.lp = (s.stageFlagged (130 * z.val + c.val)).lp := by rw [hw]; rfl
  have htl (k : Nat) : w.tl k = s.tl k := by rw [hw]; rfl
  have hkept : LoopKept w (w.colFails (z.val / 4) c.val) := (LoopKept.refl w).colFails _ _
  rw [← hw]
  refine ⟨?_, ?_, ?_, ?_, fun k => ?_⟩
  · rw [settle_lp, hkept.lp, hlp]
    exact tget_tset_same false true _ _
  · rw [settle_cntLive_pgLoop, hkept.cnt 7 (by decide), hw]
    simp [State.countRaise]
    rfl
  · rw [settle_rawBit_pgLoop, hkept.raw, hw, State.countRaise, bitOf_raw_raise]
    simp
  · rw [settle_tl, State.colDue_colFails (by rwa [htl]) (by rwa [htl]), htl]
  · rw [settle_zn, State.zn, hkept.lp, hlp]
    rfl

/-! ### The test signal -/

/-- A write of TEST_CFG while nothing is injected (R208). -/
theorem opTestCfgWrite_of_idle {p : Path} (v : BitVec 32) (hp : s.mayPath p pgLoop = true)
    (hidle : bitOf (s.reg pgLoop 0x84) 31 = false) (hinj : s.lp.inj = false) : opTestCfgWrite p v s =
      { s.setReg pgLoop 0x84 (Nat.land v.toNat 0xE0FF03FF) with lp := { s.lp with injDue := bitOf v.toNat 31 } } := by
  have hmask : Nat.testBit 0xE0FF03FF 31 = true := by decide
  have hgo : bitOf (v.toNat &&& 0xE0FF03FF) 31 = bitOf v.toNat 31 := by
    rw [bitOf_eq, bitOf_eq, Nat.testBit_and, hmask, Bool.and_true]
  simp [opTestCfgWrite, hp, hidle, hinj, hgo]

theorem testCfgWrite_of_idle_answers {p : Path} {v : BitVec 32} (hp : s.mayPath p pgLoop = true)
    (hidle : bitOf (s.reg pgLoop 0x84) 31 = false) (hinj : s.lp.inj = false) :
    Answers (exec (.testCfgWrite p v) s) fun u => u.reg pgLoop 0x84 = Nat.land v.toNat 0xE0FF03FF ∧
      u.lp = { s.lp with injDue := bitOf v.toNat 31 } ∧ u.tile = s.tile ∧ u.mem = s.mem := by
  have hlt : Nat.land v.toNat 0xE0FF03FF < 2 ^ 32 := Nat.lt_of_le_of_lt Nat.and_le_right (by decide)
  refine ⟨_, congrArg (done s) (opTestCfgWrite_of_idle v hp hidle hinj), ?_, by simp, by simp, by simp⟩
  rw [settle_reg]
  exact (State.reg_setReg_same ..).trans (Nat.mod_eq_of_lt hlt)

/-! ### The capture -/

section
variable (active done refused : Bool) (n : Nat)
@[simp] theorem State.capStat_lp : (s.capStat active done refused n).lp = s.lp := rfl
@[simp] theorem State.capStat_mem : (s.capStat active done refused n).mem = s.mem := rfl
end

/-- A capture is armed where its buffer lies in the hub's store, aligned (R210). -/
theorem opCapArm_of_placed {p : Path} (hp : s.mayPath p pgLoop = true) (hhub : rangeInHub s.capAddr 131072 = true)
    (halign : s.capAddr % 4096 = 0) : opCapArm p s =
      { s.setReg pgLoop 0x98 0 with lp := { s.lp with capArmed := true, capOn := false } } := by
  simp [opCapArm, hp, hhub, halign, State.capStat, b2n]

theorem opCapArm_of_misplaced {p : Path} (hp : s.mayPath p pgLoop = true)
    (h : rangeInHub s.capAddr 131072 = false ∨ s.capAddr % 4096 ≠ 0) : opCapArm p s =
      s.capStat (bitOf (s.reg pgLoop 0x98) 16) (bitOf (s.reg pgLoop 0x98) 17) true (fld (s.reg pgLoop 0x98) 12 0) := by
  rcases h with h | h <;> simp [opCapArm, hp, h]

/-- No capture runs or is armed. -/
def State.noCapture (s : State) : State := { s with lp := { s.lp with capOn := false, capArmed := false } }

@[simp] theorem State.noCapture_capOn : s.noCapture.lp.capOn = false := rfl
@[simp] theorem State.noCapture_capArmed : s.noCapture.lp.capArmed = false := rfl
@[simp] theorem State.noCapture_mem : s.noCapture.mem = s.mem := rfl

theorem opCapStop_of_running {p : Path} (hp : s.mayPath p pgLoop = true) (h : s.lp.capOn = true ∨ s.lp.capArmed = true) :
    opCapStop p s = (s.noCapture.capStat false true (bitOf (s.reg pgLoop 0x98) 18) (fld (s.reg pgLoop 0x98) 12 0)).raise
      pgLoop 5 := by
  unfold opCapStop State.capEnd
  rw [if_pos hp, if_pos (by simpa using h)]
  rfl

/-- The fields of CAP_STAT: ACTIVE, DONE and REFUSED, and the count below the first two. -/
theorem State.capStat_fields (s : State) (active done refused : Bool) {n : Nat} (hn : n < 2 ^ 13) :
    bitOf ((s.capStat active done refused n).reg pgLoop 0x98) 16 = active ∧
    bitOf ((s.capStat active done refused n).reg pgLoop 0x98) 17 = done ∧
    bitOf ((s.capStat active done refused n).reg pgLoop 0x98) 18 = refused ∧
    fld ((s.capStat active done refused n).reg pgLoop 0x98) 17 0 = n + 2 ^ 16 * b2n active + 2 ^ 17 * b2n done := by
  rw [State.capStat, State.reg_setReg_same]
  have ha := b2n_le_one active
  have hd := b2n_le_one done
  have hr := b2n_le_one refused
  refine ⟨bitOf_of_eq_b2n ?_, bitOf_of_eq_b2n ?_, bitOf_of_eq_b2n ?_, ?_⟩
  · omega
  · omega
  · omega
  · rw [fld]
    omega

theorem capArm_of_misplaced_answers {p : Path} (hp : s.mayPath p pgLoop = true)
    (hbad : rangeInHub s.capAddr 131072 = false ∨ s.capAddr % 4096 ≠ 0) : Answers (exec (.capArm p) s) fun u =>
      u.lp = s.lp ∧ bitOf (u.reg pgLoop 0x98) 18 = true ∧ fld (u.reg pgLoop 0x98) 17 0 =
        fld (s.reg pgLoop 0x98) 17 16 * 2 ^ 16 + fld (s.reg pgLoop 0x98) 12 0 := by
  obtain ⟨-, -, href, hfld⟩ := State.capStat_fields s (bitOf (s.reg pgLoop 0x98) 16) (bitOf (s.reg pgLoop 0x98) 17) true
    (fld_lt (s.reg pgLoop 0x98) 12 0)
  refine ⟨_, congrArg (done s) (opCapArm_of_misplaced hp hbad), ?_, ?_, ?_⟩
  · rw [settle_lp, State.capStat_lp]
  · rw [settle_reg, href]
  · rw [settle_reg, hfld, fld_two_bits]
    omega

theorem capStop_of_running_answers {p : Path} (hp : s.mayPath p pgLoop = true)
    (h : s.lp.capOn = true ∨ s.lp.capArmed = true) : Answers (exec (.capStop p) s) fun u =>
      u.lp.capOn = false ∧ u.lp.capArmed = false ∧ bitOf (u.reg pgLoop 0x98) 17 = true ∧
      bitOf (u.reg pgLoop 0x98) 16 = false ∧ bitOf (u.raw pgLoop) 5 = true ∧ u.mem = s.mem := by
  obtain ⟨hactive, hdone, -⟩ := State.capStat_fields s.noCapture false true (bitOf (s.reg pgLoop 0x98) 18)
    (fld_lt (s.reg pgLoop 0x98) 12 0)
  refine ⟨_, congrArg (done s) (opCapStop_of_running hp h), ?_, ?_, ?_, ?_, ?_, ?_⟩
  · rw [settle_lp, State.raise_lp, State.capStat_lp, State.noCapture_capOn]
  · rw [settle_lp, State.raise_lp, State.capStat_lp, State.noCapture_capArmed]
  · rw [settle_reg, State.reg_raise, hdone]
  · rw [settle_reg, State.reg_raise, hactive]
  · rw [settle_rawBit_pgLoop, bitOf_raw_raise]
    simp
  · rw [settle_mem, State.raise_mem, State.capStat_mem, State.noCapture_mem]

/-! ### The obligation -/

/-- Settles O39: the zone update by `opZoneUpdate_of_runs`, the period start by `State.PeriodOf` and the zone's transition. -/
theorem loopPeriodsUpdateAndSuperviseZones : Obligations.LoopPeriodsUpdateAndSuperviseZones := by
  intro s p z x hx
  refine ⟨fun q0 q1 w hruns hfresh hload hen hcmd hcap hw n a hn => ?update, fun htick hbegan => ?again,
    fun htick hbegan hzone hcmd harmed hcapOn hinj hinjDue hperiod hen inTime hin => ?start,
    fun c hoff hdue hcol hnew => stageShort_column_answers hoff hdue hcol hnew, fun hshort => ?pilotShort,
    fun v hp hidle hinj => ?testCfg, fun hp => ⟨fun hhub halign => ?arm, fun hbad => ?armRefused, fun hrun => ?stop⟩⟩
  case update =>
    obtain rfl : w = x.atTarget := hw
    obtain ⟨hwork, hvalid, hmiss, hnext⟩ := Zone.update_result hn
    have hc : n.c 55 = x.c 55 := by rw [Zone.c, hwork, Zone.atTarget_work, Zone.c]
    rw [← hc]
    exact ⟨⟨hvalid, hmiss, hnext⟩, zoneUpdate_of_runs_answers hx hruns hfresh hload hen hcmd hcap hn⟩
  case again => exact congrArg (done s) (opLoopPeriodStart_of_begun (.inr hbegan))
  case start =>
    have h : s.PeriodOf z.val x := ⟨htick, hbegan, hzone, hcmd, harmed, hcapOn, hinj, hinjDue, hperiod, hen⟩
    subst hin
    refine ⟨fun c hruns hin hxen hstays hnext hdue =>
        h.outputs hxen hstays hruns (State.overdue_of_in_time hin) hdue hnext,
      fun hruns hin hxen hstays hnext hdue => h.starved hxen hstays hruns (State.overdue_of_in_time hin) hdue hnext,
      fun hst hxen hstays hdue => h.lock hxen hstays hst hdue,
      fun c _ hruns hdue => h.fault (State.limited_of_due_fault (by omega)) hruns hdue, fun hst hin hdue => ?_,
      fun hruns hin hdue hstop => h.stop hruns (State.overdue_of_in_time hin) hdue hstop,
      fun hst hxen hlit hdue hload hwork => h.warmUp hxen hst hlit hdue hload hwork⟩
    have hlate := State.overdue_of_late (by omega) hst hin
    obtain ⟨v, hv, hfault, hcause, hraw, -⟩ :=
      h.fault (State.limited_of_overdue hlate hdue) (by simp [Zone.runs, hst]) (c := 3) rfl
    exact ⟨v, hv, hfault, hcause, hraw⟩
  case pilotShort =>
    subst hx
    exact congrArg (done s) (if_neg (by simp [hshort]))
  case testCfg => exact testCfgWrite_of_idle_answers hp hidle hinj
  case arm => exact congrArg (done s) (opCapArm_of_placed hp hhub halign)
  case armRefused => exact capArm_of_misplaced_answers hp hbad
  case stop => exact capStop_of_running_answers hp hrun

end Sys2Proof.Machine
end

section
/-!
PROOFS. The start of a stream from an envelope (O43). The statement lets the queue memory window stand anywhere that
QMEM_BASE can name, as that of O40 does, R245 in tier-1 or tier-2 only: where a ring's slot is a granule of the queue
descriptor table and that granule is lost, the read of the envelope disables the queue's own descriptor (R515), and HEAD
counts on from 0.
-/
namespace Sys2Proof.Machine

/-- The stream engines take their starts from queue 0, whose next envelope stands where its own descriptor does; the granule
is lost. -/
def startInTable : State := (listInTable.setReg pgStream 0x10 1).setReg pgStream 0x40 (2 ^ 31)

theorem startInTable_ready : startInTable.en pgStream = true ∧ bitOf (startInTable.reg pgStream 0x40) 31 = true ∧
    fld (startInTable.reg pgStream 0x40) 17 0 = 0 ∧ (startInTable.qd 0).head = 64 := by decide +kernel

/-- What is consumed is poisoned zeros, and HEAD has moved on from that of a disabled descriptor. -/
theorem startInTable_consumes : (startInTable.consume 0).1 = some (List.replicate 64 0, true) ∧
    ((opStreamEnvStart startInTable).qd 0).head = 1 := by decide +kernel

/-- Refutes O43: an envelope without effect is to leave the queue, and HEAD is 1 where the statement asks for 65. -/
theorem not_streamsStartCheckStopAndClear : ¬ Obligations.StreamsStartCheckStopAndClear := by
  intro h
  obtain ⟨-, hstart, -⟩ := h startInTable 0 .pf 0
  obtain ⟨hen, henv, hq, hhead⟩ := startInTable_ready
  obtain ⟨hconsume, hmoved⟩ := startInTable_consumes
  obtain ⟨-, hinvalid⟩ := hstart 0 _ _ hen henv hq.symm hconsume
  obtain ⟨u, hu, -, hasked⟩ := hinvalid (.inl rfl)
  obtain rfl : settle startInTable (opStreamEnvStart startInTable) = u := Host.Outcome.next.inj hu
  have hkept : ((settle startInTable (opStreamEnvStart startInTable)).qd 0).head = 1 := by
    rw [State.qd, settle_q]
    exact hmoved
  rw [hkept, hhead] at hasked
  exact absurd hasked (by decide)

end Sys2Proof.Machine
end

section
/-!
PROOFS. What the statements about streams share (O44): a context's place in the state, what memory accesses, entries of the
event log and frame faults leave of the stream engines, and the fault of a stream.
-/
namespace Sys2Proof.Machine

/-! ### A context's place in the state -/

section
variable (s s0 : State)

@[simp] theorem State.cx_setCx (c : Nat) (x : Ctx) (k : Nat) : (s.setCx c x).cx k = if k = c then x else s.cx k := by
  simp [State.cx, State.setCx, tget_tset]

@[simp] theorem State.setCx_mem (c : Nat) (x : Ctx) : (s.setCx c x).mem = s.mem := rfl
@[simp] theorem State.setCx_fr (c : Nat) (x : Ctx) : (s.setCx c x).fr = s.fr := rfl
@[simp] theorem State.setCx_tile (c : Nat) (x : Ctx) : (s.setCx c x).tile = s.tile := rfl
@[simp] theorem State.setCx_link (c : Nat) (x : Ctx) : (s.setCx c x).link = s.link := rfl
@[simp] theorem State.cntLive_setCx (c : Nat) (x : Ctx) (p k : Nat) : (s.setCx c x).cntLive p k = s.cntLive p k := rfl

theorem State.cx_congr {u : State} (h : u.stm = s.stm) (k : Nat) : u.cx k = s.cx k := by
  rw [State.cx, h, State.cx]

@[simp] theorem settle_cx (k : Nat) : (settle s0 s).cx k = s.cx k := State.cx_congr _ (settle_stm _ _) k

@[simp] theorem settle_rawBit_pgStream (i : Nat) : bitOf ((settle s0 s).raw pgStream) i = bitOf (s.raw pgStream) i :=
  settle_rawBit _ _ _ _ (by simp [pgStream, pgCour]) (by simp [pgStream, pgSmb])

@[simp] theorem settle_cntLive_pgStream (k : Nat) : (settle s0 s).cntLive pgStream k = s.cntLive pgStream k :=
  settle_cntLive _ _ _ _ (by simp only [pgStream, pgHost]; omega)

/-- With no undo record open, a context's values are recorded nowhere. -/
theorem State.undoCtx_of_no_record {s : State} (h : s.curRec = none) (c : Nat) : s.undoCtx c = s := by
  have hundo (kind word id val : Nat) : s.undo kind word id val = s := by rw [State.undo, h]
  rw [State.undoCtx, hundo, hundo]

end

/-! ### What leaves the stream engines as they were -/

section
variable (s : State)

@[simp] theorem State.recErr_stm (p a src : Nat) : (s.recErr p a src).stm = s.stm := by
  unfold State.recErr
  split <;> rfl

@[simp] theorem State.sramLost_stm (src a : Nat) : (s.sramLost src a).stm = s.stm := by
  simp only [State.sramLost, State.recSram]
  split <;> rfl

@[simp] theorem State.unbacked_stm (a : Nat) : (s.unbacked a).stm = s.stm := by simp [State.unbacked]

@[simp] theorem State.useLine_stm (k l : Nat) (d : Bool) : (s.useLine k l d).stm = s.stm := by
  unfold State.useLine
  extract_lets c
  split <;> rfl

@[simp] theorem State.touch_stm (k a : Nat) (w : Bool) : (s.touch k a w).stm = s.stm := by
  unfold State.touch
  extract_lets u
  split
  · exact State.useLine_stm u _ _ _
  · rfl

@[simp] theorem State.wbLine_stm (k g : Nat) : (s.wbLine k g).stm = s.stm := by
  unfold State.wbLine
  split <;> simp

@[simp] theorem State.breakImage_stm (a : Nat) : (s.breakImage a).stm = s.stm := by
  unfold State.breakImage
  split <;> rfl

@[simp] theorem State.decodeCtl_stm (k src g : Nat) (dec : Dec) : (s.decodeCtl k src g dec).2.stm = s.stm := by
  unfold State.decodeCtl
  split
  · simp [State.invalShare]
  · dsimp only
    split <;> simp [State.corrected, State.setCtl]
  · dsimp only
    split <;> rfl

theorem State.withMem_stm (m : Memory) : ({ s with mem := m } : State).stm = s.stm := rfl

theorem State.forN_setQd_stm (n q : Nat) : (forN n (fun i u => u.setQd (q + i) {}) s).stm = s.stm :=
  forN_field (·.stm) (fun i u => u.setQd (q + i) {}) (fun _ _ => rfl) n s

@[simp] theorem State.decodeHub_stm (src g : Nat) (dec : Dec) : (s.decodeHub src g dec).2.stm = s.stm := by
  unfold State.decodeHub
  split
  · extract_lets d u q
    have hlost : u.stm = s.stm := State.sramLost_stm s src (64 * g)
    have hgone : (forN 4 (fun i v => v.setQd (q + i) {}) u).stm = s.stm := (State.forN_setQd_stm u 4 q).trans hlost
    split
    · exact (State.withMem_stm _ _).trans hgone
    · exact hlost
  · dsimp only
    split <;> rfl
  · rfl

@[simp] theorem State.lay_stm (src g : Nat) (data : List (Option Byte)) (poison : Bool) (dec : Dec) :
    (s.lay src g data poison dec).stm = s.stm := by
  unfold State.lay
  split
  · rfl
  · dsimp only
    split <;> simp

@[simp] theorem State.gWrite_stm (src g : Nat) (data : List (Option Byte)) (poison : Bool) (dec : Dec) :
    (s.gWrite src g data poison dec).stm = s.stm := by
  unfold State.gWrite
  split
  · simp
  · rfl
  · simp
  · split
    · simp
    · split
      · rfl
      · simp [State.invalShare]

@[simp] theorem State.log_stm (p code cls detail : Nat) : (s.log p code cls detail).stm = s.stm := by
  unfold State.log
  split
  · exact forL_field (·.stm) _ (fun _ _ => State.gWrite_stm ..) _ _
  · rfl

@[simp] theorem State.faultLog_stm (was : Bool) (p bit : Nat) : (s.faultLog was p bit).stm = s.stm := by
  unfold State.faultLog
  split <;> simp

@[simp] theorem State.flood_stm (except : Option Nat) (m : Bytes) : (s.flood except m).stm = s.stm :=
  forN_field (·.stm) _ (fun _ _ => by split <;> rfl) _ _

@[simp] theorem State.discardFrom_stm (g : Nat) : (s.discardFrom g).stm = s.stm := by
  unfold State.discardFrom
  extract_lets lo
  split
  · exact forN_field (·.stm) _ (fun _ _ => by dsimp only [State.discardFrame]; split <;> rfl) _ _
  · rfl

@[simp] theorem State.actVeto_stm (v : Veto) : (s.actVeto v).stm = s.stm := by
  unfold State.actVeto
  extract_lets u1 u2
  have hu : u2.stm = s.stm := State.discardFrom_stm u1 v.g
  split
  · split
    · split
      · exact hu
      · exact hu
    · exact hu
  · exact hu

@[simp] theorem State.declareVeto_stm (g : Nat) : (s.declareVeto g).stm = s.stm := by
  have hheld (u : State) : (u.holdVeto g).stm = u.stm := by
    unfold State.holdVeto
    split <;> rfl
  unfold State.declareVeto
  split
  · rfl
  · dsimp only
    split <;> simp [hheld]

@[simp] theorem State.frameFault_stm (src g : Nat) : (s.frameFault src g).stm = s.stm := by
  unfold State.frameFault
  extract_lets was u1 f1 u2 f2 u3 u4
  have h2 : u2.stm = s.stm := (apply_ite State.stm _ _ _).trans (ite_self _)
  have h3 : u3.stm = s.stm := by
    show (if _ then u2 else _ : State).stm = _
    split
    · exact h2
    · exact (State.faultLog_stm ..).trans h2
  simp [u4, h3]

end

/-! ### The fault of a stream -/

/-- A stream's fault is its context's alone (R234). -/
theorem State.cx_streamFault {s : State} (h : s.curRec = none) (c cause k : Nat) : (s.streamFault c cause).cx k =
    if k = c then { s.cx c with st := 5, cause := cause, reqs := [], buf := [], bufP := [], stop := false, env := none }
    else s.cx k := by
  unfold State.streamFault
  rw [State.undoCtx_of_no_record h]
  extract_lets was u1 x u2 u3
  have hstm : (u3.frameFault 10 u3.fr.num).stm = u2.stm := (State.frameFault_stm ..).trans (State.faultLog_stm ..)
  rw [State.cx_congr _ hstm]
  exact State.cx_setCx u1 c _ k

/-- A stream's fault raises STREAM_FAULT and a frame fault (R234, R402). -/
theorem State.streamFault_raises (s : State) (c cause : Nat) :
    bitOf ((s.streamFault c cause).raw pgStream) 0 = true ∧ bitOf ((s.streamFault c cause).raw pgFrame) 1 = true := by
  unfold State.streamFault
  extract_lets was u1 x u2 u3
  refine ⟨?_, State.frameFault_raises ..⟩
  have hlogged : Faulted ((u2.unbindCtx c).countRaise pgStream 13 0) (u3.frameFault 10 u3.fr.num) :=
    ((Faulted.refl _).logged ((Logged.refl _).faultLog was pgStream 0)).frameFault _ _
  refine hlogged.raised _ _ ?_
  rw [State.countRaise, bitOf_raw_raise]
  simp

end Sys2Proof.Machine
end

section
/-!
PROOFS. The next read of a stream (O44): what a context that contends has shown, and what the grant of its request leaves.
-/
namespace Sys2Proof.Machine

variable {s : State} {c : Nat}

/-! ### What a context wants -/

theorem reqSpan_le (a : Nat) : reqSpan a ≤ 256 := by
  unfold reqSpan
  split
  · split <;> omega
  · omega

/-- A request is of at most 256 bytes (R225). -/
theorem Ctx.span_le (x : Ctx) (a n m : Nat) : x.span a n m ≤ 256 := by
  refine (Nat.min_le_right _ _).trans ?_
  split
  · exact reqSpan_le a
  · exact Nat.le_refl 256

/-- A context that contends is ACTIVE and not stopping, and its bucket covers the request (R216, R220, R227). -/
theorem State.wants_cases {a len pt : Nat} {hit : Bool} (h : s.wants c = some (a, len, hit, pt)) :
    (s.cx c).st = 2 ∧ s.stopping c = false ∧ ((s.cx c).rate ≠ 0 → 16 * len ≤ (s.cx c).bucket) ∧ len ≤ 256 := by
  unfold State.wants at h
  extract_lets x at h
  split at h
  · cases h
  · next hst =>
    simp only [Bool.or_eq_true, decide_eq_true_eq, not_or, not_not, Bool.not_eq_true] at hst
    obtain ⟨hactive, hgoes⟩ := hst
    split at h
    · next b n m hsrc hdst =>
      extract_lets l hitOf tagOk at h
      split at h
      · next hok =>
        obtain ⟨rfl, rfl, rfl, rfl⟩ : b = a ∧ l = len ∧ hitOf = hit ∧ s.grantPoint x b hitOf = pt := by simpa using h
        simp only [Bool.and_eq_true, Bool.or_eq_true, beq_iff_eq, decide_eq_true_eq] at hok
        exact ⟨hactive, hgoes, hok.2.resolve_left, x.span_le _ _ _⟩
      · cases h
    · cases h

/-! ### The grant -/

/-- A context whose request of `len` bytes at `a` has been granted. -/
def Ctx.asks (x : Ctx) (a len : Nat) (hit : Bool) : Ctx :=
  { x with issued := x.issued + len, reqs := x.reqs ++ [⟨a, len, hit, false⟩],
           bucket := if x.rate = 0 then x.bucket else x.bucket - 16 * len }

/-- What accounting for a grant leaves as it was: the contexts, memory, the tiles, the frame unit and the links. -/
structure Accounted (s u : State) : Prop where
  ctx : u.stm.ctx = s.stm.ctx
  mem : u.mem = s.mem
  tile : u.tile = s.tile
  fr : u.fr = s.fr
  link : u.link = s.link

namespace Accounted
variable {u : State}

theorem refl (s : State) : Accounted s s := ⟨rfl, rfl, rfl, rfl, rfl⟩

theorem count (h : Accounted s u) (p k : Nat) : Accounted s (u.count p k) := ⟨h.ctx, h.mem, h.tile, h.fr, h.link⟩

theorem share (h : Accounted s u) (m : Share) : Accounted s { u with share := m } := ⟨h.ctx, h.mem, h.tile, h.fr, h.link⟩

theorem last (h : Accounted s u) (t : Tbl Nat) : Accounted s { u with stm := { u.stm with last := t } } :=
  ⟨h.ctx, h.mem, h.tile, h.fr, h.link⟩

theorem peak (h : Accounted s u) (t : Tbl Nat) : Accounted s { u with stm := { u.stm with peak := t } } :=
  ⟨h.ctx, h.mem, h.tile, h.fr, h.link⟩

theorem either {p : Prop} [Decidable p] {a b : State} (ha : Accounted s a) (hb : Accounted s b) :
    Accounted s (if p then a else b) := by
  split <;> assumption

end Accounted

/-- A granted request joins the outstanding ones; the rest is accounting (R222, R228, R241). -/
theorem opStreamReadIssue_of_granted {c : Fin 4096} {a len pt : Nat} {hit : Bool} (hen : s.en pgStream = true)
    (hwants : s.wants c.val = some (a, len, hit, pt)) (hgrant : s.granted c.val pt = true) :
    Accounted (s.setCx c.val ((s.cx c.val).asks a len hit)) (opStreamReadIssue c s) := by
  unfold opStreamReadIssue
  simp only [hen, hwants, hgrant, Bool.not_true, Bool.false_eq_true, if_false]
  have hjoined := Accounted.refl (s.setCx c.val ((s.cx c.val).asks a len hit))
  refine .either (.peak ?ranked _) ?ranked
  refine .either (.last ?shared _) ?shared
  refine .either (.share ?counted _) (.either (.share ?counted _) ?counted)
  exact .either (hjoined.count _ _) hjoined

/-- A context that wants no read, or is not granted, is unchanged. -/
theorem opStreamReadIssue_of_none {c : Fin 4096} (h : s.en pgStream = false ∨ s.wants c.val = none ∨
    ∃ a len hit pt, s.wants c.val = some (a, len, hit, pt) ∧ s.granted c.val pt = false) : opStreamReadIssue c s = s := by
  unfold opStreamReadIssue
  obtain hen | hwants | ⟨a, len, hit, pt, hwants, hgrant⟩ := h
  · simp [hen]
  · simp [hwants]
  · simp [hwants, hgrant]

/-- A stream's next read is issued (R225 to R228). -/
theorem streamReadIssue_answers {c : Fin 4096} {a len pt : Nat} {hit : Bool} (hen : s.en pgStream = true)
    (hwants : s.wants c.val = some (a, len, hit, pt)) (hgrant : s.granted c.val pt = true) :
    Answers (exec (.streamReadIssue c) s) fun u => u.cx c.val = (s.cx c.val).asks a len hit ∧
      (∀ k, k ≠ c.val → u.cx k = s.cx k) ∧ u.mem = s.mem ∧ u.tile = s.tile ∧ u.fr = s.fr ∧ u.link = s.link := by
  obtain ⟨hctx, hmem, htile, hfr, hlink⟩ := opStreamReadIssue_of_granted hen hwants hgrant
  have hcx (k : Nat) : (opStreamReadIssue c s).cx k = (s.setCx c.val ((s.cx c.val).asks a len hit)).cx k := by
    simp only [State.cx, hctx]
  refine answers_done ?_
  simp only [settle_cx, hcx, State.cx_setCx, if_true, settle_mem, settle_tile, settle_fr, settle_link]
  exact ⟨trivial, fun k hk => if_neg hk, hmem, htile, hfr, hlink⟩

end Sys2Proof.Machine
end

section
/-!
PROOFS. A granule of hub SRAM read and written by a stream (O44): what a sound one decodes to, what a write outside commit
windows leaves in memory, and the bytes that another agent has written in the frame.
-/
namespace Sys2Proof.Machine

/-! ### Bytes and marks -/

theorem Memory.length_read (m : Memory) (a n : Nat) : (m.read a n).length = n := by
  induction n generalizing a with
  | zero => rfl
  | succ n ih => simp [Memory.read, ih]

theorem Memory.getElem?_read (m : Memory) (a : Nat) {n i : Nat} (h : i < n) : (m.read a n)[i]? = some (m.byte (a + i)) := by
  induction n generalizing a i with
  | zero => omega
  | succ n ih =>
    cases i with
    | zero => rfl
    | succ i =>
      rw [Memory.read, List.getElem?_cons_succ, ih (a + 1) (by omega)]
      congr 2
      omega

/-- A granule as a whole write of it leaves memory (R354). -/
def Memory.laid (m : Memory) (g : Nat) (data : List (Option Byte)) (poison : Bool) : Memory :=
  ((m.writeEn (64 * g) data).setMark g poison).heal g

section
variable (m : Memory) {g : Nat} {data : List (Option Byte)} {poison : Bool}

theorem Memory.byte_laid (hlen : data.length = 64) {i : Nat} (hi : i < 64) :
    (m.laid g data poison).byte (64 * g + i) = (data.getD i none).getD (m.byte (64 * g + i)) :=
  Memory.byte_writeEn_inside data m (64 * g) i (by omega)

theorem Memory.byte_laid_outside (hlen : data.length = 64) {a : Nat} (h : a < 64 * g ∨ 64 * g + 64 ≤ a) :
    (m.laid g data poison).byte a = m.byte a :=
  Memory.byte_writeEn_outside data m (64 * g) a (by omega)

theorem Memory.mark_laid (k : Nat) : (m.laid g data poison).mark k = if k = g then poison else m.mark k := by
  show ((m.writeEn (64 * g) data).setMark g poison).mark k = _
  split
  · next hk => rw [hk, Memory.mark_setMark_same]
  · next hk =>
    rw [Memory.mark_setMark_ne _ _ hk, Memory.mark, Memory.writeEn_poison, Memory.mark]

end

/-! ### The read of a sound granule -/

section
variable {s : State} {g b : Nat}

/-- A granule that holds no error decodes as clean. -/
theorem State.found_of_no_error (h : tget 0 g s.mem.err = 0) : s.found g .clean = .clean := by
  simp [State.found, decOf, h]

/-- A read of a sound granule of hub SRAM gives its bytes and its mark, and changes nothing (R515). -/
theorem State.gRead_of_hub (hhub : regionOf (64 * g) = .hub b) (herr : tget 0 g s.mem.err = 0) (src : Nat) :
    s.gRead src g .clean = ((s.mem.read (64 * g) 64, s.mem.mark g), s) := by
  have hbytes : s.granBytes g = s.mem.read (64 * g) 64 := by
    unfold State.granBytes
    rw [hhub]
  unfold State.gRead
  rw [hhub]
  simp only [State.decodeHub, State.found_of_no_error herr, hbytes]

theorem State.granLost_of_hub (hhub : regionOf (64 * g) = .hub b) (herr : tget 0 g s.mem.err = 0) :
    s.granLost g .clean = false := by
  unfold State.granLost
  rw [hhub, State.found_of_no_error herr]
  rfl

/-- A stream's read of one such granule that no other agent has written since the last sync-cell operation. -/
theorem State.sReads_of_hub {c : Nat} (hhub : regionOf (64 * g) = .hub b) (herr : tget 0 g s.mem.err = 0)
    (hsync : ∀ bs, s.unsynced c g bs = (bs, s)) : s.sReads c g 1 [] =
      ((s.mem.read (64 * g) 64, [s.mem.mark g], if s.mem.mark g then 7 else 0), s) := by
  simp [State.sReads, State.gRead_of_hub hhub herr, hsync, State.granLost_of_hub hhub herr]

theorem State.rangeAwake_of_hub {a : Nat} (haddr : a % 64 = 0) (hhub : regionOf a = .hub b) : s.rangeAwake a 64 = true := by
  have hspan : granSpan a 64 = 1 := by
    rw [granSpan, if_neg (by decide)]
    omega
  have hfirst : 64 * (a / 64) = a := by omega
  simp [State.rangeAwake, hspan, hfirst, hhub]

end

/-! ### A write that other agents may contest -/

section
variable (s : State) (agent g : Nat) (data : List (Option Byte))

/-- A contested write is of the same bytes of the granule. -/
theorem State.contest_isSome : (s.contest agent g data).1.map Option.isSome = data.map Option.isSome := by
  unfold State.contest
  extract_lets at' n data'
  have hdata : data'.map Option.isSome = data.map Option.isSome := by
    simp only [data']
    split
    · rfl
    · rw [List.map_map]
      refine List.ext_getElem? fun i => ?_
      simp only [List.getElem?_map, List.getElem?_zipIdx]
      cases data[i]? with
      | none => rfl
      | some b => by_cases h : at' i <;> simp [h]
  split
  · rfl
  · exact hdata

/-- A byte that no other agent has written in the frame is written as it is (R230). -/
theorem State.contest_getD {i : Nat} (h : s.clash agent (64 * g + i) = false) :
    (s.contest agent g data).1.getD i none = data.getD i none := by
  unfold State.contest
  extract_lets at' n data'
  have hdata : data'.getD i none = data.getD i none := by
    simp only [data']
    split
    · rfl
    · simp only [List.getD_eq_getElem?_getD, List.getElem?_map, List.getElem?_zipIdx]
      cases data[i]? with
      | none => rfl
      | some b => simp [at', h]
  split
  · rfl
  · exact hdata

end

/-- The bytes written depend on the frame's notes, the free values drawn and the frame unit's state. -/
theorem State.contest_fst_congr {s u : State} (hwrote : u.stm.wrote = s.stm.wrote) (hst : u.fr.st = s.fr.st)
    (hfree : u.freeCtr = s.freeCtr) (agent g : Nat) (data : List (Option Byte)) :
    (u.contest agent g data).1 = (s.contest agent g data).1 := by
  simp only [State.contest, State.clash, hwrote, hst, hfree]
  split <;> rfl

section
variable {s : State} {agent g b : Nat} {data : List (Option Byte)}

theorem wholeGran_congr {x y : List (Option Byte)} (h : x.map Option.isSome = y.map Option.isSome) :
    wholeGran x = wholeGran y := by
  have hlen : x.length = y.length := by simpa using congrArg List.length h
  have hall : x.all Option.isSome = y.all Option.isSome := by
    simpa using congrArg (fun l : List Bool => l.all id) h
  rw [wholeGran, wholeGran, hlen, hall]

/-- A stream's write of a whole granule of hub SRAM, outside commit windows, is made to memory at once. -/
theorem State.agentWrite_of_hub (hhub : regionOf (64 * g) = .hub b) (hwins : s.fr.wins = []) (hwhole : wholeGran data = true)
    (src : Nat) (poison : Bool) : ∃ n w, s.agentWrite agent src g data poison =
      { s with freeCtr := n, stm := { s.stm with wrote := w }, mem := s.mem.laid g (s.contest agent g data).1 poison } := by
  have hwhole' : wholeGran (s.contest agent g data).1 = true := (wholeGran_congr (s.contest_isSome agent g data)).trans hwhole
  have hnoted := s.contest_snd agent g data
  unfold State.agentWrite
  extract_lets r
  have hout : r.2.inWindow (64 * g) = false := by
    rw [hnoted]
    simp [State.inWindow, hwins]
  refine ⟨r.2.freeCtr, r.2.stm.wrote, ?_⟩
  simp only [State.stageWrite, hout, Bool.false_eq_true, if_false, State.gWrite, hhub, State.lay, r, hwhole', if_true]
  rw [hnoted]
  rfl

end

end Sys2Proof.Machine
end

section
/-!
PROOFS. The data of an array-to-array stream lands (O44): the oldest request of a context, one sound granule of hub SRAM, is
delivered to hub SRAM, or faults an exact stream when it is poisoned.
-/
namespace Sys2Proof.Machine

/-- Context `c`, in the state `x`, is an ACTIVE stream from array to array, whose oldest request `r` before `rs` is one sound
granule of hub SRAM, in order with the other agents' writes; `d` is its destination in hub SRAM. No commit window, no check
unit and no undo record takes part. -/
structure State.CopiesGranule (s : State) (c : Nat) (x : Ctx) (r : SReq) (rs : List SReq) (d : Nat) : Prop where
  ctx : s.cx c = x
  reqs : x.reqs = r :: rs
  en : s.en pgStream = true
  active : x.st = 2
  goes : x.stop = false
  kind : x.kind = 0
  srcArray : x.srcG.ring = false
  dstArray : x.dstG.ring = false
  len : r.len = 64
  miss : r.hit = false
  srcWhole : r.addr % 64 = 0
  srcHub : ∃ b, regionOf r.addr = .hub b
  place : d = x.dstBase + x.pos
  dstWhole : d % 64 = 0
  dstHub : ∃ b, regionOf d = .hub b
  mayRead : s.mayPhys x.tenant r.addr false = true
  mayWrite : s.mayPhys x.tenant d true = true
  noWindow : s.fr.wins = []
  noUnit : s.unitOf c = none
  noRecord : s.curRec = none
  sound : tget 0 (r.addr / 64) s.mem.err = 0
  inOrder : ∀ bs, s.unsynced c (r.addr / 64) bs = (bs, s)

namespace State.CopiesGranule
variable {s : State} {c : Nat} {x : Ctx} {r : SReq} {rs : List SReq} {d : Nat}

theorem srcGranule (h : s.CopiesGranule c x r rs d) : 64 * (r.addr / 64) = r.addr := by
  have := h.srcWhole
  omega

theorem dstGranule (h : s.CopiesGranule c x r rs d) : 64 * (d / 64) = d := by
  have := h.dstWhole
  omega

/-! ### What lands -/

/-- The request's data is the source granule, with its mark. -/
theorem landData (h : s.CopiesGranule c x r rs d) : s.landData c r [] =
    ((s.mem.read r.addr 64, [s.mem.mark (r.addr / 64)], if s.mem.mark (r.addr / 64) then 7 else 0), s) := by
  obtain ⟨b, hhub⟩ := h.srcHub
  rw [← h.srcGranule] at hhub
  have hread := State.sReads_of_hub hhub h.sound h.inOrder
  rw [h.srcGranule] at hread
  simp [State.landData, h.ctx, h.kind, h.mayRead, h.miss, h.len, hread]

end State.CopiesGranule

/-! ### What is delivered -/

section
variable (s : State) (c : Nat) (x : Ctx) (rs : List SReq) (m : Bool)

/-- The context once the granule is taken off its requests. -/
def Ctx.received (x : Ctx) (rs : List SReq) (m : Bool) : Ctx := { x with reqs := rs, pois := m || x.pois }

@[simp] theorem State.cx_countN (p k n i : Nat) : (s.countN p k n).cx i = s.cx i := rfl
@[simp] theorem State.cx_raise (p b i : Nat) : (s.raise p b).cx i = s.cx i := rfl

/-- A poisoned granule is delivered: the context, CNT12 and POISON (R235). -/
theorem State.poisonDelivered_one :
    s.poisonDelivered c 1 = ((s.setCx c { s.cx c with pois := true }).countN pgStream 12 1).raise pgStream 1 := by
  simp [State.poisonDelivered]

theorem State.poisonDelivered_zero : s.poisonDelivered c 0 = s := rfl

theorem State.poisonDelivered_frame (n : Nat) : ∃ cnt evRaw ctx, s.poisonDelivered c n =
    { s with cnt, evRaw, stm := { s.stm with ctx } } := by
  unfold State.poisonDelivered
  split
  · exact ⟨_, _, _, rfl⟩
  · exact ⟨_, _, _, rfl⟩

/-- The request is off the list; poison and bytes are counted (R235, R241). -/
def State.received : State :=
  ((s.setCx c { x with reqs := rs }).poisonDelivered c (b2n m)).countN pgStream 1 64

theorem State.received_frame : ∃ cnt evRaw ctx, s.received c x rs m =
    { s with cnt, evRaw, stm := { s.stm with ctx } } := by
  obtain ⟨cnt, evRaw, ctx, hpois⟩ := (s.setCx c { x with reqs := rs }).poisonDelivered_frame c (b2n m)
  rw [State.received, hpois]
  exact ⟨_, _, _, rfl⟩

theorem State.cx_received (k : Nat) : (s.received c x rs m).cx k = if k = c then x.received rs m else s.cx k := by
  cases m with
  | false => exact s.cx_setCx c _ k
  | true => by_cases hk : k = c <;> simp [State.received, State.poisonDelivered_one, b2n, Ctx.received, hk]

theorem State.cntLive_received : (s.received c x rs m).cntLive pgStream 1 = min (s.cntLive pgStream 1 + 64) (2 ^ 64 - 1) ∧
    (s.received c x rs m).cntLive pgStream 12 =
      if m then min (s.cntLive pgStream 12 + 1) (2 ^ 64 - 1) else s.cntLive pgStream 12 := by
  cases m <;> simp [State.received, State.poisonDelivered_zero, State.poisonDelivered_one, b2n]

end

/-- What lands for an array, not a ring, is written at the stream's position (R216). -/
theorem State.toMemory_of_array {s u : State} {c : Nat} {bs : Bytes} {ms : List Bool} (hring : (s.cx c).dstG.ring = false)
    (hu : s.writePiece c (s.cx c).tenant ((s.cx c).dstBase + (s.cx c).pos) bs ms = u) (hunit : u.unitOf c = none) :
    s.toMemory c bs ms = u.setCx c { u.cx c with pos := (s.cx c).pos + bs.length } := by
  have hcover : u.coverCtx c bs = u := by rw [State.coverCtx, hunit]
  simp [State.toMemory, hring, hu, hcover]

/-- A piece of one granule that the protection map allows. -/
theorem State.writePiece_of_granule {s : State} {c tenant a : Nat} {bs : Bytes} {m : Bool} (hlen : bs.length = 64)
    (hmay : s.mayPhys tenant a true = true) : s.writePiece c tenant a bs [m] = s.agentWrite c 0 (a / 64) (bs.map some) m := by
  have hgran : granOf bs 0 = bs := List.take_of_length_le (by simp [hlen])
  simp [State.writePiece, forL, hmay, hgran]

/-- The state once the granule at `a` has been delivered for the context `x`. -/
def State.delivered (s : State) (c : Nat) (x : Ctx) (rs : List SReq) (a : Nat) : State :=
  (s.received c x rs (s.mem.mark (a / 64))).toMemory c (s.mem.read a 64) [s.mem.mark (a / 64)]

/-- The bytes of the granule at `a` as context `c` writes them to `d`. -/
def State.copied (s : State) (c a d : Nat) : List (Option Byte) := (s.contest c (d / 64) ((s.mem.read a 64).map some)).1

namespace State.CopiesGranule
variable {s : State} {c : Nat} {x : Ctx} {r : SReq} {rs : List SReq} {d : Nat} {m : Bool}

theorem delivered_eq (h : s.CopiesGranule c x r rs d) (hm : s.mem.mark (r.addr / 64) = m) : ∃ n w,
    s.delivered c x rs r.addr = State.setCx { s.received c x rs m with
      freeCtr := n, stm := { (s.received c x rs m).stm with wrote := w }, mem := s.mem.laid (d / 64) (s.copied c r.addr d) m }
      c { x.received rs m with pos := x.pos + 64 } := by
  obtain ⟨b, hhub⟩ := h.dstHub
  rw [← h.dstGranule] at hhub
  rw [State.delivered, hm]
  have hcx : (s.received c x rs m).cx c = x.received rs m := by rw [State.cx_received, if_pos rfl]
  obtain ⟨cnt, evRaw, ctx, hframe⟩ := s.received_frame c x rs m
  generalize s.received c x rs m = u at hcx hframe ⊢
  have hplace : (u.cx c).dstBase + (u.cx c).pos = d := by rw [hcx, h.place]; rfl
  have hring : (u.cx c).dstG.ring = false := by rw [hcx]; exact h.dstArray
  have hcopied : (u.contest c (d / 64) ((s.mem.read r.addr 64).map some)).1 = s.copied c r.addr d :=
    State.contest_fst_congr (s := s) (by rw [hframe]) (by rw [hframe]) (by rw [hframe]) c _ _
  have hmem : u.mem = s.mem := by rw [hframe]
  have hpiece : u.writePiece c (u.cx c).tenant d (s.mem.read r.addr 64) [m] =
      u.agentWrite c 0 (d / 64) ((s.mem.read r.addr 64).map some) m := by
    refine State.writePiece_of_granule (s.mem.length_read r.addr 64) ?_
    rw [hcx, hframe]
    exact h.mayWrite
  obtain ⟨n, w, hwrite⟩ := State.agentWrite_of_hub (s := u) (agent := c) (data := (s.mem.read r.addr 64).map some) hhub
    (by rw [hframe]; exact h.noWindow) (by simp [wholeGran, Memory.length_read]) 0 m
  rw [hcopied, hmem] at hwrite
  refine ⟨n, w, ?_⟩
  rw [State.toMemory_of_array hring (by rw [hplace, hpiece, hwrite]) (by rw [hframe]; exact h.noUnit), s.mem.length_read, hcx]
  exact congrArg (State.setCx _ c) (congrArg (fun y : Ctx => { y with pos := x.pos + 64 }) hcx)

theorem cx_delivered (h : s.CopiesGranule c x r rs d) (hm : s.mem.mark (r.addr / 64) = m) (k : Nat) :
    (s.delivered c x rs r.addr).cx k = if k = c then { x.received rs m with pos := x.pos + 64 } else s.cx k := by
  obtain ⟨n, w, heq⟩ := h.delivered_eq hm
  rw [heq, State.cx_setCx]
  split
  · rfl
  · next hk => exact (s.cx_received c x rs m k).trans (if_neg hk)

/-- Apart from the stream's context, its counts and events, a delivery changes memory alone. -/
theorem delivered_rest (h : s.CopiesGranule c x r rs d) (hm : s.mem.mark (r.addr / 64) = m) {v : State}
    (hv : s.delivered c x rs r.addr = v) : v.mem = s.mem.laid (d / 64) (s.copied c r.addr d) m ∧ v.fr = s.fr ∧ v.rg = s.rg ∧
      v.chk = s.chk ∧ v.tile = s.tile ∧ v.link = s.link ∧
      ∀ k, v.cntLive pgStream k = (s.received c x rs m).cntLive pgStream k := by
  obtain ⟨n, w, heq⟩ := h.delivered_eq hm
  obtain ⟨cnt, evRaw, ctx, hframe⟩ := s.received_frame c x rs m
  rw [← hv, heq]
  refine ⟨rfl, ?_, ?_, ?_, ?_, ?_, fun _ => rfl⟩ <;> rw [hframe] <;> rfl

end State.CopiesGranule

/-! ### The command -/

/-- A context whose stream is done. -/
def Ctx.finished (x : Ctx) : Ctx := { x with st := 3, reqs := [], buf := [], bufP := [], stop := false }

/-- The end of a stream that no check unit is bound to (R216, R217). -/
theorem State.streamDone_of_unbound {s : State} {c : Nat} (hunit : s.unitOf c = none) (hrec : s.curRec = none) :
    ∃ fr, s.streamDone c = { s.setCx c (s.cx c).finished with fr } := by
  simp only [State.streamDone, State.undoCtx_of_no_record hrec, hunit, Bool.false_eq_true, if_false]
  split
  · split <;> exact ⟨_, rfl⟩
  · exact ⟨_, rfl⟩

/-- An array is no ring, whose slots are freed. -/
theorem State.srcFree_of_array {s : State} {c : Nat} {x : Ctx} (hx : s.cx c = x) (hkind : x.kind = 0)
    (hring : x.srcG.ring = false) (len : Nat) : s.srcFree c len = s := by
  simp [State.srcFree, hx, hkind, hring]

section
variable {s : State} {c : Fin 4096} {x : Ctx} {r : SReq} {rs : List SReq} {d : Nat} {m : Bool}

/-- The data is delivered unless it is poisoned and the stream exact; an array's last byte ends the stream (R216, R234). -/
theorem opStreamReadData_of_copy (h : s.CopiesGranule c.val x r rs d) (hm : s.mem.mark (r.addr / 64) = m) :
    opStreamReadData c [] s =
      if m = true ∧ x.tolerant = false then s.streamFault c.val 7
      else if x.length ≤ x.pos + 64 then (s.delivered c.val x rs r.addr).streamDone c.val
      else s.delivered c.val x rs r.addr := by
  obtain ⟨b, hhub⟩ := h.srcHub
  have hport : x.port = none := by simp [Ctx.port, h.kind]
  have hgrants : s.portGrants c.val = true := by simp [State.portGrants, h.ctx, hport]
  have hawake : s.rangeAwake r.addr 64 = true := State.rangeAwake_of_hub h.srcWhole hhub
  have hland := h.landData
  have hfree : (s.setCx c.val { x with reqs := rs }).srcFree c.val 64 = s.setCx c.val { x with reqs := rs } :=
    State.srcFree_of_array (x := { x with reqs := rs }) (by simp) h.kind h.srcArray 64
  have hcount : ([m].filter id).length = b2n m := by cases m <;> rfl
  have hdelivered : State.toMemory (((s.setCx c.val { x with reqs := rs }).poisonDelivered c.val (b2n m)).countN pgStream 1 64)
      c.val (s.mem.read r.addr 64) [m] = s.delivered c.val x rs r.addr := by rw [State.delivered, hm]; rfl
  have htotal : x.total = x.length := by simp [Ctx.total, h.kind]
  have hcx := h.cx_delivered hm c.val
  rw [if_pos rfl] at hcx
  have hactive : ((s.delivered c.val x rs r.addr).cx c.val).st = 2 := hcx ▸ h.active
  have hpos : ((s.delivered c.val x rs r.addr).cx c.val).pos = x.pos + 64 := hcx ▸ rfl
  have hgoes : (s.delivered c.val x rs r.addr).stopping c.val = false := by
    rw [State.stopping, hcx]
    exact congrArg (· && _) h.goes
  rw [hm] at hland
  obtain ⟨hnotWeight, hnotTiles, hnotLink⟩ : ¬ x.kind = 1 ∧ ¬ x.kind = 2 ∧ ¬ x.kind = 4 := by simp [h.kind]
  unfold opStreamReadData
  simp only [h.ctx, h.reqs, hgrants, hport, State.undoCtx_of_no_record h.noRecord, hland, h.len, hnotWeight, hnotTiles,
    hnotLink, hfree, hcount, hdelivered, hactive, hpos, hgoes, htotal, decide_false, decide_true, Bool.false_and,
    Bool.true_and, Bool.not_true, Bool.false_eq_true, if_false, ne_eq, not_true_eq_false, not_false_eq_true, decide_eq_true_eq]
  cases m <;> cases htol : x.tolerant <;> simp [h.en, h.active, hawake]

/-- The stream goes on, or is DONE with its last byte (R216). -/
theorem opStreamReadData_of_sound (h : s.CopiesGranule c.val x r rs d) (hm : s.mem.mark (r.addr / 64) = m)
    (hgood : m = false ∨ x.tolerant = true) : ∃ u, opStreamReadData c [] s = u ∧
      u.mem = s.mem.laid (d / 64) (s.copied c.val r.addr d) m ∧ u.tile = s.tile ∧ u.link = s.link ∧
      (∀ k, u.cntLive pgStream k = (s.received c.val x rs m).cntLive pgStream k) ∧ (∀ k, k ≠ c.val → u.cx k = s.cx k) ∧
      (u.cx c.val).pos = x.pos + 64 ∧ (x.pos + 64 < x.length → (u.cx c.val).reqs = rs ∧ (u.cx c.val).st = 2) ∧
      (x.length ≤ x.pos + 64 → (u.cx c.val).st = 3) := by
  have hsound : ¬ (m = true ∧ x.tolerant = false) := by
    rintro ⟨rfl, hexact⟩
    simp [hexact] at hgood
  obtain ⟨v, hv⟩ : ∃ v, s.delivered c.val x rs r.addr = v := ⟨_, rfl⟩
  obtain ⟨hmem, hfr, hrg, hchk, htile, hlink, hcnt⟩ := h.delivered_rest hm hv
  have hcx := h.cx_delivered hm
  rw [opStreamReadData_of_copy h hm, if_neg hsound]
  rw [hv] at hcx ⊢
  by_cases hlast : x.length ≤ x.pos + 64
  · obtain ⟨fr, hdone⟩ := State.streamDone_of_unbound (s := v) (c := c.val)
      (by rw [State.unitOf, hchk]; exact h.noUnit) (by rw [State.curRec, hfr, hrg]; exact h.noRecord)
    rw [if_pos hlast, hdone]
    have hend (k : Nat) : State.cx { v.setCx c.val (v.cx c.val).finished with fr } k =
        if k = c.val then (v.cx c.val).finished else v.cx k := v.cx_setCx c.val _ k
    refine ⟨_, rfl, hmem, htile, hlink, hcnt, fun k hk => ?_, ?_, fun hmore => by omega, fun _ => ?_⟩
    · rw [hend, if_neg hk, hcx, if_neg hk]
    · rw [hend, if_pos rfl, hcx, if_pos rfl]
      rfl
    · rw [hend, if_pos rfl]
      rfl
  · rw [if_neg hlast]
    refine ⟨v, rfl, hmem, htile, hlink, hcnt, fun k hk => by rw [hcx, if_neg hk], ?_, fun _ => ?_, fun h => absurd h hlast⟩
    · rw [hcx, if_pos rfl]
    · rw [hcx, if_pos rfl]
      exact ⟨rfl, h.active⟩

/-- What a delivery leaves in memory and in the counters (R228, R230, R235, R241). -/
theorem streamReadData_delivers (h : s.CopiesGranule c.val x r rs d) (hm : s.mem.mark (r.addr / 64) = m)
    (hgood : m = false ∨ x.tolerant = true) : Answers (exec (.streamReadData c []) s) fun u =>
      (∀ i, i < 64 → s.clash c.val (d + i) = false → u.mem.byte (d + i) = s.mem.byte (r.addr + i)) ∧
      u.mem.mark (d / 64) = m ∧ (∀ a, (a < d ∨ d + 64 ≤ a) → u.mem.byte a = s.mem.byte a) ∧
      (∀ g, g ≠ d / 64 → u.mem.mark g = s.mem.mark g) ∧ (u.cx c.val).pos = x.pos + 64 ∧
      u.cntLive pgStream 1 = min (s.cntLive pgStream 1 + 64) (2 ^ 64 - 1) ∧
      u.cntLive pgStream 12 = (if m then min (s.cntLive pgStream 12 + 1) (2 ^ 64 - 1) else s.cntLive pgStream 12) ∧
      (x.pos + 64 < x.length → (u.cx c.val).reqs = rs ∧ (u.cx c.val).st = 2) ∧
      (x.length ≤ x.pos + 64 → (u.cx c.val).st = 3) ∧ (∀ k, k ≠ c.val → u.cx k = s.cx k) ∧ u.tile = s.tile ∧
      u.link = s.link := by
  obtain ⟨u, hu, hmem, htile, hlink, hcnt, hothers, hpos, hmore, hlast⟩ := opStreamReadData_of_sound h hm hgood
  obtain ⟨hbytes, hpoison⟩ := s.cntLive_received c.val x rs m
  have hlen : (s.copied c.val r.addr d).length = 64 := by
    have := congrArg List.length (s.contest_isSome c.val (d / 64) ((s.mem.read r.addr 64).map some))
    simpa [State.copied, Memory.length_read] using this
  refine answers_done ?_
  simp only [hu, settle_mem, settle_cx, settle_cntLive_pgStream, settle_tile, settle_link, hmem, hcnt]
  refine ⟨fun i hi hclash => ?_, ?_, fun a ha => ?_, fun g hg => ?_, hpos, hbytes, hpoison, hmore, hlast, hothers, htile, hlink⟩
  · have hbyte := s.mem.byte_laid (g := d / 64) (poison := m) hlen hi
    rw [h.dstGranule] at hbyte
    rw [hbyte, State.copied, State.contest_getD _ _ _ _ (by rw [h.dstGranule]; exact hclash), List.getD_eq_getElem?_getD,
      List.getElem?_map, s.mem.getElem?_read _ hi]
    rfl
  · rw [Memory.mark_laid, if_pos rfl]
  · exact s.mem.byte_laid_outside hlen (by rw [h.dstGranule]; exact ha)
  · rw [Memory.mark_laid, if_neg hg]

/-- An exact stream is given no poisoned granule (R234, Table 8.6). -/
theorem streamReadData_faults (h : s.CopiesGranule c.val x r rs d) (hm : s.mem.mark (r.addr / 64) = true)
    (hexact : x.tolerant = false) : Answers (exec (.streamReadData c []) s) fun u => (u.cx c.val).st = 5 ∧
      (u.cx c.val).cause = 7 ∧ (u.cx c.val).pos = x.pos ∧ bitOf (u.raw pgStream) 0 = true ∧ bitOf (u.raw pgFrame) 1 = true := by
  have hfault : opStreamReadData c [] s = s.streamFault c.val 7 := by
    rw [opStreamReadData_of_copy h hm, if_pos ⟨rfl, hexact⟩]
  obtain ⟨hstream, hframe⟩ := s.streamFault_raises c.val 7
  refine answers_done ?_
  simp only [hfault, settle_cx, settle_rawBit_pgStream, settle_rawBit_pgFrame, State.cx_streamFault h.noRecord, if_true, h.ctx]
  exact ⟨trivial, trivial, trivial, hstream, hframe⟩

end

/-- Settles O44: the grant by `streamReadIssue_answers`, the data by the two outcomes of `opStreamReadData_of_copy`. -/
theorem streamReadsAreGrantedAndDelivered : Obligations.StreamReadsAreGrantedAndDelivered := by
  intro s c
  refine ⟨fun a len hit pt hen hwants hgrant => ?_, fun h => congrArg (done s) (opStreamReadIssue_of_none h), ?_⟩
  · obtain ⟨hactive, hgoes, hbucket, hlen⟩ := State.wants_cases hwants
    exact ⟨hactive, hgoes, hbucket, hlen, streamReadIssue_answers hen hwants hgrant⟩
  · intro x r rs d b b' tol hctx hreqs hen hactive hgoes hkind hsrc hdst htol hlen hmiss hwhole hhub hplace hwhole' hhub' hread
      hwrite hwins hunit hrec hsound horder
    have hcopy : s.CopiesGranule c.val x r rs d := ⟨hctx, hreqs, hen, hactive, hgoes, hkind, hsrc, hdst, hlen, hmiss, hwhole,
      ⟨b, hhub⟩, hplace, hwhole', ⟨b', hhub'⟩, hread, hwrite, hwins, hunit, hrec, hsound, horder⟩
    exact ⟨fun hgood => streamReadData_delivers hcopy rfl (htol ▸ hgood),
      fun hmark hexact => streamReadData_faults hcopy hmark (htol.trans hexact)⟩

end Sys2Proof.Machine
end

section
/-!
PROOFS. Doorbells, held descriptor and profile writes, and the diversion window (O45): the judgement of Table 9.4 as one
equation per outcome, and what a profile word keeps of the bits that are written.
-/
namespace Sys2Proof.Machine

/-! ### The queue page through the interrupt outputs -/

section
variable (s s0 : State)

@[simp] theorem settle_qd (q : Nat) : (settle s0 s).qd q = s.qd q := by simp [State.qd]

@[simp] theorem settle_rawBit_pgQueue (i : Nat) : bitOf ((settle s0 s).raw pgQueue) i = bitOf (s.raw pgQueue) i :=
  settle_rawBit _ _ _ _ (by simp [pgQueue, pgCour]) (by simp [pgQueue, pgSmb])

@[simp] theorem settle_cntLive_pgQueue {k : Nat} (hk : k < 32 := by decide) :
    (settle s0 s).cntLive pgQueue k = s.cntLive pgQueue k :=
  settle_cntLive _ _ _ _ (by simp only [pgQueue, pgHost]; omega)

/-! ### The outcome of a doorbell -/

@[simp] theorem State.dbOutcome_q (q o k : Nat) :
    (s.dbOutcome q o k).q = { s.q with lastDb := tset 0 q o s.q.lastDb } := rfl

@[simp] theorem State.dbOutcome_mem (q o k : Nat) : (s.dbOutcome q o k).mem = s.mem := rfl
@[simp] theorem State.dbOutcome_sy (q o k : Nat) : (s.dbOutcome q o k).sy = s.sy := rfl

theorem State.cntLive_dbOutcome (q o k : Nat) :
    (s.dbOutcome q o k).cntLive pgQueue k = min (s.cntLive pgQueue k + 1) (2 ^ 64 - 1) := by
  simp only [State.dbOutcome, State.cntLive_count, if_true]
  rfl

end

section
variable {s : State} {fn : Fin 16} {q : Fin 262144} {v : BitVec 64} {d : QDesc} (hmay : s.mayQueue fn.val q.val = true)
  (hd : s.qd q.val = d)

/-- The HEAD that a KIND 3 queue is to have at the next boundary (R252). -/
def State.dueHead (s : State) (q : Nat) (d : QDesc) : Nat := (tget none q s.q.headDue).getD d.head

/-- A doorbell's value is invalid (R252, Table 9.4). -/
def State.badDoorbell (s : State) (q v : Nat) (d : QDesc) : Prop :=
  2 ^ 21 ≤ v ∨ (d.kind ≠ 2 ∧ d.kind ≠ 3) ∨
    (d.kind = 2 ∧ 2 ^ d.log2sz - posDiff d.tail d.head < posDiff (v % 2 ^ 21) d.tail ∧
      2 ^ d.log2sz < posDiff (v % 2 ^ 21) d.tail) ∨
    (d.kind = 3 ∧ posDiff d.admPos (s.dueHead q d) < posDiff (v % 2 ^ 21) (s.dueHead q d))

theorem opDoorbell_of_other (h : s.mayQueue fn.val q.val = false) : opDoorbell fn q v s = s.violate fn.val 1 := by
  simp [opDoorbell, h]

include hmay hd

theorem opDoorbell_of_bad (hbad : s.badDoorbell q.val v.toNat d) : opDoorbell fn q v s = s.dbOutcome q.val 2 4 := by
  unfold opDoorbell
  extract_lets d' v' new
  obtain rfl : d' = d := hd
  rw [if_neg (by simp [hmay])]
  split
  · rfl
  · next hsmall =>
    obtain hbig | ⟨h2, h3⟩ | ⟨h2, hroom, hring⟩ | ⟨h3, hpast⟩ := hbad
    · exact absurd hbig hsmall
    · rw [if_neg h2, if_neg h3]
    · rw [if_pos h2]
      exact (if_neg (Nat.not_le.2 hroom)).trans (if_neg (Nat.not_le.2 hring))
    · rw [if_neg (by omega), if_pos h3]
      exact if_neg (Nat.not_le.2 hpast)

theorem opDoorbell_of_room (hv : v.toNat < 2 ^ 21) (hkind : d.kind = 2)
    (hroom : posDiff (v.toNat % 2 ^ 21) d.tail ≤ 2 ^ d.log2sz - posDiff d.tail d.head) :
    opDoorbell fn q v s = { s.dbOutcome q.val 0 2 with
      q := { (s.dbOutcome q.val 0 2).q with
        desc := tset {} q.val { d with tail := v.toNat % 2 ^ 21 } s.q.desc
        fresh := tset 0 q.val (tget 0 q.val s.q.fresh + posDiff (v.toNat % 2 ^ 21) d.tail) s.q.fresh } } := by
  unfold opDoorbell
  extract_lets d' v' new
  obtain rfl : d' = d := hd
  rw [if_neg (by simp [hmay]), if_neg (Nat.not_le.2 hv), if_pos hkind]
  exact if_pos hroom

theorem opDoorbell_of_full (hv : v.toNat < 2 ^ 21) (hkind : d.kind = 2)
    (hroom : 2 ^ d.log2sz - posDiff d.tail d.head < posDiff (v.toNat % 2 ^ 21) d.tail)
    (hring : posDiff (v.toNat % 2 ^ 21) d.tail ≤ 2 ^ d.log2sz) :
    opDoorbell fn q v s = (s.dbOutcome q.val 1 3).raise pgQueue 0 := by
  unfold opDoorbell
  extract_lets d' v' new
  obtain rfl : d' = d := hd
  rw [if_neg (by simp [hmay]), if_neg (Nat.not_le.2 hv), if_pos hkind]
  exact (if_neg (Nat.not_le.2 hroom)).trans (if_pos hring)

theorem opDoorbell_of_consumed (hv : v.toNat < 2 ^ 21) (hkind : d.kind = 3)
    (hle : posDiff v.toNat (s.dueHead q.val d) ≤ posDiff d.admPos (s.dueHead q.val d)) :
    opDoorbell fn q v s = { s.dbOutcome q.val 0 2 with
      q := { (s.dbOutcome q.val 0 2).q with headDue := tset none q.val (some v.toNat) s.q.headDue } } := by
  unfold opDoorbell
  extract_lets d' v' new
  obtain rfl : d' = d := hd
  have hnew : new = v.toNat := Nat.mod_eq_of_lt hv
  rw [if_neg (by simp [hmay]), if_neg (Nat.not_le.2 hv), if_neg (by omega), if_pos hkind, hnew]
  exact if_pos hle

theorem doorbell_invalid_answers (hbad : s.badDoorbell q.val v.toNat d) : Answers (exec (.doorbell fn q v) s) fun u =>
    tget 0 q.val u.q.lastDb = 2 ∧ u.cntLive pgQueue 4 = min (s.cntLive pgQueue 4 + 1) (2 ^ 64 - 1) ∧
      u.q.desc = s.q.desc ∧ u.q.headDue = s.q.headDue ∧ u.q.fresh = s.q.fresh ∧ u.mem = s.mem := by
  refine ⟨_, congrArg (done s) (opDoorbell_of_bad hmay hd hbad), ?_⟩
  simp [State.cntLive_dbOutcome]

theorem doorbell_accepted_answers (hv : v.toNat < 2 ^ 21) (hkind : d.kind = 2)
    (hroom : posDiff (v.toNat % 2 ^ 21) d.tail ≤ 2 ^ d.log2sz - posDiff d.tail d.head) :
    Answers (exec (.doorbell fn q v) s) fun u => u.qd q.val = { d with tail := v.toNat } ∧
      tget 0 q.val u.q.fresh = tget 0 q.val s.q.fresh + posDiff (v.toNat % 2 ^ 21) d.tail ∧
      tget 0 q.val u.q.lastDb = 0 ∧ u.cntLive pgQueue 2 = min (s.cntLive pgQueue 2 + 1) (2 ^ 64 - 1) ∧
      (∀ k, k ≠ q.val → u.qd k = s.qd k ∧ tget 0 k u.q.fresh = tget 0 k s.q.fresh) ∧ u.mem = s.mem ∧ u.sy = s.sy := by
  refine ⟨_, congrArg (done s) (opDoorbell_of_room hmay hd hv hkind hroom), ?_, ?_, ?_, ?_, fun k hk => ⟨?_, ?_⟩, ?_, ?_⟩
  · rw [settle_qd, State.qd]
    exact (tget_tset_same _ _ _ _).trans (by rw [Nat.mod_eq_of_lt hv])
  · simp
  · simp
  · rw [settle_cntLive_pgQueue]
    exact s.cntLive_dbOutcome _ _ _
  · simp [State.qd, tget_tset_ne _ _ _ hk]
  · simp [tget_tset_ne _ _ _ hk]
  · simp
  · simp

theorem doorbell_full_answers (hv : v.toNat < 2 ^ 21) (hkind : d.kind = 2)
    (hroom : 2 ^ d.log2sz - posDiff d.tail d.head < posDiff (v.toNat % 2 ^ 21) d.tail)
    (hring : posDiff (v.toNat % 2 ^ 21) d.tail ≤ 2 ^ d.log2sz) :
    Answers (exec (.doorbell fn q v) s) fun u => tget 0 q.val u.q.lastDb = 1 ∧ bitOf (u.raw pgQueue) 0 = true ∧
      u.cntLive pgQueue 3 = min (s.cntLive pgQueue 3 + 1) (2 ^ 64 - 1) ∧ u.q.desc = s.q.desc ∧ u.q.fresh = s.q.fresh := by
  refine ⟨_, congrArg (done s) (opDoorbell_of_full hmay hd hv hkind hroom hring), ?_⟩
  have hraised : bitOf (((s.dbOutcome q.val 1 3).raise pgQueue 0).raw pgQueue) 0 = true := by
    rw [bitOf_raw_raise]
    simp
  simp only [settle_rawBit_pgQueue, hraised]
  simp [State.cntLive_dbOutcome]

theorem doorbell_consumed_answers (hv : v.toNat < 2 ^ 21) (hkind : d.kind = 3)
    (hle : posDiff v.toNat (s.dueHead q.val d) ≤ posDiff d.admPos (s.dueHead q.val d)) :
    Answers (exec (.doorbell fn q v) s) fun u => tget none q.val u.q.headDue = some v.toNat ∧
      tget 0 q.val u.q.lastDb = 0 ∧ u.q.desc = s.q.desc ∧
      u.cntLive pgQueue 2 = min (s.cntLive pgQueue 2 + 1) (2 ^ 64 - 1) := by
  refine ⟨_, congrArg (done s) (opDoorbell_of_consumed hmay hd hv hkind hle), ?_, ?_, ?_, ?_⟩
  · simp
  · simp
  · simp
  · rw [settle_cntLive_pgQueue]
    exact s.cntLive_dbOutcome _ _ _

end

/-! ### Held writes -/

/-- A profile word without its reserved bits (R279). -/
theorem setFld_reserved_of_profile (v : Nat) :
    setFld (setFld v 45 45 0) 23 22 0 = v / 2 ^ 46 * 2 ^ 46 + v / 2 ^ 24 % 2 ^ 21 * 2 ^ 24 + v % 2 ^ 22 := by
  simp only [setFld, fld]
  omega

/-- The reserved bits are none of a profile's fields. -/
theorem prof_of_reserved_cleared {v w : Nat} (hw : w = setFld (setFld v 45 45 0) 23 22 0) :
    profLimit w = profLimit v ∧ profOrder w = profOrder v ∧ profDlEn w = profDlEn v ∧ profDepth w = profDepth v ∧
      profDlq w = profDlq v := by
  rw [setFld_reserved_of_profile] at hw
  refine ⟨?_, bitOf_of_eq_b2n ?_, bitOf_of_eq_b2n ?_, ?_, ?_⟩
  · simp only [profLimit, fld]
    omega
  · rw [profOrder, b2n_bitOf]
    omega
  · rw [profDlEn, b2n_bitOf]
    omega
  · simp only [profDepth, fld]
    omega
  · simp only [profDlq, fld]
    omega

section
variable {s : State} {p : Path}

theorem queueDescWrite_answers {q : Fin 262144} {v : BitVec 64} {half : Bool} (hmay : s.mayPathQ p q.val = true) :
    Answers (exec (.queueDescWrite p q half v) s) fun u =>
      tget none (2 * q.val + b2n half) u.q.descHeld = some (v.toNat, pathTenant p, decide (p = .core) && !s.sec.lock) ∧
      (∀ k, k ≠ 2 * q.val + b2n half → tget none k u.q.descHeld = tget none k s.q.descHeld) ∧
      u.q.desc = s.q.desc ∧ u.mem = s.mem := by
  refine ⟨_, congrArg (done s) (if_pos hmay), ?_, fun k hk => ?_, ?_, ?_⟩
  · simp
  · simp [tget_tset_ne _ _ _ hk]
  all_goals simp

theorem profileWrite_held_answers {k : Fin 256} {v : BitVec 64} (hmay : s.mayPath p pgQueue = true)
    (hdepth : profDepth v.toNat ≤ 2 ^ 20) : Answers (exec (.profileWrite p k v) s) fun u => u.q.prof = s.q.prof ∧
      ∃ w, tget 0 k.val u.q.profNext = w ∧ profLimit w = profLimit v.toNat ∧ profOrder w = profOrder v.toNat ∧
        profDlEn w = profDlEn v.toNat ∧ profDepth w = profDepth v.toNat ∧ profDlq w = profDlq v.toNat := by
  refine ⟨_, congrArg (done s) ((if_pos hmay).trans (if_neg (Nat.not_lt.2 hdepth))), ?_, _, ?_, prof_of_reserved_cleared rfl⟩
  · simp
  · rw [settle_q]
    exact tget_tset_same _ _ _ _

theorem opProfileWrite_of_deep {k : Fin 256} {v : BitVec 64} (hmay : s.mayPath p pgQueue = true)
    (hdepth : 2 ^ 20 < profDepth v.toNat) : opProfileWrite p k v s = s.raise pgQueue 8 :=
  (if_pos hmay).trans (if_pos hdepth)

theorem bar2BadAccess_answers (fn : Fin 16) (wr : Bool) : Answers (exec (.bar2BadAccess fn wr) s) fun u =>
    u.resp = (if wr then .ok else .word 0) ∧ u.cntLive pgHost 1 = min (s.cntLive pgHost 1 + 1) (2 ^ 64 - 1) ∧
      bitOf (u.raw pgHost) 0 = true ∧ u.q = s.q ∧ u.mem = s.mem := by
  refine ⟨_, rfl, ?_, ?_, ?_, ?_, ?_⟩
  · simp [opBar2BadAccess]
  · rw [settle_cntLive _ _ _ _ (by decide)]
    simp [opBar2BadAccess, State.countRaise]
  · rw [settle_rawBit _ _ _ _ (by decide) (by decide), opBar2BadAccess, State.raw_answer, State.countRaise, bitOf_raw_raise]
    simp
  all_goals simp [opBar2BadAccess]

/-! ### The diversion window -/

/-- More diversions than THRESH in the window that has ended (R265). -/
def State.dlOver (s : State) : Bool := decide (fld (s.reg pgQueue 0x48) 31 8 < s.q.dlEnded)

/-- DL_STAT takes the value `v`, and DL_RATE is raised where `hi` (R265). -/
def State.showDl (s : State) (v : Nat) (hi : Bool) : State :=
  if hi then (s.setReg pgQueue 0x4C v).raise pgQueue 2 else s.setReg pgQueue 0x4C v

section
variable (s) (v : Nat) (hi : Bool)

@[simp] theorem State.showDl_q : (s.showDl v hi).q = s.q := by cases hi <;> rfl
@[simp] theorem State.showDl_fr : (s.showDl v hi).fr = s.fr := by cases hi <;> rfl
@[simp] theorem State.showDl_mem : (s.showDl v hi).mem = s.mem := by cases hi <;> rfl

@[simp] theorem State.reg_showDl (p o : Nat) : (s.showDl v hi).reg p o = (s.setReg pgQueue 0x4C v).reg p o := by
  cases hi <;> simp [State.showDl]

theorem State.showDl_raises : bitOf ((s.showDl v true).raw pgQueue) 2 = true := by
  rw [State.showDl, if_pos rfl, bitOf_raw_raise]
  simp

end

/-- What DL_STAT shows of the window that has ended (R265). -/
def State.dlStat (s : State) : Nat := min s.q.dlEnded (2 ^ 24 - 1) + b2n s.dlOver * 2 ^ 31

theorem opDlWindowEnd_of_due (hdue : s.fr.dlDue = true) : opDlWindowEnd s = { s.showDl s.dlStat s.dlOver with
    q := { (s.showDl s.dlStat s.dlOver).q with dlEnded := 0 }
    fr := { (s.showDl s.dlStat s.dlOver).fr with dlDue := false } } := if_pos hdue

/-- DL_STAT after the end of a window: the count, and whether it is above THRESH (R265). -/
theorem dlStat_opDlWindowEnd (hdue : s.fr.dlDue = true) : (opDlWindowEnd s).reg pgQueue 0x4C = s.dlStat := by
  have hlt : s.dlStat < 2 ^ 32 := by
    have := b2n_le_one s.dlOver
    rw [State.dlStat]
    omega
  rw [opDlWindowEnd_of_due hdue]
  refine (State.reg_showDl s s.dlStat s.dlOver pgQueue 0x4C).trans ?_
  rw [State.reg_setReg_same, Nat.mod_eq_of_lt hlt]

theorem opDlWindowEnd_evRaw (hdue : s.fr.dlDue = true) :
    (opDlWindowEnd s).evRaw = (s.showDl s.dlStat s.dlOver).evRaw := by
  rw [opDlWindowEnd_of_due hdue]

theorem opDlWindowEnd_of_not_due (hdue : s.fr.dlDue = false) : opDlWindowEnd s = s :=
  if_neg (by simp [hdue])

theorem dlWindowEnd_answers (hdue : s.fr.dlDue = true) : Answers (exec .dlWindowEnd s) fun u => u.q.dlEnded = 0 ∧
    u.q.dlCount = s.q.dlCount ∧ u.fr.dlDue = false ∧ fld (u.reg pgQueue 0x4C) 23 0 = min s.q.dlEnded (2 ^ 24 - 1) ∧
    bitOf (u.reg pgQueue 0x4C) 31 = decide (fld (s.reg pgQueue 0x48) 31 8 < s.q.dlEnded) ∧
    (fld (s.reg pgQueue 0x48) 31 8 < s.q.dlEnded → bitOf (u.raw pgQueue) 2 = true) ∧ u.q.desc = s.q.desc ∧
    u.mem = s.mem := by
  refine ⟨_, rfl, ?_, ?_, ?_, ?_, ?_, fun hhigh => ?_, ?_, ?_⟩
  · simp [opDlWindowEnd_of_due hdue]
  · simp [opDlWindowEnd_of_due hdue]
  · simp [opDlWindowEnd_of_due hdue]
  · rw [settle_reg, dlStat_opDlWindowEnd hdue, State.dlStat, fld]
    omega
  · rw [settle_reg, dlStat_opDlWindowEnd hdue]
    refine bitOf_of_eq_b2n (b := s.dlOver) ?_
    have := b2n_le_one s.dlOver
    rw [State.dlStat]
    omega
  · have hhi : s.dlOver = true := by simpa [State.dlOver] using hhigh
    rw [settle_rawBit_pgQueue, State.raw, opDlWindowEnd_evRaw hdue, hhi]
    exact State.showDl_raises s s.dlStat
  · simp [opDlWindowEnd_of_due hdue]
  · simp [opDlWindowEnd_of_due hdue]

end

/-! ### The obligation -/

/-- Settles O45: the four outcomes of a doorbell, the held writes, and the end of a diversion window, each from its equation. -/
theorem doorbellsAreJudgedAndDescriptorsHeld : Obligations.DoorbellsAreJudgedAndDescriptorsHeld := by
  intro s fn q v p
  refine ⟨fun hmay => congrArg (done s) (opDoorbell_of_other hmay), ?_, fun half hmay => queueDescWrite_answers hmay,
    fun k hmay => ⟨profileWrite_held_answers hmay, fun hdeep => congrArg (done s) (opProfileWrite_of_deep hmay hdeep)⟩,
    fun wr => bar2BadAccess_answers fn wr, fun hdue => congrArg (done s) (opDlWindowEnd_of_not_due hdue),
    dlWindowEnd_answers⟩
  rintro hmay d _ hd rfl
  exact ⟨doorbell_invalid_answers hmay hd, doorbell_accepted_answers hmay hd, doorbell_full_answers hmay hd,
    doorbell_consumed_answers hmay hd⟩

end Sys2Proof.Machine
end

section
/-!
PROOFS. What the statements about sync cells and queue positions share (O46, O47): memory accesses, entries of the event log,
frame faults and undo entries change no descriptor, no sync cell and no action in progress, count on no counter of the
QUEUE page, and leave every controller's state and the control registers as they were.
-/
namespace Sys2Proof.Machine

/-! ### Memory: controllers and errors -/

section
variable (m : Memory)

theorem Memory.writeEn_frame (a : Nat) (bs : List (Option Byte)) :
    m.writeEn a bs = { m with bytes := (m.writeEn a bs).bytes } := by
  induction bs generalizing m a with
  | nil => rfl
  | cons b bs ih =>
    cases b with
    | none => exact ih m (a + 1)
    | some b => exact ih (m.put a b) (a + 1)

theorem Memory.write_frame (a : Nat) (bs : Bytes) : m.write a bs = { m with bytes := (m.write a bs).bytes } := by
  induction bs generalizing m a with
  | nil => rfl
  | cons b bs ih => exact ih (m.put a b) (a + 1)

/-- The memory `m'` holds no error where `m` holds none, and its controllers are those of `m`. -/
structure Memory.Sound (m m' : Memory) : Prop where
  ctl : m'.ctl = m.ctl
  err : m.err = [] → m'.err = []

namespace Memory.Sound

theorem writeEn (a : Nat) (bs : List (Option Byte)) : m.Sound (m.writeEn a bs) := by
  rw [m.writeEn_frame]
  exact ⟨rfl, id⟩

theorem write (a : Nat) (bs : Bytes) : m.Sound (m.write a bs) := by
  rw [m.write_frame]
  exact ⟨rfl, id⟩

theorem put (a : Nat) (b : Byte) : m.Sound (m.put a b) := ⟨rfl, id⟩

theorem setMark (g : Nat) (b : Bool) : m.Sound (m.setMark g b) := ⟨rfl, id⟩

theorem heal (g : Nat) : m.Sound (m.heal g) := ⟨rfl, fun h => by simp [Memory.heal, h, tset, tdel]⟩

variable {m} {m' m'' : Memory}

theorem trans (h : m.Sound m') (h' : m'.Sound m'') : m.Sound m'' := ⟨h'.ctl.trans h.ctl, fun he => h'.err (h.err he)⟩

theorem zap (m : Memory) (g : Nat) : m.Sound (m.zap g) :=
  ((write m (64 * g) _).trans (setMark _ g true)).trans (heal _ g)

end Memory.Sound

end

/-! ### The relation -/

/-- The queue engine of `s`, but its hold store, the sync unit, the actions in progress and the counters of the QUEUE page stand
in `u`, and so do the registers below 0x48 of every page and the states of the memory controllers. No granule comes to
hold an error. -/
structure QueuesKept (s u : State) : Prop where
  q : { u.q with hold := s.q.hold } = s.q
  sy : u.sy = s.sy
  stm : u.stm = s.stm
  acts : u.fr.acts = s.fr.acts
  cnt : ∀ k, k < 32 → u.cntLive pgQueue k = s.cntLive pgQueue k
  reg : ∀ p o, o < 0x48 → u.reg p o = s.reg p o
  ctlSt : ∀ k, (u.ctl k).st = (s.ctl k).st
  err : s.mem.err = [] → u.mem.err = []

theorem pgMem_ne_pgQueue (k : Nat) : pgMem k ≠ pgQueue := by simp only [pgMem, pgQueue]; omega

namespace QueuesKept
variable {s u : State}

theorem refl (s : State) : QueuesKept s s := ⟨rfl, rfl, rfl, rfl, fun _ _ => rfl, fun _ _ _ => rfl, fun _ => rfl, id⟩

theorem trans {v : State} (h : QueuesKept s u) (h' : QueuesKept u v) : QueuesKept s v where
  q := (congrArg (fun x : Queues => { x with hold := s.q.hold }) h'.q).trans h.q
  sy := h'.sy.trans h.sy
  stm := h'.stm.trans h.stm
  acts := h'.acts.trans h.acts
  cnt k hk := (h'.cnt k hk).trans (h.cnt k hk)
  reg p o ho := (h'.reg p o ho).trans (h.reg p o ho)
  ctlSt k := (h'.ctlSt k).trans (h.ctlSt k)
  err he := h'.err (h.err he)

/-- What does not look at the hold store is as it was. -/
theorem field (h : QueuesKept s u) {β : Type} (f : Queues → β)
    (hf : ∀ (x : Queues) (l : List Held), f { x with hold := l } = f x := by intros; rfl) : f u.q = f s.q :=
  (hf _ _).symm.trans (congrArg f h.q)

theorem qd (h : QueuesKept s u) (q : Nat) : u.qd q = s.qd q := h.field fun x => tget ({} : QDesc) q x.desc

theorem cell (h : QueuesKept s u) (c : Nat) : u.cell c = s.cell c := congrArg (fun x : Sync => tget 0 c x.cells) h.sy

/-- An update of other fields. -/
theorem frame {pending freeCtr resp evRaw evEn snap soft hif irq tb fr gov rg q share sec link chk route frozen mg vsu
    tile lp pw} (h : QueuesKept s u) (hacts : FrameU.acts fr = u.fr.acts := by rfl)
    (hq : { q with hold := u.q.hold } = u.q := by rfl) :
    QueuesKept s { u with
      pending, freeCtr, resp, evRaw, evEn, snap, soft, hif, irq, tb, fr, gov, rg, q, share, sec, link, chk, route, frozen
      mg, vsu, tile, lp, pw } :=
  h.trans ⟨hq, rfl, rfl, hacts, fun _ _ => rfl, fun _ _ _ => rfl, fun _ => rfl, id⟩

theorem mem (h : QueuesKept s u) {m : Memory} (hm : u.mem.Sound m) : QueuesKept s { u with mem := m } :=
  h.trans ⟨rfl, rfl, rfl, rfl, fun _ _ => rfl, fun _ _ _ => rfl,
    fun k => congrArg (fun t : Tbl Ctl => (tget ({} : Ctl) k t).st) hm.ctl, hm.err⟩

theorem setCtl (h : QueuesKept s u) {k : Nat} {c : Ctl} (hc : c.st = (u.ctl k).st) : QueuesKept s (u.setCtl k c) := by
  refine h.trans ⟨rfl, rfl, rfl, rfl, fun _ _ => rfl, fun _ _ _ => rfl, fun j => ?_, id⟩
  by_cases hj : j = k
  · simp [State.ctl, State.setCtl, hj, hc]
  · simp [State.ctl, State.setCtl, tget_tset_ne _ _ _ hj]

theorem either {c : Prop} [Decidable c] {a b : State} (ha : QueuesKept s a) (hb : QueuesKept s b) :
    QueuesKept s (if c then a else b) := by
  split <;> assumption

theorem eitherSnd {α : Type} {c : Prop} [Decidable c] {a b : α × State} (ha : QueuesKept s a.2) (hb : QueuesKept s b.2) :
    QueuesKept s (if c then a else b).2 := by
  split <;> assumption

theorem countN (h : QueuesKept s u) {p k : Nat} (n : Nat) (hp : p ≠ pgQueue := by decide) (hk : k < 32 := by decide) :
    QueuesKept s (u.countN p k n) :=
  h.trans ⟨rfl, rfl, rfl, rfl, fun j hj => by rw [State.cntLive_countN, if_neg (by omega)], fun _ _ _ => rfl, fun _ => rfl, id⟩

theorem count (h : QueuesKept s u) {p k : Nat} (hp : p ≠ pgQueue := by decide) (hk : k < 32 := by decide) :
    QueuesKept s (u.count p k) := h.countN 1 hp hk

theorem raise (h : QueuesKept s u) (p b : Nat) : QueuesKept s (u.raise p b) := frame h

theorem setReg (h : QueuesKept s u) (p : Nat) {o : Nat} (v : Nat) (ho : 0x48 ≤ o := by decide) (ho' : o < 4096 := by decide) :
    QueuesKept s (u.setReg p o v) :=
  h.trans ⟨rfl, rfl, rfl, rfl, fun _ _ => rfl,
    fun p' o' h' => State.reg_setReg_ne _ _ _ _ _ _ (by simp only [rkey]; omega), fun _ => rfl, id⟩

/-! Reads and writes of granules -/

theorem recErr (h : QueuesKept s u) (p a src : Nat) : QueuesKept s (u.recErr p a src) :=
  either h (((h.setReg p _).setReg p _).setReg p _)

theorem unbacked (h : QueuesKept s u) (a : Nat) : QueuesKept s (u.unbacked a) :=
  ((((h.recErr (pgMem 0) a 4).count).count).raise (pgMem 0) 1).raise (pgMem 0) 5

theorem useLine (h : QueuesKept s u) (k l : Nat) (d : Bool) : QueuesKept s (u.useLine k l d) := by
  unfold State.useLine
  extract_lets c
  split
  · exact h.setCtl rfl
  · have hmiss : QueuesKept s (u.setCtl k { c with lines := ((l, d) :: c.lines).take 4096 }) := h.setCtl rfl
    exact hmiss.count (pgMem_ne_pgQueue k)

theorem touch (h : QueuesKept s u) (k a : Nat) (w : Bool) : QueuesKept s (u.touch k a w) := by
  have hcount : QueuesKept s (u.count (pgMem k) (if w then 1 else 0)) :=
    h.count (pgMem_ne_pgQueue k) (by split <;> decide)
  exact either (hcount.useLine _ _ _) hcount

theorem wbLine (h : QueuesKept s u) (k g : Nat) : QueuesKept s (u.wbLine k g) := either (h.useLine _ _ _) h

theorem breakImage (h : QueuesKept s u) (a : Nat) : QueuesKept s (u.breakImage a) := either (frame h) h

theorem corrected (h : QueuesKept s u) (k : Nat) : QueuesKept s (u.corrected k) :=
  ((h.count (pgMem_ne_pgQueue k) (k := 2)).raise (pgMem k) 0).setCtl rfl

theorem decodeCtl (h : QueuesKept s u) (k src g : Nat) (dec : Dec) : QueuesKept s (u.decodeCtl k src g dec).2 := by
  have hk := pgMem_ne_pgQueue k
  unfold State.decodeCtl
  split
  · have hlost := ((h.recErr (pgMem k) (64 * g) src).count hk (k := 3)).raise (pgMem k) 1
    exact breakImage (frame ((hlost.mem (Memory.Sound.zap _ g)).wbLine k g)) _
  · have hfixed := (h.mem (Memory.Sound.heal u.mem g)).wbLine k g
    exact eitherSnd (hfixed.count hk) (hfixed.corrected k)
  · exact eitherSnd (h.count hk) h

/-- A decode of hub SRAM outside the queue descriptor table (R515). -/
theorem decodeHub (h : QueuesKept s u) {g : Nat} (hg : regionOf (64 * g) ≠ .qdt) (src : Nat) (dec : Dec) :
    QueuesKept s (u.decodeHub src g dec).2 := by
  unfold State.decodeHub
  split
  · have hrec : QueuesKept s (u.recSram (64 * g) src) := either h (((h.setReg pgDev _).setReg pgDev _).setReg pgDev _)
    have hlost : QueuesKept s (u.sramLost src (64 * g)) := hrec.count.raise _ _
    simp only [if_neg hg]
    exact hlost.mem (Memory.Sound.zap _ g)
  · have hheal := h.mem (Memory.Sound.heal u.mem g)
    exact eitherSnd hheal (hheal.count.raise _ _)
  · exact h

theorem lay (h : QueuesKept s u) {g : Nat} (hg : regionOf (64 * g) ≠ .qdt) (src : Nat) (data : List (Option Byte))
    (poison : Bool) (dec : Dec) : QueuesKept s (u.lay src g data poison dec) := by
  have hlaid (m : Memory) (b : Bool) : m.Sound ((m.writeEn (64 * g) data).setMark g b) :=
    (Memory.Sound.writeEn _ _ _).trans (Memory.Sound.setMark _ _ _)
  refine either (h.mem ((hlaid _ _).trans (Memory.Sound.heal _ _))) (mem ?_ (hlaid _ _))
  split
  · exact h.decodeCtl _ _ _ _
  · exact h.decodeHub hg _ _

theorem gWrite (h : QueuesKept s u) (src g : Nat) (data : List (Option Byte)) (poison : Bool) (dec : Dec) :
    QueuesKept s (u.gWrite src g data poison dec) := by
  unfold State.gWrite
  split
  · exact h.unbacked _
  · exact h
  · next hhub => exact h.lay (by rw [hhub]; simp) _ _ _ _
  · next hctl =>
    refine either (h.unbacked _) (either (h.mem ⟨rfl, id⟩) (breakImage ?_ _))
    exact lay (frame (h.touch _ _ _)) (by rw [hctl]; simp) _ _ _ _

/-- An engine's read where no granule holds an error: the queue descriptor table is only read. -/
theorem gRead (h : QueuesKept s u) (herr : s.mem.err = []) (src g : Nat) : QueuesKept s (u.gRead src g .clean).2 := by
  have hfound : u.found g .clean = .clean := State.found_of_no_error (by rw [h.err herr]; rfl)
  unfold State.gRead
  split
  · exact h.unbacked _
  · exact eitherSnd (h.unbacked _) ((h.touch _ _ _).decodeCtl _ _ _ _)
  · next hhub => exact h.decodeHub (by rw [hhub]; simp) _ _
  · unfold State.decodeHub
    rw [hfound]
    exact h

/-! The event log, frame faults and undo entries -/

theorem log (h : QueuesKept s u) (p code cls detail : Nat) : QueuesKept s (u.log p code cls detail) := by
  unfold State.log
  split
  · exact count (frame (forL_keeps (QueuesKept s) _ (fun _ _ ht => ht.gWrite _ _ _ _ _) _ _ h))
  · exact h

theorem faultLog (h : QueuesKept s u) (was : Bool) (p bit : Nat) : QueuesKept s (u.faultLog was p bit) :=
  either h (h.log _ _ _ _)

theorem flood (h : QueuesKept s u) (except : Option Nat) (m : Bytes) : QueuesKept s (u.flood except m) :=
  forN_keeps (QueuesKept s) _ (fun _ _ ht => either (frame ht) ht) _ _ h

theorem discardFrom (h : QueuesKept s u) (g : Nat) : QueuesKept s (u.discardFrom g) :=
  either (forN_keeps (QueuesKept s) _ (fun _ _ ht => either ht (frame ht).count) _ _ h) h

theorem actVeto (h : QueuesKept s u) (v : Veto) : QueuesKept s (u.actVeto v) := by
  have hdisc := ((h.count (p := pgReg) (k := 3)).raise pgReg 1).discardFrom v.g
  refine either ?_ hdisc
  split
  · exact either (frame hdisc) hdisc
  · exact frame hdisc

theorem holdVeto (h : QueuesKept s u) (g : Nat) : QueuesKept s (u.holdVeto g) := either h (frame h)

theorem declareVeto (h : QueuesKept s u) (g : Nat) : QueuesKept s (u.declareVeto g) := by
  have hsent (m : Bytes) :=
    ((((h.count (p := pgReg) (k := 2)).raise pgReg 0).log pgReg 2 3 (g % 2 ^ 32)).holdVeto g).flood none m
  exact either h (either (((hsent _).count.raise _ _).log _ _ _ _) ((hsent _).actVeto _))

theorem frameFault (h : QueuesKept s u) (src g : Nat) : QueuesKept s (u.frameFault src g) := by
  have hraise := h.raise pgFrame 1
  unfold State.frameFault
  extract_lets was u1 f1 u2 f2 u3 u4
  have h2 : QueuesKept s u2 := either hraise (frame hraise).count
  have h3 : QueuesKept s u3 := either h2 ((frame h2).faultLog _ _ _)
  exact (h3.log _ _ _ _).declareVeto g

theorem regPut (h : QueuesKept s u) (x : Nat) (bs : Bytes) : QueuesKept s (u.regPut x bs) := by
  have hput (m : Memory) (a : Nat) (b : Byte) : m.Sound ((m.put a b).setMark (a / 64) false) :=
    (Memory.Sound.put _ _ _).trans (Memory.Sound.setMark _ _ _)
  refine forL_keeps (QueuesKept s) _ (fun _ _ ht => ht.mem ?_) _ _ h
  split
  · exact ((Memory.Sound.write _ _ _).trans (Memory.Sound.heal _ _)).trans (hput _ _ _)
  · exact hput _ _ _

theorem append (h : QueuesKept s u) (e : Undo) : QueuesKept s (u.append e) := by
  unfold State.append
  split
  · exact h
  · exact either (frame (mem (frame (h.regPut _ _)) (Memory.Sound.write _ _ _)))
      (((h.count.raise _ _).log _ _ _ _).frameFault _ _)

theorem undo (h : QueuesKept s u) (kind word id val : Nat) : QueuesKept s (u.undo kind word id val) := by
  unfold State.undo
  split
  · exact h
  · exact either h (h.append _)

theorem undoSlot (h : QueuesKept s u) (qid pos : Nat) (env : Bytes) (pois : Bool) :
    QueuesKept s (u.undoSlot qid pos env pois) := by
  unfold State.undoSlot
  split
  · exact h
  · exact either h (h.append _)

theorem forget (h : QueuesKept s u) (kind id : Nat) : QueuesKept s (u.forget kind id) := frame h

end QueuesKept

end Sys2Proof.Machine
end

section
/-!
PROOFS. Sync-cell operations (O46): what a change of a cell does beside it, one equation per operation word on a register path
and in a plan, and the cell write and the watch FIFO.
-/
namespace Sys2Proof.Machine

/-! ### Watches that fire and waits that end -/

/-- `u` follows from `s` by watches that fire and waits that end: no cell, no armed watch and no descriptor changes, and of the
counters of the QUEUE page only those of watches move. -/
structure Fired (s u : State) : Prop where
  cells : u.sy.cells = s.sy.cells
  watches : u.sy.watches = s.sy.watches
  q : u.q = s.q
  stm : u.stm = s.stm
  cnt : ∀ k, k < 32 → k ≠ 9 → k ≠ 10 → u.cntLive pgQueue k = s.cntLive pgQueue k
  idle : ∀ f i, s.actOf f i = none → u.actOf f i = none

namespace Fired
variable {s u : State}

theorem refl (s : State) : Fired s s := ⟨rfl, rfl, rfl, rfl, fun _ _ _ _ => rfl, fun _ _ h => h⟩

theorem trans {v : State} (h : Fired s u) (h' : Fired u v) : Fired s v where
  cells := h'.cells.trans h.cells
  watches := h'.watches.trans h.watches
  q := h'.q.trans h.q
  stm := h'.stm.trans h.stm
  cnt k hk h9 h10 := (h'.cnt k hk h9 h10).trans (h.cnt k hk h9 h10)
  idle f i hidle := h'.idle f i (h.idle f i hidle)

theorem countRaise (u : State) {k : Nat} (hk : k = 9 ∨ k = 10) (b : Nat) : Fired u (u.countRaise pgQueue k b) where
  cells := rfl
  watches := rfl
  q := rfl
  stm := rfl
  cnt j hj h9 h10 := (State.cntLive_count u pgQueue k pgQueue j).trans (if_neg (by omega))
  idle _ _ h := h

theorem fireWatch (h : Fired s u) (c : Nat) : Fired s (u.fireWatch c) := by
  have hcount : Fired s (u.countRaise pgQueue 9 5) := h.trans (countRaise u (.inl rfl) 5)
  unfold State.fireWatch
  extract_lets t
  have hsy (f : List Nat) (o : Bool) : Fired t { t with sy := { t.sy with fifo := f, ovf := o } } :=
    ⟨rfl, rfl, rfl, rfl, fun _ _ _ _ => rfl, fun _ _ h => h⟩
  split
  · exact hcount.trans (hsy _ _)
  · exact (hcount.trans (hsy _ _)).trans (countRaise _ (.inr rfl) 9)

theorem finishPart (h : Fired s u) (f i a : Nat) : Fired s (u.finishPart f i a) := by
  refine h.trans ⟨rfl, rfl, rfl, rfl, fun _ _ _ _ => rfl, fun f' i' hidle => ?_⟩
  unfold State.actOf State.finishPart at *
  rw [List.find?_eq_none] at hidle ⊢
  intro b hb
  obtain ⟨b', hb', rfl⟩ := List.mem_map.1 hb
  have hnot := hidle b' hb'
  split <;> exact hnot

/-- The judgement of a cell's change frees the armed watches that its value meets (R277). -/
theorem judgeCell (s : State) (c : Nat) : Fired { s with sy := { s.sy with
    watches := s.sy.watches.filter fun w => !(w.1 == c && decide (w.2 ≤ s.cell c)) } } (s.judgeCell c) := by
  have hwaits (t : State) (w : List Wait) : Fired t { t with sy := { t.sy with waits := w } } :=
    ⟨rfl, rfl, rfl, rfl, fun _ _ _ _ => rfl, fun _ _ h => h⟩
  have hfired := forL_keeps (Fired _) _ (fun _ _ ht => ht.fireWatch c)
    (s.sy.watches.filter fun w => w.1 == c && decide (w.2 ≤ s.cell c)) _ (Fired.refl { s with sy := { s.sy with
      watches := s.sy.watches.filter fun w => !(w.1 == c && decide (w.2 ≤ s.cell c)) } })
  exact forL_keeps (Fired _) _ (fun _ _ ht => ht.finishPart _ _ _) _ _ (hfired.trans (hwaits _ _))

end Fired

/-! ### A cell takes a value -/

/-- The sync-cell operation from `s` to `u` leaves cell `c` with the value `v`: it counts once, and changes no other cell and no
descriptor (R275). -/
structure CellBecomes (s : State) (c v : Nat) (u : State) : Prop where
  cell : u.cell c = v
  others : ∀ d, d ≠ c → u.cell d = s.cell d
  executed : u.cntLive pgQueue 8 = min (s.cntLive pgQueue 8 + 1) (2 ^ 64 - 1)
  cnt : ∀ k, k < 8 → u.cntLive pgQueue k = s.cntLive pgQueue k
  desc : u.q.desc = s.q.desc
  stm : u.stm = s.stm
  idle : ∀ f i, s.actOf f i = none → u.actOf f i = none

section
variable {s : State}

theorem untwos_lt (n : Nat) (i : Int) : untwos n i < 2 ^ n := by
  have hpos : (0 : Int) < 2 ^ n := by positivity
  have hlt := Int.emod_lt_of_pos i hpos
  have hnonneg := Int.emod_nonneg i hpos.ne'
  have hcast : ((2 ^ n : Nat) : Int) = 2 ^ n := by norm_cast
  unfold untwos
  omega

theorem State.cntLive_count_eight (k : Nat) : (s.count pgQueue 8).cntLive pgQueue k =
    if k = 8 then min (s.cntLive pgQueue 8 + 1) (2 ^ 64 - 1) else s.cntLive pgQueue k := by
  simp

/-- A cell is set: what its watches and waits do is told by `Fired`. -/
theorem State.setCell_fired (s : State) (c v : Nat) : ∃ t, QueuesKept s t ∧ Fired { t with sy := { s.sy with
    cells := tset 0 c (v % 2 ^ 64) s.sy.cells
    watches := s.sy.watches.filter fun w => !(w.1 == c && decide (w.2 ≤ v % 2 ^ 64)) } } (s.setCell c v) := by
  have hundo := (QueuesKept.refl s).undo 2 0 c (s.cell c)
  unfold State.setCell
  generalize s.undo 2 0 c (s.cell c) = t at hundo ⊢
  have hfired := Fired.judgeCell { t with sy := { t.sy with cells := tset 0 c (v % 2 ^ 64) t.sy.cells } } c
  refine ⟨t, hundo, ?_⟩
  rw [← hundo.sy]
  simpa only [State.cell, tget_tset_same] using hfired

/-- The watches that the new value meets are armed no longer (R277). -/
theorem State.watches_setCell (s : State) (c v : Nat) : (s.setCell c v).sy.watches =
    s.sy.watches.filter fun w => !(w.1 == c && decide (w.2 ≤ v % 2 ^ 64)) := by
  obtain ⟨t, -, hfired⟩ := s.setCell_fired c v
  exact hfired.watches

theorem State.mem_watches_setCell {c v : Nat} {x : Nat × Nat} (hx : x ∈ (s.setCell c v).sy.watches) :
    x ∈ s.sy.watches ∧ (x.1 = c → v % 2 ^ 64 < x.2) := by
  rw [State.watches_setCell, List.mem_filter] at hx
  simpa [imp_iff_not_or] using hx

namespace CellBecomes
variable {c v : Nat} {u : State}

theorem setCell (s : State) (c v : Nat) : CellBecomes s c (v % 2 ^ 64) ((s.count pgQueue 8).setCell c v) := by
  obtain ⟨t, hkept, hfired⟩ := (s.count pgQueue 8).setCell_fired c v
  have hcnt (k : Nat) (hk : k < 9) := (hfired.cnt k (by omega) (by omega) (by omega)).trans (hkept.cnt k (by omega))
  refine ⟨?_, fun d hd => ?_, ?_, fun k hk => ?_, ?_, ?_, fun f i hidle => hfired.idle f i ?_⟩
  · rw [State.cell, hfired.cells]
    exact tget_tset_same _ _ _ _
  · rw [State.cell, hfired.cells]
    exact tget_tset_ne _ _ _ hd _
  · rw [hcnt 8 (by decide), State.cntLive_count_eight, if_pos rfl]
  · rw [hcnt k (by omega), State.cntLive_count_eight, if_neg (by omega)]
  · rw [hfired.q]
    exact hkept.field (·.desc)
  · rw [hfired.stm]
    exact hkept.stm
  · exact (congrArg (List.find? _) hkept.acts).trans hidle

/-- An operation that changes no cell (R275). -/
theorem count (s : State) (c : Nat) : CellBecomes s c (s.cell c) (s.count pgQueue 8) :=
  ⟨rfl, fun _ _ => rfl, by simp, fun k hk => by rw [State.cntLive_count_eight, if_neg (by omega)], rfl, rfl, fun _ _ h => h⟩

theorem addCell (s : State) (c : Nat) (n : Int) :
    CellBecomes s c (untwos 64 (Int.ofNat (s.cell c) + n)) (s.addCell c n) := by
  have hset := setCell s c (untwos 64 (Int.ofNat (s.cell c) + n))
  rwa [Nat.mod_eq_of_lt (untwos_lt _ _)] at hset

theorem forget (h : CellBecomes s c v u) (kind id : Nat) : CellBecomes s c v (u.forget kind id) :=
  ⟨h.cell, h.others, h.executed, h.cnt, h.desc, h.stm, h.idle⟩

/-- From the state of a plan whose record has been taken. -/
theorem of_takeRec {r : ARec} (h : CellBecomes (s.takeRec r) c v u) : CellBecomes s c v u :=
  ⟨h.cell, h.others, h.executed, h.cnt, h.desc, h.stm, h.idle⟩

/-- CAS sets the new value where the cell equals the compared one (Table 9.6). -/
theorem cas (s : State) (c imm : Nat) : CellBecomes s c (if s.cell c = fld imm 19 0 then fld imm 39 20 else s.cell c)
    (if s.cell c = fld imm 19 0 then (s.count pgQueue 8).setCell c (fld imm 39 20) else s.count pgQueue 8) := by
  have hset := setCell s c (fld imm 39 20)
  rw [Nat.mod_eq_of_lt ((fld_lt imm 39 20).trans (by decide))] at hset
  split
  · exact hset
  · exact count s c

end CellBecomes

end

/-! ### Watches -/

section
variable {s : State} {c imm : Nat}

/-- A watch fires into the FIFO when there is room (R277). -/
theorem State.fireWatch_of_room (h : s.sy.fifo.length < 1024) : s.fireWatch c =
    { s.countRaise pgQueue 9 5 with sy := { s.sy with fifo := s.sy.fifo ++ [c] } } := if_pos h

section
variable (h : s.sy.fifo.length < 1024)
include h

theorem State.fireWatch_sy : (s.fireWatch c).sy = { s.sy with fifo := s.sy.fifo ++ [c] } := by
  rw [State.fireWatch_of_room h]

theorem State.fireWatch_raises : bitOf ((s.fireWatch c).raw pgQueue) 5 = true := by
  have hraw : (s.fireWatch c).evRaw = (s.countRaise pgQueue 9 5).evRaw := by rw [State.fireWatch_of_room h]
  rw [State.raw, hraw, ← State.raw, State.countRaise, bitOf_raw_raise]
  simp

theorem State.cntLive_fireWatch : (s.fireWatch c).cntLive pgQueue 9 = min (s.cntLive pgQueue 9 + 1) (2 ^ 64 - 1) := by
  have hcnt : (s.fireWatch c).cnt = (s.count pgQueue 9).cnt := by
    rw [State.fireWatch_of_room h]
    rfl
  rw [State.cntLive, hcnt, ← State.cntLive, State.cntLive_count, if_pos rfl]

end

theorem State.armWatch_of_met (h : imm ≤ s.cell c) : s.armWatch c imm = (s.count pgQueue 8).fireWatch c := if_pos h

theorem State.armWatch_of_unmet (h : s.cell c < imm) : s.armWatch c imm =
    { s.count pgQueue 8 with sy := { s.sy with watches := s.sy.watches ++ [(c, imm)] } } := if_neg (Nat.not_le.2 h)

end

/-! ### Operation words on a register path -/

section
variable {s : State} {p : Path} {w : Nat}

section
variable (t : State) (met refused : Bool) (old : Nat)

@[simp] theorem State.syncRes_sy : (t.syncRes p met refused old).sy = t.sy := rfl
@[simp] theorem State.syncRes_q : (t.syncRes p met refused old).q = t.q := rfl
@[simp] theorem State.syncRes_mem : (t.syncRes p met refused old).mem = t.mem := rfl
@[simp] theorem State.syncRes_stm : (t.syncRes p met refused old).stm = t.stm := rfl
@[simp] theorem State.raw_syncRes (g : Nat) : (t.syncRes p met refused old).raw g = t.raw g := rfl
@[simp] theorem State.cell_syncRes (c : Nat) : (t.syncRes p met refused old).cell c = t.cell c := rfl
@[simp] theorem State.cntLive_syncRes (g k : Nat) : (t.syncRes p met refused old).cntLive g k = t.cntLive g k := rfl

@[simp] theorem State.syncRes_met : tget false (pathIx p) (t.syncRes p met refused old).hif.met = met := tget_tset_same ..
@[simp] theorem State.syncRes_refused : tget false (pathIx p) (t.syncRes p met refused old).hif.refused = refused :=
  tget_tset_same ..
@[simp] theorem State.syncRes_old : tget 0 (pathIx p) (t.syncRes p met refused old).hif.old = old := tget_tset_same ..

@[simp] theorem settle_cell (s0 : State) (c : Nat) : (settle s0 t).cell c = t.cell c := by simp [State.cell]

end

theorem State.syncRow_reg {v : BitVec 64} {k : Nat} (hmay : s.mayPath p pgQueue = true) (hop : opCode v.toNat = k) :
    s.syncRow k (.reg p v) = s.syncReg p v.toNat := by
  simp [State.syncRow, hop, hmay]

theorem State.syncReg_of_range (hop : 5 ≤ opCode w) : s.syncReg p w = s.syncRes p false true 0 := if_pos hop

theorem State.syncReg_of_other (hop : opCode w < 5) (hcell : s.mayPathCell p (opCell w) = false) :
    s.syncReg p w = (s.deny p pgQueue).syncRes p false false 0 := by
  unfold State.syncReg
  rw [if_neg (by omega), if_neg (by simp [hcell])]

variable (hcell : s.mayPathCell p (opCell w) = true)
include hcell

theorem State.syncReg_add (hop : opCode w = 0) : s.syncReg p w =
    ((s.addCell (opCell w) (sext 40 (opImm w))).forget 2 (opCell w)).syncRes p false false (s.cell (opCell w)) := by
  simp [State.syncReg, hop, hcell]

theorem State.syncReg_set (hop : opCode w = 1) : s.syncReg p w =
    (((s.count pgQueue 8).setCell (opCell w) (opImm w)).forget 2 (opCell w)).syncRes p false false (s.cell (opCell w)) := by
  simp [State.syncReg, hop, hcell]

theorem State.syncReg_cas (hop : opCode w = 2) : s.syncReg p w =
    if s.cell (opCell w) = fld (opImm w) 19 0 then
      (((s.count pgQueue 8).setCell (opCell w) (fld (opImm w) 39 20)).forget 2 (opCell w)).syncRes p true false
        (s.cell (opCell w))
    else (s.count pgQueue 8).syncRes p false false (s.cell (opCell w)) := by
  simp only [State.syncReg, hop, hcell, if_true]
  exact if_neg (by decide)

theorem State.syncReg_waitGe (hop : opCode w = 3) : s.syncReg p w =
    (s.count pgQueue 8).syncRes p (decide (opImm w ≤ s.cell (opCell w))) false (s.cell (opCell w)) := by
  simp [State.syncReg, hop, hcell]

theorem State.syncReg_arm (hop : opCode w = 4) (hfree : s.sy.watches.length < 1024) : s.syncReg p w =
    (s.armWatch (opCell w) (opImm w)).syncRes p false false (s.cell (opCell w)) := by
  simp [State.syncReg, hop, hcell, hfree]

theorem State.syncReg_arm_refused (hop : opCode w = 4) (hfull : 1024 ≤ s.sy.watches.length) : s.syncReg p w =
    (s.raise pgQueue 6).syncRes p false true 0 := by
  simp [State.syncReg, hop, hcell, Nat.not_lt.2 hfull]

end

end Sys2Proof.Machine
end

section
/-!
PROOFS. The statement about sync-cell operations (O46): the answers on a register path, the cell write and the watch FIFO, and
the operations of a frame plan.
-/
namespace Sys2Proof.Machine

/-! ### Answers on a register path -/

section
variable {s : State} {p : Path} {w : BitVec 64} {c k : Nat} {i : Instr}

theorem doneSyncReg (hexec : exec i s = done s (s.syncRow k (.reg p w))) (hmay : s.mayPath p pgQueue = true)
    (hop : opCode w.toNat = k) {u : State} (hu : s.syncReg p w.toNat = u) {P : State → Prop} (h : P (settle s u)) :
    Answers (exec i s) P := by
  rw [hexec, State.syncRow_reg hmay hop, hu]
  exact answers_done h

/-- What an operation that sets or tests a cell answers (R274, R279). -/
theorem CellBecomes.answers {t : State} {new old : Nat} {met : Bool} (ht : CellBecomes s c new t)
    (hwatches : k < 2 → ∀ x ∈ t.sy.watches, x ∈ s.sy.watches ∧ (x.1 = c → new < x.2))
    (hexec : exec i s = done s (s.syncRow k (.reg p w))) (hmay : s.mayPath p pgQueue = true) (hop : opCode w.toNat = k)
    (hu : s.syncReg p w.toNat = t.syncRes p met false old) :
    Answers (exec i s) fun u => u.cell c = new ∧ (∀ d, d ≠ c → u.cell d = s.cell d) ∧
      tget false (pathIx p) u.hif.met = met ∧ tget false (pathIx p) u.hif.refused = false ∧
      tget 0 (pathIx p) u.hif.old = old ∧ (k < 2 → ∀ x ∈ u.sy.watches, x ∈ s.sy.watches ∧ (x.1 = c → new < x.2)) ∧
      u.cntLive pgQueue 8 = min (s.cntLive pgQueue 8 + 1) (2 ^ 64 - 1) ∧ u.stm = s.stm := by
  refine doneSyncReg hexec hmay hop hu ?_
  simp only [settle_cell, State.cell_syncRes, settle_hif, State.syncRes_met, State.syncRes_refused, State.syncRes_old,
    settle_sy, State.syncRes_sy, settle_stm, State.syncRes_stm, true_and]
  exact ⟨ht.cell, ht.others, hwatches, (settle_cntLive_pgQueue _ _).trans ht.executed, ht.stm⟩

section
variable (hmay : s.mayPath p pgQueue = true) (hcell : s.mayPathCell p c = true) (hc : opCell w.toNat = c)
include hmay hcell hc

theorem syncAdd_reg_answers (hop : opCode w.toNat = 0) : Answers (exec (.syncAdd (.reg p w)) s) fun u =>
    u.cell c = untwos 64 (s.cell c + sext 40 (opImm w.toNat)) ∧ (∀ d, d ≠ c → u.cell d = s.cell d) ∧
    tget false (pathIx p) u.hif.met = false ∧ tget false (pathIx p) u.hif.refused = false ∧
    tget 0 (pathIx p) u.hif.old = s.cell c ∧ (0 < 2 → ∀ x ∈ u.sy.watches, x ∈ s.sy.watches ∧
      (x.1 = c → untwos 64 (s.cell c + sext 40 (opImm w.toNat)) < x.2)) ∧
    u.cntLive pgQueue 8 = min (s.cntLive pgQueue 8 + 1) (2 ^ 64 - 1) ∧ u.stm = s.stm := by
  subst hc
  refine (CellBecomes.addCell s _ _).forget 2 _ |>.answers (fun _ x hx => ?_) rfl hmay hop (State.syncReg_add hcell hop)
  rw [← Nat.mod_eq_of_lt (untwos_lt 64 _)]
  exact State.mem_watches_setCell (s := s.count pgQueue 8) hx

theorem syncSet_reg_answers (hop : opCode w.toNat = 1) : Answers (exec (.syncSet (.reg p w)) s) fun u =>
    u.cell c = opImm w.toNat % 2 ^ 64 ∧ (∀ d, d ≠ c → u.cell d = s.cell d) ∧
    tget false (pathIx p) u.hif.met = false ∧ tget false (pathIx p) u.hif.refused = false ∧
    tget 0 (pathIx p) u.hif.old = s.cell c ∧ (1 < 2 → ∀ x ∈ u.sy.watches, x ∈ s.sy.watches ∧
      (x.1 = c → opImm w.toNat % 2 ^ 64 < x.2)) ∧
    u.cntLive pgQueue 8 = min (s.cntLive pgQueue 8 + 1) (2 ^ 64 - 1) ∧ u.stm = s.stm := by
  subst hc
  exact (CellBecomes.setCell s _ _).forget 2 _ |>.answers
    (fun _ x hx => State.mem_watches_setCell (s := s.count pgQueue 8) hx) rfl hmay hop (State.syncReg_set hcell hop)

theorem syncCas_reg_answers (hop : opCode w.toNat = 2) : Answers (exec (.syncCas (.reg p w)) s) fun u =>
    u.cell c = (if s.cell c = fld (opImm w.toNat) 19 0 then fld (opImm w.toNat) 39 20 else s.cell c) ∧
    (∀ d, d ≠ c → u.cell d = s.cell d) ∧
    tget false (pathIx p) u.hif.met = decide (s.cell c = fld (opImm w.toNat) 19 0) ∧
    tget false (pathIx p) u.hif.refused = false ∧ tget 0 (pathIx p) u.hif.old = s.cell c ∧
    (2 < 2 → ∀ x ∈ u.sy.watches, x ∈ s.sy.watches ∧
      (x.1 = c → (if s.cell c = fld (opImm w.toNat) 19 0 then fld (opImm w.toNat) 39 20 else s.cell c) < x.2)) ∧
    u.cntLive pgQueue 8 = min (s.cntLive pgQueue 8 + 1) (2 ^ 64 - 1) ∧ u.stm = s.stm := by
  subst hc
  have hcas := CellBecomes.cas s (opCell w.toNat) (opImm w.toNat)
  have hreg := State.syncReg_cas hcell hop
  by_cases heq : s.cell (opCell w.toNat) = fld (opImm w.toNat) 19 0
  · simp only [if_pos heq] at hcas hreg ⊢
    refine (hcas.forget 2 (opCell w.toNat)).answers (fun h => absurd h (by decide)) rfl hmay hop ?_
    rw [hreg, decide_eq_true heq]
  · simp only [if_neg heq] at hcas hreg ⊢
    refine hcas.answers (fun h => absurd h (by decide)) rfl hmay hop ?_
    rw [hreg, decide_eq_false heq]

theorem syncWaitGe_reg_answers (hop : opCode w.toNat = 3) : Answers (exec (.syncWaitGe (.reg p w)) s) fun u =>
    u.cell c = s.cell c ∧ (∀ d, d ≠ c → u.cell d = s.cell d) ∧
    tget false (pathIx p) u.hif.met = decide (opImm w.toNat ≤ s.cell c) ∧ tget false (pathIx p) u.hif.refused = false ∧
    tget 0 (pathIx p) u.hif.old = s.cell c ∧
    (3 < 2 → ∀ x ∈ u.sy.watches, x ∈ s.sy.watches ∧ (x.1 = c → s.cell c < x.2)) ∧
    u.cntLive pgQueue 8 = min (s.cntLive pgQueue 8 + 1) (2 ^ 64 - 1) ∧ u.stm = s.stm := by
  subst hc
  exact (CellBecomes.count s _).answers (fun h => absurd h (by decide)) rfl hmay hop (State.syncReg_waitGe hcell hop)

theorem syncArm_reg_fires (hop : opCode w.toNat = 4) (hfree : s.sy.watches.length < 1024) (hmet : opImm w.toNat ≤ s.cell c)
    (hroom : s.sy.fifo.length < 1024) : Answers (exec (.syncArm (.reg p w)) s) fun u => u.sy.fifo = s.sy.fifo ++ [c] ∧
      u.sy.watches = s.sy.watches ∧ bitOf (u.raw pgQueue) 5 = true ∧ u.sy.cells = s.sy.cells ∧
      u.cntLive pgQueue 9 = min (s.cntLive pgQueue 9 + 1) (2 ^ 64 - 1) := by
  subst hc
  have hreg := State.syncReg_arm hcell hop hfree
  rw [State.armWatch_of_met hmet] at hreg
  have hsy := State.fireWatch_sy (s := s.count pgQueue 8) (c := opCell w.toNat) hroom
  have hraised := State.fireWatch_raises (s := s.count pgQueue 8) (c := opCell w.toNat) hroom
  have hcount := State.cntLive_fireWatch (s := s.count pgQueue 8) (c := opCell w.toNat) hroom
  refine doneSyncReg rfl hmay hop hreg ⟨by simp [hsy], by simp [hsy], ?_, by simp [hsy], ?_⟩
  · rw [settle_rawBit_pgQueue, State.raw_syncRes, hraised]
  · rw [settle_cntLive_pgQueue, State.cntLive_syncRes, hcount]
    simp

theorem syncArm_reg_arms (hop : opCode w.toNat = 4) (hfree : s.sy.watches.length < 1024) (hunmet : s.cell c < opImm w.toNat) :
    Answers (exec (.syncArm (.reg p w)) s) fun u =>
      u.sy = { s.sy with watches := s.sy.watches ++ [(c, opImm w.toNat)] } ∧ tget false (pathIx p) u.hif.refused = false := by
  subst hc
  have hreg := State.syncReg_arm hcell hop hfree
  rw [State.armWatch_of_unmet hunmet] at hreg
  refine doneSyncReg rfl hmay hop hreg ?_
  simp

theorem syncArm_reg_refused (hop : opCode w.toNat = 4) (hfull : 1024 ≤ s.sy.watches.length) :
    Answers (exec (.syncArm (.reg p w)) s) fun u => u.sy = s.sy ∧ bitOf (u.raw pgQueue) 6 = true ∧
      tget false (pathIx p) u.hif.refused = true := by
  subst hc
  refine doneSyncReg rfl hmay hop (State.syncReg_arm_refused hcell hop hfull) ⟨by simp, ?_, by simp⟩
  rw [settle_rawBit_pgQueue, State.raw_syncRes, bitOf_raw_raise]
  simp

end

/-- A range operation is refused on a register path (R274). -/
theorem syncRange_reg_refused (hexec : exec i s = done s (s.syncRow k (.reg p w))) (hmay : s.mayPath p pgQueue = true)
    (hop : opCode w.toNat = k) (hk : 5 ≤ k) : Answers (exec i s) fun u => tget false (pathIx p) u.hif.refused = true ∧
      u.sy = s.sy ∧ u.q = s.q ∧ u.mem = s.mem := by
  refine doneSyncReg hexec hmay hop (State.syncReg_of_range (by omega)) ?_
  simp

/-- An operation on a cell of another tenant (R436). -/
theorem syncOther_reg_answers (hexec : exec i s = done s (s.syncRow k (.reg p w))) (hmay : s.mayPath p pgQueue = true)
    (hop : opCode w.toNat = k) (hk : k < 5) (hcell : s.mayPathCell p (opCell w.toNat) = false) :
    Answers (exec i s) fun u => u.sy = s.sy ∧ u.mem = s.mem ∧ tget false (pathIx p) u.hif.met = false ∧
      tget false (pathIx p) u.hif.refused = false ∧ tget 0 (pathIx p) u.hif.old = 0 := by
  refine doneSyncReg hexec hmay hop (State.syncReg_of_other (by omega) hcell) ?_
  simp

end

/-! ### The cell write and the watch FIFO -/

section
variable {s : State} {p : Path}

theorem syncCellWrite_answers {c : Fin 8192} {w : BitVec 64} (hmay : s.mayPathCell p c.val = true) :
    Answers (exec (.syncCellWrite p c w) s) fun u => u.cell c.val = w.toNat ∧ (∀ d, d ≠ c.val → u.cell d = s.cell d) ∧
      u.cntLive pgQueue 8 = min (s.cntLive pgQueue 8 + 1) (2 ^ 64 - 1) := by
  have hset := (CellBecomes.setCell s c.val w.toNat).forget 2 c.val
  rw [Nat.mod_eq_of_lt w.isLt] at hset
  refine ⟨_, congrArg (done s) (if_pos hmay), ?_, fun d hd => ?_, (settle_cntLive_pgQueue _ _).trans hset.executed⟩
  · rw [settle_cell, hset.cell]
  · rw [settle_cell, hset.others d hd]

theorem opSyncCellWrite_of_other {c : Fin 8192} {w : BitVec 64} (hmay : s.mayPathCell p c.val = false) :
    opSyncCellWrite p c w s = s.deny p pgQueue := by
  simp [opSyncCellWrite, hmay]

theorem opWatchPop_of_cons {h : Nat} {hs : List Nat} (hmay : s.mayPathR p pgQueue = true) (hf : s.sy.fifo = h :: hs) :
    opWatchPop p s = State.answer { s with sy := { s.sy with fifo := if p = .debug then h :: hs else hs } }
      (.word (2 ^ 31 + h)) := by
  simp only [opWatchPop, hmay, if_true, hf]
  split
  · rw [← hf]
  · rfl

theorem opWatchPop_of_nil (hmay : s.mayPathR p pgQueue = true) (hf : s.sy.fifo = []) :
    opWatchPop p s = State.answer { s with sy := { s.sy with ovf := if p = .debug then s.sy.ovf else false } }
      (.word 0) := by
  simp only [opWatchPop, hmay, if_true, hf]
  split
  · rw [← hf]
  · rfl

end

/-! ### Operations of a frame plan -/

/-- The next record of the plan is a due and valid SYNC record, and no action of its frame and index is in progress. -/
structure State.SyncDue (s : State) (r : ARec) : Prop where
  next : s.nextRecord = some r
  due : s.recDue r = true
  valid : s.recValid r = true
  ty : r.ty = 5
  idle : s.actOf s.fr.num s.fr.nextRec = none

/-- The action that a SYNC record starts: what remains of it, and whether it never completes. -/
def State.syncAct (s : State) (r : ARec) (parts : List Nat) (never : Bool) : Act :=
  ⟨s.fr.num, s.fr.nextRec, 5, r.noslack, r.start, r.bound, r.tag, parts, never, false⟩

theorem State.syncRow_plan (s : State) (k : Nat) : s.syncRow k .plan = s.launch 5 (fun r => decide (opCode r.w1 = k))
    (fun r n s => s.syncPlan r.w1 s.fr.num n) := rfl

namespace State.SyncDue
variable {s : State} {r : ARec} {i : Instr} {k : Nat} {t : State} {parts : List Nat} {never : Bool}

/-- The launch of a SYNC record: `P` of what it leaves, and the action it starts. -/
theorem answers (h : s.SyncDue r) {go : ARec → Nat → State → State × List Nat × Bool}
    (hexec : exec i s = done s (s.launch 5 (fun r => decide (opCode r.w1 = k)) go)) (hop : opCode r.w1 = k)
    (hgo : go r s.fr.nextRec (s.takeRec r) = (t, parts, never))
    (hidle : ∀ f i, s.actOf f i = none → t.actOf f i = none) {P : State → Prop}
    (hP : P (settle s (t.addAct (s.syncAct r parts never)))) :
    Answers (exec i s) fun u => P u ∧ u.actOf s.fr.num s.fr.nextRec = some (s.syncAct r parts never) := by
  rw [hexec, State.launch_of_due go h.next h.due h.valid h.ty (by simp [hop]), hgo]
  refine answers_done ⟨hP, ?_⟩
  rw [settle_actOf]
  exact State.actOf_append t _ (hidle _ _ h.idle) rfl rfl rfl

/-- The launch of a cell operation (R274). -/
theorem plan_answers (h : s.SyncDue r) (hexec : exec i s = done s (s.syncRow k .plan)) (hop : opCode r.w1 = k)
    (hplan : (s.takeRec r).syncPlan r.w1 s.fr.num s.fr.nextRec = (t, parts, never))
    (hidle : ∀ f i, s.actOf f i = none → t.actOf f i = none) {P : State → Prop}
    (hP : P (settle s (t.addAct (s.syncAct r parts never)))) :
    Answers (exec i s) fun u => P u ∧ u.actOf s.fr.num s.fr.nextRec = some (s.syncAct r parts never) := by
  rw [State.syncRow_plan] at hexec
  exact h.answers hexec hop hplan hidle hP

end State.SyncDue

section
variable (t : State) (a : Act)

@[simp] theorem State.addAct_q : (t.addAct a).q = t.q := rfl
@[simp] theorem State.addAct_sy : (t.addAct a).sy = t.sy := rfl
@[simp] theorem State.addAct_mem : (t.addAct a).mem = t.mem := rfl
@[simp] theorem State.qd_addAct (q : Nat) : (t.addAct a).qd q = t.qd q := rfl
@[simp] theorem State.cell_addAct (c : Nat) : (t.addAct a).cell c = t.cell c := rfl
@[simp] theorem State.cntLive_addAct (g k : Nat) : (t.addAct a).cntLive g k = t.cntLive g k := rfl

@[simp] theorem State.takeRec_q (r : ARec) : (t.takeRec r).q = t.q := rfl
@[simp] theorem State.takeRec_sy (r : ARec) : (t.takeRec r).sy = t.sy := rfl
@[simp] theorem State.takeRec_mem (r : ARec) : (t.takeRec r).mem = t.mem := rfl
@[simp] theorem State.cell_takeRec (r : ARec) (c : Nat) : (t.takeRec r).cell c = t.cell c := rfl
@[simp] theorem State.cntLive_takeRec (r : ARec) (g k : Nat) : (t.takeRec r).cntLive g k = t.cntLive g k := rfl
@[simp] theorem State.actOf_takeRec (r : ARec) (f i : Nat) : (t.takeRec r).actOf f i = t.actOf f i := rfl

end

section
variable {s : State} {w f n : Nat}

theorem State.syncPlan_add (hop : opCode w = 0) :
    s.syncPlan w f n = (s.addCell (opCell w) (sext 40 (opImm w)), [], false) := by
  simp [State.syncPlan, hop]

theorem State.syncPlan_set (hop : opCode w = 1) :
    s.syncPlan w f n = ((s.count pgQueue 8).setCell (opCell w) (opImm w), [], false) := by
  simp [State.syncPlan, hop]

theorem State.syncPlan_cas (hop : opCode w = 2) : s.syncPlan w f n = (if s.cell (opCell w) = fld (opImm w) 19 0 then
    (s.count pgQueue 8).setCell (opCell w) (fld (opImm w) 39 20) else s.count pgQueue 8, [], false) := by
  simp [State.syncPlan, hop]

theorem State.syncPlan_waitGe_met (hop : opCode w = 3) (hmet : opImm w ≤ s.cell (opCell w)) :
    s.syncPlan w f n = (s.count pgQueue 8, [], false) := by
  simp only [State.syncPlan, hop]
  exact if_pos hmet

theorem State.syncPlan_waitGe_waits (hop : opCode w = 3) (hunmet : s.cell (opCell w) < opImm w) :
    s.syncPlan w f n = ({ s.count pgQueue 8 with
      sy := { s.sy with waits := s.sy.waits ++ [⟨f, n, opCell w, opImm w⟩] } }, [0], false) := by
  simp only [State.syncPlan, hop]
  exact if_neg (Nat.not_le.2 hunmet)

theorem State.syncPlan_arm (hop : opCode w = 4) (hfree : s.sy.watches.length < 1024)
    (hunmet : s.cell (opCell w) < opImm w) : s.syncPlan w f n = ({ s.count pgQueue 8 with
      sy := { s.sy with watches := s.sy.watches ++ [(opCell w, opImm w)] } }, [], false) := by
  simp [State.syncPlan, hop, hfree, State.armWatch_of_unmet hunmet]

theorem State.syncPlan_arm_refused (hop : opCode w = 4) (hfull : 1024 ≤ s.sy.watches.length) :
    s.syncPlan w f n = (s.raise pgQueue 6, [], true) := by
  simp [State.syncPlan, hop, Nat.not_lt.2 hfull]

end

section
variable {s : State} {r : ARec} {c : Nat} (h : s.SyncDue r) (hc : opCell r.w1 = c)
include h hc

omit hc in
/-- What an operation of a plan that sets or compares a cell answers. -/
theorem CellBecomes.plan_answers {i : Instr} {k new : Nat} {t : State} (ht : CellBecomes (s.takeRec r) c new t)
    (hexec : exec i s = done s (s.syncRow k .plan)) (hop : opCode r.w1 = k)
    (hplan : (s.takeRec r).syncPlan r.w1 s.fr.num s.fr.nextRec = (t, [], false)) :
    Answers (exec i s) fun u => u.cell c = new ∧ (∀ d, d ≠ c → u.cell d = s.cell d) ∧
      u.cntLive pgQueue 8 = min (s.cntLive pgQueue 8 + 1) (2 ^ 64 - 1) ∧
      u.actOf s.fr.num s.fr.nextRec = some (s.syncAct r [] false) := by
  have hbecomes := ht.of_takeRec
  obtain ⟨u, hu, hcells, hact⟩ := h.plan_answers (P := fun u => u.cell c = new ∧ (∀ d, d ≠ c → u.cell d = s.cell d) ∧
      u.cntLive pgQueue 8 = min (s.cntLive pgQueue 8 + 1) (2 ^ 64 - 1)) hexec hop hplan hbecomes.idle
    ⟨by rw [settle_cell, State.cell_addAct, hbecomes.cell],
      fun d hd => by rw [settle_cell, State.cell_addAct, hbecomes.others d hd],
      (settle_cntLive_pgQueue _ _).trans hbecomes.executed⟩
  exact ⟨u, hu, hcells.1, hcells.2.1, hcells.2.2, hact⟩

theorem syncAdd_plan_answers (hop : opCode r.w1 = 0) : Answers (exec (.syncAdd .plan) s) fun u =>
    u.cell c = untwos 64 (s.cell c + sext 40 (opImm r.w1)) ∧ (∀ d, d ≠ c → u.cell d = s.cell d) ∧
      u.cntLive pgQueue 8 = min (s.cntLive pgQueue 8 + 1) (2 ^ 64 - 1) ∧
      u.actOf s.fr.num s.fr.nextRec = some (s.syncAct r [] false) := by
  subst hc
  exact (CellBecomes.addCell (s.takeRec r) _ _).plan_answers h rfl hop (State.syncPlan_add hop)

theorem syncSet_plan_answers (hop : opCode r.w1 = 1) : Answers (exec (.syncSet .plan) s) fun u =>
    u.cell c = opImm r.w1 % 2 ^ 64 ∧ (∀ d, d ≠ c → u.cell d = s.cell d) ∧
      u.cntLive pgQueue 8 = min (s.cntLive pgQueue 8 + 1) (2 ^ 64 - 1) ∧
      u.actOf s.fr.num s.fr.nextRec = some (s.syncAct r [] false) := by
  subst hc
  exact (CellBecomes.setCell (s.takeRec r) _ _).plan_answers h rfl hop (State.syncPlan_set hop)

theorem syncCas_plan_answers (hop : opCode r.w1 = 2) : Answers (exec (.syncCas .plan) s) fun u =>
    u.cell c = (if s.cell c = fld (opImm r.w1) 19 0 then fld (opImm r.w1) 39 20 else s.cell c) ∧
      (∀ d, d ≠ c → u.cell d = s.cell d) ∧ u.cntLive pgQueue 8 = min (s.cntLive pgQueue 8 + 1) (2 ^ 64 - 1) ∧
      u.actOf s.fr.num s.fr.nextRec = some (s.syncAct r [] false) := by
  subst hc
  exact (CellBecomes.cas (s.takeRec r) _ _).plan_answers h rfl hop (State.syncPlan_cas hop)

theorem syncWaitGe_plan_answers (hop : opCode r.w1 = 3) : Answers (exec (.syncWaitGe .plan) s) fun u =>
    u.sy.cells = s.sy.cells ∧
      u.actOf s.fr.num s.fr.nextRec = some (s.syncAct r (if opImm r.w1 ≤ s.cell c then [] else [0]) false) ∧
      u.sy.waits = if opImm r.w1 ≤ s.cell c then s.sy.waits
        else s.sy.waits ++ [⟨s.fr.num, s.fr.nextRec, c, opImm r.w1⟩] := by
  subst hc
  by_cases hmet : opImm r.w1 ≤ s.cell (opCell r.w1)
  · simp only [if_pos hmet]
    obtain ⟨u, hu, hsy, hact⟩ := h.plan_answers (i := .syncWaitGe .plan) (P := fun u => u.sy = s.sy) rfl hop
      (State.syncPlan_waitGe_met (s := s.takeRec r) hop hmet) (fun _ _ hidle => hidle) (by simp)
    exact ⟨u, hu, congrArg Sync.cells hsy, hact, congrArg Sync.waits hsy⟩
  · simp only [if_neg hmet]
    obtain ⟨u, hu, hsy, hact⟩ := h.plan_answers (i := .syncWaitGe .plan) (P := fun u => u.sy = { s.sy with
        waits := s.sy.waits ++ [⟨s.fr.num, s.fr.nextRec, opCell r.w1, opImm r.w1⟩] }) rfl hop
      (State.syncPlan_waitGe_waits (s := s.takeRec r) hop (Nat.not_le.1 hmet)) (fun _ _ hidle => hidle) (by simp)
    exact ⟨u, hu, by rw [hsy], hact, congrArg Sync.waits hsy⟩

theorem syncArm_plan_arms (hop : opCode r.w1 = 4) (hfree : s.sy.watches.length < 1024) (hunmet : s.cell c < opImm r.w1) :
    Answers (exec (.syncArm .plan) s) fun u =>
      u.sy = { s.sy with watches := s.sy.watches ++ [(c, opImm r.w1)] } ∧
      u.actOf s.fr.num s.fr.nextRec = some (s.syncAct r [] false) := by
  subst hc
  exact h.plan_answers (P := fun u => u.sy = { s.sy with watches := s.sy.watches ++ [(opCell r.w1, opImm r.w1)] }) rfl hop
    (State.syncPlan_arm (s := s.takeRec r) hop hfree hunmet) (fun _ _ hidle => hidle) (by simp)

omit hc in
theorem syncArm_plan_refused (hop : opCode r.w1 = 4) (hfull : 1024 ≤ s.sy.watches.length) :
    Answers (exec (.syncArm .plan) s) fun u => u.sy = s.sy ∧ bitOf (u.raw pgQueue) 6 = true ∧
      u.actOf s.fr.num s.fr.nextRec = some (s.syncAct r [] true) := by
  obtain ⟨u, hu, ⟨hsy, hraised⟩, hact⟩ := h.plan_answers (i := .syncArm .plan) (P := fun u => u.sy = s.sy ∧ bitOf (u.raw pgQueue) 6 = true) rfl hop
    (State.syncPlan_arm_refused (s := s.takeRec r) hop hfull) (fun _ _ hidle => hidle) (by
      refine ⟨by simp, ?_⟩
      rw [settle_rawBit_pgQueue, State.raw_addAct, bitOf_raw_raise]
      simp)
  exact ⟨u, hu, hsy, hraised, hact⟩

end

/-! ### The obligation -/

/-- Settles O46: each operation's equation on its path, and `CellBecomes` for what it does to the cells. -/
theorem syncOperationsChangeTheirCell : Obligations.SyncOperationsChangeTheirCell := by
  intro s p w c imm old hc himm hold
  subst himm hold
  refine ⟨fun hmay hcell => ⟨?_, ?_, ?_, ?_⟩, fun hmay => syncCellWrite_answers hmay,
    fun hmay => congrArg (done s) (opSyncCellWrite_of_other hmay), ?_, fun hmay => ⟨?_, ?_⟩, ?_⟩
  · intro i k new met hi hop
    simp only [List.mem_cons, Prod.mk.injEq, List.not_mem_nil, or_false] at hi
    obtain ⟨rfl, rfl, rfl, rfl⟩ | ⟨rfl, rfl, rfl, rfl⟩ | ⟨rfl, rfl, rfl, rfl⟩ | ⟨rfl, rfl, rfl, rfl⟩ := hi
    · exact syncAdd_reg_answers hmay hcell hc hop
    · exact syncSet_reg_answers hmay hcell hc hop
    · exact syncCas_reg_answers hmay hcell hc hop
    · exact syncWaitGe_reg_answers hmay hcell hc hop
  · exact fun hop hfree => ⟨syncArm_reg_fires hmay hcell hc hop hfree, syncArm_reg_arms hmay hcell hc hop hfree⟩
  · exact syncArm_reg_refused hmay hcell hc
  · intro i k hi hop
    simp only [List.mem_cons, Prod.mk.injEq, List.not_mem_nil, or_false] at hi
    obtain ⟨rfl, rfl⟩ | ⟨rfl, rfl⟩ := hi
    · exact syncRange_reg_refused rfl hmay hop (by decide)
    · exact syncRange_reg_refused rfl hmay hop (by decide)
  · intro hmay hcell i k hi hop
    rw [← hc] at hcell
    simp only [List.mem_cons, Prod.mk.injEq, List.not_mem_nil, or_false] at hi
    obtain ⟨rfl, rfl⟩ | ⟨rfl, rfl⟩ | ⟨rfl, rfl⟩ | ⟨rfl, rfl⟩ | ⟨rfl, rfl⟩ := hi <;>
      exact syncOther_reg_answers rfl hmay hop (by decide) hcell
  · exact fun h hs hf => congrArg (done s) (opWatchPop_of_cons hmay hf)
  · exact fun hf => congrArg (done s) (opWatchPop_of_nil hmay hf)
  · intro r hnext hdue hvalid hty hw hidle
    have h : s.SyncDue r := ⟨hnext, hdue, hvalid, hty, hidle⟩
    rw [← hw] at hc ⊢
    refine ⟨fun i k new hi hop => ?_, syncWaitGe_plan_answers h hc, syncArm_plan_arms h hc, syncArm_plan_refused h⟩
    simp only [List.mem_cons, Prod.mk.injEq, List.not_mem_nil, or_false] at hi
    obtain ⟨rfl, rfl, rfl⟩ | ⟨rfl, rfl, rfl⟩ | ⟨rfl, rfl, rfl⟩ := hi
    · exact syncAdd_plan_answers h hc hop
    · exact syncSet_plan_answers h hc hop
    · exact syncCas_plan_answers h hc hop

end Sys2Proof.Machine
end

section
/-!
PROOFS. ADMIT and RELEASE of queues (O47): the admission point of one queue without limit, order or diversion, the consumption of
what a queue has admitted, and one equation per way a plan's operation on a range is taken.
-/
namespace Sys2Proof.Machine

/-! ### Sorting keeps the number of elements -/

section
variable {α : Type} (k : α → Nat)

theorem length_insKey (x : α) (l : List α) : (insKey k x l).length = l.length + 1 := by
  induction l with
  | nil => rfl
  | cons y ys ih =>
    unfold insKey
    split
    · rfl
    · simp [ih]

theorem length_sortKey_go (l acc : List α) : (sortKey.go k l acc).length = l.length + acc.length := by
  induction l generalizing acc with
  | nil => simp [sortKey.go]
  | cons y ys ih =>
    rw [sortKey.go, ih, length_insKey, List.length_cons]
    omega

theorem length_sortKey (l : List α) : (sortKey k l).length = l.length := by
  cases l with
  | nil => rfl
  | cons x xs => exact length_sortKey_go k (x :: xs) []

end

/-! ### Descriptors and envelopes -/

section
variable {s u : State}

@[simp] theorem State.qd_setQd (q : Nat) (d : QDesc) (k : Nat) : (s.setQd q d).qd k = if k = q then d else s.qd k := by
  simp [State.qd, State.setQd, tget_tset]

@[simp] theorem State.setQd_sy (q : Nat) (d : QDesc) : (s.setQd q d).sy = s.sy := rfl
@[simp] theorem State.setQd_fr (q : Nat) (d : QDesc) : (s.setQd q d).fr = s.fr := rfl
@[simp] theorem State.cntLive_setQd (q : Nat) (d : QDesc) (p k : Nat) : (s.setQd q d).cntLive p k = s.cntLive p k := rfl

@[simp] theorem State.qd_countN (p c n k : Nat) : (s.countN p c n).qd k = s.qd k := rfl

/-- A change of a descriptor in force is one of that descriptor, after its undo entries. -/
theorem State.moveQd_eq_setQd (s : State) (q : Nat) (d : QDesc) : ∃ t, QueuesKept s t ∧ s.moveQd q d = t.setQd q d := by
  have hfirst := QueuesKept.either (c := ((decide ((s.qd q).kind = 1) || decide ((s.qd q).kind = 2)) &&
    (s.qd q).q0 != d.q0) = true) ((QueuesKept.refl s).undo 1 0 q (s.qd q).q0) (QueuesKept.refl s)
  exact ⟨_, QueuesKept.either (hfirst.undo 1 1 q (s.qd q).q1) hfirst, rfl⟩

theorem State.length_envsAt (s : State) (d : QDesc) (x n : Nat) : (s.envsAt d x n).1.length = n := by
  induction n generalizing s x with
  | zero => rfl
  | succ n ih => simp [State.envsAt, ih]

namespace QueuesKept

theorem envAt (h : QueuesKept s u) (herr : s.mem.err = []) (d : QDesc) (x : Nat) : QueuesKept s (u.envAt d x).2 := by
  unfold State.envAt
  exact h.gRead herr _ _

theorem envsAt (h : QueuesKept s u) (herr : s.mem.err = []) (d : QDesc) (x n : Nat) :
    QueuesKept s (u.envsAt d x n).2 := by
  induction n generalizing u x with
  | zero => exact h
  | succ n ih => exact ih (h.envAt herr _ _) _

theorem putEnv (h : QueuesKept s u) (q : Nat) (d : QDesc) (x : Nat) (e : Bytes) (pois : Bool) :
    QueuesKept s (u.putEnv q d x e pois) :=
  (either (h.undoSlot _ _ _ _) h).gWrite _ _ _ _ _

theorem putEnvs (h : QueuesKept s u) (q : Nat) (d : QDesc) (x : Nat) (es : List (Bytes × Bool)) :
    QueuesKept s (u.putEnvs q d x es) := by
  induction es generalizing u x with
  | nil => exact h
  | cons e es ih => exact ih (h.putEnv _ _ _ _ _) _

end QueuesKept

end

/-! ### The admission point of one queue -/

/-- Queue `q`, in the state `d`, admits at its point every pending envelope and diverts none (R255 to R259); no granule holds an
error. -/
structure State.AdmitsAll (s : State) (q : Nat) (d : QDesc) : Prop where
  qd : s.qd q = d
  kind : d.kind = 1 ∨ d.kind = 2
  noSync : d.sync = 0
  tail : d.tail < 2 ^ 21
  admPos : d.admPos < 2 ^ 21
  noFresh : tget 0 q s.q.fresh = 0
  noLimit : profLimit (tget 0 d.profile s.q.prof) = 0
  noOrder : profOrder (tget 0 d.profile s.q.prof) = false
  noDl : profDlEn (tget 0 d.profile s.q.prof) = false
  noError : s.mem.err = []

/-- ADMIT of queue `q` has become its TAIL, and CNT1 counts what was pending (R255, R257). -/
structure Admitted (s : State) (q : Nat) (u : State) : Prop where
  qd : ∀ k, u.qd k = if k = q then { s.qd q with admPos := (s.qd q).tail } else s.qd k
  admitted : u.cntLive pgQueue 1 = min (s.cntLive pgQueue 1 + posDiff (s.qd q).tail (s.qd q).admPos) (2 ^ 64 - 1)
  ops : u.cntLive pgQueue 8 = s.cntLive pgQueue 8
  sy : u.sy = s.sy
  acts : u.fr.acts = s.fr.acts

/-- An admission point is noted: what the frame has admitted, and when (R136, R257). -/
def State.noteAdmitted (s : State) (adm : Tbl Nat) (at' : Tbl (List (Nat × Nat))) : State :=
  { s with q := { s.q with adm := adm, admAt := at' } }

section
variable (s : State) (adm : Tbl Nat) (at' : Tbl (List (Nat × Nat)))

@[simp] theorem State.noteAdmitted_sy : (s.noteAdmitted adm at').sy = s.sy := rfl
@[simp] theorem State.noteAdmitted_fr : (s.noteAdmitted adm at').fr = s.fr := rfl
@[simp] theorem State.qd_noteAdmitted (k : Nat) : (s.noteAdmitted adm at').qd k = s.qd k := rfl
@[simp] theorem State.cntLive_noteAdmitted (p k : Nat) : (s.noteAdmitted adm at').cntLive p k = s.cntLive p k := rfl

end

namespace State.AdmitsAll
variable {s : State} {q : Nat} {d : QDesc}

/-- The envelopes between ADMIT and TAIL are the candidates, all of them eligible (R255). -/
theorem cands_all (h : s.AdmitsAll q d) {n : Nat} (hn : posDiff d.tail d.admPos = n) : (s.cands q 0).1.length = n ∧
    (∀ c ∈ (s.cands q 0).1, c.elig = true) ∧ QueuesKept s (s.cands q 0).2 := by
  have hkind : d.kind ≠ 3 := by have := h.kind; omega
  have hread := State.length_envsAt s d d.admPos n
  have hpending : posDiff d.tail d.admPos - tget 0 q s.q.fresh = n := by rw [h.noFresh, hn, Nat.sub_zero]
  have hcands : s.cands q 0 = ((s.envsAt d d.admPos n).1.zipIdx.map
      (fun e => ⟨e.1.1, e.1.2, decide (e.2 < n), 0, e.2⟩), (s.envsAt d d.admPos n).2) := by
    unfold State.cands
    rw [h.qd]
    simp only [if_neg hkind, hpending, Nat.add_zero]
  rw [hcands]
  refine ⟨by simp [hread], fun c hc => ?_, (QueuesKept.refl s).envsAt h.noError _ _ _⟩
  obtain ⟨e, he, rfl⟩ := List.mem_map.1 hc
  have hlt := List.snd_lt_of_mem_zipIdx he
  rw [hread] at hlt
  exact decide_eq_true hlt

/-- Without LIMIT there is room for every eligible envelope (R257). -/
theorem roomFor_eq (h : s.AdmitsAll q d) {u : State} (hu : QueuesKept s u) (n : Nat) : u.roomFor q n = n := by
  have hkind : d.kind ≠ 3 := by have := h.kind; omega
  have hprof : u.q.prof = s.q.prof := hu.field (·.prof)
  unfold State.roomFor
  rw [hu.qd, h.qd, hprof]
  simp [h.noLimit, hkind]

/-- What the admission point leaves: the envelopes are stamped, ADMIT moves by their number, and CNT1 and CNT5 count (R257). -/
theorem admitQ_eq (h : s.AdmitsAll q d) {n : Nat} (hpending : posDiff d.tail d.admPos = n) :
    ∃ t a b m, QueuesKept s t ∧ (s.admitQ [] q).1 = (((t.setQd q { d with
      admPos := (d.admPos + n) % 2 ^ 21 }).noteAdmitted a b).countN pgQueue 1 n).countN pgQueue 5 m := by
  obtain ⟨hlength, helig, hkept⟩ := h.cands_all hpending
  have hroom := h.roomFor_eq hkept
  obtain ⟨hqd, hkind, hsync, htail, -, -, -, horder, hdl, -⟩ := h
  subst hqd
  obtain ⟨hkind0, hkind3⟩ : (s.qd q).kind ≠ 0 ∧ (s.qd q).kind ≠ 3 := by omega
  unfold State.admitQ
  extract_lets d p r s1 key elig n' adm rest occ depth ex keep out s2 held q2 s3 admPos tail d3 s4 q4 s5 s6 s7 s8 v late s9
  have hall : elig.length = n := by
    have hfilter : r.1.filter (·.elig) = r.1 := List.filter_eq_self.2 helig
    rw [length_sortKey, hfilter]
    exact hlength
  have hn : n' = n := (hroom _).trans hall
  have hrest : rest = [] := by
    have hdrop : elig.drop n' = [] := List.drop_eq_nil_of_le (by omega)
    have hnone : r.1.filter (fun c => !c.elig) = [] := List.filter_eq_nil_iff.2 fun c hc => by simp [helig c hc]
    simp only [rest, hdrop, hnone]
    rfl
  have hex : ex = 0 := if_neg (by simp [p, d, hdl])
  have hout : out = [] := by simp only [out, hrest, List.drop_nil]
  have hs3 : s3 = s2 := (if_neg hkind3).trans (if_neg (by simp [hex, p, d, horder]))
  have hkept3 : QueuesKept s s3 := hs3 ▸ hkept.putEnvs q d d.admPos adm
  have htail' : tail = d.tail := by
    have hring : tail = (d.tail + 2 ^ 21 - ex) % 2 ^ 21 := if_neg hkind3
    have hlt : d.tail < 2 ^ 21 := htail
    rw [hring, hex]
    omega
  obtain ⟨t, hkept4, hmove⟩ := s3.moveQd_eq_setQd q { d3 with admPos := admPos, tail := tail }
  obtain ⟨a, b, hs6⟩ : ∃ a b, s6 = s4.noteAdmitted a b := by
    simp only [s6]
    split
    · exact ⟨_, _, rfl⟩
    · exact ⟨_, _, rfl⟩
  have hv : v = (s8, 0) := by simp only [v, hout, State.divertAll]
  have hs9 : s9 = s8 := (if_neg (by simp [d, hsync])).trans (congrArg Prod.fst hv)
  refine ⟨t, a, b, (adm.filter fun e => bitOf (envW0 e.1) 16).length, hkept3.trans hkept4, ?_⟩
  have hd3 : d3 = d := hkept3.qd q
  have hs4 : s4 = t.setQd q { d with admPos := (d.admPos + n) % 2 ^ 21 } := by
    refine hmove.trans ?_
    show t.setQd q { d3 with admPos := (d.admPos + n') % 2 ^ 21, tail := tail } = _
    rw [htail', hd3, hn]
  refine (congrArg Prod.fst (if_neg hkind0)).trans (hs9.trans ?_)
  show (s6.countN pgQueue 1 n').countN pgQueue 5 _ = _
  rw [hs6, hs4, hn]

theorem admitQ_admits (h : s.AdmitsAll q d) : Admitted s q (s.admitQ [] q).1 := by
  obtain ⟨n, hn⟩ : ∃ n, posDiff d.tail d.admPos = n := ⟨_, rfl⟩
  have hpos : (d.admPos + n) % 2 ^ 21 = d.tail := by
    have htail := h.tail
    have hadm := h.admPos
    rw [← hn, posDiff]
    omega
  obtain ⟨t, a, b, m, ht, heq⟩ := h.admitQ_eq hn
  obtain rfl := h.qd
  rw [heq, hpos]
  refine ⟨fun k => ?_, ?_, ?_, by simp [ht.sy], by simp [ht.acts]⟩
  · rw [State.qd_countN, State.qd_countN, State.qd_noteAdmitted, State.qd_setQd, ht.qd]
  · rw [State.cntLive_countN, if_neg (by decide), State.cntLive_countN, if_pos rfl, State.cntLive_noteAdmitted,
      State.cntLive_setQd, ht.cnt 1 (by decide), hn]
  · rw [State.cntLive_countN, if_neg (by decide), State.cntLive_countN, if_neg (by decide), State.cntLive_noteAdmitted,
      State.cntLive_setQd, ht.cnt 8 (by decide)]

end State.AdmitsAll

/-! ### Consumption -/

/-- The rings answer: the queue engine is enabled, its memory is out of standby, and no granule holds an error. -/
structure State.RingsAnswer (s : State) : Prop where
  en : s.en pgQueue = true
  awake : s.rangeAwake (s.reg pgQueue 0x40 * 2 ^ 34) 2048 = true
  noError : s.mem.err = []

theorem QueuesKept.rangeAwake {s u : State} (h : QueuesKept s u) (a n : Nat) : u.rangeAwake a n = s.rangeAwake a n := by
  unfold State.rangeAwake
  congr 1
  funext i
  split
  · simp only [State.en, h.reg _ 0x10 (by decide), h.ctlSt]
  · rfl

theorem State.rangeAwake_setQd (s : State) (q : Nat) (d : QDesc) (a n : Nat) :
    (s.setQd q d).rangeAwake a n = s.rangeAwake a n := rfl

/-- The sync unit, the actions in progress and the counters of the QUEUE page stand, and rings that answer still do. -/
structure RingsStand (s u : State) : Prop where
  sy : u.sy = s.sy
  acts : u.fr.acts = s.fr.acts
  cnt : ∀ k, k < 32 → u.cntLive pgQueue k = s.cntLive pgQueue k
  answer : s.RingsAnswer → u.RingsAnswer

namespace RingsStand
variable {s u : State}

theorem refl (s : State) : RingsStand s s := ⟨rfl, rfl, fun _ _ => rfl, id⟩

theorem trans {v : State} (h : RingsStand s u) (h' : RingsStand u v) : RingsStand s v :=
  ⟨h'.sy.trans h.sy, h'.acts.trans h.acts, fun k hk => (h'.cnt k hk).trans (h.cnt k hk), fun ha => h'.answer (h.answer ha)⟩

theorem of_kept (h : QueuesKept s u) : RingsStand s u := by
  refine ⟨h.sy, h.acts, h.cnt, fun ha => ⟨?_, ?_, h.err ha.noError⟩⟩
  · rw [State.en, h.reg _ _ (by decide)]
    exact ha.en
  · rw [h.reg _ _ (by decide), h.rangeAwake]
    exact ha.awake

theorem setQd (s : State) (q : Nat) (d : QDesc) : RingsStand s (s.setQd q d) :=
  ⟨rfl, rfl, fun _ _ => rfl, fun ha => ⟨ha.en, (s.rangeAwake_setQd q d _ _).trans ha.awake, ha.noError⟩⟩

end RingsStand

/-- `u` follows from `s` by a step in which the descriptor of queue `q` alone changes, to `e`. -/
structure QdBecomes (s : State) (q : Nat) (e : QDesc) (u : State) : Prop extends RingsStand s u where
  qd : ∀ k, u.qd k = if k = q then e else s.qd k

namespace QdBecomes
variable {s u v : State} {q : Nat} {d e : QDesc}

theorem of_kept (h : QueuesKept s u) (q : Nat) : QdBecomes s q (s.qd q) u where
  toRingsStand := .of_kept h
  qd k := by
    rw [h.qd]
    split
    · next hk => rw [hk]
    · rfl

theorem same (h : QdBecomes s q e u) : u.qd q = e := (h.qd q).trans (if_pos rfl)

theorem trans (h : QdBecomes s q d u) (h' : QdBecomes u q e v) : QdBecomes s q e v where
  toRingsStand := h.toRingsStand.trans h'.toRingsStand
  qd k := by
    rw [h'.qd, h.qd]
    split <;> rfl

theorem moveQd (s : State) (q : Nat) (e : QDesc) : QdBecomes s q e (s.moveQd q e) := by
  obtain ⟨t, ht, heq⟩ := s.moveQd_eq_setQd q e
  rw [heq]
  exact ⟨(RingsStand.of_kept ht).trans (.setQd t q e), fun k => by rw [State.qd_setQd, ht.qd]⟩

end QdBecomes

theorem pgCheck_ne_pgQueue {u : Nat} (hu : u < 32) : pgCheck u ≠ pgQueue := by simp only [pgCheck, pgQueue]; omega

section
variable {s t : State} {u : Nat}

theorem QueuesKept.coverBytes (h : QueuesKept s t) (hu : u < 32) (bs : Bytes) : QueuesKept s (t.coverBytes u bs) := by
  have hundo : QueuesKept s (t.undoUnit u) := by
    unfold State.undoUnit
    split
    · exact h
    · exact either (h.undo _ _ _ _) h
  exact ((hundo.setReg _ _).setReg _ _).countN _ (pgCheck_ne_pgQueue hu)

theorem QueuesKept.unitTakes (h : QueuesKept s t) (hu : u < 32) (dist : Nat) (e : Bytes) :
    QueuesKept s (t.unitTakes u dist e) := by
  have hp := pgCheck_ne_pgQueue hu
  have hgap : QueuesKept s (t.countRaise (pgCheck u) 4 2) := (h.count hp).raise _ _
  exact either (either (h.coverBytes hu e) (either ((h.count hp).raise _ _) (hgap.coverBytes hu e))) (h.coverBytes hu e)

end

section
variable {s : State} {q : Nat}

/-- The check-value units take an envelope: only the expected alive counter moves (R240). -/
theorem checkEnv_becomes (s : State) (q : Nat) (e : Bytes) :
    ∃ a, QdBecomes s q { s.qd q with alive := a } (s.checkEnv q e) := by
  have htakes (dist : Nat) (l : List Nat) (hl : ∀ u ∈ l, u < 32) :
      QueuesKept s (forL l (fun u s => s.unitTakes u dist e) s) := by
    have hkeeps : ∀ t, QueuesKept s t → QueuesKept s (forL l (fun u s => s.unitTakes u dist e) t) := by
      induction l with
      | nil => exact fun _ ht => ht
      | cons u l ih =>
        obtain ⟨hu, hl⟩ := List.forall_mem_cons.1 hl
        exact fun t ht => ih hl _ (ht.unitTakes hu dist e)
    exact hkeeps s (.refl s)
  unfold State.checkEnv
  extract_lets d alive dist units judged t d'
  have hkept : QueuesKept s t :=
    htakes dist units fun u hu => List.mem_range.1 (List.mem_of_mem_filter hu)
  split
  · refine ⟨(alive + 1) % 256, (QdBecomes.of_kept hkept q).trans ?_⟩
    have hd' : d' = s.qd q := hkept.qd q
    show QdBecomes t q _ (t.moveQd q { d' with alive := (alive + 1) % 256 })
    rw [hd']
    exact QdBecomes.moveQd t q _
  · exact ⟨(s.qd q).alive, QdBecomes.of_kept hkept q⟩

/-- An admitted envelope is consumed: HEAD moves on (R246). -/
theorem consume_becomes (ha : s.RingsAnswer) (hkind : (s.qd q).kind ≠ 0)
    (hsome : posDiff (s.qd q).admPos (s.qd q).head ≠ 0) :
    ∃ a, QdBecomes s q { s.qd q with alive := a, head := ((s.qd q).head + 1) % 2 ^ 21 } (s.consume q).2 := by
  have hawake : s.qmemAwake = true := by rw [State.qmemAwake, ha.awake, Bool.or_true]
  have hread : QueuesKept s (s.envAt (s.qd q) (s.qd q).head).2 := (QueuesKept.refl s).envAt ha.noError _ _
  unfold State.consume
  dsimp only
  generalize s.envAt (s.qd q) (s.qd q).head = r at hread ⊢
  generalize posDiff (s.qd q).admPos (s.qd q).head = n at hsome ⊢
  rw [if_neg (by simp [hkind, hsome, ha.en, hawake])]
  obtain ⟨a, hchecked⟩ := checkEnv_becomes r.2 q r.1.1
  rw [hread.qd q] at hchecked
  have ht : QdBecomes s q { s.qd q with alive := a } (r.2.checkEnv q r.1.1) := (QdBecomes.of_kept hread q).trans hchecked
  rw [ht.same]
  exact ⟨a, ht.trans (QdBecomes.moveQd _ q _)⟩

/-- A descriptor from which `n` envelopes have been consumed. -/
structure QDesc.Consumed (d : QDesc) (n : Nat) (e : QDesc) : Prop where
  eq : e = { d with alive := e.alive, head := e.head }
  head : e.head % 2 ^ 21 = (d.head + n) % 2 ^ 21
  lt : d.head < 2 ^ 21 → e.head < 2 ^ 21

/-- So many envelopes as are admitted can be consumed. -/
theorem consumeN_becomes {n : Nat} (ha : s.RingsAnswer) (hkind : (s.qd q).kind ≠ 0)
    (hn : n ≤ posDiff (s.qd q).admPos (s.qd q).head) :
    ∃ e, (s.qd q).Consumed n e ∧ QdBecomes s q e (s.consumeN q n) := by
  induction n generalizing s with
  | zero => exact ⟨s.qd q, ⟨rfl, rfl, id⟩, .of_kept (.refl s) q⟩
  | succ n ih =>
    obtain ⟨a, hone⟩ := consume_becomes ha hkind (by omega)
    have hsame := hone.same
    have hleft : n ≤ posDiff ((s.consume q).2.qd q).admPos ((s.consume q).2.qd q).head := by
      rw [hsame]
      simp only [posDiff] at hn ⊢
      omega
    obtain ⟨e, he, hrest⟩ := ih (hone.answer ha) (by rw [hsame]; exact hkind) hleft
    rw [hsame] at he
    refine ⟨e, ⟨he.eq, ?_, fun _ => he.lt (Nat.mod_lt _ (by decide))⟩, hone.trans hrest⟩
    have hhead := he.head
    dsimp only at hhead
    omega

end

/-! ### RELEASE -/

/-- RELEASE of one queue (Table 9.6). -/
def State.releaseQ (s : State) (q : Nat) : State :=
  if (s.qd q).kind = 1 then s.consumeN q (posDiff (s.qd q).admPos (s.qd q).head) else s

theorem State.releaseRange_eq (s : State) (first n : Nat) :
    s.releaseRange first n = forL (s.queuesIn first n) (fun q t => t.releaseQ q) s := rfl

/-- `u` follows from `s` by releases: of a descriptor, only HEAD and the expected alive counter move. -/
structure Released (s u : State) : Prop extends RingsStand s u where
  qd : ∀ k, ∃ n, (s.qd k).Consumed n (u.qd k)

/-- HEAD of queue `k`, of KIND 1 in `s`, is its ADMIT. -/
def HeadReached (s : State) (k : Nat) (u : State) : Prop :=
  (s.qd k).kind = 1 → (s.qd k).admPos < 2 ^ 21 → (s.qd k).head < 2 ^ 21 → (u.qd k).head = (s.qd k).admPos

section
variable {s t : State}

theorem Released.refl (s : State) : Released s s := ⟨.refl s, fun _ => ⟨0, rfl, rfl, id⟩⟩

theorem QDesc.Consumed.trans {d e f : QDesc} {m n : Nat} (h : d.Consumed m e) (h' : e.Consumed n f) :
    d.Consumed (m + n) f where
  eq := h'.eq.trans (by rw [h.eq])
  head := by
    have h1 := h.head
    have h2 := h'.head
    omega
  lt hd := h'.lt (h.lt hd)

/-- The release of one queue changes its descriptor alone. -/
theorem releaseQ_becomes (ha : t.RingsAnswer) (q : Nat) : ∃ e, (t.qd q).Consumed
    (if (t.qd q).kind = 1 then posDiff (t.qd q).admPos (t.qd q).head else 0) e ∧ QdBecomes t q e (t.releaseQ q) := by
  unfold State.releaseQ
  split
  · next hkind => exact consumeN_becomes ha (by omega) le_rfl
  · exact ⟨t.qd q, ⟨rfl, rfl, id⟩, .of_kept (.refl t) q⟩

theorem Released.releaseQ (h : Released s t) (ha : s.RingsAnswer) (q : Nat) : Released s (t.releaseQ q) := by
  obtain ⟨e, he, hbecomes⟩ := releaseQ_becomes (h.answer ha) q
  refine ⟨h.toRingsStand.trans hbecomes.toRingsStand, fun k => ?_⟩
  obtain ⟨n, hn⟩ := h.qd k
  rw [hbecomes.qd]
  split
  · next hk =>
    subst hk
    exact ⟨_, hn.trans he⟩
  · exact ⟨n, hn⟩

/-- The release of a queue brings its HEAD to ADMIT. -/
theorem Released.releaseQ_reaches (h : Released s t) (ha : s.RingsAnswer) (q : Nat) : HeadReached s q (t.releaseQ q) := by
  intro hkind hadm hhead
  obtain ⟨n, hn⟩ := h.qd q
  obtain ⟨e, he, hbecomes⟩ := releaseQ_becomes (h.answer ha) q
  have hlt := he.lt (hn.lt hhead)
  have hmoved := he.head
  rw [hn.eq] at hmoved
  rw [hbecomes.same]
  simp only [hkind, if_true, posDiff] at hmoved
  omega

theorem Released.releaseQ_keeps_reached (h : Released s t) (ha : s.RingsAnswer) (q : Nat) {k : Nat}
    (hk : HeadReached s k t) : HeadReached s k (t.releaseQ q) := by
  by_cases hq : k = q
  · subst hq
    exact h.releaseQ_reaches ha k
  · obtain ⟨e, -, hbecomes⟩ := releaseQ_becomes (h.answer ha) q
    unfold HeadReached
    rw [hbecomes.qd, if_neg hq]
    exact hk

/-- The releases of a list of queues bring the HEAD of each to its ADMIT. -/
theorem Released.releases (h : Released s t) (ha : s.RingsAnswer) (l : List Nat) :
    Released s (forL l (fun q t => t.releaseQ q) t) ∧
      ∀ k, k ∈ l ∨ HeadReached s k t → HeadReached s k (forL l (fun q t => t.releaseQ q) t) := by
  induction l generalizing t with
  | nil => exact ⟨h, fun k hk => hk.resolve_left (by simp)⟩
  | cons q l ih =>
    obtain ⟨hreleased, hreached⟩ := ih (h.releaseQ ha q)
    refine ⟨hreleased, fun k hk => hreached k ?_⟩
    rw [List.mem_cons] at hk
    rcases hk with (rfl | hk) | hk
    · exact .inr (h.releaseQ_reaches ha k)
    · exact .inl hk
    · exact .inr (h.releaseQ_keeps_reached ha q hk)

theorem mem_keys_of_tget_ne {α : Type} {d : α} {k : Nat} {m : Tbl α} (h : tget d k m ≠ d) : k ∈ m.map (·.1) := by
  induction m with
  | nil => exact absurd rfl h
  | cons e m ih =>
    by_cases hk : e.1 = k
    · simp [hk]
    · exact List.mem_cons_of_mem _ (ih (by simpa [tget, hk] using h))

/-- A configured queue of the range is among its queues. -/
theorem State.mem_queuesIn {first n k : Nat} (hkind : (s.qd k).kind ≠ 0) (hfirst : first ≤ k) (hlast : k < first + n) :
    k ∈ s.queuesIn first n := by
  have hkey : k ∈ s.q.desc.map (·.1) := mem_keys_of_tget_ne (d := ({} : QDesc)) fun heq => hkind (by rw [State.qd, heq])
  simp only [State.queuesIn, List.mem_filter, Bool.and_eq_true, decide_eq_true_eq]
  exact ⟨hkey, hfirst, hlast⟩

/-- RELEASE of a range (Table 9.6). -/
theorem releaseRange_releases (hen : s.en pgQueue = true) (hawake : s.qmemAwake = true) (herr : s.mem.err = [])
    (first n : Nat) : Released s (s.releaseRange first n) ∧
      ∀ k ∈ s.queuesIn first n, HeadReached s k (s.releaseRange first n) := by
  rw [State.releaseRange_eq]
  rcases Bool.or_eq_true_iff.1 hawake with hnone | hrange
  · have hempty : s.queuesIn first n = [] := by simp [State.queuesIn, List.isEmpty_iff.1 hnone]
    rw [hempty]
    exact ⟨.refl s, fun k hk => absurd hk (by simp)⟩
  · obtain ⟨hreleased, hreached⟩ := (Released.refl s).releases ⟨hen, hrange, herr⟩ (s.queuesIn first n)
    exact ⟨hreleased, fun k hk => hreached k (.inl hk)⟩

end

/-! ### The operations of a plan -/

section
variable {s : State} {w f n : Nat}

theorem State.queueOp_of_admit (hop : opCode w = 5) (hen : s.en pgQueue = true) (hawake : s.qmemAwake = true) :
    s.queueOp w f n = (s.admitOp w, [], false) := by
  simp [State.queueOp, hop, hen, hawake]

theorem State.queueOp_of_release (hop : opCode w = 6) (hen : s.en pgQueue = true) (hawake : s.qmemAwake = true) :
    s.queueOp w f n = (s.releaseOp w, [], false) := by
  simp [State.queueOp, hop, hen, hawake]

theorem State.queueOp_of_standby (hen : s.en pgQueue = true) (hawake : s.qmemAwake = false) :
    s.queueOp w f n = ({ s with q := { s.q with opDue := s.q.opDue ++ [(f, n, w)] } }, [0], false) := by
  simp [State.queueOp, hen, hawake]

theorem State.queueOp_of_disabled (hen : s.en pgQueue = false) : s.queueOp w f n = (s, [], true) := by
  simp [State.queueOp, hen]

end

theorem State.syncAdmitRow_plan (s : State) : s.syncAdmitRow .plan = s.launch 5 (fun r => decide (opCode r.w1 = 5))
    (fun r n s => s.queueOp r.w1 s.fr.num n) := rfl

theorem State.syncReleaseRow_plan (s : State) : s.syncReleaseRow .plan = s.launch 5 (fun r => decide (opCode r.w1 = 6))
    (fun r n s => s.queueOp r.w1 s.fr.num n) := rfl

/-- ADMIT of a range of one queue: its admission point, then its cell (Table 9.6). -/
theorem admitOp_admits {s : State} {w q : Nat} {d : QDesc} (h : s.AdmitsAll q d)
    (hrange : s.queuesIn (opFirst w) (opCount w) = [q]) : ∃ t, Admitted s q t ∧
      s.admitOp w = if opCell w = 0 then t.count pgQueue 8 else t.addCell (opCell w) 1 := by
  refine ⟨_, h.admitQ_admits, ?_⟩
  rw [State.admitOp, hrange]
  rfl

end Sys2Proof.Machine
end

section
/-!
PROOFS. The statement about ADMIT and RELEASE from a frame plan (O47): what each leaves of the queues, the cell and the counters,
and the two ways an operation is held.
-/
namespace Sys2Proof.Machine

/-! ### What ADMIT and RELEASE leave -/

section
variable {s t u : State} {q c v : Nat}

theorem CellBecomes.qd (h : CellBecomes s c v u) (k : Nat) : u.qd k = s.qd k := by rw [State.qd, h.desc, State.qd]

theorem untwos_succ (n : Nat) : untwos 64 (Int.ofNat n + 1) = (n + 1) % 2 ^ 64 := by
  unfold untwos
  simp only [Int.ofNat_eq_natCast]
  omega

/-- The cell of an ADMIT, when it is not 0, gains 1 (Table 9.6). -/
theorem CellBecomes.gain (s : State) (c : Nat) : CellBecomes s c (if c = 0 then s.cell c else (s.cell c + 1) % 2 ^ 64)
    (if c = 0 then s.count pgQueue 8 else s.addCell c 1) := by
  split
  · exact CellBecomes.count s c
  · rw [← untwos_succ]
    exact CellBecomes.addCell s c 1

/-- What a plan's ADMIT of queue `q` and cell `c` leaves: the admission point and the gain of the cell (Table 9.6). -/
structure AdmittedWithCell (s : State) (q c : Nat) (u : State) : Prop where
  same : u.qd q = { s.qd q with admPos := (s.qd q).tail }
  others : ∀ k, k ≠ q → u.qd k = s.qd k
  admitted : u.cntLive pgQueue 1 = min (s.cntLive pgQueue 1 + posDiff (s.qd q).tail (s.qd q).admPos) (2 ^ 64 - 1)
  gained : c ≠ 0 → u.cell c = (s.cell c + 1) % 2 ^ 64
  cells : ∀ k, k ≠ c ∨ k = 0 → u.cell k = s.cell k
  ops : u.cntLive pgQueue 8 = min (s.cntLive pgQueue 8 + 1) (2 ^ 64 - 1)

namespace AdmittedWithCell

theorem of_gain (h : Admitted s q t) (hc : CellBecomes t c (if c = 0 then t.cell c else (t.cell c + 1) % 2 ^ 64) u) :
    AdmittedWithCell s q c u := by
  have hcell (k : Nat) : t.cell k = s.cell k := by rw [State.cell, h.sy, State.cell]
  refine ⟨by rw [hc.qd, h.qd, if_pos rfl], fun k hk => ?_, ?_, fun hne => ?_, fun k hk => ?_, ?_⟩
  · rw [hc.qd, h.qd, if_neg hk]
  · rw [hc.cnt 1 (by decide), h.admitted]
  · rw [hc.cell, if_neg hne, hcell]
  · by_cases hkc : k = c
    · subst hkc
      rw [hc.cell, if_pos (hk.resolve_left fun hne => hne rfl), hcell]
    · rw [hc.others k hkc, hcell]
  · rw [hc.executed, h.ops]

/-- The action that the record starts and the settling of the step change nothing of it. -/
theorem launched (h : AdmittedWithCell s q c u) (s0 : State) (a : Act) : AdmittedWithCell s q c (settle s0 (u.addAct a)) where
  same := (settle_qd _ _ q).trans h.same
  others k hk := (settle_qd _ _ k).trans (h.others k hk)
  admitted := (settle_cntLive_pgQueue _ _).trans h.admitted
  gained hne := (settle_cell _ _ c).trans (h.gained hne)
  cells k hk := (settle_cell _ _ k).trans (h.cells k hk)
  ops := (settle_cntLive_pgQueue _ _).trans h.ops

/-- From the state of a plan whose record has been taken. -/
theorem of_takeRec {r : ARec} (h : AdmittedWithCell (s.takeRec r) q c u) : AdmittedWithCell s q c u :=
  ⟨h.same, h.others, h.admitted, h.gained, h.cells, h.ops⟩

end AdmittedWithCell

end

/-- What a plan's RELEASE of a range leaves (Table 9.6). -/
structure ReleasedRange (s : State) (first n : Nat) (u : State) : Prop where
  reached : ∀ q, first ≤ q → q < first + n → HeadReached s q u
  kept : ∀ q, (u.qd q).admPos = (s.qd q).admPos ∧ (u.qd q).tail = (s.qd q).tail ∧ (u.qd q).kind = (s.qd q).kind
  sy : u.sy = s.sy
  ops : u.cntLive pgQueue 8 = min (s.cntLive pgQueue 8 + 1) (2 ^ 64 - 1)

namespace ReleasedRange
variable {s t u : State} {first n : Nat}

theorem of_released (h : Released s t) (hreached : ∀ q ∈ s.queuesIn first n, HeadReached s q t) :
    ReleasedRange s first n (t.count pgQueue 8) where
  reached q hfirst hlast hkind :=
    hreached q (State.mem_queuesIn (by rw [hkind]; decide) hfirst hlast) hkind
  kept q := by
    obtain ⟨m, hm⟩ := h.qd q
    have hcount : (t.count pgQueue 8).qd q = t.qd q := rfl
    rw [hcount, hm.eq]
    exact ⟨rfl, rfl, rfl⟩
  sy := h.sy
  ops := by rw [State.cntLive_count_eight, if_pos rfl, h.cnt 8 (by decide)]

/-- The action that the record starts and the settling of the step change nothing of it. -/
theorem launched (h : ReleasedRange s first n u) (s0 : State) (a : Act) :
    ReleasedRange s first n (settle s0 (u.addAct a)) where
  reached q hfirst hlast := by
    rw [HeadReached, settle_qd]
    exact h.reached q hfirst hlast
  kept q := by
    rw [settle_qd]
    exact h.kept q
  sy := (settle_sy _ _).trans h.sy
  ops := (settle_cntLive_pgQueue _ _).trans h.ops

/-- From the state of a plan whose record has been taken. -/
theorem of_takeRec {r : ARec} (h : ReleasedRange (s.takeRec r) first n u) : ReleasedRange s first n u :=
  ⟨h.reached, h.kept, h.sy, h.ops⟩

end ReleasedRange

/-! ### The launch from a plan -/

section
variable (s : State) (r : ARec)

theorem State.en_takeRec (p : Nat) : (s.takeRec r).en p = s.en p := rfl
theorem State.qd_takeRec (q : Nat) : (s.takeRec r).qd q = s.qd q := rfl
theorem State.queuesIn_takeRec (first n : Nat) : (s.takeRec r).queuesIn first n = s.queuesIn first n := rfl
theorem State.rangeAwake_takeRec (a n : Nat) : (s.takeRec r).rangeAwake a n = s.rangeAwake a n := rfl

theorem State.qmemAwake_takeRec : (s.takeRec r).qmemAwake = s.qmemAwake := by
  unfold State.qmemAwake
  rw [State.rangeAwake_takeRec]
  rfl

end

theorem execSyncAdmit_plan (s : State) : exec (.syncAdmit .plan) s = done s (s.launch 5
    (fun r => decide (opCode r.w1 = 5)) (fun r n s => s.queueOp r.w1 s.fr.num n)) :=
  congrArg (done s) s.syncAdmitRow_plan

theorem execSyncRelease_plan (s : State) : exec (.syncRelease .plan) s = done s (s.launch 5
    (fun r => decide (opCode r.w1 = 6)) (fun r n s => s.queueOp r.w1 s.fr.num n)) :=
  congrArg (done s) s.syncReleaseRow_plan

section
variable {s : State} {r : ARec}

theorem State.AdmitsAll.of_takeRec {q : Nat} {d : QDesc} (h : s.AdmitsAll q d) : (s.takeRec r).AdmitsAll q d :=
  ⟨h.qd, h.kind, h.noSync, h.tail, h.admPos, h.noFresh, h.noLimit, h.noOrder, h.noDl, h.noError⟩

variable (h : s.SyncDue r) (hen : s.en pgQueue = true)
include h hen

/-- ADMIT of a range of one queue (Table 9.6). -/
theorem syncAdmit_plan_answers {q : Nat} {d : QDesc} (hop : opCode r.w1 = 5) (hawake : s.qmemAwake = true)
    (hrange : s.queuesIn (opFirst r.w1) (opCount r.w1) = [q]) (hadmits : s.AdmitsAll q d) :
    Answers (exec (.syncAdmit .plan) s) fun u => AdmittedWithCell s q (opCell r.w1) u ∧
      u.actOf s.fr.num s.fr.nextRec = some (s.syncAct r [] false) := by
  obtain ⟨t, hadmitted, hcell⟩ := admitOp_admits (hadmits.of_takeRec (r := r)) ((s.queuesIn_takeRec r _ _).trans hrange)
  have hgain := CellBecomes.gain t (opCell r.w1)
  rw [← hcell] at hgain
  have hqueue := State.queueOp_of_admit (f := s.fr.num) (n := s.fr.nextRec) hop ((s.en_takeRec r _).trans hen)
    ((s.qmemAwake_takeRec r).trans hawake)
  exact h.answers (execSyncAdmit_plan s) hop hqueue
    (fun f i hidle => hgain.idle f i ((congrArg (List.find? _) hadmitted.acts).trans hidle))
    ((AdmittedWithCell.of_gain hadmitted hgain).of_takeRec.launched s _)

/-- RELEASE of a range (Table 9.6). -/
theorem syncRelease_plan_answers (hop : opCode r.w1 = 6) (hawake : s.qmemAwake = true) (herr : s.mem.err = []) :
    Answers (exec (.syncRelease .plan) s) (ReleasedRange s (opFirst r.w1) (opCount r.w1)) := by
  have hqueue := State.queueOp_of_release (f := s.fr.num) (n := s.fr.nextRec) hop ((s.en_takeRec r _).trans hen)
    ((s.qmemAwake_takeRec r).trans hawake)
  obtain ⟨hreleased, hreached⟩ := releaseRange_releases ((s.en_takeRec r _).trans hen)
    ((s.qmemAwake_takeRec r).trans hawake) herr (opFirst r.w1) (opCount r.w1)
  obtain ⟨u, hu, hrange, -⟩ := h.answers (execSyncRelease_plan s) hop hqueue
    (fun f i hidle => (congrArg (List.find? _) hreleased.acts).trans hidle)
    ((ReleasedRange.of_released hreleased hreached).of_takeRec.launched s _)
  exact ⟨u, hu, hrange⟩

end

section
variable {s : State} {r : ARec} {i : Instr} {k : Nat} (h : s.SyncDue r)
  (hexec : exec i s = done s (s.launch 5 (fun r => decide (opCode r.w1 = k)) (fun r n s => s.queueOp r.w1 s.fr.num n)))
  (hop : opCode r.w1 = k)
include h hexec hop

/-- With queue memory in standby a range operation waits (R357). -/
theorem rangeOp_plan_waits (hen : s.en pgQueue = true) (hawake : s.qmemAwake = false) : Answers (exec i s) fun u =>
    u.q = { s.q with opDue := s.q.opDue ++ [(s.fr.num, s.fr.nextRec, r.w1)] } ∧ u.sy = s.sy ∧ u.mem = s.mem ∧
      u.actOf s.fr.num s.fr.nextRec = some (s.syncAct r [0] false) := by
  have hqueue := State.queueOp_of_standby (w := r.w1) (f := s.fr.num) (n := s.fr.nextRec)
    ((s.en_takeRec r _).trans hen) ((s.qmemAwake_takeRec r).trans hawake)
  obtain ⟨u, hu, ⟨hq, hsy, hmem⟩, hact⟩ := h.answers (P := fun u => u.q = { s.q with
      opDue := s.q.opDue ++ [(s.fr.num, s.fr.nextRec, r.w1)] } ∧ u.sy = s.sy ∧ u.mem = s.mem)
    hexec hop hqueue (fun _ _ hidle => hidle) (by simp)
  exact ⟨u, hu, hq, hsy, hmem, hact⟩

/-- With the queue engine disabled a range operation never completes (R516). -/
theorem rangeOp_plan_never (hen : s.en pgQueue = false) : Answers (exec i s) fun u =>
    u.q = s.q ∧ u.sy = s.sy ∧ u.mem = s.mem ∧ u.actOf s.fr.num s.fr.nextRec = some (s.syncAct r [] true) := by
  have hqueue := State.queueOp_of_disabled (w := r.w1) (f := s.fr.num) (n := s.fr.nextRec)
    ((s.en_takeRec r _).trans hen)
  obtain ⟨u, hu, ⟨hq, hsy, hmem⟩, hact⟩ := h.answers (P := fun u => u.q = s.q ∧ u.sy = s.sy ∧ u.mem = s.mem)
    hexec hop hqueue (fun _ _ hidle => hidle) (by simp)
  exact ⟨u, hu, hq, hsy, hmem, hact⟩

end

/-! ### The obligation -/

/-- Settles O47: `AdmittedWithCell` for ADMIT, `Released` and `HeadReached` for RELEASE, and the two ways an operation is held. -/
theorem admissionAndReleaseMovePositions : Obligations.AdmissionAndReleaseMovePositions := by
  intro s r hnext hdue hvalid hty hidle
  have h : s.SyncDue r := ⟨hnext, hdue, hvalid, hty, hidle⟩
  refine ⟨?_, fun hop hen hawake herr => ?_, fun hen hawake i k hi hop => ?_, fun hen i k hi hop => ?_⟩
  · intro q d hop hen hawake herr hrange hqd hkind hsync htail hadm hfresh hlimit horder hdl
    subst hqd
    obtain ⟨u, hu, hadmitted, hact⟩ := syncAdmit_plan_answers h hen hop hawake hrange
      ⟨rfl, hkind, hsync, htail, hadm, hfresh, hlimit, horder, hdl, herr⟩
    obtain ⟨hsame, hothers, hcount, hgained, hcells, hops⟩ := hadmitted
    exact ⟨u, hu, by rw [hsame], by rw [hsame], by rw [hsame], hcount, hothers, hgained, hcells, hops, hact⟩
  · obtain ⟨u, hu, hreached, hkept, hsy, hops⟩ := syncRelease_plan_answers h hen hop hawake herr
    exact ⟨u, hu, hreached, hkept, hsy, hops⟩
  · simp only [List.mem_cons, Prod.mk.injEq, List.not_mem_nil, or_false] at hi
    obtain ⟨rfl, rfl⟩ | ⟨rfl, rfl⟩ := hi
    · exact rangeOp_plan_waits h (execSyncAdmit_plan s) hop hen hawake
    · exact rangeOp_plan_waits h (execSyncRelease_plan s) hop hen hawake
  · simp only [List.mem_cons, Prod.mk.injEq, List.not_mem_nil, or_false] at hi
    obtain ⟨rfl, rfl⟩ | ⟨rfl, rfl⟩ := hi
    · exact rangeOp_plan_never h (execSyncAdmit_plan s) hop hen
    · exact rangeOp_plan_never h (execSyncRelease_plan s) hop hen

end Sys2Proof.Machine
end

section
/-!
PROOFS. What a frame fault leaves of the frame unit, for the statements about frames (O28, O29, O31, O32): memory accesses of engines,
entries of the event log and frame faults change no setting, number, slack or action of the frame unit and nothing of the time
base, and count on no counter of the TIMEBASE and FRAME pages but the FRAME page's CNT2 and CNT8.
-/
namespace Sys2Proof.Machine

/-- The frame unit without what a frame fault marks: the commit buffer and the frames discarded, faulted and charged. -/
def FrameU.core (f : FrameU) : FrameU := { f with buf := [], disc := [], faulted := [], charged := [] }

/-- Counters of the TIMEBASE and FRAME pages on which no frame fault counts (Table 10.11). -/
def OffFaults (p k : Nat) : Prop := (p = pgTb ∨ p = pgFrame ∧ k ≠ 2 ∧ k ≠ 8) ∧ k < 32

/-- `u` follows from `s` by frame faults and what they do: the frame unit but its commit buffer and its marks, the time base and
the counters apart from faults stand. -/
structure FrameKept (s u : State) : Prop where
  core : u.fr.core = s.fr.core
  tb : u.tb = s.tb
  cnt : ∀ p k, OffFaults p k → u.cntLive p k = s.cntLive p k

namespace FrameKept
variable {s u : State}

theorem refl (s : State) : FrameKept s s := ⟨rfl, rfl, fun _ _ _ => rfl⟩

/-- What does not look at the commit buffer and the marks is as it was. -/
theorem field (h : FrameKept s u) {β : Type} (f : FrameU → β) (hf : ∀ x : FrameU, f x.core = f x) :
    f u.fr = f s.fr :=
  (hf _).symm.trans ((congrArg f h.core).trans (hf _))

/-- An update of fields other than the time base and the counters, and of a frame's commit buffer and marks. -/
theorem frame {pending freeCtr resp regs evRaw evEn snap soft hif irq fr gov rg q sy mem share sec link chk route frozen
    mg vsu stm tile lp pw} (h : FrameKept s u) (hcore : FrameU.core fr = u.fr.core) :
    FrameKept s { u with
      pending, freeCtr, resp, regs, evRaw, evEn, snap, soft, hif, irq, fr, gov, rg, q, sy, mem, share, sec, link, chk
      route, frozen, mg, vsu, stm, tile, lp, pw } :=
  ⟨hcore.trans h.core, h.tb, h.cnt⟩

theorem either {c : Prop} [Decidable c] {a b : State} (ha : FrameKept s a) (hb : FrameKept s b) :
    FrameKept s (if c then a else b) := by
  split <;> assumption

theorem eitherSnd {α : Type} {c : Prop} [Decidable c] {a b : α × State} (ha : FrameKept s a.2) (hb : FrameKept s b.2) :
    FrameKept s (if c then a else b).2 := by
  split <;> assumption

theorem count (h : FrameKept s u) {p k : Nat} (hp : ¬ OffFaults p k) (hk : k < 32) :
    FrameKept s (u.count p k) := by
  refine ⟨h.core, h.tb, fun p' k' hoff => ?_⟩
  rw [State.cntLive_count, if_neg, h.cnt p' k' hoff]
  intro heq
  obtain ⟨rfl, rfl⟩ : p' = p ∧ k' = k := by
    have := hoff.2
    omega
  exact hp hoff

theorem mem (h : FrameKept s u) (m : Memory) : FrameKept s { u with mem := m } := frame h rfl

theorem raise (h : FrameKept s u) (p b : Nat) : FrameKept s (u.raise p b) := frame h rfl

theorem setReg (h : FrameKept s u) (p o v : Nat) : FrameKept s (u.setReg p o v) := frame h rfl

theorem setCtl (h : FrameKept s u) (k : Nat) (c : Ctl) : FrameKept s (u.setCtl k c) := frame h rfl

theorem setQd (h : FrameKept s u) (q : Nat) (d : QDesc) : FrameKept s (u.setQd q d) := frame h rfl

/-! Counters that move -/

theorem countMem (h : FrameKept s u) (m : Nat) {k : Nat} (hk : k < 32) : FrameKept s (u.count (pgMem m) k) :=
  h.count (by simp only [OffFaults, pgMem, pgTb, pgFrame]; omega) hk

theorem countDev (h : FrameKept s u) {k : Nat} (hk : k < 32) : FrameKept s (u.count pgDev k) :=
  h.count (by simp only [OffFaults, pgDev, pgTb, pgFrame]; omega) hk

theorem countReg (h : FrameKept s u) {k : Nat} (hk : k < 32) : FrameKept s (u.count pgReg k) :=
  h.count (by simp only [OffFaults, pgReg, pgTb, pgFrame]; omega) hk

/-- The counters of the FRAME page that frame faults move (Table 10.11). -/
theorem countFault (h : FrameKept s u) {k : Nat} (hk : k = 2 ∨ k = 8) : FrameKept s (u.count pgFrame k) :=
  h.count (by simp only [OffFaults, pgTb, pgFrame]; omega) (by omega)

/-! Accesses of engines to memory -/

theorem recErr (h : FrameKept s u) (p a src : Nat) : FrameKept s (u.recErr p a src) :=
  either h (((h.setReg _ _ _).setReg _ _ _).setReg _ _ _)

theorem unbacked (h : FrameKept s u) (a : Nat) : FrameKept s (u.unbacked a) :=
  ((((h.recErr _ _ _).countMem 0 (by decide)).countMem 0 (by decide)).raise _ _).raise _ _

theorem useLine (h : FrameKept s u) (k l : Nat) (d : Bool) : FrameKept s (u.useLine k l d) := by
  unfold State.useLine
  extract_lets c
  split
  · exact h.setCtl _ _
  · exact (h.setCtl _ _).countMem k (by decide)

theorem touch (h : FrameKept s u) (k a : Nat) (w : Bool) : FrameKept s (u.touch k a w) := by
  have hcount : FrameKept s (u.count (pgMem k) (if w then 1 else 0)) := h.countMem k (by split <;> decide)
  exact either (hcount.useLine _ _ _) hcount

theorem wbLine (h : FrameKept s u) (k g : Nat) : FrameKept s (u.wbLine k g) := either (h.useLine _ _ _) h

theorem breakImage (h : FrameKept s u) (a : Nat) : FrameKept s (u.breakImage a) := either (frame h rfl) h

theorem decodeCtl (h : FrameKept s u) (k src g : Nat) (dec : Dec) : FrameKept s (u.decodeCtl k src g dec).2 := by
  unfold State.decodeCtl
  split
  · have hlost := ((h.recErr (pgMem k) (64 * g) src).countMem k (k := 3) (by decide)).raise (pgMem k) 1
    exact breakImage (frame ((hlost.mem _).wbLine k g) rfl) _
  · have hfixed := (h.mem (u.mem.heal g)).wbLine k g
    exact eitherSnd (hfixed.countMem k (by decide)) (((hfixed.countMem k (by decide)).raise _ _).setCtl _ _)
  · exact eitherSnd (h.countMem k (by decide)) h

theorem sramLost (h : FrameKept s u) (src a : Nat) : FrameKept s (u.sramLost src a) := by
  have hrec : FrameKept s (u.recSram a src) := either h (((h.setReg _ _ _).setReg _ _ _).setReg _ _ _)
  exact (hrec.countDev (by decide)).raise _ _

theorem sramFixed (h : FrameKept s u) : FrameKept s u.sramFixed := (h.countDev (by decide)).raise _ _

theorem decodeHub (h : FrameKept s u) (src g : Nat) (dec : Dec) : FrameKept s (u.decodeHub src g dec).2 := by
  unfold State.decodeHub
  split
  · have hlost := h.sramLost src (64 * g)
    exact eitherSnd (frame (forN_keeps (FrameKept s) _ (fun _ _ ht => ht.setQd _ _) _ _ hlost) rfl) (hlost.mem _)
  · have hheal := h.mem (u.mem.heal g)
    exact eitherSnd hheal hheal.sramFixed
  · exact h

theorem gRead (h : FrameKept s u) (src g : Nat) (dec : Dec) : FrameKept s (u.gRead src g dec).2 := by
  unfold State.gRead
  split
  · exact h.unbacked _
  · exact eitherSnd (h.unbacked _) ((h.touch _ _ _).decodeCtl _ _ _ _)
  · exact h.decodeHub _ _ _
  · exact h.decodeHub _ _ _

theorem lay (h : FrameKept s u) (src g : Nat) (data : List (Option Byte)) (poison : Bool) (dec : Dec) :
    FrameKept s (u.lay src g data poison dec) :=
  either (frame h rfl) (frame (by split; exacts [h.decodeCtl _ _ _ _, h.decodeHub _ _ _]) rfl)

theorem gWrite (h : FrameKept s u) (src g : Nat) (data : List (Option Byte)) (poison : Bool) (dec : Dec) :
    FrameKept s (u.gWrite src g data poison dec) := by
  unfold State.gWrite
  split
  · exact h.unbacked _
  · exact h
  · exact h.lay _ _ _ _ _
  · exact either (h.unbacked _) (either (frame h rfl) (breakImage (lay (frame (h.touch _ _ _) rfl) _ _ _ _ _) _))

/-! The event log and frame faults -/

theorem log (h : FrameKept s u) (p code cls detail : Nat) : FrameKept s (u.log p code cls detail) := by
  unfold State.log
  split
  · exact countReg (frame (forL_keeps (FrameKept s) _ (fun _ _ ht => ht.gWrite _ _ _ _ _) _ _ h) rfl) (by decide)
  · exact h

theorem faultLog (h : FrameKept s u) (was : Bool) (p bit : Nat) : FrameKept s (u.faultLog was p bit) :=
  either h (h.log _ _ _ _)

theorem flood (h : FrameKept s u) (except : Option Nat) (m : Bytes) : FrameKept s (u.flood except m) :=
  forN_keeps (FrameKept s) _ (fun _ _ ht => either (frame ht rfl) ht) _ _ h

theorem discardFrame (h : FrameKept s u) (f : Nat) : FrameKept s (u.discardFrame f) := by
  refine either h (countFault ?_ (.inr rfl))
  exact frame h rfl

theorem discardFrom (h : FrameKept s u) (g : Nat) : FrameKept s (u.discardFrom g) :=
  either (forN_keeps (FrameKept s) _ (fun _ _ ht => ht.discardFrame _) _ _ h) h

theorem actVeto (h : FrameKept s u) (v : Veto) : FrameKept s (u.actVeto v) := by
  have hdisc := ((h.countReg (k := 3) (by decide)).raise pgReg 1).discardFrom v.g
  refine either ?_ hdisc
  split
  · exact either (frame hdisc rfl) hdisc
  · exact frame hdisc rfl

theorem declareVeto (h : FrameKept s u) (g : Nat) : FrameKept s (u.declareVeto g) := by
  have hlog := ((h.countReg (k := 2) (by decide)).raise pgReg 0).log pgReg 2 3 (g % 2 ^ 32)
  have hheld : FrameKept s (State.holdVeto _ g) := either hlog (frame hlog rfl)
  have hsent (m : Bytes) := hheld.flood none m
  exact either h (either ((((hsent _).countReg (by decide)).raise _ _).log _ _ _ _) ((hsent _).actVeto _))

theorem frameFault (h : FrameKept s u) (src g : Nat) : FrameKept s (u.frameFault src g) := by
  have hraise := h.raise pgFrame 1
  unfold State.frameFault
  extract_lets was u1 f1 u2 f2 u3 u4
  have h2 : FrameKept s u2 := by
    refine either hraise (countFault ?_ (.inl rfl))
    exact frame hraise rfl
  have h3 : FrameKept s u3 := by
    refine either h2 (faultLog ?_ _ _ _)
    exact frame h2 rfl
  exact (h3.log _ _ _ _).declareVeto g

end FrameKept

/-- What a frame fault leaves (R402). -/
theorem frameKept_frameFault (s : State) (src g : Nat) : FrameKept s (s.frameFault src g) :=
  (FrameKept.refl s).frameFault src g

end Sys2Proof.Machine
end

section
/-!
PROOFS. Actions of a frame plan (O32): the launch that takes a NOP or refuses an invalid record, the completion that forms the
frame's slack, and the overrun.
-/
namespace Sys2Proof.Machine

section
variable (s s0 : State)

/-- The interrupt outputs count on no counter of the FRAME page. -/
@[simp] theorem settle_cntLive_pgFrame {k : Nat} (hk : k < 32) :
    (settle s0 s).cntLive pgFrame k = s.cntLive pgFrame k :=
  settle_cntLive _ _ _ _ (by simp only [pgFrame, pgHost]; omega)

@[simp] theorem State.actOf_raise (p b f i : Nat) : (s.raise p b).actOf f i = s.actOf f i := rfl
@[simp] theorem State.actOf_count (p k f i : Nat) : (s.count p k).actOf f i = s.actOf f i := rfl

end

variable {s : State}

/-! ### The launch of a due record -/

section
variable {r : ARec} (hnext : s.nextRecord = some r) (hdue : s.recDue r = true)
include hnext hdue

theorem opActionNop_of_nop (hvalid : s.recValid r = true) (hty : r.ty = 0) : opActionNop s = s.takeRec r := by
  simp [opActionNop, hnext, hdue, hvalid, hty]

section
variable (hvalid : s.recValid r = false)
include hvalid

theorem opActionNop_of_invalid : opActionNop s = s.badRec r := by
  simp [opActionNop, hnext, hdue, hvalid]

/-- An invalid record that is due is refused by whichever launch finds it (R296). -/
theorem State.launch_of_invalid (ty : Nat) (ok : ARec → Bool) (go : ARec → Nat → State → State × List Nat × Bool) :
    s.launch ty ok go = s.badRec r := by
  simp [State.launch, hnext, hdue, hvalid]

/-- The launches of Table 10.7 but SYNC refuse an invalid record alike. -/
theorem exec_launch_of_invalid {c : Instr} (hc : c ∈ [Instr.actionNop, .actionTileRun, .actionStream, .actionLinkWin, .actionVsu]) :
    exec c s = done s (s.badRec r) := by
  simp only [List.mem_cons, List.not_mem_nil, or_false] at hc
  obtain rfl | rfl | rfl | rfl | rfl := hc
  · exact congrArg (done s) (opActionNop_of_invalid hnext hdue hvalid)
  all_goals exact congrArg (done s) (State.launch_of_invalid hnext hdue hvalid _ _ _)

end

end

/-- The refusal of an invalid record before its frame fault: it is off the plan, and its action stands without an end (R298). -/
def State.refuseRec (s : State) (r : ARec) : State :=
  (((s.addAct ⟨s.fr.num, s.fr.nextRec, r.ty, r.noslack, r.start, r.bound, r.tag, [], true, false⟩).takeRec r).count pgFrame 9).raise
    pgFrame 6

theorem State.badRec_eq (s : State) (r : ARec) : s.badRec r = (s.refuseRec r).frameFault 4 s.fr.num := rfl

/-- The refusal of an invalid record (R296, R402). -/
theorem badRec_answers (s : State) (r : ARec) : Answers (done s (s.badRec r)) fun t =>
    t.cntLive pgFrame 9 = min (s.cntLive pgFrame 9 + 1) (2 ^ 64 - 1) ∧ bitOf (t.raw pgFrame) 6 = true ∧
      bitOf (t.raw pgFrame) 1 = true ∧ t.fr.nextRec = s.fr.nextRec + 1 := by
  have hkept := frameKept_frameFault (s.refuseRec r) 4 s.fr.num
  have hfault := (Faulted.refl (s.refuseRec r)).frameFault 4 s.fr.num
  rw [← State.badRec_eq] at hkept hfault
  refine answers_done ⟨?_, ?_, ?_, ?_⟩
  · rw [settle_cntLive_pgFrame _ _ (k := 9) (by decide), hkept.cnt pgFrame 9 (by simp [OffFaults]), State.refuseRec, State.cntLive_raise,
      State.cntLive_count, if_pos rfl]
    rfl
  · rw [settle_rawBit_pgFrame]
    exact hfault.raised _ _ (by rw [State.refuseRec, bitOf_raw_raise]; simp)
  · rw [settle_rawBit_pgFrame]
    exact State.frameFault_raises _ _ _
  · rw [settle_fr, hkept.field (·.nextRec) fun _ => rfl]
    rfl

/-! ### The actions in progress -/

section
variable {f i : Nat} {a : Act}

theorem State.actOf_names (h : s.actOf f i = some a) : a.frame = f ∧ a.idx = i := by
  simpa using List.find?_some h

/-- An action is no longer in progress. -/
def State.dropAct (s : State) (f i : Nat) : State :=
  { s with fr := { s.fr with acts := s.fr.acts.filter (fun x => !(x.frame == f && x.idx == i)) } }

theorem State.actOf_dropAct_same (s : State) (f i : Nat) : (s.dropAct f i).actOf f i = none := by
  simp only [State.actOf, State.dropAct, List.find?_filter, List.find?_eq_none]
  intro x _
  cases x.frame == f && x.idx == i <;> simp

theorem State.actOf_dropAct_ne (s : State) {f i f' i' : Nat} (hne : f' ≠ f ∨ i' ≠ i) :
    (s.dropAct f i).actOf f' i' = s.actOf f' i' := by
  simp only [State.actOf, State.dropAct, List.find?_filter]
  congr 1
  funext x
  by_cases hx : x.frame = f' ∧ x.idx = i'
  · obtain ⟨rfl, rfl⟩ := hx
    simpa [or_iff_not_imp_left] using hne
  · have hno : (x.frame == f' && x.idx == i') = false := by simpa using hx
    simp [hno]

/-- An action is marked late (R299). -/
def Act.lateFor (a x : Act) : Act := if x.frame = a.frame && x.idx = a.idx then { x with late := true } else x

theorem State.actOf_map_lateFor {u : State} (h : s.actOf f i = some a) (hu : u.fr.acts = s.fr.acts.map a.lateFor) :
    u.actOf f i = some { a with late := true } := by
  have hkeep : (fun x : Act => x.frame == f && x.idx == i) ∘ a.lateFor = fun x : Act => x.frame == f && x.idx == i := by
    funext x
    dsimp only [Function.comp, Act.lateFor]
    split <;> rfl
  unfold State.actOf at *
  rw [hu, List.find?_map, hkeep, h]
  simp [Act.lateFor]

/-! ### Completion -/

/-- A relative slack is the least of the frame so far (R300). -/
def State.leastSoFar (s : State) (v : Int) : Bool :=
  match s.fr.slack with
  | none => true
  | some w => decide (v < w)

/-- The frame's slack takes that of an action that counts and is not late, where it is the least so far (R300). -/
def State.takeSlack (s : State) (a : Act) : State :=
  if a.counted && decide (a.frame = s.fr.num) && !a.late then
    if s.leastSoFar (a.relSlack s.fr.tif) then
      { s with fr := { s.fr with slack := some (a.relSlack s.fr.tif), slackRec := a.idx } }
    else s
  else s

theorem State.takeSlack_frame (s : State) (a : Act) : ∃ slack slackRec,
    s.takeSlack a = { s with fr := { s.fr with slack, slackRec } } := by
  unfold State.takeSlack
  split
  · split
    · exact ⟨_, _, rfl⟩
    · exact ⟨s.fr.slack, s.fr.slackRec, rfl⟩
  · exact ⟨s.fr.slack, s.fr.slackRec, rfl⟩

section
variable (hframe : a.frame = s.fr.num) (hlate : a.late = false)
include hframe hlate

theorem State.slack_takeSlack_none (h : s.fr.slack = none) : (s.takeSlack a).fr.slack =
    if a.counted then some (a.relSlack s.fr.tif) else none := by
  unfold State.takeSlack State.leastSoFar
  by_cases hc : a.counted = true
  · simp [h, hc, hframe, hlate]
  · simp [h, hc]

theorem State.slack_takeSlack_some {w : Int} (h : s.fr.slack = some w) : (s.takeSlack a).fr.slack =
    if a.counted then some (min w (a.relSlack s.fr.tif)) else some w := by
  unfold State.takeSlack State.leastSoFar
  by_cases hc : a.counted = true
  · by_cases hlt : a.relSlack s.fr.tif < w
    · simp [h, hc, hframe, hlate, hlt, Int.min_eq_right (Int.le_of_lt hlt)]
    · simp [h, hc, hframe, hlate, hlt, Int.min_eq_left (Int.not_lt.1 hlt)]
  · simp [h, hc]

end

/-! ### Overrun -/

/-- The first overrun since OVERRUN was cleared is recorded (R299). -/
def State.noteOverrun (s : State) (a : Act) : State :=
  if bitOf (s.raw pgFrame) 2 then s
  else ((s.setReg pgFrame 0x84 (a.idx % 2 ^ 16 * 2 ^ 16 + a.ty)).setReg pgFrame 0x88 a.tag).setReg64 pgFrame 0x90 a.frame

/-- An overrun of the current frame: the action is late and the frame's slack is -1 (R299, R300). -/
def State.markOverrun (s : State) (a : Act) : State :=
  { s with fr := { s.fr with acts := s.fr.acts.map a.lateFor, overrun := true, slack := some (-1), slackRec := a.idx } }

/-! ### The commands -/

variable {frame : BitVec 64} {idx : BitVec 16} (hact : s.actOf frame.toNat idx.toNat = some a)
include hact

/-- An action of the current frame that is complete in time (R298, R300). -/
theorem opActionComplete_in_time (hnever : a.never = false) (hparts : a.parts = []) (hframe : a.frame = s.fr.num)
    (hbound : s.fr.tif ≤ a.bound) :
    opActionComplete frame idx s = (s.dropAct frame.toNat idx.toNat).takeSlack a := by
  obtain ⟨hf, hi⟩ := State.actOf_names hact
  have hin : (decide (a.frame ≠ s.fr.num) || decide (a.bound < s.fr.tif)) = false := by simp [hframe, hbound]
  have hgo : opActionComplete frame idx s = State.takeSlack (State.dropAct
      (if (decide (a.frame ≠ s.fr.num) || decide (a.bound < s.fr.tif)) && !a.late then s.overrunAct a else s) a.frame a.idx) a := by
    unfold opActionComplete
    rw [hact]
    exact if_neg (by simp [hnever, hparts])
  rw [hgo, hin, hf, hi]
  rfl

/-- The completion of an action of the current frame in time (R298, R300). -/
theorem actionComplete_answers (hnever : a.never = false) (hparts : a.parts = []) (hframe : a.frame = s.fr.num)
    (hbound : s.fr.tif ≤ a.bound) : Answers (exec (.actionComplete frame idx) s) fun t =>
    t.actOf frame.toNat idx.toNat = none ∧
      (∀ f i, (f ≠ frame.toNat ∨ i ≠ idx.toNat) → t.actOf f i = s.actOf f i) ∧
      t.fr.slack = (((s.dropAct frame.toNat idx.toNat).takeSlack a).fr.slack) ∧
      t.mem = s.mem ∧ t.tile = s.tile ∧ t.link = s.link ∧ t.q = s.q := by
  have hexec : exec (.actionComplete frame idx) s = done s (opActionComplete frame idx s) := rfl
  rw [hexec, opActionComplete_in_time hact hnever hparts hframe hbound]
  obtain ⟨slack, slackRec, htake⟩ := (s.dropAct frame.toNat idx.toNat).takeSlack_frame a
  rw [htake]
  refine answers_done ⟨?_, fun f i hne => ?_, ?_, ?_, ?_, ?_, ?_⟩
  · rw [settle_actOf]
    exact s.actOf_dropAct_same _ _
  · rw [settle_actOf]
    exact s.actOf_dropAct_ne hne
  · rw [settle_fr]
  · simp [State.dropAct]
  · simp [State.dropAct]
  · simp [State.dropAct]
  · simp [State.dropAct]

omit hact in
@[simp] theorem State.noteOverrun_fr (s : State) (a : Act) : (s.noteOverrun a).fr = s.fr := by
  unfold State.noteOverrun
  split
  · rfl
  · rw [State.setReg64_fr, State.setReg_fr, State.setReg_fr]

omit hact in
theorem State.cntLive_noteOverrun (s : State) (a : Act) (p k : Nat) : (s.noteOverrun a).cntLive p k = s.cntLive p k := by
  unfold State.noteOverrun
  split
  · rfl
  · simp

omit hact in
theorem State.overrunAct_eq (hframe : a.frame = s.fr.num) (hover : s.fr.overrun = false) :
    s.overrunAct a = (((s.noteOverrun a).markOverrun a).countRaise pgFrame 3 2).frameFault 1 a.frame := by
  have hgo : s.overrunAct a = State.frameFault (State.countRaise (if a.frame = (s.noteOverrun a).fr.num &&
      !(s.noteOverrun a).fr.overrun then (s.noteOverrun a).markOverrun a else
        { s.noteOverrun a with fr := { (s.noteOverrun a).fr with acts := (s.noteOverrun a).fr.acts.map a.lateFor } })
      pgFrame 3 2) 1 a.frame := rfl
  rw [hgo, if_pos]
  simp [hframe, hover]

/-- An action of the current frame that has passed its bound (R299). -/
theorem actionOverrun_answers (hpast : s.pastBound a = true) (hlate : a.late = false) (hframe : a.frame = s.fr.num)
    (hover : s.fr.overrun = false) : Answers (exec (.actionOverrun frame idx) s) fun t =>
    bitOf (t.raw pgFrame) 2 = true ∧ bitOf (t.raw pgFrame) 1 = true ∧
      t.cntLive pgFrame 3 = min (s.cntLive pgFrame 3 + 1) (2 ^ 64 - 1) ∧ t.frameSlack = -1 ∧
      t.actOf frame.toNat idx.toNat = some { a with late := true } := by
  have hexec : exec (.actionOverrun frame idx) s = done s (s.overrunAct a) := by
    show done s (opActionOverrun frame idx s) = _
    simp [opActionOverrun, hact, hpast, hlate]
  rw [hexec, State.overrunAct_eq hframe hover]
  have hnote := s.noteOverrun_fr a
  have hcnt := s.cntLive_noteOverrun a pgFrame 3
  generalize s.noteOverrun a = v at *
  generalize hu : (v.markOverrun a).countRaise pgFrame 3 2 = u
  have hkept := frameKept_frameFault u 1 a.frame
  have hfault := (Faulted.refl u).frameFault 1 a.frame
  refine answers_done ⟨?_, ?_, ?_, ?_, ?_⟩
  · rw [settle_rawBit_pgFrame]
    exact hfault.raised _ _ (by rw [← hu, State.countRaise, bitOf_raw_raise]; simp)
  · rw [settle_rawBit_pgFrame]
    exact State.frameFault_raises _ _ _
  · rw [settle_cntLive_pgFrame _ _ (k := 3) (by decide), hkept.cnt pgFrame 3 (by simp [OffFaults]), ← hu, State.countRaise, State.cntLive_raise,
      State.cntLive_count, if_pos rfl, ← hcnt]
    rfl
  · have hmark : u.fr.overrun = true := by rw [← hu]; rfl
    rw [State.frameSlack, settle_fr, hkept.field (·.overrun) fun _ => rfl, hmark, if_pos rfl]
  · rw [settle_actOf]
    exact State.actOf_map_lateFor hact (hfault.acts.trans (by rw [← hu, ← hnote]; rfl))

end

/-! ### The obligation -/

/-- Settles O32: a record taken, a record refused, `actionComplete_answers` and `actionOverrun_answers`. -/
theorem planActionsLaunchCompleteAndOverrun : Obligations.PlanActionsLaunchCompleteAndOverrun := by
  intro s
  refine ⟨fun r hnext hdue hvalid hty => ?_, fun r hnext hdue hvalid c hc => ?_, fun frame idx a hact => ⟨?_, ?_⟩⟩
  · exact congrArg (done s) (opActionNop_of_nop hnext hdue hvalid hty)
  · rw [exec_launch_of_invalid hnext hdue hvalid hc]
    exact badRec_answers s r
  · intro hnever hparts hframe hbound hlate
    obtain ⟨t, ht, hgone, hothers, hslack, hrest⟩ := actionComplete_answers hact hnever hparts hframe hbound
    refine ⟨t, ht, hgone, hothers, hslack.trans ?_, hrest⟩
    cases hold : s.fr.slack with
    | none => exact State.slack_takeSlack_none (s := s.dropAct _ _) hframe hlate hold
    | some w => exact State.slack_takeSlack_some (s := s.dropAct _ _) hframe hlate hold
  · intro hpast hlate hframe hover
    exact actionOverrun_answers hact hpast hlate hframe hover

end Sys2Proof.Machine
end

section
/-!
PROOFS. The time base (O28): what the start of the frame unit and the training of the controllers change, the lock, and the loss and the
return of the reference.
-/
namespace Sys2Proof.Machine

section
variable (s s0 : State)

@[simp] theorem settle_rawBit_pgTb (i : Nat) : bitOf ((settle s0 s).raw pgTb) i = bitOf (s.raw pgTb) i :=
  settle_rawBit _ _ _ _ (by simp [pgTb, pgCour]) (by simp [pgTb, pgSmb])

@[simp] theorem settle_cntLive_pgTb {k : Nat} (hk : k < 32) : (settle s0 s).cntLive pgTb k = s.cntLive pgTb k :=
  settle_cntLive _ _ _ _ (by simp only [pgTb, pgHost]; omega)

end

variable {s : State}

/-! ### The start of the frame unit -/

/-- The frame unit as it leaves HALTED: FREE with SRC = 0, else ACQUIRE, before its first boundary (Table 10.3). -/
def FrameU.begun (f : FrameU) (bytes : List Host.Cell) : FrameU :=
  { f with
    st := if f.src = 0 then .free else .acquire
    started := false, tif := 0, slew := 0, judged := false, pending := 0, slipRun := 0, aligned := false, goodRun := 0
    memNow := bytes, memPrev := bytes
    haltDue := false, comNext := f.num, disc := [], faulted := [], charged := [], acts := []
    nextRec := if f.src = 0 then 65536 else 0, starts := []
    slack := none, slackRec := 0, overrun := false }

theorem State.tryStart_of_waiting (h : s.fr.st ≠ .halted ∨ s.en pgFrame = false ∨ s.tb.locked = false ∨ s.tb.holdover = true) :
    s.tryStart = s := by
  refine if_neg ?_
  simp only [Bool.and_eq_true, decide_eq_true_eq, Bool.not_eq_true']
  rintro ⟨⟨⟨hst, hen⟩, hlock⟩, hhold⟩
  simp [hst, hen, hlock, hhold] at h

section
variable (hst : s.fr.st = .halted) (hen : s.en pgFrame = true) (hlock : s.tb.locked = true) (hhold : s.tb.holdover = false)
include hst hen hlock hhold

theorem State.tryStart_of_refused (hsrc : s.fr.src ≠ 0) (hosc : s.tb.localOsc = true ∨ s.tb.confined = true) :
    s.tryStart = s.reject pgFrame 9 := by
  unfold State.tryStart
  rw [if_pos (by simp [hst, hen, hlock, hhold]), if_pos (by simpa using ⟨hsrc, hosc⟩)]

theorem State.tryStart_of_ready (hsrc : s.fr.src = 0 ∨ s.tb.localOsc = false ∧ s.tb.confined = false) :
    s.tryStart = { s with fr := s.fr.begun s.mem.bytes } := by
  unfold State.tryStart
  rw [if_pos (by simp [hst, hen, hlock, hhold]), if_neg]
  · rfl
  · obtain hsrc | ⟨hosc, hconf⟩ := hsrc
    · simp [hsrc]
    · simp [hosc, hconf]

end

/-- The start changes the frame unit and raises an event, and nothing while the unit is disabled. -/
theorem State.tryStart_frame (s : State) : ∃ evRaw fr, s.tryStart = { s with evRaw, fr } ∧ (s.en pgFrame = false → fr = s.fr) := by
  unfold State.tryStart
  split
  · next hgo =>
    have hen : s.en pgFrame = true := by simp_all
    split
    · exact ⟨_, _, rfl, fun _ => rfl⟩
    · exact ⟨_, _, rfl, fun hoff => by simp [hen] at hoff⟩
  · exact ⟨_, _, rfl, fun _ => rfl⟩

theorem State.startTraining_frame (s : State) : ∃ mem, s.startTraining = { s with mem } := by
  unfold State.startTraining
  split
  · refine forN_keeps (fun t => ∃ mem, t = { s with mem }) _ ?_ _ _ ⟨s.mem, rfl⟩
    rintro i _ ⟨mem, rfl⟩
    extract_lets c on
    by_cases hgo : (decide (c.st = .untrained) && on) = true
    · rw [if_pos hgo]
      exact ⟨_, rfl⟩
    · rw [if_neg hgo]
      exact ⟨mem, rfl⟩
  · exact ⟨s.mem, rfl⟩

/-! ### Lock and unlock -/

/-- The time base as it has locked (R280). -/
def TimeBase.nowLocked (b : TimeBase) : TimeBase :=
  { b with
    locked := true, ever := true, confined := b.confined || (!b.ever && b.localOsc), tick := if b.ever then b.tick else 0, fault := false
    refOk := b.refOk || !b.localOsc }

theorem opPllLock_frame (hlock : s.tb.locked = false) : ∃ mem evRaw fr,
    opPllLock s = { s with tb := s.tb.nowLocked, mem, evRaw, fr } ∧ (s.en pgFrame = false → fr = s.fr) := by
  have hgo : opPllLock s = State.tryStart (State.startTraining { s with tb := s.tb.nowLocked }) := by
    unfold opPllLock
    rw [hlock]
    rfl
  obtain ⟨mem, hmem⟩ := State.startTraining_frame { s with tb := s.tb.nowLocked }
  obtain ⟨evRaw, fr, hstart, hoff⟩ := State.tryStart_frame { s with tb := s.tb.nowLocked, mem }
  exact ⟨mem, evRaw, fr, by rw [hgo, hmem, hstart], hoff⟩

/-- The PLL loses its lock (R309). -/
def State.unlocked (s : State) : State :=
  State.raise { s with tb := { s.tb with locked := false, holdover := false, lostFor := 0, fault := true } } pgTb 2

theorem opPllUnlock_of_locked (hlock : s.tb.locked = true) : opPllUnlock s = s.unlocked.faultLog s.tb.fault pgTb 2 := by
  unfold opPllUnlock
  rw [hlock]
  rfl

theorem pllUnlock_answers (hlock : s.tb.locked = true) : Answers (exec .pllUnlock s) fun t =>
    t.tb.locked = false ∧ t.tb.holdover = false ∧ t.tb.fault = true ∧ t.tb.tick = s.tb.tick ∧ bitOf (t.raw pgTb) 2 = true ∧
      t.fr = s.fr := by
  have hexec : exec .pllUnlock s = done s (opPllUnlock s) := rfl
  have hlog := (Logged.refl s.unlocked).faultLog s.tb.fault pgTb 2
  have htb := ((FrameKept.refl s.unlocked).faultLog s.tb.fault pgTb 2).tb
  rw [← opPllUnlock_of_locked hlock] at hlog htb
  rw [hexec]
  refine answers_done ?_
  rw [settle_tb, htb, settle_rawBit_pgTb, settle_fr, hlog.fr]
  exact ⟨rfl, rfl, rfl, rfl, hlog.raised _ _ (by rw [State.unlocked, bitOf_raw_raise]; simp), rfl⟩

/-! ### The loss and the return of the reference -/

/-- The reference is lost: holdover of a PLL that is locked to it (R282). -/
def State.refLost (s : State) : State :=
  { s.countRaise pgTb 0 0 with tb := { s.tb with refOk := false, holdover := s.tb.locked && !s.tb.localOsc, lostFor := 0 } }

theorem opRefclkLost_of_ok (hok : s.tb.refOk = true) :
    opRefclkLost s = if s.fr.st = .halted then s.refLost else s.refLost.frameFault 3 s.fr.num := by
  unfold opRefclkLost
  rw [hok]
  rfl

theorem State.raw_refLost (s : State) : bitOf (s.refLost.raw pgTb) 0 = true := by
  have : s.refLost.raw pgTb = (s.countRaise pgTb 0 0).raw pgTb := rfl
  rw [this, State.countRaise, bitOf_raw_raise]
  simp

theorem State.cntLive_refLost (s : State) : s.refLost.cntLive pgTb 0 = min (s.cntLive pgTb 0 + 1) (2 ^ 64 - 1) := by
  have : s.refLost.cntLive pgTb 0 = (s.countRaise pgTb 0 0).cntLive pgTb 0 := rfl
  rw [this, State.countRaise, State.cntLive_raise, State.cntLive_count, if_pos rfl]

theorem refclkLost_answers (hok : s.tb.refOk = true) : Answers (exec .refclkLost s) fun t =>
    t.tb.refOk = false ∧ t.tb.holdover = (s.tb.locked && !s.tb.localOsc) ∧ bitOf (t.raw pgTb) 0 = true ∧
      t.cntLive pgTb 0 = min (s.cntLive pgTb 0 + 1) (2 ^ 64 - 1) ∧ t.fr.st = s.fr.st ∧
      (s.fr.st ≠ .halted → bitOf (t.raw pgFrame) 1 = true) ∧ (s.fr.st = .halted → t.fr = s.fr ∧ t.mem = s.mem) := by
  have hexec : exec .refclkLost s = done s (opRefclkLost s) := rfl
  rw [hexec, opRefclkLost_of_ok hok]
  by_cases hst : s.fr.st = .halted
  · rw [if_pos hst]
    refine answers_done ?_
    rw [settle_tb, settle_rawBit_pgTb, settle_cntLive_pgTb _ _ (k := 0) (by decide), settle_fr, settle_mem]
    exact ⟨rfl, rfl, s.raw_refLost, s.cntLive_refLost, rfl, fun hne => absurd hst hne, fun _ => ⟨rfl, rfl⟩⟩
  · rw [if_neg hst]
    have hkept := frameKept_frameFault s.refLost 3 s.fr.num
    have hfault := (Faulted.refl s.refLost).frameFault 3 s.fr.num
    refine answers_done ?_
    rw [settle_tb, hkept.tb, settle_rawBit_pgTb, settle_cntLive_pgTb _ _ (k := 0) (by decide),
      hkept.cnt pgTb 0 (by simp [OffFaults]), settle_fr, hkept.field (·.st) fun _ => rfl, settle_rawBit_pgFrame]
    exact ⟨rfl, rfl, hfault.raised _ _ s.raw_refLost, s.cntLive_refLost, rfl, fun _ => State.frameFault_raises _ _ _,
      fun hh => absurd hh hst⟩

/-- The reference is back and holdover ends (R282). -/
def State.refBack (s : State) : State :=
  State.raise { s with tb := { s.tb with refOk := true, holdover := false, lostFor := 0 } } pgTb 1

theorem execRefclkReturn_of_lost (hok : s.tb.refOk = false) : exec .refclkReturn s = done s s.refBack.tryStart := by
  show done s (opRefclkReturn s) = _
  unfold opRefclkReturn
  rw [hok]
  rfl

theorem refclkReturn_waits (hok : s.tb.refOk = false) (hwait : s.fr.st ≠ .halted ∨ s.en pgFrame = false ∨ s.tb.locked = false) :
    exec .refclkReturn s = .next (settle s s.refBack) := by
  rw [execRefclkReturn_of_lost hok, State.tryStart_of_waiting]
  · rfl
  · obtain h | h | h := hwait
    · exact .inl h
    · exact .inr (.inl h)
    · exact .inr (.inr (.inl h))

theorem refclkReturn_starts (hok : s.tb.refOk = false) (hst : s.fr.st = .halted) (hen : s.en pgFrame = true)
    (hlock : s.tb.locked = true) (hsrc : s.fr.src = 0) : Answers (exec .refclkReturn s) fun t =>
    t.tb = { s.tb with refOk := true, holdover := false, lostFor := 0 } ∧ bitOf (t.raw pgTb) 1 = true ∧ t.fr.st = .free ∧
      t.fr.num = s.fr.num ∧ t.mem = s.mem := by
  rw [execRefclkReturn_of_lost hok, State.tryStart_of_ready (s := s.refBack) hst hen hlock rfl (.inl hsrc)]
  refine answers_done ?_
  rw [settle_tb, settle_rawBit_pgTb, settle_fr, settle_mem]
  refine ⟨rfl, ?_, if_pos hsrc, rfl, rfl⟩
  have : ∀ fr, State.raw { s.refBack with fr } pgTb = s.refBack.raw pgTb := fun _ => rfl
  rw [this, State.refBack, bitOf_raw_raise]
  simp

theorem holdoverExpire_halts (hhold : s.tb.holdover = true) (hlong : 1600000000 ≤ s.tb.lostFor) (hst : s.fr.st ≠ .halted) :
    exec .holdoverExpire s = .next (settle s { s with fr := { s.fr with haltDue := true } }) := by
  have hgo : opHoldoverExpire s = { s with fr := { s.fr with haltDue := true } } :=
    if_pos (by simp [hhold, hst, holdoverTicks, hlong])
  exact congrArg (done s) hgo

/-! ### The obligation -/

/-- Settles O28: the lock by what it leaves of the state, the other commands one by one. -/
theorem timeBaseLocksAndHoldsOver : Obligations.TimeBaseLocksAndHoldsOver := by
  intro s
  refine ⟨fun hlock => ?_, pllUnlock_answers, refclkLost_answers,
    fun hok => ⟨refclkReturn_waits hok, refclkReturn_starts hok⟩, holdoverExpire_halts⟩
  obtain ⟨mem, evRaw, fr, hgo, hoff⟩ := opPllLock_frame hlock
  have hexec : exec .pllLock s = done s (opPllLock s) := rfl
  rw [hexec, hgo]
  refine answers_done ?_
  rw [settle_tb, settle_fr, settle_tile, settle_link, settle_regs]
  exact ⟨rfl, rfl, rfl, rfl, hoff, rfl, rfl, rfl⟩

end Sys2Proof.Machine
end

section
/-!
PROOFS. The configuration of the frame unit (O30): FRAME_ENABLE, FRAME_CFG and the switch of the plan.
-/
namespace Sys2Proof.Machine

variable {s : State} {p : Path} {v : BitVec 32}

/-! ### FRAME_ENABLE -/

@[simp] theorem State.en_setReg_one (s : State) (q : Nat) : (s.setReg q 0x10 1).en q = true := by
  rw [State.en, State.reg_setReg_same]
  rfl

theorem execFrameEnable_of_halted (hmay : s.mayPath p pgFrame = true) (hst : s.fr.st = .halted) :
    exec (.frameEnable p) s = done s (s.setReg pgFrame 0x10 1).tryStart := by
  show done s (opFrameEnable p s) = _
  rw [opFrameEnable, if_pos hmay, if_neg]
  simp [hst]

section
variable (hmay : s.mayPath p pgFrame = true) (hst : s.fr.st = .halted)
include hmay hst

theorem frameEnable_waits (hwait : s.tb.locked = false ∨ s.tb.holdover = true) :
    exec (.frameEnable p) s = .next (settle s (s.setReg pgFrame 0x10 1)) := by
  rw [execFrameEnable_of_halted hmay hst, State.tryStart_of_waiting (s := s.setReg pgFrame 0x10 1) (.inr (.inr hwait))]
  rfl

variable (hlock : s.tb.locked = true) (hhold : s.tb.holdover = false)
include hlock hhold

theorem frameEnable_starts (hsrc : s.fr.src = 0 ∨ s.tb.localOsc = false ∧ s.tb.confined = false) :
    Answers (exec (.frameEnable p) s) fun t => t.fr = s.fr.begun s.mem.bytes ∧ t.en pgFrame = true ∧ t.mem = s.mem ∧
      t.tile = s.tile ∧ t.link = s.link := by
  rw [execFrameEnable_of_halted hmay hst,
    State.tryStart_of_ready (s := s.setReg pgFrame 0x10 1) hst (State.en_setReg_one _ _) hlock hhold hsrc]
  refine answers_done ?_
  rw [settle_fr, settle_mem, settle_tile, settle_link, State.en, settle_reg]
  exact ⟨rfl, State.en_setReg_one s pgFrame, rfl, rfl, rfl⟩

theorem frameEnable_refused (hsrc : s.fr.src ≠ 0) (hosc : s.tb.localOsc = true ∨ s.tb.confined = true) :
    Answers (exec (.frameEnable p) s) fun t => t.fr = s.fr ∧ bitOf (t.raw pgFrame) 9 = true := by
  rw [execFrameEnable_of_halted hmay hst,
    State.tryStart_of_refused (s := s.setReg pgFrame 0x10 1) hst (State.en_setReg_one _ _) hlock hhold hsrc hosc]
  refine answers_done ?_
  rw [settle_fr, settle_rawBit_pgFrame, State.reject, bitOf_raw_raise]
  simp

end

/-! ### FRAME_CFG -/

/-- A field that a mask lets through reads as before. -/
theorem fld_land {w m hi lo : Nat} (hm : ∀ i < hi + 1 - lo, m.testBit (i + lo) = true) :
    fld (Nat.land w m) hi lo = fld w hi lo := by
  refine Nat.eq_of_testBit_eq fun i => ?_
  show ((w &&& m) / 2 ^ lo % _).testBit i = (w / 2 ^ lo % _).testBit i
  rw [Nat.testBit_mod_two_pow, Nat.testBit_mod_two_pow, Nat.testBit_div_two_pow, Nat.testBit_div_two_pow, Nat.testBit_and]
  by_cases hi : i < hi + 1 - lo
  · rw [hm i hi, Bool.and_true]
  · simp [hi]

/-- The mask of FRAME_CFG lets LEN, LAG and RE_LOG through. -/
theorem frameCfg_fields (w : Nat) : fld (Nat.land w 0x0F0F1FFF) 12 0 = fld w 12 0 ∧
    fld (Nat.land w 0x0F0F1FFF) 19 16 = fld w 19 16 ∧ fld (Nat.land w 0x0F0F1FFF) 27 24 = fld w 27 24 :=
  ⟨fld_land (by decide), fld_land (by decide), fld_land (by decide)⟩

theorem frameCfg_stored (v : BitVec 32) : Nat.land v.toNat 0x0F0F1FFF % 2 ^ 32 = Nat.land v.toNat 0x0F0F1FFF :=
  Nat.mod_eq_of_lt (Nat.lt_of_le_of_lt Nat.and_le_left v.isLt)

/-- FRAME_CFG as the write leaves it. -/
def State.cfgHeld (s : State) (v : BitVec 32) : State := s.setReg pgFrame 0x40 (Nat.land v.toNat 0x0F0F1FFF)

theorem State.reg_cfgHeld (s : State) (v : BitVec 32) : (s.cfgHeld v).reg pgFrame 0x40 = Nat.land v.toNat 0x0F0F1FFF := by
  rw [State.cfgHeld, State.reg_setReg_same, frameCfg_stored]

theorem frameCfgWrite_held (hmay : s.mayPath p pgFrame = true) (hok : cfgValid v.toNat = true) :
    Answers (exec (.frameCfgWrite p v) s) fun t => t.reg pgFrame 0x40 = Nat.land v.toNat 0x0F0F1FFF ∧
      t.fr = (if s.fr.st = .halted then
        { s.fr with len := fld v.toNat 12 0, lag := fld v.toNat 19 16, reLog := fld v.toNat 27 24 } else s.fr) := by
  have hexec : exec (.frameCfgWrite p v) s = done s (if s.fr.st = .halted then (s.cfgHeld v).applyCfg else s.cfgHeld v) := by
    show done s (opFrameCfgWrite p v s) = _
    rw [opFrameCfgWrite, if_pos hmay, if_pos hok]
    rfl
  obtain ⟨hlen, hlag, hre⟩ := frameCfg_fields v.toNat
  rw [hexec]
  refine answers_done ?_
  rw [settle_fr, settle_reg]
  split
  · refine ⟨s.reg_cfgHeld v, ?_⟩
    rw [State.applyCfg, State.reg_cfgHeld]
    dsimp only
    rw [hlen, hlag, hre]
    rfl
  · exact ⟨s.reg_cfgHeld v, rfl⟩

theorem frameCfgWrite_refused (hmay : s.mayPath p pgFrame = true) (hbad : cfgValid v.toNat = false) :
    exec (.frameCfgWrite p v) s = .next (settle s (s.raise pgFrame 9)) := by
  show done s (opFrameCfgWrite p v s) = _
  rw [opFrameCfgWrite, if_pos hmay, if_neg (by simp [hbad])]
  rfl

/-! ### The switch of the plan -/

/-- The staged low half of a path is taken. -/
def State.unstaged (s : State) (key : Nat) : State :=
  { s with hif := { s.hif with staged := tset none key none s.hif.staged } }

theorem execPlanSwitchArm_of_may (hmay : s.mayPath p pgFrame = true) :
    exec (.planSwitchArm p v) s = done s ((s.unstaged (halfKey p (pageBase pgFrame + 0x78))).armSwitch
      ((tget none (halfKey p (pageBase pgFrame + 0x78)) s.hif.staged).getD (s.reg pgFrame 0x78) + 2 ^ 32 * v.toNat)) := by
  show done s (opPlanSwitchArm p v s) = _
  rw [opPlanSwitchArm, if_pos hmay]
  rfl

/-- SWITCH_FRAME stands in no other register. -/
theorem State.reg_switchFrame (s : State) (f : Nat) {o : Nat} (ho : o < 0x78) :
    (s.setReg64 pgFrame 0x78 f).reg pgFrame o = s.reg pgFrame o := by
  rw [State.setReg64, State.reg_setReg_ne, State.reg_setReg_ne] <;> simp only [rkey] <;> omega

theorem armSwitch_of_halted (hst : s.fr.st = .halted) (f : Nat) :
    s.armSwitch f = (s.setReg64 pgFrame 0x78 f).applyPlan.raise pgFrame 5 :=
  if_pos hst

theorem armSwitch_of_ahead (hst : s.fr.st ≠ .halted) {f : Nat} (hf : s.fr.num + 2 ≤ f) :
    s.armSwitch f = { s.setReg64 pgFrame 0x78 f with fr := { s.fr with switchAt := some f } } :=
  (if_neg hst).trans (if_pos hf)

theorem armSwitch_of_late (hst : s.fr.st ≠ .halted) {f : Nat} (hf : f < s.fr.num + 2) :
    s.armSwitch f = (s.setReg64 pgFrame 0x78 f).reject pgFrame 9 :=
  (if_neg hst).trans (if_neg (Nat.not_le.2 hf))

/-- Settles O30: each command with the lemma about its case. -/
theorem frameConfigurationComesIntoForce : Obligations.FrameConfigurationComesIntoForce := by
  intro s p v hmay
  refine ⟨fun hst hlock hhold => ⟨fun hsrc => ?_, fun hsrc hosc hconf => ?_, frameEnable_refused hmay hst hlock hhold⟩,
    frameEnable_waits hmay, frameCfgWrite_held hmay, frameCfgWrite_refused hmay, ?_⟩
  · obtain ⟨t, hgo, hfr, hen, hmem, htile, hlink⟩ := frameEnable_starts hmay hst hlock hhold (.inl hsrc)
    refine ⟨t, hgo, ?_, hen, ?_, ?_, ?_, hmem, htile, hlink⟩ <;> rw [hfr]
    · exact if_pos hsrc
    all_goals rfl
  · obtain ⟨t, hgo, hfr, -⟩ := frameEnable_starts hmay hst hlock hhold (.inr ⟨hosc, hconf⟩)
    refine ⟨t, hgo, ?_, ?_, ?_⟩ <;> rw [hfr]
    · exact if_neg hsrc
    all_goals rfl
  · rintro f rfl
    rw [execPlanSwitchArm_of_may hmay]
    refine ⟨fun hst => answers_done ?_, fun hst hf => answers_done ?_, fun hst hf => answers_done ?_⟩
    · rw [armSwitch_of_halted (s := s.unstaged _) hst, settle_fr, settle_rawBit_pgFrame, bitOf_raw_raise]
      refine ⟨?_, ?_, by simp⟩
      · exact congrArg (· % 2 ^ 48) (congrArg₂ (fun lo hi => lo + 2 ^ 32 * hi)
          (State.reg_switchFrame _ _ (by decide)) (State.reg_switchFrame _ _ (by decide)))
      · exact congrArg (fld · 12 0) (State.reg_switchFrame _ _ (by decide))
    · rw [armSwitch_of_ahead (s := s.unstaged _) hst hf, settle_fr]
      rfl
    · rw [armSwitch_of_late (s := s.unstaged _) hst hf, settle_fr, settle_rawBit_pgFrame, State.reject, bitOf_raw_raise]
      exact ⟨rfl, by simp⟩

end Sys2Proof.Machine
end

section
/-!
PROOFS. Reference events (O29): the judging of an event (R287, R288), the slip and the third slip, the first event of ACQUIRE, and the
slew at the end of a frame.
-/
namespace Sys2Proof.Machine

variable {s : State} {f : Nat} {e : Int}

/-! ### Slips -/

/-- A slip that is not the third in LOCKED (Table 10.1). -/
def State.slipped (s : State) : State := { s.countRaise pgFrame 4 0 with fr := { s.fr with slipRun := s.fr.slipRun + 1 } }

theorem State.slip_of_locked (hst : s.fr.st = .locked) (hrun : s.fr.slipRun < 3) :
    s.slip = if s.slipped.fr.slipRun = 3 then (s.slipped.frameFault 2 s.fr.num).toResync else s.slipped := by
  have hmin : min 3 (s.fr.slipRun + 1) = s.fr.slipRun + 1 := Nat.min_eq_right hrun
  have hslip : { s.countRaise pgFrame 4 0 with fr := { s.fr with slipRun := min 3 (s.fr.slipRun + 1) } } = s.slipped := by
    rw [hmin]
    rfl
  rw [← hslip]
  exact if_pos hst

theorem State.slip_of_early (hst : s.fr.st = .locked) (hrun : s.fr.slipRun < 2) : s.slip = s.slipped := by
  rw [State.slip_of_locked hst (by omega), if_neg]
  show s.fr.slipRun + 1 ≠ 3
  omega

theorem State.slip_of_third (hst : s.fr.st = .locked) (hrun : s.fr.slipRun = 2) :
    s.slip = (s.slipped.frameFault 2 s.fr.num).toResync := by
  rw [State.slip_of_locked hst (by omega), if_pos]
  show s.fr.slipRun + 1 = 3
  omega

theorem State.rawBit_slipped (s : State) : bitOf (s.slipped.raw pgFrame) 0 = true := by
  have hraw : s.slipped.raw pgFrame = (s.countRaise pgFrame 4 0).raw pgFrame := rfl
  rw [hraw, State.countRaise, bitOf_raw_raise]
  simp

theorem State.cntLive_slipped (s : State) {k : Nat} :
    s.slipped.cntLive pgFrame k = if k = 4 then min (s.cntLive pgFrame 4 + 1) (2 ^ 64 - 1) else s.cntLive pgFrame k := by
  have hcnt : s.slipped.cntLive pgFrame k = (s.countRaise pgFrame 4 0).cntLive pgFrame k := rfl
  rw [hcnt, State.countRaise, State.cntLive_raise, State.cntLive_count]
  simp

theorem slipped_answers (s0 s : State) : Answers (done s0 s.slipped) fun t =>
    t.fr = { s.fr with slipRun := s.fr.slipRun + 1 } ∧ bitOf (t.raw pgFrame) 0 = true ∧
      t.cntLive pgFrame 4 = min (s.cntLive pgFrame 4 + 1) (2 ^ 64 - 1) := by
  refine answers_done ?_
  rw [settle_fr, settle_rawBit_pgFrame, settle_cntLive_pgFrame _ _ (k := 4) (by decide), State.cntLive_slipped]
  exact ⟨rfl, s.rawBit_slipped, rfl⟩

/-! ### The way to RESYNC -/

/-- What the entry of RESYNC changes after the pending frames have been discarded. -/
def State.resynced (s : State) : State :=
  { s with fr := { s.fr with st := .resync, aligned := false, goodRun := 0 }
           rg := { s.rg with pend := none, recs := [], replayTo := none } }

theorem State.toResync_eq (s : State) : s.toResync = ((s.countRaise pgFrame 6 3).discardFrom s.fr.comNext).resynced := rfl

/-- The entry of RESYNC counts once, raises RESYNC and keeps the place in the frame (R292). -/
theorem State.toResync_effect (s : State) : s.toResync.fr.st = .resync ∧ bitOf (s.toResync.raw pgFrame) 3 = true ∧
    (bitOf (s.raw pgFrame) 1 = true → bitOf (s.toResync.raw pgFrame) 1 = true) ∧ s.toResync.fr.num = s.fr.num ∧
    s.toResync.fr.tif = s.fr.tif ∧ s.toResync.cntLive pgFrame 6 = min (s.cntLive pgFrame 6 + 1) (2 ^ 64 - 1) := by
  have hkept := (FrameKept.refl (s.countRaise pgFrame 6 3)).discardFrom s.fr.comNext
  have hfault := (Faulted.refl (s.countRaise pgFrame 6 3)).discardFrom s.fr.comNext
  rw [State.toResync_eq]
  refine ⟨rfl, hfault.raised _ _ ?_, fun hraised => hfault.raised _ _ ?_, hkept.field (·.num) fun _ => rfl,
    hkept.field (·.tif) fun _ => rfl, (hkept.cnt pgFrame 6 (by simp [OffFaults])).trans ?_⟩
  · rw [State.countRaise, bitOf_raw_raise]
    simp
  · rw [State.countRaise, bitOf_raw_raise, State.raw_count, hraised]
    rfl
  · rw [State.countRaise, State.cntLive_raise, State.cntLive_count, if_pos rfl]

theorem thirdSlip_answers (s0 : State) (hst : s.fr.st = .locked) (hrun : s.fr.slipRun = 2) : Answers (done s0 s.slip) fun t =>
    t.fr.st = .resync ∧ bitOf (t.raw pgFrame) 1 = true ∧ bitOf (t.raw pgFrame) 3 = true ∧ t.fr.num = s.fr.num ∧
      t.fr.tif = s.fr.tif ∧ t.cntLive pgFrame 6 = min (s.cntLive pgFrame 6 + 1) (2 ^ 64 - 1) := by
  have hkept := frameKept_frameFault s.slipped 2 s.fr.num
  obtain ⟨hres, hev, hfault, hnum, htif, hcnt⟩ := (s.slipped.frameFault 2 s.fr.num).toResync_effect
  rw [State.slip_of_third hst hrun]
  refine answers_done ?_
  rw [settle_fr, settle_rawBit_pgFrame, settle_rawBit_pgFrame, settle_cntLive_pgFrame _ _ (k := 6) (by decide), hcnt,
    hkept.cnt pgFrame 6 (by simp [OffFaults]), State.cntLive_slipped]
  exact ⟨hres, hfault (State.frameFault_raises _ _ _), hev, hnum.trans (hkept.field (·.num) fun _ => rfl),
    htif.trans (hkept.field (·.tif) fun _ => rfl), rfl⟩

/-! ### The judging of a reference event -/

/-- The frame unit as it expects the event after that of frame `f`. -/
def State.expecting (s : State) (f : Nat) : State :=
  { s with fr := { s.fr with refNext := max s.fr.refNext (f + 1) } }

/-- A reference event in its window: the phase error is shown. -/
def State.measured (s : State) (f : Nat) (e : Int) : State :=
  { s with fr := { s.fr with refNext := max s.fr.refNext (f + 1), err := satErr e } }

theorem State.refEvent_of_judged (hfar : s.frameLen < 4 * e.natAbs) (hf : f < s.fr.refNext) : s.refEvent f e = s :=
  if_pos (by simp [hfar, hf])

section
variable (hnear : 4 * e.natAbs ≤ s.frameLen)
include hnear

theorem State.refEvent_of_near : s.refEvent f e = (s.expecting f).judgeRef e := by
  have hfar : decide (s.frameLen < 4 * e.natAbs) = false := by simpa using hnear
  unfold State.refEvent
  rw [hfar]
  rfl

theorem State.refEvent_of_good (hgood : e.natAbs ≤ s.guardT) : s.refEvent f e = { s with fr := { s.fr with
    err := satErr e, pending := e, slipRun := 0, goodRun := min 3 (s.fr.goodRun + 1), refNext := max s.fr.refNext (f + 1) } } := by
  rw [State.refEvent_of_near hnear]
  exact if_pos hgood

theorem State.refEvent_of_slip (hslip : s.guardT < e.natAbs) : s.refEvent f e = (s.measured f e).slip := by
  rw [State.refEvent_of_near hnear]
  exact if_neg (Nat.not_le.2 hslip)

end

theorem State.cntLive_measured (s : State) (f : Nat) (e : Int) (p k : Nat) :
    (s.measured f e).cntLive p k = s.cntLive p k := rfl

/-! ### Markers -/

/-- The link as a marker for frame `f`, `late` ticks old, leaves it (R290, R416). -/
def State.marked (s : State) (l : Nat) (f late : Nat) : LinkS :=
  let x := s.lnk l
  { x with marker := some f
           markerOk := decide ((f : Int) = s.fr.num + nearest ((s.fr.tif : Int) - late - x.d) s.frameLen)
           markAt := (s.tb.tick : Int) - late - x.d, stale := if x.stale = some f then none else x.stale }

theorem State.lnk_setLnk_same (s : State) (l : Nat) (x : LinkS) : (s.setLnk l x).lnk l = x := tget_tset_same ..

theorem settle_lnk (s0 s : State) (l : Nat) : (settle s0 s).lnk l = s.lnk l := by rw [State.lnk, settle_link, State.lnk]

/-- The phase error of a marker (R287). -/
def State.markerErr (s : State) (l : Nat) (f late : Nat) : Int := (s.fr.tif : Int) - late - (s.lnk l).d - s.boundaryTick f

/-- The state in which a marker is judged. -/
def State.withMarker (s : State) (l : Nat) (f late : Nat) : State := s.setLnk l (s.marked l f late)

theorem State.cntLive_withMarker (s : State) (l f late p k : Nat) : (s.withMarker l f late).cntLive p k = s.cntLive p k := rfl

theorem State.marker_withMarker (s : State) (l f late : Nat) : ((s.withMarker l f late).lnk l).marker = some f := by
  rw [State.withMarker, State.lnk_setLnk_same]
  rfl

section
variable {l : Fin 36} {m : BitVec 64} {late : BitVec 16}

variable (hen : s.en (pgLink l.val) = true) (hcarries : (s.lnk l.val).carries = true) (hsrc : s.fr.src = 1)
  (hlink : s.fr.refLink = l.val)
include hen hcarries hsrc hlink

/-- A marker on the reference link is the first reference event or one to be judged. -/
theorem execMarkerRx_of_reference (hst : s.fr.st ≠ .halted) :
    exec (.markerRx l m late) s = done s (
      let u := s.withMarker l.val m.toNat late.toNat
      if s.awaitsRef then u.setPhase m.toNat (late.toNat + (s.lnk l.val).d)
      else u.refEvent m.toNat (s.markerErr l.val m.toNat late.toNat)) := by
  show done s (s.linkDo l.val (opMarkerRx l m late)) = _
  have hat : (decide (s.fr.src = 1) && decide (s.fr.refLink = l.val)) = true := by simp [hsrc, hlink]
  have hop : opMarkerRx l m late s = _ := (if_pos hcarries).trans ((if_neg hst).trans (if_pos hat))
  rw [State.linkDo, if_pos hen, hop]
  rfl

/-- In LOCKED every marker of the reference link is judged. -/
theorem execMarkerRx_of_locked (hst : s.fr.st = .locked) :
    exec (.markerRx l m late) s = done s ((s.withMarker l.val m.toNat late.toNat).refEvent m.toNat
      (s.markerErr l.val m.toNat late.toNat)) := by
  rw [execMarkerRx_of_reference hen hcarries hsrc hlink (by simp [hst])]
  exact congrArg _ (if_neg (by simp [State.awaitsRef, hst]))

variable (hst : s.fr.st = .locked)
include hst

theorem markerRx_good (he : e = s.markerErr l.val m.toNat late.toNat) (hgood : e.natAbs ≤ s.guardT)
    (hnear : 4 * e.natAbs ≤ s.frameLen) : Answers (exec (.markerRx l m late) s) fun t =>
    t.fr = { s.fr with err := satErr e, pending := e, slipRun := 0, goodRun := min 3 (s.fr.goodRun + 1)
                       refNext := max s.fr.refNext (m.toNat + 1) } ∧
      (t.lnk l.val).marker = some m.toNat ∧ t.mem = s.mem ∧ t.tile = s.tile := by
  rw [execMarkerRx_of_locked hen hcarries hsrc hlink hst, ← he,
    State.refEvent_of_good (s := s.withMarker l.val m.toNat late.toNat) hnear hgood]
  refine answers_done ?_
  rw [settle_fr, settle_lnk, settle_mem, settle_tile]
  exact ⟨rfl, s.marker_withMarker _ _ _, rfl, rfl⟩

theorem markerRx_slip (he : e = s.markerErr l.val m.toNat late.toNat) (hslip : s.guardT < e.natAbs)
    (hnear : 4 * e.natAbs ≤ s.frameLen) (hrun : s.fr.slipRun < 2) : Answers (exec (.markerRx l m late) s) fun t =>
    t.fr = { s.fr with err := satErr e, slipRun := s.fr.slipRun + 1, refNext := max s.fr.refNext (m.toNat + 1) } ∧
      bitOf (t.raw pgFrame) 0 = true ∧ t.cntLive pgFrame 4 = min (s.cntLive pgFrame 4 + 1) (2 ^ 64 - 1) := by
  rw [execMarkerRx_of_locked hen hcarries hsrc hlink hst, ← he,
    State.refEvent_of_slip (s := s.withMarker l.val m.toNat late.toNat) hnear hslip,
    State.slip_of_early (s := (s.withMarker l.val m.toNat late.toNat).measured m.toNat e) hst hrun]
  obtain ⟨t, hgo, hfr, hev, hcnt⟩ := slipped_answers s ((s.withMarker l.val m.toNat late.toNat).measured m.toNat e)
  rw [State.cntLive_measured, State.cntLive_withMarker] at hcnt
  exact ⟨t, hgo, hfr, hev, hcnt⟩

theorem markerRx_thirdSlip (he : e = s.markerErr l.val m.toNat late.toNat) (hslip : s.guardT < e.natAbs)
    (hnear : 4 * e.natAbs ≤ s.frameLen) (hrun : s.fr.slipRun = 2) : Answers (exec (.markerRx l m late) s) fun t =>
    t.fr.st = .resync ∧ bitOf (t.raw pgFrame) 1 = true ∧ bitOf (t.raw pgFrame) 3 = true ∧ t.fr.num = s.fr.num ∧
      t.fr.tif = s.fr.tif ∧ t.cntLive pgFrame 6 = min (s.cntLive pgFrame 6 + 1) (2 ^ 64 - 1) := by
  rw [execMarkerRx_of_locked hen hcarries hsrc hlink hst, ← he,
    State.refEvent_of_slip (s := s.withMarker l.val m.toNat late.toNat) hnear hslip]
  obtain ⟨t, hgo, hres, hfault, hev, hnum, htif, hcnt⟩ :=
    thirdSlip_answers s (s := (s.withMarker l.val m.toNat late.toNat).measured m.toNat e) hst hrun
  rw [State.cntLive_measured, State.cntLive_withMarker] at hcnt
  exact ⟨t, hgo, hres, hfault, hev, hnum, htif, hcnt⟩

theorem markerRx_judged (he : e = s.markerErr l.val m.toNat late.toNat) (hfar : s.frameLen < 4 * e.natAbs)
    (hbefore : m.toNat < s.fr.refNext) : Answers (exec (.markerRx l m late) s) fun t =>
    t.fr = s.fr ∧ (t.lnk l.val).marker = some m.toNat ∧ t.mem = s.mem := by
  rw [execMarkerRx_of_locked hen hcarries hsrc hlink hst, ← he,
    State.refEvent_of_judged (s := s.withMarker l.val m.toNat late.toNat) hfar hbefore]
  refine answers_done ?_
  rw [settle_fr, settle_lnk, settle_mem]
  exact ⟨rfl, s.marker_withMarker _ _ _, rfl⟩

end

/-! ### The first event of ACQUIRE -/

/-- The frame and the tick that the first event sets, of an event `t` ticks after the boundary of frame `f`. -/
theorem State.setPhase_effect (s : State) (f t : Nat) :
    (s.setPhase f t).fr.st = s.fr.st ∧ (s.setPhase f t).fr.aligned = true ∧ (s.setPhase f t).fr.goodRun = 1 ∧
      (s.setPhase f t).fr.err = 0 ∧ (s.setPhase f t).fr.refNext = f + 1 ∧
      (s.setPhase f t).fr.num = f + t / max s.frameLen 1 ∧
      (s.setPhase f t).fr.tif = t - t / max s.frameLen 1 * s.frameLen := by
  have hk : (t : Int) / max (s.frameLen : Int) 1 = ((t / max s.frameLen 1 : Nat) : Int) := by push_cast; rfl
  refine ⟨?_, rfl, rfl, rfl, rfl, ?_, ?_⟩
  · unfold State.setPhase
    extract_lets len k n u
    have hu : u.fr.st = s.fr.st := by
      unfold u
      split <;> rfl
    exact hu
  · show ((f : Int) + (t : Int) / max (s.frameLen : Int) 1).toNat = _
    rw [hk]
    exact Int.toNat_natCast (f + t / max s.frameLen 1)
  · show ((t : Int) - (t : Int) / max (s.frameLen : Int) 1 * s.frameLen).toNat = _
    rw [hk]
    exact Int.toNat_sub t (t / max s.frameLen 1 * s.frameLen)

theorem markerRx_acquires {l : Fin 36} {m : BitVec 64} {late : BitVec 16} (hen : s.en (pgLink l.val) = true)
    (hcarries : (s.lnk l.val).carries = true) (hsrc : s.fr.src = 1) (hlink : s.fr.refLink = l.val)
    (hst : s.fr.st = .acquire) (hal : s.fr.aligned = false) : Answers (exec (.markerRx l m late) s) fun t =>
    t.fr.st = .acquire ∧ t.fr.aligned = true ∧ t.fr.goodRun = 1 ∧ t.fr.err = 0 ∧ t.fr.refNext = m.toNat + 1 ∧
      t.fr.num = m.toNat + (late.toNat + (s.lnk l.val).d) / max s.frameLen 1 ∧
      t.fr.tif = late.toNat + (s.lnk l.val).d - (late.toNat + (s.lnk l.val).d) / max s.frameLen 1 * s.frameLen := by
  have hawaits : s.awaitsRef = true := by simp [State.awaitsRef, hst, hal]
  obtain ⟨hkeep, haligned, hrun, herr, hnext, hnum, htif⟩ :=
    (s.withMarker l.val m.toNat late.toNat).setPhase_effect m.toNat (late.toNat + (s.lnk l.val).d)
  rw [execMarkerRx_of_reference hen hcarries hsrc hlink (by simp [hst])]
  dsimp only
  rw [if_pos hawaits, ← Int.natCast_add]
  refine answers_done ?_
  rw [settle_fr]
  exact ⟨hkeep.trans hst, haligned, hrun, herr, hnext, hnum, htif⟩

/-! ### The pulse, the missing event and the slew -/

theorem frameSyncPulse_good (hsrc : s.fr.src = 2) (hst : s.fr.st = .locked)
    (hf : f = ((s.fr.num : Int) + nearest ((s.fr.tif : Int) - s.fsOffset) s.frameLen).toNat)
    (he : e = (s.fr.tif : Int) - s.fsOffset - s.boundaryTick f) (hgood : e.natAbs ≤ s.guardT)
    (hnear : 4 * e.natAbs ≤ s.frameLen) : exec .frameSyncPulse s = .next (settle s { s with fr := { s.fr with
      err := satErr e, pending := e, slipRun := 0, goodRun := min 3 (s.fr.goodRun + 1)
      refNext := max s.fr.refNext (f + 1) } }) := by
  have hawaits : s.awaitsRef = false := by simp [State.awaitsRef, hst]
  have hop : opFrameSyncPulse s = s.refEvent f e := by
    unfold opFrameSyncPulse
    rw [if_pos (by simp [hsrc, hst]), if_neg (by simp [hawaits]), he, hf]
  show done s (opFrameSyncPulse s) = _
  rw [hop, State.refEvent_of_good hnear hgood]
  rfl

theorem referenceEventMissing_slip (hsrc : s.fr.src ≠ 0) (hst : s.fr.st = .locked)
    (hlate : s.refExpected * 4 + s.frameLen < (s.fr.tif : Int) * 4) (hrun : s.fr.slipRun < 2) :
    Answers (exec .referenceEventMissing s) fun t =>
    t.fr = { s.fr with slipRun := s.fr.slipRun + 1, refNext := s.fr.refNext + 1 } ∧ bitOf (t.raw pgFrame) 0 = true ∧
      t.cntLive pgFrame 4 = min (s.cntLive pgFrame 4 + 1) (2 ^ 64 - 1) := by
  have hop : opReferenceEventMissing s = State.slip { s with fr := { s.fr with refNext := s.fr.refNext + 1 } } :=
    if_pos (by simp [hsrc, hst, State.awaitsRef, hlate])
  show Answers (done s (opReferenceEventMissing s)) _
  rw [hop, State.slip_of_early (s := { s with fr := { s.fr with refNext := s.fr.refNext + 1 } }) hst hrun]
  exact slipped_answers s { s with fr := { s.fr with refNext := s.fr.refNext + 1 } }

theorem referenceEventMissing_early (hsoon : (s.fr.tif : Int) * 4 ≤ s.refExpected * 4 + s.frameLen) :
    exec .referenceEventMissing s = .next (settle s s) := by
  have hop : opReferenceEventMissing s = s := if_neg (by simp [Int.not_lt.2 hsoon])
  exact congrArg (done s) hop

/-- The slew that PENDING asks for (R288). -/
def slewOf (pending : Int) : Int := if 0 < pending then 1 else if pending < 0 then -1 else 0

theorem slewOf_eq_zero (pending : Int) : slewOf pending = 0 ↔ pending = 0 := by
  unfold slewOf
  split
  · omega
  · split <;> omega

theorem slewJudge_answers (hst : s.fr.st ≠ .halted) (hjudged : s.fr.judged = false) (hat : s.fr.tif + 2 = s.frameLen) :
    Answers (exec .slewJudge s) fun t => t.fr = { s.fr with judged := true, slew := slewOf s.fr.pending } ∧
      t.cntLive pgFrame 5 =
        (if s.fr.pending = 0 then s.cntLive pgFrame 5 else min (s.cntLive pgFrame 5 + 1) (2 ^ 64 - 1)) ∧
      t.mem = s.mem ∧ t.tile = s.tile ∧ t.link = s.link ∧ t.q = s.q := by
  have hop : opSlewJudge s = if slewOf s.fr.pending = 0 then
      { s with fr := { s.fr with judged := true, slew := slewOf s.fr.pending } }
    else State.count { s with fr := { s.fr with judged := true, slew := slewOf s.fr.pending } } pgFrame 5 :=
    if_pos (by simp [hst, hjudged, hat])
  show Answers (done s (opSlewJudge s)) _
  rw [hop]
  refine answers_done ?_
  rw [settle_fr, settle_cntLive_pgFrame _ _ (k := 5) (by decide), settle_mem, settle_tile, settle_link, settle_q]
  by_cases hpending : s.fr.pending = 0
  · rw [if_pos ((slewOf_eq_zero _).2 hpending), if_pos hpending]
    exact ⟨rfl, rfl, rfl, rfl, rfl, rfl⟩
  · rw [if_neg (mt (slewOf_eq_zero _).1 hpending), if_neg hpending, State.cntLive_count, if_pos rfl]
    exact ⟨rfl, rfl, rfl, rfl, rfl, rfl⟩

/-- Settles O29: each event by the lemma about its case. -/
theorem referenceEventsSlewOrSlip : Obligations.ReferenceEventsSlewOrSlip := by
  intro s
  refine ⟨fun l m late e hen hcarries hsrc hlink he => ⟨?_, ?_, ?_, ?_, ?_⟩, ?_, fun hsrc hst => ⟨?_, ?_⟩, slewJudge_answers⟩
  · exact fun hst hgood hnear => markerRx_good hen hcarries hsrc hlink hst he hgood hnear
  · exact fun hst hslip hnear hrun => markerRx_slip hen hcarries hsrc hlink hst he hslip hnear hrun
  · exact fun hst hslip hnear hrun => markerRx_thirdSlip hen hcarries hsrc hlink hst he hslip hnear hrun
  · exact fun hst hfar hbefore => markerRx_judged hen hcarries hsrc hlink hst he hfar hbefore
  · exact fun hst hal => markerRx_acquires hen hcarries hsrc hlink hst hal
  · exact fun f e hsrc hst hf he hgood hnear => ⟨_, frameSyncPulse_good hsrc hst hf he hgood hnear, rfl⟩
  · exact fun hlate hrun => referenceEventMissing_slip hsrc hst hlate hrun
  · exact referenceEventMissing_early

end Sys2Proof.Machine
end

section
/-!
PROOFS. The governor (O21): the judgement of a temperature below every limit, an emergency decision, and the adjustment of VCORE.
-/
namespace Sys2Proof.Machine

section
variable (s0 s : State)

@[simp] theorem settle_rawBit_pgGov (i : Nat) : bitOf ((settle s0 s).raw pgGov) i = bitOf (s.raw pgGov) i :=
  settle_rawBit _ _ _ _ (by simp [pgGov, pgCour]) (by simp [pgGov, pgSmb])

@[simp] theorem settle_cntLive_pgGov {k : Nat} (hk : k < 32) : (settle s0 s).cntLive pgGov k = s.cntLive pgGov k :=
  settle_cntLive _ _ _ _ (by simp only [pgGov, pgHost]; omega)

end

variable {s : State}

/-! ### The decision -/

/-- The limit in force is kept by a code at or below it (R396). -/
theorem State.holdVmax_of_le (h : s.gov.code ≤ s.pw.vmax) : s.holdVmax = s := if_neg (by simp [Nat.not_lt.2 h])

/-- No limit of the temperature is reached, and none stands (R394 to R398). -/
structure State.Cool (s : State) : Prop where
  throttling : s.pw.throttling = false
  alarm : s.pw.alarm = false
  inletHigh : s.pw.inletHigh = false
  vmax : s.pw.vmax = s.vlim.2
  limits : s.vlim.1 ≤ s.vlim.2
  code : s.gov.code ≤ s.vlim.2
  trip : s.atLeast (fld (s.reg pgPower 0xA0) 7 0) = false
  throttle : s.atLeast (fld (s.reg pgPower 0x9C) 15 8) = false
  alarmLimit : s.atLeast (fld (s.reg pgPower 0x9C) 23 16) = false

/-- Below every limit the judgement of the temperature changes the level shown and may raise an event. -/
theorem State.judgeThermal_of_cool (h : s.Cool) :
    ∃ evRaw level, s.judgeThermal = { s with evRaw, pw := { s.pw with level } } := by
  obtain ⟨hthrottling, halarm, hinlet, hvmax, hlimits, hcode, htrip, hthr, halm⟩ := h
  unfold State.judgeThermal
  extract_lets l1 hyst tAlarm tThr tWarn vmin vmax warn u v u1 p1 v1 p v2 u2 was al p2 u3 u4 p4 u5
  rw [if_neg (by simp [htrip])]
  obtain ⟨evRaw, hu⟩ : ∃ evRaw, u = { s with evRaw } := by
    unfold u
    split
    · exact ⟨_, rfl⟩
    · exact ⟨s.evRaw, rfl⟩
  have hpw : u.pw = s.pw := by rw [hu]
  have hat (lim : Int) : u.atLeast lim = s.atLeast lim := by
    rw [hu]
    rfl
  have hu2 : u2 = u := by
    have hmax : max vmin v2 = u.pw.vmax := by
      simp only [v2, vmin, vmax, hpw, hvmax]
      omega
    have hbelow : decide (v2 < vmax) = u.pw.throttling := by
      simp [v2, vmax, hpw, hvmax, hthrottling]
    unfold u2
    rw [if_neg (by simp [hat, tThr, l1, hthr]), hmax, hbelow]
    exact ite_self u
  have hal : al = u.pw.alarm := by
    unfold al
    rw [hu2, hat, hpw, halarm, halm]
    rfl
  have hu3 : u3 = u := by
    unfold u3 p2
    rw [hu2, hal]
  have hu4 : u4 = u := by
    unfold u4
    rw [if_neg (by simp [hal, hpw, halarm]), hu3]
  have hu5 : u5 = u := by
    unfold u5
    rw [if_neg (by simp [hu4, State.alarmed, hpw, halarm, hinlet]), hu4]
  have hheld : u.setLevel.holdVmax = u.setLevel := State.holdVmax_of_le (by
    show u.gov.code ≤ u.pw.vmax
    rw [hpw, hvmax, hu]
    exact hcode)
  rw [hu5, hheld, hu]
  exact ⟨_, _, rfl⟩

/-- An emergency step: the slack is below EMERG (R301). -/
theorem State.govStep_of_emergency {v : Int} (hleast : s.gov.least = some v)
    (hemerg : v < (fld (s.reg pgGov 0x44) 31 24 : Int)) : s.govStep = (4, 0) := by
  unfold State.govStep
  simp [hleast, hemerg]

/-- What an emergency decision counts and raises. -/
def State.emergencyCounted (s : State) : State := ((s.count pgGov 0).countRaise pgGov 3 0).count pgGov 1

/-- The governor as a decision of step `step` leaves it before the adjustment. -/
def Gov.decided (g : Gov) (step : Int) : Gov :=
  { g with above := 0, winSlack := g.least.getD 1000, lastStep := step, least := none, overran := false }

/-- With room for it an emergency decision asks for the code plus 4. -/
theorem State.govDecide_of_emergency {v : Int} (hleast : s.gov.least = some v)
    (hemerg : v < (fld (s.reg pgGov 0x44) 31 24 : Int)) (hvmax : s.pw.vmax = s.vlim.2) (hlimits : s.vlim.1 ≤ s.gov.code)
    (hroom : s.gov.code + 4 ≤ s.vlim.2) :
    s.govDecide = State.startAdjust { s.emergencyCounted with gov := s.gov.decided 4 } (s.gov.code + 4) := by
  have htop : max s.vlim.1 s.pw.vmax = s.vlim.2 := by omega
  have hcode : (clampI s.vlim.1 (max s.vlim.1 s.pw.vmax : Nat) ((s.gov.code : Int) + 4)).toNat = s.gov.code + 4 := by
    rw [htop, clampI]
    omega
  unfold State.govDecide
  rw [State.govStep_of_emergency hleast hemerg]
  extract_lets r vmin top c u u1 u2 u3 g u4
  have hc : c = s.gov.code + 4 := hcode
  have hu1 : u1 = (s.count pgGov 0).countRaise pgGov 3 0 := if_pos rfl
  have hu2 : u2 = u1 := by
    unfold u2
    refine if_neg ?_
    rw [hu1]
    show ¬ (decide ((0 : Int) < 4) && decide (max s.vlim.1 s.pw.vmax ≤ s.gov.code)) = true
    simp [htop, Nat.not_le.2 (Nat.lt_of_lt_of_le (Nat.lt_add_of_pos_right (Nat.zero_lt_succ 3)) hroom)]
  have hu3 : u3 = s.emergencyCounted := by
    unfold u3
    rw [hu2, hu1, hc]
    exact if_pos (Nat.lt_add_of_pos_right (Nat.zero_lt_succ 3))
  have hu4 : u4 = { s.emergencyCounted with gov := s.gov.decided 4 } := by
    unfold u4 g
    rw [hu3]
    rfl
  rw [hu4, hc]
  refine if_neg ?_
  show s.gov.code + 4 ≠ s.gov.code
  omega

/-- The state in which the governor decides: its due mark is off and the temperature has been judged. -/
def State.thermallyJudged (s : State) (evRaw : Tbl Nat) (level : Nat) : State :=
  { s with evRaw, fr := { s.fr with govDue := false }, pw := { s.pw with level } }

theorem opGovernorDecision_of_emergency {v : Int} (hdue : s.fr.govDue = true) (hen : s.en pgGov = true)
    (hauto : bitOf (s.reg pgGov 0x40) 0 = true) (hidle : s.gov.adjusting = false) (ha3 : s.pw.a3 = false)
    (hleast : s.gov.least = some v) (hemerg : v < (fld (s.reg pgGov 0x44) 31 24 : Int)) (hcool : s.Cool)
    (hlimits : s.vlim.1 ≤ s.gov.code) (hroom : s.gov.code + 4 ≤ s.vlim.2) : ∃ evRaw level,
    opGovernorDecision s = State.startAdjust
      { (s.thermallyJudged evRaw level).emergencyCounted with gov := s.gov.decided 4 } (s.gov.code + 4) := by
  have hcool' : State.Cool { s with fr := { s.fr with govDue := false } } :=
    ⟨hcool.1, hcool.2, hcool.3, hcool.4, hcool.5, hcool.6, hcool.7, hcool.8, hcool.9⟩
  obtain ⟨evRaw, level, hjudged⟩ : ∃ evRaw level, State.judgeThermal { s with fr := { s.fr with govDue := false } } =
      s.thermallyJudged evRaw level := State.judgeThermal_of_cool hcool'
  have hgo : ¬ ((s.thermallyJudged evRaw level).gov.adjusting || (s.thermallyJudged evRaw level).pw.a3 ||
      !(s.thermallyJudged evRaw level).en pgGov || !bitOf ((s.thermallyJudged evRaw level).reg pgGov 0x40) 0) = true := by
    have hen' : (s.thermallyJudged evRaw level).en pgGov = true := hen
    have hauto' : bitOf ((s.thermallyJudged evRaw level).reg pgGov 0x40) 0 = true := hauto
    rw [hen', hauto']
    simpa using ⟨hidle, ha3⟩
  have hdecide := State.govDecide_of_emergency (s := s.thermallyJudged evRaw level) hleast hemerg hcool.vmax hlimits hroom
  refine ⟨evRaw, level, Eq.trans ?_ hdecide⟩
  unfold opGovernorDecision
  rw [if_pos hdue, hjudged]
  exact if_neg hgo

theorem State.cntLive_startAdjust (u : State) (g : Gov) (c p k : Nat) :
    (State.startAdjust { u with gov := g } c).cntLive p k = u.cntLive p k := rfl

theorem State.raw_startAdjust (u : State) (g : Gov) (c p : Nat) :
    (State.startAdjust { u with gov := g } c).raw p = u.raw p := rfl

theorem governorDecision_answers {v : Int} (hdue : s.fr.govDue = true) (hen : s.en pgGov = true)
    (hauto : bitOf (s.reg pgGov 0x40) 0 = true) (hidle : s.gov.adjusting = false) (ha3 : s.pw.a3 = false)
    (hleast : s.gov.least = some v) (hemerg : v < (fld (s.reg pgGov 0x44) 31 24 : Int)) (hcool : s.Cool)
    (hlimits : s.vlim.1 ≤ s.gov.code) (hroom : s.gov.code + 4 ≤ s.vlim.2) : Answers (exec .governorDecision s) fun t =>
    t.cntLive pgGov 0 = min (s.cntLive pgGov 0 + 1) (2 ^ 64 - 1) ∧ t.gov.want = s.gov.code + 4 ∧ t.gov.adjusting = true ∧
      t.gov.code = s.gov.code ∧ t.gov.least = none ∧ t.gov.above = 0 ∧ bitOf (t.raw pgGov) 0 = true ∧
      t.fr.govDue = false ∧ t.mem = s.mem ∧ t.tile = s.tile ∧ t.link = s.link := by
  obtain ⟨evRaw, level, hop⟩ :=
    opGovernorDecision_of_emergency hdue hen hauto hidle ha3 hleast hemerg hcool hlimits hroom
  have hcnt : (s.thermallyJudged evRaw level).emergencyCounted.cntLive pgGov 0 = min (s.cntLive pgGov 0 + 1) (2 ^ 64 - 1) := by
    rw [State.emergencyCounted, State.cntLive_count, if_neg (by decide), State.countRaise, State.cntLive_raise,
      State.cntLive_count, if_neg (by decide), State.cntLive_count, if_pos rfl]
    rfl
  have hraw : bitOf ((s.thermallyJudged evRaw level).emergencyCounted.raw pgGov) 0 = true := by
    rw [State.emergencyCounted, State.raw_count, State.countRaise, bitOf_raw_raise]
    simp
  show Answers (done s (opGovernorDecision s)) _
  rw [hop]
  refine answers_done ?_
  rw [settle_cntLive_pgGov _ _ (k := 0) (by decide), settle_gov, settle_rawBit_pgGov, settle_fr, settle_mem, settle_tile,
    settle_link, State.cntLive_startAdjust, State.raw_startAdjust]
  exact ⟨hcnt, rfl, rfl, rfl, rfl, rfl, hraw, rfl, rfl, rfl, rfl⟩

/-! ### The write of a code and its settling -/

/-- SMBUS's STATUS after a transaction of the master port, whose address part the module chooses (log 2). -/
def State.smbusDone (s : State) : State :=
  let u := (s.setReg pgSmb 0x48 (fld (s.reg pgSmb 0x48) 15 8 * 2 ^ 8)).draw
  u.2.setReg pgSmb 0x48 (u.1 % 2 ^ 7 * 2 ^ 8 + fld (u.2.reg pgSmb 0x48) 7 0)

section
variable (hadj : s.gov.adjusting = true) (hack : s.gov.acked = false)
include hadj hack

theorem opVcoreWriteAck_of_ack :
    opVcoreWriteAck .free true s = { s.smbusDone with gov := { s.gov with acked := true } } := by
  unfold opVcoreWriteAck
  rw [if_pos (by simp [hadj, hack])]
  rfl

theorem opVcoreWriteAck_of_nak : opVcoreWriteAck .free false s =
    if s.gov.tries = 0 then { s.smbusDone with gov := { s.gov with tries := 1 } }
    else (State.countRaise { s.smbusDone with gov := { s.gov with adjusting := false, want := s.gov.code, tries := 0 } }
      pgGov 4 2).adjusted := by
  unfold opVcoreWriteAck
  rw [if_pos (by simp [hadj, hack])]
  rfl

theorem vcoreWriteAck_acknowledged :
    Answers (exec (.vcoreWriteAck .free true) s) fun t => t.gov = { s.gov with acked := true } := by
  show Answers (done s (opVcoreWriteAck .free true s)) _
  rw [opVcoreWriteAck_of_ack hadj hack]
  refine answers_done ?_
  rw [settle_gov]

theorem vcoreWriteAck_retried (htries : s.gov.tries = 0) :
    Answers (exec (.vcoreWriteAck .free false) s) fun t => t.gov = { s.gov with tries := 1 } := by
  show Answers (done s (opVcoreWriteAck .free false s)) _
  rw [opVcoreWriteAck_of_nak hadj hack, if_pos htries]
  refine answers_done ?_
  rw [settle_gov]

end

/-- An adjustment ends with nothing left to do where no code waits and the limit holds. -/
theorem State.adjusted_of_none (hdue : s.gov.vsetDue = none) (hcode : s.gov.code ≤ s.pw.vmax) : s.adjusted = s := by
  unfold State.adjusted
  rw [hdue]
  exact State.holdVmax_of_le hcode

/-- The adjustment is given up (R303). -/
def State.ackFailed (s : State) : State :=
  State.countRaise { s.smbusDone with gov := { s.gov with adjusting := false, want := s.gov.code, tries := 0 } } pgGov 4 2

theorem State.cntLive_smbusDone (s : State) (g : Gov) (p k : Nat) :
    State.cntLive { s.smbusDone with gov := g } p k = s.cntLive p k := rfl

theorem vcoreWriteAck_failed (hadj : s.gov.adjusting = true) (hack : s.gov.acked = false) (htries : s.gov.tries ≠ 0)
    (hdue : s.gov.vsetDue = none) (hcode : s.gov.code ≤ s.pw.vmax) :
    Answers (exec (.vcoreWriteAck .free false) s) fun t =>
    t.gov = { s.gov with adjusting := false, want := s.gov.code, tries := 0 } ∧
      t.cntLive pgGov 4 = min (s.cntLive pgGov 4 + 1) (2 ^ 64 - 1) ∧ bitOf (t.raw pgGov) 2 = true := by
  have hop : opVcoreWriteAck .free false s = s.ackFailed := by
    rw [opVcoreWriteAck_of_nak hadj hack, if_neg htries]
    exact State.adjusted_of_none (s := s.ackFailed) hdue hcode
  show Answers (done s (opVcoreWriteAck .free false s)) _
  rw [hop]
  refine answers_done ?_
  rw [settle_gov, settle_cntLive_pgGov _ _ (k := 4) (by decide), settle_rawBit_pgGov, State.ackFailed, State.countRaise,
    State.cntLive_raise, State.cntLive_count, if_pos rfl, State.cntLive_smbusDone, bitOf_raw_raise]
  exact ⟨rfl, rfl, by simp⟩

theorem vcoreSettle_moves (hadj : s.gov.adjusting = true) (hack : s.gov.acked = true) (hdue : s.gov.vsetDue = none)
    (hwant : s.gov.want ≤ s.pw.vmax) (hmoved : s.gov.want ≠ s.gov.code) : exec .vcoreSettle s = .next (settle s (State.raise
      { s with gov := { s.gov with code := s.gov.want, adjusting := false, acked := false } } pgGov 3)) := by
  have hop : opVcoreSettle s = State.raise
      { s with gov := { s.gov with code := s.gov.want, adjusting := false, acked := false } } pgGov 3 := by
    unfold opVcoreSettle
    rw [if_pos (by simp [hadj, hack])]
    extract_lets moved g u
    have hmove : moved = true := bne_iff_ne.2 hmoved
    rw [if_pos hmove]
    exact State.adjusted_of_none hdue hwant
  exact congrArg (done s) hop

/-! ### The write of VSET -/

/-- VSET stands in no other register. -/
theorem State.reg_vset (s : State) (c : Nat) {o : Nat} (ho : o < 0x4C) : (s.setReg pgGov 0x4C c).reg pgGov o = s.reg pgGov o :=
  State.reg_setReg_ne _ _ _ _ _ _ (by simp only [rkey]; omega)

theorem State.vlim_vset (s : State) (c : Nat) : (s.setReg pgGov 0x4C c).vlim = s.vlim := by
  rw [State.vlim, s.reg_vset c (by decide), State.vlim]

/-- A code inside the limits is carried out as it is. -/
theorem State.goVset_of_inside {c : Nat} (hlow : s.vlim.1 ≤ c) (hhigh : c ≤ s.pw.vmax) (hnew : c ≠ s.gov.code) :
    s.goVset c = s.startAdjust c := by
  have hclamp : clampN s.vlim.1 (max s.vlim.1 s.pw.vmax) c = c := by
    rw [clampN]
    omega
  unfold State.goVset
  rw [hclamp]
  exact if_neg hnew

section
variable {p : Path} {w : BitVec 32}

theorem opVsetWrite_of_may (hmay : s.mayPath p pgGov = true) : opVsetWrite p w s =
    let u := s.setReg pgGov 0x4C (w.toNat % 64)
    if (!bitOf (s.reg pgGov 0x40) 0 && s.en pgGov) = true then
      if s.gov.adjusting then { u with gov := { s.gov with vsetDue := some (w.toNat % 64) } } else u.goVset (w.toNat % 64)
    else u := by
  have hen : (s.setReg pgGov 0x4C (w.toNat % 64)).en pgGov = s.en pgGov :=
    congrArg (bitOf · 0) (s.reg_vset _ (by decide))
  unfold opVsetWrite
  rw [if_pos hmay]
  dsimp only
  rw [s.reg_vset (w.toNat % 64) (by decide), hen]
  rfl

variable (hmay : s.mayPath p pgGov = true)
include hmay

theorem vsetWrite_held (hoff : bitOf (s.reg pgGov 0x40) 0 = true ∨ s.en pgGov = false) :
    exec (.vsetWrite p w) s = .next (settle s (s.setReg pgGov 0x4C (w.toNat % 64))) := by
  refine congrArg (done s) ((opVsetWrite_of_may hmay).trans (if_neg ?_))
  obtain h | h := hoff
  · simp [h]
  · simp [h]

variable (hman : bitOf (s.reg pgGov 0x40) 0 = false) (hen : s.en pgGov = true)
include hman hen

theorem vsetWrite_starts (hidle : s.gov.adjusting = false) (hlow : s.vlim.1 ≤ w.toNat % 64) (hhigh : w.toNat % 64 ≤ s.pw.vmax)
    (hnew : w.toNat % 64 ≠ s.gov.code) : exec (.vsetWrite p w) s = .next (settle s
      ((s.setReg pgGov 0x4C (w.toNat % 64)).startAdjust (w.toNat % 64))) := by
  have hgo : (s.setReg pgGov 0x4C (w.toNat % 64)).goVset (w.toNat % 64) =
      (s.setReg pgGov 0x4C (w.toNat % 64)).startAdjust (w.toNat % 64) :=
    State.goVset_of_inside (by rwa [State.vlim_vset]) hhigh hnew
  refine congrArg (done s) ((opVsetWrite_of_may hmay).trans ?_)
  dsimp only
  rw [if_pos (by simp [hman, hen]), if_neg (by simp [hidle]), hgo]

theorem vsetWrite_waits (hadj : s.gov.adjusting = true) : exec (.vsetWrite p w) s = .next (settle s
    { s.setReg pgGov 0x4C (w.toNat % 64) with gov := { s.gov with vsetDue := some (w.toNat % 64) } }) := by
  refine congrArg (done s) ((opVsetWrite_of_may hmay).trans ?_)
  dsimp only
  rw [if_pos (by simp [hman, hen]), if_pos hadj]

end

/-- Settles O21: the decision and each part of the adjustment by the lemma about it. -/
theorem governorDecidesAndAdjusts : Obligations.GovernorDecidesAndAdjusts := by
  intro s
  refine ⟨?_, fun hadj hack => ⟨vcoreWriteAck_acknowledged hadj hack, vcoreWriteAck_retried hadj hack,
    vcoreWriteAck_failed hadj hack⟩, vcoreSettle_moves, fun p w hmay hman hen => ⟨vsetWrite_starts hmay hman hen,
    vsetWrite_waits hmay hman hen⟩, fun p w hmay hoff => vsetWrite_held hmay hoff⟩
  intro v hdue hen hauto hidle ha3 hleast _ hemerg hthrottling halarm hinlet hvmax hlimits hcode hlow hroom htrip hthr halm
  exact governorDecision_answers hdue hen hauto hidle ha3 hleast hemerg
    ⟨hthrottling, halarm, hinlet, hvmax, hlimits, hcode, htrip, hthr, halm⟩ hlow hroom

end Sys2Proof.Machine
end

section
/-!
PROOFS. The place of the frame unit (O31): its state, the frame in progress and the tick within it, the commits and the granules released.
What a frame boundary does to links, lanes, calibration, tiles, the registry, queues and the plan leaves it: one lemma for each
operation of the model that a boundary reaches.
-/
namespace Sys2Proof.Machine

/-- Where the frame unit stands: its state, FRAME_NUM, the tick, the next record of its plan, the commits and the granules
released. -/
structure Place where
  st : FrameSt
  num : Nat
  tif : Nat
  nextRec : Nat
  committed : Nat
  comNext : Nat
  applying : List Staged

def FrameU.place (f : FrameU) : Place := ⟨f.st, f.num, f.tif, f.nextRec, f.committed, f.comNext, f.applying⟩

/-- The frame unit stands at `pl`. -/
def State.At (s : State) (pl : Place) : Prop := s.fr.place = pl

namespace State.At
variable {s : State} {pl : Place}

theorem of_fr {u : State} (h : s.At pl) (hfr : u.fr = s.fr) : u.At pl := (congrArg FrameU.place hfr).trans h

theorem kept {u : State} (h : s.At pl) (hkept : FrameKept s u) : u.At pl := (hkept.field FrameU.place fun _ => rfl).trans h

/-- An update that leaves the place of the frame unit. -/
theorem frame {pending freeCtr resp regs evRaw evEn cnt snap soft hif irq tb fr gov rg q sy mem share sec link chk route
    frozen mg vsu stm tile lp pw} (h : s.At pl) (hplace : FrameU.place fr = s.fr.place) :
    State.At { s with
      pending, freeCtr, resp, regs, evRaw, evEn, cnt, snap, soft, hif, irq, tb, fr, gov, rg, q, sy, mem, share, sec, link, chk
      route, frozen, mg, vsu, stm, tile, lp, pw } pl :=
  hplace.trans h

theorem forL {α : Type} {f : α → State → State} {l : List α} (h : s.At pl) (hf : ∀ a {t : State}, t.At pl → (f a t).At pl) :
    (forL l f s).At pl := forL_keeps (State.At · pl) f (fun a _ => hf a) l s h

theorem forN {f : Nat → State → State} {n : Nat} (h : s.At pl) (hf : ∀ i {t : State}, t.At pl → (f i t).At pl) :
    (forN n f s).At pl := forN_keeps (State.At · pl) f (fun i _ => hf i) n s h

/-- Whichever way a condition falls. -/
theorem either {c : Prop} [Decidable c] {a b : State} (ha : a.At pl) (hb : b.At pl) : (if c then a else b).At pl := by
  split <;> assumption

theorem eitherSnd {α : Type} {c : Prop} [Decidable c] {a b : α × State} (ha : a.2.At pl) (hb : b.2.At pl) :
    (if c then a else b).2.At pl := by
  split <;> assumption

theorem eitherFst {α : Type} {c : Prop} [Decidable c] {a b : State × α} (ha : a.1.At pl) (hb : b.1.At pl) :
    (if c then a else b).1.At pl := by
  split <;> assumption

/-- The state of an answer and a state. -/
theorem ofSnd {α : Type} {a : α} {t : State} (h : t.At pl) : (a, t).2.At pl := h

theorem ofFst {α : Type} {a : α} {t : State} (h : t.At pl) : (t, a).1.At pl := h

/-! Accesses of engines, the event log, frame faults and counters -/

theorem gRead {src g : Nat} {dec : Dec} (h : s.At pl) : (s.gRead src g dec).2.At pl :=
  h.kept ((FrameKept.refl s).gRead _ _ _)

theorem gWrite {src g : Nat} {data : List (Option Byte)} {poison : Bool} {dec : Dec} (h : s.At pl) :
    (s.gWrite src g data poison dec).At pl := h.kept ((FrameKept.refl s).gWrite _ _ _ _ _)

theorem sramLost {src a : Nat} (h : s.At pl) : (s.sramLost src a).At pl := h.kept ((FrameKept.refl s).sramLost _ _)

theorem sramFixed (h : s.At pl) : s.sramFixed.At pl := h.kept (FrameKept.refl s).sramFixed

theorem log {q code cls detail : Nat} (h : s.At pl) : (s.log q code cls detail).At pl :=
  h.kept ((FrameKept.refl s).log _ _ _ _)

theorem frameFault {src g : Nat} (h : s.At pl) : (s.frameFault src g).At pl := h.kept (frameKept_frameFault s _ _)

theorem countN {q k n : Nat} (h : s.At pl) : (s.countN q k n).At pl := frame h rfl

theorem violate {t src : Nat} (h : s.At pl) : (s.violate t src).At pl := h.of_fr (State.violate_fr ..)

theorem count {p k : Nat} (h : s.At pl) : (s.count p k).At pl := h.countN

theorem setReg {p off v : Nat} (h : s.At pl) : (s.setReg p off v).At pl := frame h rfl

theorem setReg64 {p off v : Nat} (h : s.At pl) : (s.setReg64 p off v).At pl := h.setReg.setReg

theorem setRaw {p v : Nat} (h : s.At pl) : (s.setRaw p v).At pl := frame h rfl

theorem raise {p bit : Nat} (h : s.At pl) : (s.raise p bit).At pl := h.setRaw

theorem countRaise {p k bit : Nat} (h : s.At pl) : (s.countRaise p k bit).At pl := h.count.raise

theorem reject {p bit : Nat} (h : s.At pl) : (s.reject p bit).At pl := h.raise

theorem draw (h : s.At pl) : s.draw.2.At pl := frame h rfl

theorem setQd {q : Nat} {d : QDesc} (h : s.At pl) : (s.setQd q d).At pl := frame h rfl

/-! BAR4 reads that waited -/

theorem barReport {t : Nat} {js : List Nat} (h : s.At pl) : (s.barReport t js).At pl :=
  either (either (either h.violate h).countRaise (either h.violate h)).countRaise (either (either h.violate
    h).countRaise (either h.violate h))

theorem barReads {t : Nat} {ps : List (Nat × Nat × Nat)} {dec : List Dec} (h : s.At pl) :
    (s.barReads t ps dec).2.At pl := by
  induction ps generalizing s dec with
  | nil => exact h
  | cons p ps ih => exact ih (eitherSnd h.gRead h)

theorem barServe {f : Nat} {ps : List (Nat × Nat × Nat)} {dec : List Dec} (h : s.At pl) :
    (s.barServe f ps dec).2.At pl := either h.barReads.barReport h.barReads.barReport.countN.raise

theorem barRelease (h : s.At pl) : s.barRelease.At pl :=
  (frame h rfl).forL (fun _ _ ht => either (frame ht rfl) (frame ht.barServe rfl))

theorem setLnk {l : Nat} {x : LinkS} (h : s.At pl) : (s.setLnk l x).At pl := frame h rfl

/-! The registry -/

theorem regPut {x : Nat} {bs : Bytes} (h : s.At pl) : (s.regPut x bs).At pl :=
  h.forL (fun _ _ ht => frame ht rfl)

theorem regHeader {r : Rec} (h : s.At pl) : (s.regHeader r).At pl := frame h rfl

theorem regPeak (h : s.At pl) : s.regPeak.At pl := frame h rfl

theorem append {u : Undo} (h : s.At pl) : (s.append u).At pl := by
  unfold State.append
  split
  · exact h
  · exact either (frame h.regPut rfl).regHeader.regPeak h.countRaise.log.frameFault

theorem undo {kind word id val : Nat} (h : s.At pl) : (s.undo kind word id val).At pl := by
  unfold State.undo
  split
  · exact h
  · exact either h h.append

theorem undoSlot {qid pos : Nat} {env : Bytes} {pois : Bool} (h : s.At pl) :
    (s.undoSlot qid pos env pois).At pl := by
  unfold State.undoSlot
  split
  · exact h
  · exact either h h.append

theorem forget {kind id : Nat} (h : s.At pl) : (s.forget kind id).At pl := frame h rfl

/-! Sync cells -/

theorem fireWatch {c : Nat} (h : s.At pl) : (s.fireWatch c).At pl :=
  either (frame h.countRaise rfl) (frame h.countRaise rfl).countRaise

theorem finishPart {f i x : Nat} (h : s.At pl) : (s.finishPart f i x).At pl := frame h rfl

theorem judgeCell {c : Nat} (h : s.At pl) : (s.judgeCell c).At pl :=
  (frame ((frame h rfl).forL (fun _ _ ht => ht.fireWatch)) rfl).forL (fun _ _ ht => ht.finishPart)

theorem setCell {c v : Nat} (h : s.At pl) : (s.setCell c v).At pl := (frame h.undo rfl).judgeCell

theorem addCell {c : Nat} {n : Int} (h : s.At pl) : (s.addCell c n).At pl := h.count.setCell

/-! Queues and check units -/

theorem envAt {d : QDesc} {x : Nat} (h : s.At pl) : (s.envAt d x).2.At pl := h.gRead

theorem envsAt {d : QDesc} {x n : Nat} (h : s.At pl) : (s.envsAt d x n).2.At pl := by
  induction n generalizing s x with
  | zero => exact h
  | succ n ih => exact ih h.envAt

theorem putEnv {q : Nat} {d : QDesc} {x : Nat} {e : Bytes} {pois : Bool} (h : s.At pl) :
    (s.putEnv q d x e pois).At pl := (either h.undoSlot h).gWrite

theorem putEnvs {q : Nat} {d : QDesc} {x : Nat} {es : List (Bytes × Bool)} (h : s.At pl) :
    (s.putEnvs q d x es).At pl := by
  induction es generalizing s x with
  | nil => exact h
  | cons e es ih => exact ih h.putEnv

theorem moveQd {q : Nat} {d : QDesc} (h : s.At pl) : (s.moveQd q d).At pl :=
  (either (either h.undo h).undo (either h.undo h)).setQd

theorem holdEnv {q : Nat} {e : Bytes} {pois : Bool} (h : s.At pl) : (s.holdEnv q e pois).At pl :=
  either (frame h rfl).raise (frame h rfl)

theorem undoUnit {u : Nat} (h : s.At pl) : (s.undoUnit u).At pl := by
  unfold State.undoUnit
  split
  · exact h
  · exact either h.undo h

theorem coverBytes {u : Nat} {bs : Bytes} (h : s.At pl) : (s.coverBytes u bs).At pl :=
  h.undoUnit.setReg64.countN

theorem unitTakes {u d : Nat} {e : Bytes} (h : s.At pl) : (s.unitTakes u d e).At pl :=
  either (either h.coverBytes (either h.countRaise h.countRaise.coverBytes)) h.coverBytes

theorem checkEnv {q : Nat} {e : Bytes} (h : s.At pl) : (s.checkEnv q e).At pl :=
  either (h.forL (fun _ _ ht => ht.unitTakes)).moveQd (h.forL (fun _ _ ht => ht.unitTakes))

theorem consume {q : Nat} (h : s.At pl) : (s.consume q).2.At pl := eitherSnd h h.envAt.checkEnv.moveQd

theorem consumeN {q n : Nat} (h : s.At pl) : (s.consumeN q n).At pl := by
  induction n generalizing s with
  | zero => exact h
  | succ n ih => exact ih h.consume

theorem cands {q : Nat} {late : Nat} (h : s.At pl) : (s.cands q late).2.At pl := by
  unfold State.cands
  exact eitherSnd (ofSnd h) (ofSnd h.envsAt)

theorem divert {dlq : Nat} {c : Cand} (h : s.At pl) : (s.divert dlq c).1.At pl := by
  unfold State.divert
  extract_lets d can e s1 _ s2
  have h1 : s1.At pl := h.countRaise.count
  have h2 : s2.At pl := frame h1 rfl
  exact eitherFst (ofFst h.countRaise) (eitherFst (ofFst h2.putEnv.moveQd) (ofFst h2.holdEnv))

theorem divertAll {dlq : Nat} {cs : List Cand} (h : s.At pl) : (s.divertAll dlq cs).1.At pl := by
  induction cs generalizing s with
  | nil => exact h
  | cons c cs ih => exact ih h.divert

theorem noteAdmit {q x f : Nat} (h : s.At pl) : (s.noteAdmit q x f).At pl := frame h rfl

theorem admitQ {late : Tbl Nat} {q : Nat} (h : s.At pl) : (s.admitQ late q).1.At pl := by
  unfold State.admitQ
  refine eitherFst h ?_
  extract_lets p r s1 key elig n adm rest occ depth ex keep out s2 held _ s3 admPos tail _ s4 _ s5 s6 s7 s8 v late' s9
  have h2 : s2.At pl := h.cands.putEnvs
  have h3 : s3.At pl := either (frame h2 rfl) (either h2.putEnvs h2)
  have h5 : s5.At pl := frame h3.moveQd rfl
  have h6 : s6.At pl := either h5 h5.noteAdmit
  have hv : v.1.At pl := h6.countN.countN.divertAll
  exact either hv.addCell hv

theorem admitList {late : Tbl Nat} {qs : List Nat} (h : s.At pl) : (s.admitList late qs).1.At pl := by
  induction qs generalizing s late with
  | nil => exact h
  | cons q qs ih => exact ih h.admitQ

theorem stampRange {q x f n : Nat} (h : s.At pl) : (s.stampRange q x f n).At pl := by
  induction n generalizing s x with
  | zero => exact h
  | succ n ih => exact ih h.envAt.putEnv.count

theorem pendRange {q x f n : Nat} (h : s.At pl) : (s.pendRange q x f n).At pl :=
  either h.stampRange (frame h rfl)

theorem freshPending {f : Nat} (h : s.At pl) : (s.freshPending f).At pl :=
  (frame h rfl).forL (fun _ _ ht => ht.pendRange)

theorem judgeDesc {f q : Nat} (h : s.At pl) : (s.judgeDesc f q).At pl := by
  unfold State.judgeDesc
  extract_lets h0 h1 o w by' wrong s1 w' s2 s3 lost s4
  have hs1 : s1.At pl := either h.violate h
  have hs2 : s2.At pl := hs1.setQd.forget
  have hs3 : s3.At pl := either hs2 hs2.noteAdmit
  have hs4 : s4.At pl := either hs1 hs1.countN.raise
  refine either (either (either hs3.pendRange hs3) hs1.reject) (either ?_ hs1.reject)
  exact forget (frame hs4 rfl)

theorem headMoves (h : s.At pl) : s.headMoves.At pl :=
  (frame h rfl).forL (fun _ _ ht => by split; exacts [ht.consumeN, ht])

theorem queueBoundary {f : Nat} (h : s.At pl) : (s.queueBoundary f).At pl :=
  either (either (frame ((frame h rfl).forL (fun _ _ ht => ht.judgeDesc)) rfl).headMoves (frame ((frame h rfl).forL (fun _ _ ht =>
    ht.judgeDesc)) rfl)).freshPending (frame h rfl)

theorem tryAdmit (h : s.At pl) : s.tryAdmit.At pl := either h (frame h.admitList rfl)

theorem admitBoundary (h : s.At pl) : s.admitBoundary.At pl := either (frame h rfl).tryAdmit h

theorem dlClose (h : s.At pl) : s.dlClose.At pl := frame h rfl

theorem opDlWindowEnd (h : s.At pl) : (Machine.opDlWindowEnd s).At pl :=
  either (frame (either h.setReg.raise h.setReg) rfl) h

/-! The plan -/

theorem fetchGrans {g n : Nat} (h : s.At pl) : (s.fetchGrans g n).At pl :=
  h.forN (fun _ _ ht => either ht.draw.gRead ht.gRead)

theorem planFetch (h : s.At pl) : s.planFetch.At pl := either h h.fetchGrans.fetchGrans

/-! Links -/

theorem undoLink {l cls : Nat} (h : s.At pl) : (s.undoLink l cls).At pl :=
  either h.undo.undo h.undo.undo

theorem linkTo {l : Nat} {st : LinkSt} (h : s.At pl) : (s.linkTo l st).At pl :=
  either h h.setLnk.raise

theorem linkBoundary {reentry run : Bool} (h : s.At pl) : (s.linkBoundary reentry run).At pl :=
  h.forN (fun _ _ ht => either ht (either ht.setLnk.linkTo ht.setLnk))

theorem freeEntries {f : Nat} (h : s.At pl) : (s.freeEntries f).At pl :=
  h.forN (fun _ _ ht => either ht (either ht ht.undoLink).setLnk)

/-! Tiles -/

theorem setTl {t : Nat} {x : Tile} (h : s.At pl) : (s.setTl t x).At pl := frame h rfl

theorem watchHealth {s0 : State} {t : Nat} (h : s.At pl) : (Machine.watchHealth s0 t s).At pl :=
  either h h.raise

theorem swapAbandoned {t : Nat} (h : s.At pl) : (s.swapAbandoned t).At pl := h.setTl.countRaise

theorem verdict {t : Nat} {pass : Bool} (h : s.At pl) : (s.verdict t pass).At pl :=
  either h.setTl h.swapAbandoned

theorem route1 {t : Nat} (h : s.At pl) : (s.route1 t).At pl := (either h.raise h).setTl

theorem ringsBoundary {t : Nat} (h : s.At pl) : (s.ringsBoundary t).At pl := either h h.setTl

theorem forceVals {t : Nat} {vs : List (Nat × Int)} {n : Nat} (h : s.At pl) :
    (s.forceVals t vs n).At pl := h.setTl

theorem promote {t : Nat} (h : s.At pl) : (s.promote t).At pl := by
  unfold State.promote
  extract_lets x
  split
  · exact h.forceVals.setTl
  · exact h.setTl

theorem retire {t c : Nat} (h : s.At pl) : (s.retire t c).At pl := either h h.setTl.raise

theorem failover {t c : Nat} (h : s.At pl) : (s.failover t c).At pl :=
  either h.retire.promote.setTl (either h.retire.setTl
    (by split; exacts [h.retire, either h.retire.setTl.promote.setTl (either
          (by split; exacts [h.setTl, either h h.retire.setTl]) h.retire.setTl)]))

theorem substAt {t : Nat} {e : Nat × Bool} (h : s.At pl) : (s.substAt t e).At pl :=
  either h (either h.setTl h.raise)

theorem substRows {t : Nat} (h : s.At pl) : (s.substRows t).At pl :=
  h.setTl.forL (fun _ _ ht => ht.substAt)

theorem swap {t : Nat} (h : s.At pl) : (s.swap t).At pl := h.promote.setTl.count

theorem exchange {t : Nat} (h : s.At pl) : (s.exchange t).At pl := h.promote.setTl

theorem acquired {t : Nat} {vals : List (Nat × Int)} {cols : List Nat} (h : s.At pl) :
    (s.acquired t vals cols).At pl := (h.forceVals.setTl.forL (fun _ _ ht => ht.retire)).setTl

theorem satWarn {t : Nat} (h : s.At pl) : (s.satWarn t).At pl := (either h.raise h).setTl

theorem newU {t : Nat} {u : Tbl Int} (h : s.At pl) : (s.newU t u).At pl := either h.setTl h.setTl

theorem uBoundary {t : Nat} (h : s.At pl) : (s.uBoundary t).At pl := by
  unfold State.uBoundary
  split
  · exact h.newU
  · exact h

theorem commitT {t : Nat} (h : s.At pl) : (s.commitT t).At pl := h.setTl

theorem tileRestore {t : Nat} (h : s.At pl) : (s.tileRestore t).At pl :=
  either h (by split; exacts [h.setTl, either h (either h.setTl.watchHealth h.setTl)])

theorem rolesBoundary {t : Nat} (h : s.At pl) : (s.rolesBoundary t).At pl := by
  unfold State.rolesBoundary
  extract_lets x
  split
  · exact h.acquired
  · exact either h (either h.swap (either h.promote.setTl (either h.exchange (either h.setTl (either h.setTl h)))))

theorem failBoundary {t : Nat} (h : s.At pl) : (s.failBoundary t).At pl :=
  either h (either (h.forL (fun _ _ ht => ht.failover)).setTl.frameFault (h.forL (fun _ _ ht => ht.failover)).setTl)

theorem tileBoundary {t : Nat} (h : s.At pl) : (s.tileBoundary t).At pl := by
  unfold State.tileBoundary
  extract_lets s0 s1 noRun s2 r s3 failed s4 s5 x s6 s7
  have h1 : s1.At pl := h.uBoundary
  have h2 : s2.At pl := h1.satWarn.ringsBoundary.tileRestore
  have h3 : s3.At pl := either h2.draw.verdict h2
  have h4 : s4.At pl := h3.failBoundary.substRows
  have h5 : s5.At pl := either h4 h4.rolesBoundary
  have h6 : s6.At pl := either h5.setTl h5
  have h7 : s7.At pl := either h6.route1 h6
  exact either h1 h7.watchHealth

/-! Domains, calibration and lanes -/

theorem setDom {d v : Nat} (h : s.At pl) : (s.setDom d v).At pl := frame h rfl

theorem a1Follow (h : s.At pl) : s.a1Follow.At pl := h.forN (fun _ _ ht => either ht.setDom ht)

theorem flashErase {a n : Nat} (h : s.At pl) : (s.flashErase a n).At pl := frame h rfl

theorem laneChanged {l : Nat} {x : LinkS} (h : s.At pl) : (s.laneChanged l x).At pl := h.setLnk

theorem csErase (h : s.At pl) : s.csErase.At pl := either (frame h.flashErase rfl) h

theorem csBoundary (h : s.At pl) : s.csBoundary.At pl := by
  unfold State.csBoundary
  generalize 256 = n
  extract_lets s1
  have h1 : s1.At pl := h.forN fun _ _ ht => ht.commitT
  exact either (csErase (frame h1 rfl)) h

theorem laneBoundary (h : s.At pl) : s.laneBoundary.At pl :=
  h.forN (fun _ _ ht => either ht ht.laneChanged.count)

/-! The frame that starts -/

theorem applyLog (h : s.At pl) : s.applyLog.At pl := frame h rfl

theorem govFrame (h : s.At pl) : s.govFrame.At pl := frame h rfl

theorem openRecord (h : s.At pl) : s.openRecord.At pl :=
  either (either (frame h rfl).regPut.regPeak.count h.countRaise.log.frameFault) h

theorem startFrame {ended reentry : Bool} (h : s.At pl) : (s.startFrame ended reentry).At pl := by
  unfold State.startFrame
  extract_lets n s1 s2 s3 dl s4 s5 s6 gv
  have h2 : s2.At pl := h.count.linkBoundary.laneBoundary.csBoundary
  have h3 : s3.At pl := (h2.forL fun _ _ ht => ht.tileBoundary).a1Follow
  have h4 : s4.At pl := either h3.opDlWindowEnd.dlClose h3
  have h5 : s5.At pl := h4.openRecord.queueBoundary.admitBoundary
  have h6 : s6.At pl := either h5.planFetch h5
  exact frame h6 rfl

/-! The commit buffer -/

theorem unstage {w : Staged} (h : s.At pl) : (s.unstage w).2.At pl :=
  eitherSnd h (eitherSnd h.sramFixed h.draw.sramLost)

end State.At

end Sys2Proof.Machine
end

section
/-!
PROOFS. The frame boundary and the commit (O31): the place of the frame unit after a boundary of FREE or LOCKED, and the oldest released
granule as it goes to memory.
-/
namespace Sys2Proof.Machine

variable {s : State} {pl : Place}

/-! ### The settings of a boundary -/

namespace State.At

theorem applyCfg (h : s.At pl) : s.applyCfg.At pl := frame h rfl

theorem applyWins (h : s.At pl) : s.applyWins.At pl := frame h rfl

theorem applyPlan (h : s.At pl) : s.applyPlan.At pl := frame h rfl

theorem applyBoundary (h : s.At pl) : s.applyBoundary.At pl := by
  unfold State.applyBoundary
  refine applyLog ?_
  split
  · exact either h.applyWins.applyPlan.raise h.applyWins
  · exact h.applyWins

/-- An update of the frame unit that changes the state alone. -/
theorem enter {fr : FrameU} (st : FrameSt) (h : s.At pl) (hplace : fr.place = { s.fr.place with st := st }) :
    State.At { s with fr } { pl with st := st } := by
  have hs : s.fr.place = pl := h
  rw [← hs]
  exact hplace

end State.At

/-- Of a frame unit in FREE or LOCKED a re-entry point changes the state alone. -/
theorem State.reenter_place (h : s.At pl) (hrun : pl.st = .free ∨ pl.st = .locked) :
    ∃ st, s.reenter.At { pl with st := st } := by
  have hcfg : s.applyCfg.At pl := h.applyCfg
  have hst : s.applyCfg.fr.st = pl.st := congrArg Place.st hcfg
  rw [← hst] at hrun
  unfold State.reenter
  extract_lets u v src l same
  split
  · split
    · exact ⟨pl.st, State.At.frame hcfg rfl⟩
    · split
      · exact ⟨pl.st, hcfg.setReg.reject⟩
      · exact ⟨.locked, (hcfg.enter .locked rfl).raise⟩
  · split
    · exact ⟨pl.st, hcfg⟩
    · split
      · exact ⟨.free, hcfg.enter .free rfl⟩
      · exact ⟨pl.st, State.At.frame hcfg rfl⟩
  · next hfree hlocked => exact absurd hrun (not_or.2 ⟨hfree, hlocked⟩)

/-! ### The end of a frame -/

/-- Actions that never complete are dropped (R299). -/
def State.neverDropped (s : State) : State := { s with fr := { s.fr with acts := s.fr.acts.filter (fun a => !a.never) } }

theorem State.neverDropped_of_idle (hacts : s.fr.acts = []) : s.neverDropped = s := by
  have hfr : ({ s.fr with acts := s.fr.acts.filter (fun a => !a.never) } : FrameU) = s.fr := by
    rw [hacts, List.filter_nil, ← hacts]
  exact congrArg (fun fr => { s with fr }) hfr

/-- A register written and the slack taken by the governor change the registers and the governor. -/
theorem State.govFrame_setReg (s : State) (p o v : Nat) :
    ∃ gov, (s.setReg p o v).govFrame = { s with regs := (s.setReg p o v).regs, gov } := ⟨_, rfl⟩

/-- With no action outstanding the end of a frame shows its slack, which the governor takes. -/
theorem State.closeFrame_of_idle (hrun : s.running = true) (hacts : s.fr.acts = []) : ∃ regs gov,
    s.closeFrame = { s with regs, gov } ∧ State.en { s with regs, gov } pgFrame = s.en pgFrame := by
  unfold State.closeFrame
  extract_lets missed u v w
  have hu : u = s := by
    unfold u missed
    rw [hacts]
    rfl
  have hv : v = s := by
    unfold v
    rw [hu, if_pos hrun]
  let shown : Nat := s.fr.slackRec % 2 ^ 16 * 2 ^ 16 + untwos 12 s.frameSlack
  obtain ⟨gov, hgov⟩ := s.govFrame_setReg pgFrame 0x80 shown
  have hw : w = { s with regs := (s.setReg pgFrame 0x80 shown).regs, gov } := by
    unfold w
    rw [hv]
    exact hgov
  refine ⟨_, gov, (congrArg State.neverDropped hw).trans (State.neverDropped_of_idle hacts), congrArg (bitOf · 0) ?_⟩
  exact s.reg_setReg_ne pgFrame 0x80 shown pgFrame 0x10 (by decide)

theorem State.softBoundary_of_none (hsoft : s.soft = []) : s.softBoundary = s := by
  unfold State.softBoundary
  rw [hsoft]
  rfl

/-! ### The commit of a frame -/

/-- The place of the frame unit after the commit of frame `g`. -/
def FrameU.committedTo (f : FrameU) (g : Nat) : Place :=
  { f.place with
    committed := g, comNext := g + 1, applying := f.applying ++ f.buf.filter (fun (w : Staged) => w.frame == g) }

theorem State.commitFrame_place (s : State) (g : Nat) : (s.commitFrame g).At (s.fr.committedTo g) := by
  unfold State.commitFrame
  refine State.At.freeEntries (State.At.count ?_)
  exact rfl

/-- The frame whose LAG has passed commits, one at a boundary. -/
theorem State.commits_of_due {f : Nat} (hdue : s.fr.comNext + s.fr.lag = f) (hdisc : s.fr.disc = []) :
    s.commits f = s.commitFrame s.fr.comNext := by
  have hone : min 16 (f + 1 - s.fr.lag - s.fr.comNext) = 1 := by omega
  unfold State.commits
  rw [hone]
  exact if_neg (by simp [hdisc, forN])

/-- A plain boundary, with nothing discarded and no veto, commits the frame whose LAG has passed. -/
theorem State.plainBoundary_place {f : Nat} (hst : s.fr.st = .free ∨ s.fr.st = .locked) (hpend : s.rg.pend = none)
    (hdue : s.fr.comNext + s.fr.lag = f) (hdisc : s.fr.disc = []) :
    ∃ st, (s.plainBoundary f).At { s.fr.committedTo s.fr.comNext with st := st } := by
  have hrun : s.running = true := by simpa [State.running] using hst
  unfold State.plainBoundary
  rw [hpend]
  extract_lets vetoed rg u v re w
  have hv : v.At (s.fr.committedTo s.fr.comNext) := by
    have hcom : v = u.commitFrame s.fr.comNext := (if_pos hrun).trans (State.commits_of_due (s := u) hdue hdisc)
    rw [hcom]
    exact u.commitFrame_place s.fr.comNext
  obtain ⟨st, hw⟩ : ∃ st, w.At { s.fr.committedTo s.fr.comNext with st := st } := by
    unfold w
    split
    · exact State.reenter_place hv hst
    · exact ⟨_, hv⟩
  exact ⟨st, hw.applyBoundary.startFrame⟩

/-- The frame in progress has ended, and the next one has its number. -/
def State.turned (s : State) (regs : Tbl Word) (gov : Gov) : State := State.turn { s with regs, gov } (s.fr.num + 1)

/-- A boundary goes on to the next frame where neither a halt nor a restore is due. -/
theorem State.goesOn (hsoft : s.soft = []) (hhalt : s.fr.haltDue = false) (hen : s.en pgFrame = true)
    (hrest : s.rg.restoring = false) : (s.fr.haltDue || !s.en pgFrame || s.softDue pgFrame || s.rg.restoring) = false := by
  rw [hhalt, hen, hrest, State.softDue, hsoft]
  rfl

theorem opFrameBoundary_of_plain (hst : s.fr.st = .free ∨ s.fr.st = .locked) (hstarted : s.fr.started = true)
    (hlong : (s.frameLen : Int) + s.fr.slew ≤ s.fr.tif) (hacts : s.fr.acts = []) (hsoft : s.soft = [])
    (hhalt : s.fr.haltDue = false) (hen : s.en pgFrame = true) (hrest : s.rg.restoring = false) (hpend : s.rg.pend = none)
    (hnum : s.fr.num + 1 < 2 ^ 64) : ∃ regs gov, opFrameBoundary s = (s.turned regs gov).plainBoundary s.fr.num := by
  obtain ⟨regs, gov, hclose, hen'⟩ := State.closeFrame_of_idle (by simpa [State.running] using hst) hacts
  have hturn : s.closeFrame.softBoundary.turn ((s.fr.num + 1) % 2 ^ 64) = s.turned regs gov := by
    rw [hclose, State.softBoundary_of_none (s := { s with regs, gov }) hsoft, Nat.mod_eq_of_lt hnum]
    rfl
  have hon := State.goesOn (s := s.turned regs gov) hsoft hhalt (hen'.trans hen) hrest
  have hhere : (s.turned regs gov).restoreHere s.fr.num = none := by
    have hnone : (s.turned regs gov).rg.pend = none := hpend
    rw [State.restoreHere, hnone]
  refine ⟨regs, gov, ?_⟩
  unfold opFrameBoundary
  rw [if_neg (by obtain h | h := hst <;> simp [h]), if_neg (by simp [hstarted]), if_pos hlong]
  dsimp only
  rw [hturn, hon, hhere]
  rfl

/-! ### The released granules -/

theorem opCommitGranuleApply_of_asleep {w : Staged} {ws : List Staged} (hnext : s.fr.applying = w :: ws)
    (hasleep : s.asleep w.addr = true) : opCommitGranuleApply s = s := by
  have hno : s.rangeAwake (64 * w.addr) 64 = false := by simpa [State.asleep] using hasleep
  unfold opCommitGranuleApply
  rw [hnext]
  exact if_neg (by simp [hno])

/-- The oldest released granule leaves the commit buffer (R515). -/
def State.handedOver (s : State) (w : Staged) (ws : List Staged) : Staged × State :=
  State.unstage { s with fr := { s.fr with applying := ws } } w

/-- The granule that leaves the commit buffer is made to memory. -/
def State.madeToMemory (s : State) (r : Staged) : State := s.gWrite r.src r.addr r.data r.poison .clean

theorem opCommitGranuleApply_of_awake {w : Staged} {ws : List Staged} (hnext : s.fr.applying = w :: ws)
    (hawake : s.asleep w.addr = false) :
    opCommitGranuleApply s = ((s.handedOver w ws).2.madeToMemory (s.handedOver w ws).1).barRelease.tryAdmit := by
  have hgo : s.rangeAwake (64 * w.addr) 64 = true := by simpa [State.asleep] using hawake
  unfold opCommitGranuleApply
  rw [hnext]
  exact if_pos hgo

theorem commitGranuleApply_takes {w : Staged} {ws : List Staged} (hnext : s.fr.applying = w :: ws)
    (hawake : s.asleep w.addr = false) : Answers (exec .commitGranuleApply s) fun t => t.fr.applying = ws := by
  have htaken : State.At { s with fr := { s.fr with applying := ws } } { s.fr.place with applying := ws } := rfl
  have hplace := (htaken.unstage (w := w)).gWrite (src := (s.handedOver w ws).1.src) (g := (s.handedOver w ws).1.addr)
    (data := (s.handedOver w ws).1.data) (poison := (s.handedOver w ws).1.poison) (dec := .clean)
  show Answers (done s (opCommitGranuleApply s)) _
  rw [opCommitGranuleApply_of_awake hnext hawake]
  refine answers_done ?_
  rw [settle_fr]
  exact congrArg Place.applying hplace.barRelease.tryAdmit

/-! ### A whole granule to an enabled controller -/

theorem State.useLine_frame (s : State) (k l : Nat) (dirty : Bool) :
    ∃ cnt ctl, s.useLine k l dirty = { s with cnt, mem := { s.mem with ctl } } := by
  unfold State.useLine
  extract_lets c
  split
  · exact ⟨_, _, rfl⟩
  · exact ⟨_, _, rfl⟩

/-- An access is counted and uses a check line: it changes counters and the controllers. -/
theorem State.touch_frame (s : State) (k a : Nat) (write : Bool) :
    ∃ cnt ctl, s.touch k a write = { s with cnt, mem := { s.mem with ctl } } := by
  unfold State.touch
  extract_lets u
  by_cases hk : 8 ≤ k
  · rw [if_pos hk]
    exact u.useLine_frame k _ write
  · rw [if_neg hk]
    exact ⟨u.cnt, s.mem.ctl, rfl⟩

/-- A controller that is enabled and ACTIVE takes a granule at once (R20, R357). -/
theorem State.asleep_of_active {g k : Nat} (hregion : regionOf (64 * g) = .ctl k) (hst : (s.ctl k).st = .active)
    (hen : s.en (pgMem k) = true) : s.asleep g = false := by
  have hspan : granSpan (64 * g) 64 = 1 := by
    rw [granSpan, if_neg (by decide)]
    omega
  have hfirst : 64 * g / 64 = g := by omega
  simp [State.asleep, State.rangeAwake, hspan, hfirst, hregion, hst, hen]

/-- A whole granule written to an enabled ACTIVE controller stands in memory; the check lines, the share of its cache line and the
image it may break are besides (R347, R351, R358). -/
theorem State.gWrite_of_active {src g k : Nat} {data : List (Option Byte)} {poison : Bool} {dec : Dec}
    (hregion : regionOf (64 * g) = .ctl k) (hst : (s.ctl k).st = .active) (hen : s.en (pgMem k) = true)
    (hwhole : wholeGran data = true) : ∃ cnt ctl share tile, s.gWrite src g data poison dec =
      { s with cnt, share, tile, mem := Memory.laid { s.mem with ctl } g data poison } := by
  obtain ⟨cnt, ctl, htouch⟩ := s.touch_frame k (64 * g) true
  unfold State.gWrite
  rw [hregion]
  dsimp only
  rw [if_neg (by simp [hst]), if_neg (by simp [State.asleep_of_active hregion hst hen]), htouch, State.lay, if_pos hwhole]
  unfold State.breakImage
  split
  · exact ⟨cnt, ctl, _, _, rfl⟩
  · exact ⟨cnt, ctl, _, s.tile, rfl⟩

/-- A whole granule has a byte at each of its 64 places. -/
theorem wholeGran_getD {data : List (Option Byte)} (hwhole : wholeGran data = true) {i : Nat} (hi : i < 64) (b : Byte) :
    some ((data.getD i none).getD b) = data.getD i none := by
  obtain ⟨hlen, hall⟩ : data.length = 64 ∧ data.all Option.isSome = true := by simpa [wholeGran] using hwhole
  have hlt : i < data.length := by omega
  rw [List.getD_eq_getElem _ _ hlt]
  obtain ⟨x, hx⟩ := Option.isSome_iff_exists.1 (List.all_eq_true.1 hall _ (List.getElem_mem hlt))
  rw [hx]
  rfl

theorem wholeGran_length {data : List (Option Byte)} (hwhole : wholeGran data = true) : data.length = 64 := by
  rw [wholeGran, Bool.and_eq_true, decide_eq_true_eq] at hwhole
  exact hwhole.1

/-- With no read waiting none is released. -/
theorem State.barRelease_of_none (h : s.hif.barWait = []) : s.barRelease = s := by
  have hhif : ({ s.hif with barWait := [] } : Hif) = s.hif := by rw [← h]
  unfold State.barRelease
  rw [h]
  exact congrArg (fun hif => { s with hif }) hhif

/-- With no admission due none is made. -/
theorem State.tryAdmit_of_none (h : s.q.admDue = []) : s.tryAdmit = s := if_pos (by simp [h])

theorem State.nothingWaits (hwait : s.hif.barWait = []) (hadm : s.q.admDue = []) : s.barRelease.tryAdmit = s := by
  rw [State.barRelease_of_none hwait, State.tryAdmit_of_none hadm]

theorem commitGranuleApply_lays {w : Staged} {ws : List Staged} {k : Nat} (hnext : s.fr.applying = w :: ws)
    (hwhole : wholeGran w.data = true) (herr : w.err = 0) (hwait : s.hif.barWait = []) (hadm : s.q.admDue = [])
    (hregion : regionOf (64 * w.addr) = .ctl k) (hst : (s.ctl k).st = .active) (hen : s.en (pgMem k) = true) :
    Answers (exec .commitGranuleApply s) fun t => t.fr = { s.fr with applying := ws } ∧
      (∀ i, i < 64 → some (t.mem.byte (64 * w.addr + i)) = w.data.getD i none) ∧ t.mem.mark w.addr = w.poison ∧
      (∀ a, (a < 64 * w.addr ∨ 64 * w.addr + 64 ≤ a) → t.mem.byte a = s.mem.byte a) ∧
      (∀ g, g ≠ w.addr → t.mem.mark g = s.mem.mark g) := by
  let u : State := { s with fr := { s.fr with applying := ws } }
  have htaken : s.handedOver w ws = (w, u) := if_pos herr
  obtain ⟨cnt, ctl, share, tile, hmade⟩ : ∃ cnt ctl share tile, u.madeToMemory w =
      { u with cnt, share, tile, mem := Memory.laid { s.mem with ctl } w.addr w.data w.poison } :=
    State.gWrite_of_active hregion hst hen hwhole
  have hgo : opCommitGranuleApply s =
      { u with cnt, share, tile, mem := Memory.laid { s.mem with ctl } w.addr w.data w.poison } := by
    rw [opCommitGranuleApply_of_awake hnext (State.asleep_of_active hregion hst hen), htaken]
    dsimp only
    rw [hmade]
    exact State.nothingWaits hwait hadm
  have hlen := wholeGran_length hwhole
  show Answers (done s (opCommitGranuleApply s)) _
  rw [hgo]
  refine answers_done ?_
  rw [settle_fr, settle_mem]
  refine ⟨rfl, fun i hi => ?_, ?_, fun a ha => ?_, fun g hg => ?_⟩
  · dsimp only
    rw [Memory.byte_laid _ hlen hi, wholeGran_getD hwhole hi]
  · exact (Memory.mark_laid ..).trans (if_pos rfl)
  · exact Memory.byte_laid_outside _ hlen ha
  · exact (Memory.mark_laid ..).trans (if_neg hg)

/-- Settles O31: the boundary by the place it leaves the frame unit at, the released granule by its write. -/
theorem frameBoundaryAdvancesAndCommits : Obligations.FrameBoundaryAdvancesAndCommits := by
  intro s
  refine ⟨?_, fun w ws hnext => ⟨commitGranuleApply_takes hnext,
    fun hasleep => congrArg (done s) (opCommitGranuleApply_of_asleep hnext hasleep)⟩, ?_⟩
  · intro hst hstarted hlong hacts hsoft hhalt hen hrest hpend hnum hdue hdisc
    obtain ⟨regs, gov, hgo⟩ := opFrameBoundary_of_plain hst hstarted hlong hacts hsoft hhalt hen hrest hpend hnum
    obtain ⟨st, hplace⟩ := State.plainBoundary_place (s := s.turned regs gov) hst hpend hdue hdisc
    show Answers (done s (opFrameBoundary s)) _
    rw [hgo]
    refine answers_done ?_
    rw [settle_fr]
    exact ⟨congrArg Place.num hplace, congrArg Place.tif hplace, congrArg Place.nextRec hplace,
      congrArg Place.committed hplace, congrArg Place.comNext hplace, congrArg Place.applying hplace⟩
  · exact fun w ws k hnext hwhole herr hwait hadm hregion hst hen =>
      commitGranuleApply_lays hnext hwhole herr hwait hadm hregion hst hen

end Sys2Proof.Machine
end
